-- ==== Sys2Proof/Word.lean ====
section
/-! DEFINITION. Word.lean: the word types of the Merhus Scearo S96 and their plainest arithmetic.
Registers of the register BAR are 32 bits wide; structures in packets and in memory are bytes, little-endian (R7). -/

namespace Sys2Proof

/-- One byte. -/
abbrev Byte := BitVec 8

/-- One 32-bit register word. -/
abbrev W32 := BitVec 32

/-- A table of objects by number: strictly rising keys, and no entry equal to the object's default
(Machine/Ops.lean reads and writes it, Laws/Table.lean proves that form is kept). -/
abbrev Tbl (α : Type) := List (Nat × α)

/-- A memory: bytes by address, in the same canonical form as every table. (DESIGN CHOICE, log entry 8) -/
abbrev Memory := List (Nat × BitVec 8)

/-- Counting that stops at `max` (the spec's "saturating" counters). -/
def satAdd (max n k : Nat) : Nat := if n + k ≤ max then n + k else max

/-- A counter of `w` bits that wraps. -/
def wrapAdd (w n k : Nat) : Nat := (n + k) % 2 ^ w

/-- Bit `i` of a number. -/
def bitOf (n i : Nat) : Bool := n.testBit i

/-- Bits `hi` down to `lo` of a number. -/
def fieldOf (n hi lo : Nat) : Nat := (n / 2 ^ lo) % 2 ^ (hi - lo + 1)

/-- A truth value as a bit. -/
def natOfBool (b : Bool) : Nat := if b then 1 else 0

/-- The value of bytes stored little-endian (R7). -/
def leNat : List Byte → Nat
  | [] => 0
  | b :: bs => b.toNat + 256 * leNat bs

/-- A number as `k` bytes, little-endian (R7). -/
def natLe : Nat → Nat → List Byte
  | 0, _ => []
  | k + 1, n => BitVec.ofNat 8 n :: natLe k (n / 256)

/-- The number rounded up to a whole count of `d`. -/
def ceilDiv (n d : Nat) : Nat := (n + d - 1) / d

/-- A field of `w` bits read as a two's complement integer. -/
def signedOf (w n : Nat) : Int := if n < 2 ^ (w - 1) then (n : Int) else (n : Int) - 2 ^ w

end Sys2Proof
end

