-- ==== Sys2Proof/Syntax.lean ====
section
/-! DEFINITION. Syntax.lean: the commands that reach the S96 from outside (opcode_table.json, one constructor per row)
and the operands they carry: command packets, items, flits, sideband levels and the like. -/

namespace Sys2Proof

/-- A function of the S96 that owns a mailbox and an MSI-X table (R359, R385): the management function,
the RMA PF of a partition, an RMA VF by instance. -/
inductive Fn where
  | mgr
  | pf (part : Nat)
  | vf (inst : Nat)
deriving DecidableEq, Repr

/-- SOURCE of a command, as hardware stamps it (Table 14.2): the transport and the instance. -/
structure Source where
  transport : Nat
  inst : Nat
deriving DecidableEq, Repr

/-- A command packet (Table 14.1) without its OPCODE, which is the row's own: LENGTH is the number of `params`. Two more
operands say what the block meets as it executes the packet: `fault`, the hardware fault of Table 16.5 under which it fails,
0 none (R446), and `uspAt`, the FID of another device of the domain that holds a USP of the partition, none where none does
(R45, R556). -/
structure Cmd where
  source : Source
  flags : Byte
  seq : Byte
  target : W32
  param0 : W32
  params : List Byte
  fault : Nat := 0
  uspAt : Option Nat := none
deriving DecidableEq, Repr

/-- The packet alone. -/
def Cmd.packet (c : Cmd) : Cmd := { c with fault := 0, uspAt := none }

/-- Kind of an item (R11): PCI Express TLPs, RMA items, and the fabric's own VL3 items (Table 8.2). -/
inductive Kind where
  | memRead | lockedRead | memWrite | fetchAdd | swap | cas | transReq
  | ioRead | ioWrite | cfgRead | cfgWrite
  | msgRoot        -- routed to the root complex
  | msgAddr        -- routed by address
  | msgId          -- routed by ID
  | msgBroadcast   -- broadcast from the root complex
  | msgLocal       -- local to the receiver
  | vdm            -- MCTP vendor-defined message
  | cpl | lockedCpl
  | rma | fabRoute | topo | mgmt
deriving DecidableEq, Repr

/-- Completion status of the base specification. -/
inductive CplStatus where
  | sc | ur | crs | ca
deriving DecidableEq, Repr

/-- A TLP as the S96 sees it: header fields, payload bytes. -/
structure Tlp where
  kind : Kind
  /-- Address of a memory, I/O or address-routed item; register offset of a configuration request. -/
  addr : Nat
  /-- Target ID of a configuration request or of an item routed by ID. -/
  destId : Nat
  reqId : Nat
  tag : Nat
  tc : Nat
  /-- Relaxed Ordering. -/
  ro : Bool
  /-- Bytes asked for by a read, or carried. -/
  len : Nat
  data : List Byte
  /-- EP: the TLP is poisoned. -/
  poisoned : Bool
  /-- TD: it carries an ECRC. -/
  digest : Bool
  status : CplStatus
  byteCount : Nat
  /-- ID-based Ordering, forwarded unchanged (R65). -/
  ido : Bool := false
  /-- Address Type of a memory request in the base specification's code: 0 untranslated, 1 translation request, 2 translated. -/
  addrType : Nat := 0
  /-- Byte enables of the bytes of `data`, in address order; an empty list: every byte is enabled (R126). -/
  enables : List Bool := []
deriving DecidableEq, Repr

/-- The fabric header base of an item on a PFL link (Table 8.2). -/
structure FabHdr where
  dstFid : Nat
  srcFid : Nat
  part : Nat
  cls : Nat
  dstPort : Nat
  queue : Nat
  hops : Nat
  synth : Bool
  flow : Nat
  stamp : Nat
deriving DecidableEq, Repr

/-- A configuration field of a virtual bridge or of a shared endpoint's PF that this chapter's rules name. -/
inductive CfgField where
  | command           -- bit 0 I/O Space, bit 1 Memory Space, bit 2 Bus Master Enable
  | primaryBus | secondaryBus | subordinateBus
  | memBase | memLimit | prefBase | prefLimit | ioBase | ioLimit
  | acsControl | egressVector | bridgeControl
  | maxPayload | maxReadRequest
  | linkControl | targetLinkSpeed | l1ssControl
  | slotControl | slotStatus | linkStatus | dpcControl | dpcStatus | dpcCompletion | aerControl
  | ptmControl
  | devControlFlr     -- Initiate Function Level Reset of a PF
  | sriovControl      -- bit 0 VF Enable, bit 3 VF Memory Space Enable, bit 4 ARI Capable Hierarchy
  | sriovNumVfs
  | sriovVfBar (bar : Nat)
  | sriovVfBarSize (bar : Nat)
  | sriovOffset | sriovStride | sriovVfDevice | vendorId
  | sriovVfBarType (bar : Nat)   -- the low four bits of a VF BAR
  | sriovTotalVfs                -- InitialVFs and TotalVFs
  | deviceId | revisionId | headerType | interruptPin
  | slotCapabilities | atsCapability | serialNumber
  | capability (offset : Nat)    -- the first DWORD of the capability at an offset (Tables 11.3, 13.1)
  | pcieType                     -- Device/Port Type
  | deviceCapabilities | deviceCapabilities2 | deviceCapabilities3 | deviceStatus
  | linkCapabilities | acsCapability | dpcCapability | ptmCapability
  | sriovCapabilities | sriovPageSizes
  | bar (n : Nat)     -- a BAR of a function
  | powerState        -- 0 D0, 3 D3hot
  | msixAddr (v : Nat) | msixData (v : Nat) | msixControl (v : Nat)
  | atsControl        -- bit 15 ATS Enable
  | completionTimeout -- ns
  | aerStatus | aerMask | aerSeverity | aerCorStatus | aerCorMask
  | deviceControl     -- bits 0–3: correctable, non-fatal, fatal and Unsupported Request reporting
  | other (offset : Nat)
deriving DecidableEq, Repr

/-- The object of a configuration access, in a partition's hierarchy. -/
inductive CfgTarget where
  | upstream                   -- upstream virtual bridge (function 0)
  | function1                  -- RMA PF, or the management function for PART0
  | vf (inst : Nat)            -- an RMA VF of the partition
  | intermediate (n : Nat)
  | downstream (k : Nat)       -- port, steering or unbound bridge k
  | endpoint (port rid : Nat)  -- a function below a DSP
deriving DecidableEq, Repr

/-- A send queue entry as the engine fetches it from host memory (Table 9.1). -/
structure Wqe where
  op : Nat
  flags : Nat
  length : Nat
  wrId : Nat
  localAddr : Nat
  localKey : Nat
  remoteKey : Nat
  remoteAddr : Nat
  imm : Nat
  operand1 : Nat
  operand2 : Nat
deriving DecidableEq, Repr

/-- The RMA carried header with the item's data (Table 9.5). -/
structure RmaHdr where
  srcFid : Nat
  dstFid : Nat
  op : Nat
  last : Bool
  retx : Bool
  syndrome : Nat
  dstQpn : Nat
  srcQpn : Nat
  psn : Nat
  msgPsn : Nat
  msgOffset : Nat
  address : Nat
  key : Nat
  totalLen : Nat
  imm : Nat
  laddrLo : Nat
  data : List Byte
deriving DecidableEq, Repr

/-- A cell that an audit pass finds on no list and referenced by nothing (R74): in the output buffer, or in a panel's memory;
what it last held, and the time since its last allocation. -/
structure LeakSeen where
  panel : Option Nat
  cell : Nat
  port : Nat
  queue : Nat
  cls : Nat
  ageNs : Nat
deriving DecidableEq, Repr

/-- An item as it arrives: where, under which header, in which transfer mode. -/
structure Arrival where
  port : Nat
  tlp : Tlp
  /-- The fabric header of an item that arrives on a PFL port. -/
  fab : Option FabHdr
  /-- The RMA header of an RMA item. -/
  rma : Option RmaHdr
  /-- The function that issues an item on P96–P100. -/
  fn : Option Fn
deriving DecidableEq, Repr

/-- A flit as a PFL receiver sees it (Table 7.1): bytes 0–249, what the PCS reports, and the items whose last byte of
record it carries, as they stand after parsing the record stream (R174). -/
structure Flit where
  bytes : List Byte
  pcsGood : Bool
  items : List Arrival
deriving DecidableEq, Repr

/-- The CAP message (Table 7.6); GRANTS in its order, G_DATA and G_HDR of each combination. -/
structure Cap where
  fid : Nat
  port : Nat
  width : Nat
  maxRate : Nat
  serial : BitVec 64
  fw : W32
  grants : List (Nat × Nat)
deriving DecidableEq, Repr

/-- A PFL training set of one lane (Table 12.5): the 16 bytes as received. -/
structure Pts where
  bytes : List Byte
deriving DecidableEq, Repr

/-- A topology advert (R216). -/
structure Advert where
  fid : Nat
  priority : Nat
  seq : Nat
  serial : BitVec 64
  hops : Nat
  /-- Local port, partner FID, partner port, link state code. -/
  links : List (Nat × Nat × Nat × Nat)
deriving DecidableEq, Repr

/-- A store that SECDED protects (R440). -/
inductive EccStore where
  | context | memoryRegion | translation
deriving DecidableEq, Repr

/-- What a device-level fault strikes (R444): a table entry lost in both its copies, by its number, or something else, with the
cause code of its black-box record. -/
inductive FaultCause where
  | window (number : Nat) | steer (number : Nat) | route (fid : Nat) | other (code : Nat)
deriving DecidableEq, Repr

/-- What the canary's sensors read at an evaluation (Table 16.6). -/
structure CanarySample where
  /-- Corrected ECC errors since the last evaluation. -/
  corrected : Nat
  /-- Hottest junction, °C; it has been 115 °C or more for 1 s; it rose 10 °C within 10 s. -/
  tj : Nat
  tjLong : Bool
  tjRise : Bool
  /-- Largest deviation of a rail from nominal, in 0.1 %. -/
  rails : Nat
  /-- Most written MRAM block, in 0.1 % of 10^8, and blocks retired. -/
  wear : Nat
  mramRetired : Nat
deriving DecidableEq, Repr

/-- One sample of the straps of Table 18.2. -/
structure StrapSample where
  fid : Nat
  smbAddr : Nat
  mgrPort : Nat
  boot : Nat
deriving DecidableEq, Repr

/-- What the S96 finds at the rising edge of POR_N (R477, R483, R521): three samples of each strap, and which REFCLK inputs are
valid. -/
structure Straps where
  first : StrapSample
  second : StrapSample
  third : StrapSample
  aValid : Bool
  bValid : Bool
deriving DecidableEq, Repr

/-- The commands of the S96: one constructor per row of opcode_table.json, with what it carries. -/
inductive Instr where
  /-- SYS_INFO (R404). Command that returns the device identity, the source's partition, the boot state and the device time. -/
  | sysInfo (c : Cmd)
  /-- SYS_RESET (R500). Command that starts a warm or cold reset, with an optional drain, or parks or unparks a lane die. -/
  | sysReset (c : Cmd)
  /-- SYS_HEALTH (R454). Command that returns the canary state and, with ACK_FAULT, releases FAULT_N. -/
  | sysHealth (c : Cmd)
  /-- SYS_SNAPSHOT_SAVE (R501). LONG command that writes the configuration in force as a snapshot copy in MRAM, or erases
  both copies. -/
  | sysSnapshotSave (c : Cmd)
  /-- PORT_CONFIG (R33). Command that sets a port's personality, width, highest rate and flags after the ordered checks. -/
  | portConfig (c : Cmd)
  /-- PORT_STATUS (R329). Command that returns the port's mode, link, hot-plug, PFL state and sideband levels, sampled in one
  cycle. -/
  | portStatus (c : Cmd)
  /-- PORT_RETRAIN (R330). Command that retrains a PCI Express link through Recovery, or starts a PFL fast retrain with CAUSE
  6. -/
  | portRetrain (c : Cmd)
  /-- PORT_DISABLE (R331). Command that takes a port's link down until PORT_CONFIG enables it again. -/
  | portDisable (c : Cmd)
  /-- LANE_TEST (R354). Command that starts, stops, reads, clears, injects into or eye-scans pattern tests on a DIAG port. -/
  | laneTest (c : Cmd)
  /-- CHAN_MEASURE (R351). Command that re-estimates the insertion loss and length of lanes and updates LN_CHAN; LONG above
  16 lanes. -/
  | chanMeasure (c : Cmd)
  /-- PORT_BUFFER_SET (R77). Command that sets a port's class minima and alpha factors. -/
  | portBufferSet (c : Cmd)
  /-- PFL_LINK_SET (R209). Command that sets a PFL port's link parameters, with a full link reset when the pool or a minimum
  changes. -/
  | pflLinkSet (c : Cmd)
  /-- PORT_PCIE_SET (R320). Command that sets sideband pin functions, PERST_DELAY_MS and CPL_TIMEOUT_MS of a port. -/
  | portPcieSet (c : Cmd)
  /-- PART_CREATE (R108). Command that creates a tenant partition with its attributes, bridges and access-table segment. -/
  | partCreate (c : Cmd)
  /-- PART_DESTROY (R110). Command that frees a partition and returns its ports, VFs, entries and number to their pools. -/
  | partDestroy (c : Cmd)
  /-- PART_QUIESCE (R111). Command that fences a partition and drains it, or with RESUME lifts the fence. -/
  | partQuiesce (c : Cmd)
  /-- PART_RESET (R112). Command that starts a partition-scope reset, with or without FORCE. -/
  | partReset (c : Cmd)
  /-- PART_BIND_PORT (R113). Command that binds a USP or DSP to a partition or returns it to PART0, relayed when FID names
  another device. -/
  | partBindPort (c : Cmd)
  /-- PART_BIND_VF (R114). Command that steers a VF of a shared endpoint into a partition, or with TARGET 0 starts its
  unbind. -/
  | partBindVf (c : Cmd)
  /-- ACT_DISABLE (R166). Command that disables a partition's access-table segment and waits for the old rules to drain. -/
  | actDisable (c : Cmd)
  /-- ACT_WRITE (R167). Command that writes entries into a disabled access-table segment. -/
  | actWrite (c : Cmd)
  /-- ACT_ENABLE (R168). Command that validates a segment for overlaps, enables it and releases held items. -/
  | actEnable (c : Cmd)
  /-- ACT_READ (R169). Command that returns access-table entries as stored. -/
  | actRead (c : Cmd)
  /-- NTW_SET (R134). Command that sets or replaces a non-transparent window. -/
  | ntwSet (c : Cmd)
  /-- NTW_CLEAR (R137). Command that removes a window from every copy and returns its error count. -/
  | ntwClear (c : Cmd)
  /-- NTW_STATUS (R139). Command that returns a window's settings and error log, optionally clearing the log. -/
  | ntwStatus (c : Cmd)
  /-- TLM_MAP_SET (R145). Command that writes or removes a telemetry mapper entry. -/
  | tlmMapSet (c : Cmd)
  /-- FAB_ROUTE_SET (R245). Command that sets the route of up to four weighted paths to a FID. -/
  | fabRouteSet (c : Cmd)
  /-- FAB_TOPOLOGY (R246). Command that returns the reach mask and master, or the advert held for a FID. -/
  | fabTopology (c : Cmd)
  /-- FAB_JOURNAL_SET (R247). Command that sets, changes or removes a partition's tailings journal. -/
  | fabJournalSet (c : Cmd)
  /-- FAB_TIME (R248). Command that reads the device time, sets the time-master priority, or sets the time on the master. -/
  | fabTime (c : Cmd)
  /-- FAB_PARAM_SET (R249). Command that sets ROUTE_GUARD_US and the queue-to-VL map. -/
  | fabParamSet (c : Cmd)
  /-- RMA_VF_CREATE (R285). Command that gives a partition's RMA PF a new VF from the device pool. -/
  | rmaVfCreate (c : Cmd)
  /-- RMA_VF_DESTROY (R285). Command that releases the highest-indexed VF of a PF and its objects. -/
  | rmaVfDestroy (c : Cmd)
  /-- RMA_POOL_SET (R285). Command that sets a partition's limits on contexts, regions and registered pages. -/
  | rmaPoolSet (c : Cmd)
  /-- RMA_BACKING_SET (R285). Command that sets or removes the host-memory backing store for contexts and region entries. -/
  | rmaBackingSet (c : Cmd)
  /-- CTX_ZERO (R285). Command that zeroes unused contexts or region entries in a range; LONG above 65,536 entries. -/
  | ctxZero (c : Cmd)
  /-- SHP_SET (R299). Command that sets shaper rates and bursts of port queues or of a QP, and optionally OVERHEAD and
  TC_MAP. -/
  | shpSet (c : Cmd)
  /-- SHP_SAMPLE_SET (R302). Command that sets or stops periodic queue sampling into a ring. -/
  | shpSampleSet (c : Cmd)
  /-- SPW_CONFIG (R430). Command that sets a slot-power channel's thresholds, feed, sense resistor and retry policy. -/
  | spwConfig (c : Cmd)
  /-- SPW_ON (R431). Command that switches on a channel's gang and restores its retries. -/
  | spwOn (c : Cmd)
  /-- SPW_OFF (R431). Command that switches off a channel's gang through SHUTDOWN. -/
  | spwOff (c : Cmd)
  /-- SPW_READ (R432). Command that returns a channel's measurements and trip record, optionally clearing energy or the trip. -/
  | spwRead (c : Cmd)
  /-- CNT_PROGRAM (R470). Command that sets the events, mode and period of programmable counters at one edge. -/
  | cntProgram (c : Cmd)
  /-- CNT_DUMP_SET (R471). Command that sets or stops periodic counter dumps into a ring. -/
  | cntDumpSet (c : Cmd)
  /-- TAG_SET (R472). Command that sets or stops random and overflow tagging of items for tracing. -/
  | tagSet (c : Cmd)
  /-- FW_UPDATE (R502). LONG command that writes a firmware image from manager memory into a flash slot and optionally
  activates it. -/
  | fwUpdate (c : Cmd) (image : List Byte)
  /-- MRAM_LOG_READ (R453). Command that returns black-box records from a sequence number onward. -/
  | mramLogRead (c : Cmd)
  /-- XBR_SET (R80). Command that sets the audit period, MAXRES and LOCK_TIMEOUT, optionally starting an audit pass. -/
  | xbrSet (c : Cmd)
  /-- ARB_SET (R405). Command that sets STARVE_MS, LOCK_GAP and LOCK_MAX of the arbiter. -/
  | arbSet (c : Cmd)
  /-- QP_CREATE (R282). Tenant command that creates a QP in INIT. -/
  | qpCreate (c : Cmd)
  /-- QP_MODIFY (R283). Tenant command that moves a QP between RESET, INIT, RTS and ERROR. -/
  | qpModify (c : Cmd)
  /-- QP_DESTROY (R284). Tenant command that moves a QP to ERROR, waits for its flush and releases its context. -/
  | qpDestroy (c : Cmd)
  /-- CQ_CREATE (R284). Tenant command that creates a completion queue. -/
  | cqCreate (c : Cmd)
  /-- CQ_DESTROY (R284). Tenant command that releases a completion queue no QP names. -/
  | cqDestroy (c : Cmd)
  /-- REG_REGISTER (R257). Tenant command that registers a memory region and returns its key. -/
  | regRegister (c : Cmd)
  /-- REG_DEREGISTER (R261). Tenant command that invalidates a region and replies once no access checked against it remains. -/
  | regDeregister (c : Cmd)
  /-- DB_ALLOC (R284). Tenant command that allocates or frees a doorbell page. -/
  | dbAlloc (c : Cmd)
  /-- COMMAND_ADMISSION (R392). The arbiter admits one waiting command to the free KME, by lock, starvation and rank. -/
  | commandAdmission
  /-- LONG_ACCEPTED (R399). A command still unfinished 1 ms after admission (500 µs when relayed) replies ACCEPTED and
  becomes LONG. -/
  | longAccepted
  /-- COMPLETION_NOTICE (R388). A LONG command finishes and its completion notice is posted to its source. -/
  | completionNotice (src : Source) (seq : Byte) (outcome : Nat)
  /-- SUBMIT (R386). Write of MBX_DOORBELL.SUBMIT that submits the mailbox request area. -/
  | submit (f : Fn)
  /-- CANCEL (R386). Write of MBX_DOORBELL.CANCEL that withdraws a submitted mailbox command. -/
  | cancel (f : Fn)
  /-- MBX_NOTICE_CONS_WRITE (R388). Owner writes notices consumed, freeing notice slots so a held SUBMIT can proceed. -/
  | mbxNoticeConsWrite (f : Fn) (v : W32)
  /-- SMBUS_COMMAND_ARRIVAL (R380). An MCTP command message arrives on SMBus and is held for admission, repeated or dropped. -/
  | smbusCommandArrival (inst : Nat) (frame : List Byte)
  /-- VDM_COMMAND_ARRIVAL (R382). An MCTP command arrives as a PCI Express VDM on a USP and is held or discarded. -/
  | vdmCommandArrival (part : Nat) (frame : List Byte)
  /-- MCTP_CONTROL_MESSAGE (R380). An MCTP control message such as Set Endpoint ID arrives and is answered. -/
  | mctpControlMessage (dest : Source) (cmd : Nat) (eid : Byte)
  /-- SMBUS_REPLY_RETRY (R381). An unacknowledged SMBus reply write is retried after 1 ms, and dropped after two retries. -/
  | smbusReplyRetry (inst : Nat) (acked : Bool)
  /-- ALERT_RESPONSE (R381). The S96 answers the SMBus Alert Response Address and releases ALERT_N. -/
  | alertResponse
  /-- RELAY_COMMAND_ARRIVAL (R226). A relayed PART_BIND_PORT or PART_BIND_VF arrives as an MGMT item and is held for
  admission. -/
  | relayCommandArrival (fid : Nat) (frame : List Byte)
  /-- RELAY_REPLY (R226). The remote device's reply to a relayed command arrives and is returned as the reply. -/
  | relayReply (fid : Nat) (bytes : List Byte)
  /-- RELAY_TIMEOUT (R226). No reply to a relayed command arrives within 800 µs and the command replies TIMEOUT. -/
  | relayTimeout
  /-- STARVATION (R393). A command waits STARVE_MS without a break and becomes starved. -/
  | starvation
  /-- LOCK_GAP_EXPIRY (R397). The lock holder submits nothing within LOCK_GAP and the lock expires. -/
  | lockGapExpiry
  /-- LOCK_MAX_EXPIRY (R397). LOCK_MAX passes since the lock began and the lock expires. -/
  | lockMaxExpiry
  /-- KME_RESTART (R390). The KME restarts and every unanswered admitted command ends with ABORTED. -/
  | kmeRestart
  /-- LOCKSTEP_MISMATCH (R445). The two management cores disagree; the KME reloads its firmware and resumes within 50 ms. -/
  | lockstepMismatch
  /-- ADIT_TEXT_LINE (R507). A text line ends on the adit port and is parsed as a monitor command. -/
  | aditTextLine (line : List Char)
  /-- HELP (R511). Monitor command that lists the commands allowed at the current level. -/
  | help
  /-- INFO (R511). Monitor command that issues SYS_INFO and prints identity and time. -/
  | info
  /-- BAUD (R506). Monitor command that selects a new baud rate after its reply. -/
  | baud (rate : Nat)
  /-- UNLOCK (R509). Monitor command that issues a challenge or grants an access level. -/
  | unlock (level : Option Nat) (response : Option Nat)
  /-- LOCK (R510). Monitor command that returns the session to level 0. -/
  | lock
  /-- PEEK (R512). Monitor command that reads registers of the register BAR directly. -/
  | peek (addr : Nat) (count : Nat)
  /-- POKE (R512). Monitor command that writes one register of the register BAR directly. -/
  | poke (addr : Nat) (value : W32)
  /-- LANES (R511). Monitor command that prints lane status, loss and length. -/
  | lanes (first : Nat) (count : Nat)
  /-- EYE (R511). Monitor command that runs a margin scan on a lane's second sampler. -/
  | eye (lane : Nat)
  /-- TALLY (R511). Monitor command that prints the tally audit registers. -/
  | tally
  /-- CANARY (R511). Monitor command that prints canary grades, spares and MRAM wear. -/
  | canary
  /-- LOG (R511). Monitor command that prints the newest black-box records. -/
  | log (count : Nat)
  /-- RAW (R514). Monitor command that switches the port to SLIP raw mode. -/
  | raw
  /-- RAW_FRAME (R514). A SLIP frame arrives in raw mode and is checked as a command packet, or an empty frame returns to
  text mode. -/
  | rawFrame (frame : List Byte)
  /-- ADIT_BREAK (R506). ADIT_RX is held low for 20 ms; the port returns to text mode at 115,200 baud and level 0. -/
  | aditBreak
  /-- ADIT_IDLE_TIMEOUT (R510). 600 s pass without a received character and the level returns to 0. -/
  | aditIdleTimeout
  /-- UNLOCK_BAR_EXPIRY (R509). The 60 s bar after three wrong unlock responses ends. -/
  | unlockBarExpiry
  /-- REGISTER_WRITE (R4). A host write to a register that has no row of its own acts by its access code. -/
  | registerWrite (addr : Nat) (value : W32)
  /-- GLB_INT_MASK_WRITE (R407). Write of GLB_INT_MASK that may unmask a set summary bit and send vector 1. -/
  | glbIntMaskWrite (value : W32)
  /-- SWITCH (R478). Write of CLK_CTL.SWITCH that takes the other REFCLK input if valid. -/
  | switch
  /-- ACT_VIOL_CLEAR (R164). Write of ACT_SEG_VIOL_INFO.CLEAR that clears the segment's violation log. -/
  | actViolClear (part : Nat)
  /-- WINDOW_LOG_CLEAR (R131). Source host writes CLEAR in a window's error log entry. -/
  | windowLogClear (window : Nat) (requesterPart : Nat)
  /-- OUTBOUND_DOORBELL_WRITE (R132). Source writes a window's outbound doorbell to set inbound doorbell bits. -/
  | outboundDoorbellWrite (window : Nat) (part : Nat) (port : Nat) (bits : W32)
  /-- INBOUND_DOORBELL_SET (R133). Inbound doorbell bits are set once earlier writes through the window have left, sending
  DB_VECTOR. -/
  | inboundDoorbellSet (window : Nat)
  /-- SQ_DOORBELL (R262). An 8 B write of SQ_PI to a QP's send-queue doorbell. -/
  | sqDoorbell (f : Fn) (addr : Nat) (data : List Byte)
  /-- CQ_DOORBELL (R263). An 8 B write of CQ_CI, optionally with ARM, to a CQ doorbell. -/
  | cqDoorbell (f : Fn) (addr : Nat) (data : List Byte)
  /-- VBRIDGE_CONFIG_WRITE (R89). Host configuration write to a virtual bridge that changes routing, in force in every copy
  before completion. -/
  | vbridgeConfigWrite (part : Nat) (bus : Nat) (target : CfgTarget) (field : CfgField) (value : Nat)
  /-- VBRIDGE_CONFIG_READ (R85). Host configuration request to a virtual bridge or S96 function, answered or retried. -/
  | vbridgeConfigRead (part : Nat) (target : CfgTarget) (field : CfgField)
  /-- STEERED_VF_CONFIG_ACCESS (R98). Configuration access to a steered VF, emulated or passed to the real VF. -/
  | steeredVfConfigAccess (part : Nat) (bridge : Nat) (func : Nat) (field : CfgField) (write : Option Nat)
  /-- SECONDARY_BUS_RESET (R312). Host sets Secondary Bus Reset at a port bridge and the DSP is hot-reset. -/
  | secondaryBusReset (port : Nat)
  /-- LINK_DISABLE (R312). Host writes Link Disable at a port bridge, acting on the physical DSP. -/
  | linkDisable (port : Nat) (on : Bool)
  /-- RETRAIN_LINK (R312). Host writes Retrain Link at a port bridge, acting on the physical DSP. -/
  | retrainLink (port : Nat)
  /-- POWER_CONTROLLER_CONTROL (R315). Host writes Power Controller Control to switch the port's gang on or off. -/
  | powerControllerControl (port : Nat) (off : Bool)
  /-- DPC_TRIGGER (R321). DPC triggers at a port bridge, disabling the link and handling queued items. -/
  | dpcTrigger (port : Nat) (reason : Nat)
  /-- DPC_TRIGGER_STATUS_CLEAR (R554). Host clears DPC Trigger Status; DPC ends and the link trains again. -/
  | dpcTriggerStatusClear (port : Nat)
  /-- INITIATE_FUNCTION_LEVEL_RESET (R371). Host writes Initiate Function Level Reset of an RMA function and the FLR starts. -/
  | initiateFunctionLevelReset (f : Fn)
  /-- FLR_SILENCE (R371). Every memory request of the function still inside is dropped and journalled by 50 µs. -/
  | flrSilence (f : Fn)
  /-- FLR_RESET_ENTRY (R371). One RESET journal entry counts the work requests ended without completion. -/
  | flrResetEntry (f : Fn)
  /-- FLR_RELEASE (R371). The function's objects are released and its configuration returns to reset values by 10 ms. -/
  | flrRelease (f : Fn)
  /-- ATS_ENABLE_CLEAR (R369). ATS Enable goes from 1 to 0 and the function's translations are removed. -/
  | atsEnableClear (f : Fn)
  /-- INVALIDATE_REQUEST (R368). An ATS Invalidate Request arrives; covered translations are removed at once. -/
  | invalidateRequest (f : Fn) (page : Nat) (pages : Nat) (tag : Nat)
  /-- INVALIDATE_COMPLETION (R368). Requests under removed translations have left and the Invalidate Completion is sent. -/
  | invalidateCompletion (f : Fn) (tag : Nat)
  /-- TRANSLATION_COMPLETION (R369). A Translation Completion arrives and fills the cache, or is discarded after an
  invalidate. -/
  | translationCompletion (f : Fn) (page : Nat) (pages : Nat) (target : Nat) (read : Bool) (write : Bool)
  /-- POR_N_LOW (R482). POR_N is held low, or VDD_AUX falls below 90 %, and a cold reset begins. -/
  | porNLow (vdd : Bool)
  /-- POR_N_RELEASE (R483). POR_N rises; straps are sampled and the boot ROM runs. -/
  | porNRelease (straps : Straps)
  /-- IMAGE_LOAD (R486). The boot ROM loads and checks the active image, falling back to the other. -/
  | imageLoad (a : List Byte) (b : List Byte) (starts : Bool)
  /-- IMAGE_RETRY (R486). With no valid image, both are tried again every 1 s. -/
  | imageRetry (a : List Byte) (b : List Byte) (starts : Bool)
  /-- FIRMWARE_WATCHDOG (R487). Loaded firmware fails to set RUNNING within 500 ms and the other image boots. -/
  | firmwareWatchdog (a : List Byte) (b : List Byte) (starts : Bool)
  /-- MAIN_PLL_LOCK (R480). The MAIN PLL locks and device time starts counting. -/
  | mainPllLock
  /-- CONFIGURATION_REPLAY (R491). The KME replays the snapshot or default list through transport 7 before other commands. -/
  | configurationReplay
  /-- WARM_RESET (R494). A warm reset resets ports, partitions and the KME, keeping RWS fields and slot power. -/
  | warmReset
  /-- COLD_RESET (R494). A cold reset resets everything outside MRAM and flash and boots again. -/
  | coldReset (straps : Straps)
  /-- PERST_N_IN (R319). PERST_N_IN asserts at a USP: a partition-scope reset, or a warm reset at the manager's port when
  strapped. -/
  | perstNIn (port : Nat)
  /-- HOT_RESET (R97). Hot reset received at a partition's USP starts a partition-scope reset. -/
  | hotReset (port : Nat)
  /-- PARTITION_RESET_DONE (R83). The FLRs of a RESETTING partition end and it enters QUIESCED or ACTIVE. -/
  | partitionResetDone (part : Nat)
  /-- STEERED_VF_RETRY_END (R97). 100 ms after FLR of a steered VF, configuration requests are no longer retried. -/
  | steeredVfRetryEnd (entry : Nat)
  /-- REFCLK_LOSS (R478). The active REFCLK input is lost and the S96 switches to the other. -/
  | refclkLoss
  /-- REFCLK_BOTH_LOST (R479). Both REFCLK inputs are lost; MAIN PLL holds over and every port suffers link loss. -/
  | refclkBothLost
  /-- REFCLK_RECOVERY (R479). An input is valid again for 1 ms and is taken as root. -/
  | refclkRecovery (inputB : Bool)
  /-- PANEL_LOOKUP (R87). An item arrives and passes panel lookup, which assigns partition, translation and queue. -/
  | panelLookup (a : Arrival)
  /-- MATCHER_CELL_TIME (R56). In each cell time the matcher runs three request-grant-accept iterations. -/
  | matcherCellTime (parityError : Bool := false)
  /-- CROSSBAR_ENTRY (R148). A matched memory request reaches crossbar entry and is checked by the access table or held. -/
  | crossbarEntry (item : Nat) (badEntry : Option Nat := none)
  /-- ACT_DRAIN_DONE (R159). OLD_INFLIGHT reaches 0 and ACT_DISABLE replies OK. -/
  | actDrainDone (part : Nat)
  /-- ACT_DISABLE_TIMEOUT (R159). OLD_INFLIGHT is not 0 after 1 ms and ACT_DISABLE replies TIMEOUT. -/
  | actDisableTimeout (part : Nat)
  /-- STALL_LONG (R156). A segment of an ACTIVE partition stays DISABLED for 250 µs. -/
  | stallLong (part : Nat)
  /-- SHARED_BLOCK_RETURN (R54). A shared block unused for 10 µs is returned to the panel pool. -/
  | sharedBlockReturn (port : Nat) (cls : Nat)
  /-- EGRESS_SELECTION (R287). After the last cell of an item, the port selects the next item by eligibility and priority. -/
  | egressSelection (port : Nat)
  /-- SHAPER_REFILL (R291). Every 125 ns each shaped queue's C, P and S are refilled. -/
  | shaperRefill
  /-- ITEM_EGRESS (R63). An item's last cell leaves the egress point and frees its cells and counts. -/
  | itemEgress (item : Nat)
  /-- MRDLK_ACCEPT (R69). An MRdLk from the USP is accepted for a DSP, which enters PENDING. -/
  | mrdlkAccept (a : Arrival)
  /-- LOCKED_COMPLETION (R69). A CplDLk or CplLk passes upward and the DSP enters LOCKED or UNLOCKED. -/
  | lockedCompletion (a : Arrival)
  /-- UNLOCK_MESSAGE (R70). An Unlock message from the USP is forwarded and unlocks the DSP. -/
  | unlockMessage (a : Arrival)
  /-- LOCK_TIMEOUT (R70). LOCK_TIMEOUT elapses in LOCKED; the S96 sends Unlock itself. -/
  | lockTimeout (port : Nat)
  /-- TALLY_PASS_START (R73). The tally audit starts a pass at its period. -/
  | tallyPassStart
  /-- TALLY_PASS_END (R76). An audit pass ends; reclaims are recorded and a mismatch rerun. -/
  | tallyPassEnd (leaks : List LeakSeen := []) (addsUp : Bool := true)
  /-- PARTITION_DRAINED (R93). A QUIESCING partition drains, enters QUIESCED and PART_QUIESCE replies. -/
  | partitionDrained (part : Nat)
  /-- QUIESCE_TIMEOUT (R94). QUIESCE_TIMEOUT expires and remaining items are reported. -/
  | quiesceTimeout (part : Nat)
  /-- VF_UNBIND_DRAINED (R104). A fenced steered VF drains or times out; FLR is issued and steering cleared. -/
  | vfUnbindDrained (entry : Nat)
  /-- WINDOW_CPL_TIMEOUT (R123). A window proxy tag's completion does not return in CPL_TIMEOUT_MS. -/
  | windowCplTimeout (track : Nat)
  /-- COMPLETION_ARRIVAL (R87). A completion arrives and is routed, restored from a proxy tag, or discarded as late or
  unexpected. -/
  | completionArrival (a : Arrival)
  /-- CPL_TIMEOUT (R322). A tracked request through a DSP is unanswered after CPL_TIMEOUT_MS; a synthetic completion is sent. -/
  | cplTimeout (track : Nat)
  /-- FUNCTION_COMPLETION_TIMEOUT (R376). A read of an S96 function is unanswered at its completion timeout. -/
  | functionCompletionTimeout (track : Nat)
  /-- LINK_UP (R307). A PCI Express port trains to L0 and reports its width, rate and downtraining. -/
  | linkUp (port : Nat) (width : Nat) (rate : Nat) (partnerWidth : Nat) (partnerRate : Nat) (flit : Bool) (reversed : Bool)
  /-- LINK_LOSS (R229). A port's link goes down and every item toward it is dropped and reported. -/
  | linkLoss (port : Nat)
  /-- CONS_ADDR_POLL (R235). Every 100 µs the S96 reads a journal's consumed count and frees slots. -/
  | consAddrPoll (ring : Nat) (value : Option W32)
  /-- PRESENCE_CHANGE (R315). PRSNT_N_IN changes and after 10 ms debounce Presence Detect State follows. -/
  | presenceChange (port : Nat) (level : Bool)
  /-- ATTENTION_BUTTON (R315). An attention button press is debounced 20 ms and sets Attention Button Pressed. -/
  | attentionButton (port : Nat)
  /-- WAKE_N_IN (R319). WAKE_N_IN asserts at a DSP and may assert WAKE_N_OUT at the USP. -/
  | wakeNIn (port : Nat)
  /-- CLKREQ_N_CHANGE (R326). CLKREQ_N is asserted or released and CKTh starts or stops. -/
  | clkreqNChange (port : Nat) (asserted : Bool)
  /-- PERST_DELAY_EXPIRY (R316). PERST_DELAY_MS after power-good, PERST_N_OUT is deasserted. -/
  | perstDelayExpiry (port : Nat)
  /-- PME_TURN_OFF (R324). PME_Turn_Off at a USP is forwarded to every DSP and PME_TO_Ack collected. -/
  | pmeTurnOff (part : Nat)
  /-- PTM_DIALOG (R325). Every 1 ms with PTM enabled, the USP completes a PTM dialog and records the offset. -/
  | ptmDialog (port : Nat) (offset : BitVec 64)
  /-- PFL_FLIT_RECEIVE (R179). A flit is received, checked, classified by sequence and delivered in order; acks are
  processed. -/
  | pflFlitReceive (port : Nat) (flit : Flit)
  /-- PFL_FLIT_SLOT (R173). In each flit slot the transmitter chooses a retransmission, CONTROL, DATA or NULL flit. -/
  | pflFlitSlot (port : Nat)
  /-- ACK_TIMEOUT_PROBE (R184). The oldest unacknowledged flit waits ACK_TIMEOUT and is retransmitted as a probe. -/
  | ackTimeoutProbe (port : Nat)
  /-- CREDIT (R190). A CREDIT control message arrives and updates the freed counts. -/
  | credit (port vl cls hdrFreed dataFreed : Nat)
  /-- CREDIT_REFRESH (R190). Every 10 µs all 12 credit counts are sent. -/
  | creditRefresh (port : Nat)
  /-- CAP (R196). A CAP message arrives and is checked for completing the exchange or CONFLICT. -/
  | cap (port : Nat) (cap : Cap)
  /-- CAP_ACK (R196). A CAP_ACK echoing the port's serial arrives. -/
  | capAck (port : Nat) (serial : BitVec 64)
  /-- CAP_SEND (R196). CAP is sent every 1 µs in CAP and every 1 ms in CONFLICT. -/
  | capSend (port : Nat)
  /-- RETRAIN_REQ (R201). A RETRAIN_REQ arrives and the fast retrain or full link reset proceeds under the leader rule. -/
  | retrainReq (port : Nat) (full : Bool) (cause fid rport : Nat) (width maxRate : Nat := 0)
  /-- RETRAIN_ACK (R201). A RETRAIN_ACK arrives from the partner. -/
  | retrainAck (port : Nat) (full : Bool)
  /-- FAST_RETRAIN (R201). A fast retrain starts: DATA stops, lanes re-adapt and unacknowledged flits are resent. -/
  | fastRetrain (port : Nat) (cause : Nat)
  /-- RETRAIN_TIMEOUT (R201). No good flit within 30 µs of the first RETRAIN_REQ; the link goes down. -/
  | retrainTimeout (port : Nat)
  /-- FULL_LINK_RESET (R202). A width, rate or pool change passes the link through DOWN and trains again. -/
  | fullLinkReset (port : Nat)
  /-- IDLE_NOTICE (R207). An IDLE_NOTICE arrives and suspends the 5 µs rule. -/
  | idleNotice (port : Nat)
  /-- DOWN_NOTICE (R203). A DOWN_NOTICE arrives and the port declares the link down. -/
  | downNotice (port : Nat) (cause : Nat)
  /-- NO_GOOD_FLIT_TIMEOUT (R203). 5 µs without a good flit in ACTIVE; the link is declared down. -/
  | noGoodFlitTimeout (port : Nat)
  /-- PFL_LINK_DOWN (R203). A PFL port declares its link down, sends DOWN_NOTICE and hands items to link loss. -/
  | pflLinkDown (port : Nat) (cause : Nat)
  /-- RESTART_EXPIRY (R204). RESTART_MS in DOWN elapses and the port enters TRAIN. -/
  | restartExpiry (port : Nat)
  /-- TRAIN_LOCK (R195). Lanes lock at 32 Gb/s in TRAIN and the port enters CAP. -/
  | trainLock (port : Nat)
  /-- TRAIN_TIMEOUT (R195). 100 ms in TRAIN or STEP without progress; DOWN with CAUSE 7. -/
  | trainTimeout (port : Nat)
  /-- CAP_TIMEOUT (R195). 10 ms in CAP without completion; DOWN with CAUSE 8. -/
  | capTimeout (port : Nat)
  /-- PTS_RECEIVE (R342). A PFL training set arrives and advances the rung's state. -/
  | ptsReceive (lane : Nat) (pts : Pts)
  /-- RUNG_COMPLETE (R341). Eight GO sets exchanged; the port switches rung or enters ACTIVE. -/
  | rungComplete (port : Nat)
  /-- LOCK_LOSS (R200). A lane or CKR loses lock and a fast retrain starts on the affected PFL ports. -/
  | lockLoss (ckr : Bool) (n : Nat)
  /-- IDLE_ENTRY (R205). Idle conditions hold for IDLE_ENTRY_US; IDLE_NOTICE is sent and the lanes idle. -/
  | idleEntry (port : Nat)
  /-- IDLE_EXIT (R206). A flit or ack change is due; a training burst precedes the first flit. -/
  | idleExit (port : Nat)
  /-- EQ_RECORD_WRITE (R348). 1 s after bring-up an equalization record is written to MRAM. -/
  | eqRecordWrite (port : Nat)
  /-- DSN_READ (R347). The S96 reads the Device Serial Number below a DSP after its first L0. -/
  | dsnRead (port : Nat) (serial : Option Nat)
  /-- EYE_DONE (R355). A margin scan ends and reports in LN_EYE. -/
  | eyeDone (lane : Nat)
  /-- CHECKER_LOCK_LOSS (R353). 128 of 1,024 bits err and the pattern checker loses lock. -/
  | checkerLockLoss (lane : Nat)
  /-- TOPO (R215). A topology advert arrives, is held, forwarded and used for reachability and duplicate FIDs. -/
  | topo (port : Nat) (advert : Advert)
  /-- TOPO_SEND (R215). Every 100 µs or on a link change, a topology advert is sent. -/
  | topoSend
  /-- ADVERT_EXPIRY (R215). A FID's advert ages past 300 µs and it stops being reachable. -/
  | advertExpiry (fid : Nat)
  /-- FID_UNREACHABLE (R231). A FID stops being reachable; tracked requests get synthetic completions and DEVICE_LOST entries
  are written. -/
  | fidUnreachable (fid : Nat)
  /-- ROUTE (R224). A ROUTE item UNREACH or REACH arrives and paths are withdrawn or restored. -/
  | route (port : Nat) (fid : Nat) (reach : Bool)
  /-- PATH_DEATH (R222). A path stops being live and its buckets move to live paths within 1 µs. -/
  | pathDeath (fid : Nat) (path : Nat)
  /-- ROUTE_GUARD_EXPIRY (R222). A moved or idle bucket's ROUTE_GUARD_US ends and it may send or return. -/
  | routeGuardExpiry (fid : Nat) (bucket : Nat)
  /-- TIME_REQ (R241). Every 10 µs a device sends TIME_REQ to its parent. -/
  | timeReq
  /-- TIME_RESP (R241). A TIME_RESP arrives; the child computes offset and delay and steps or slews. -/
  | timeResp (port : Nat) (seq : Nat) (locked : Bool) (t2 : Nat) (t3 : Nat)
  /-- TIME_REQ_ANSWER (R241). A TIME_REQ arrives from a child and is answered with TIME_RESP. -/
  | timeReqAnswer (port : Nat) (seq : Nat)
  /-- HOLDOVER_EXPIRY (R242). 1 ms of holdover passes and TIME_LOCKED becomes 0. -/
  | holdoverExpiry
  /-- PARENT_LINK_FAIL (R243). The time parent's link fails and a new parent is taken within 10 µs. -/
  | parentLinkFail
  /-- RMA_SEGMENT_SEND (R268). A QP in RTS fetches entries and sends segments within its PSN window and shaping. -/
  | rmaSegmentSend (qpn : Nat) (wqe : Option (List Byte)) (data : List Byte)
  /-- RMA_ACK (R269). An ACK arrives; PSNs are acknowledged and completions written in SQ order. -/
  | rmaAck (hdr : RmaHdr) (bitmap : Nat)
  /-- NAK_MISSING (R270). A NAK_MISSING arrives and the missing segments are retransmitted. -/
  | nakMissing (hdr : RmaHdr) (bitmap : Nat)
  /-- NAK_RNR (R270). A NAK_RNR arrives and the segment is scheduled for RNR_DELAY. -/
  | nakRnr (hdr : RmaHdr)
  /-- RNR_DELAY_EXPIRY (R270). RNR_DELAY ends and the named segment is retransmitted. -/
  | rnrDelayExpiry (qpn : Nat)
  /-- NAK_ACCESS (R263). A NAK_ACCESS, NAK_OP or NAK_FAULT arrives and the QP enters ERROR. -/
  | nakAccess (hdr : RmaHdr)
  /-- RMA_ACK_TIMEOUT (R270). No ACK advances the oldest PSN for ACK_TIMEOUT; unacknowledged segments are resent. -/
  | rmaAckTimeout (qpn : Nat)
  /-- READ_RESP (R269). A READ_RESP or ATOMIC_RESP arrives and is placed at the local address. -/
  | readResp (hdr : RmaHdr)
  /-- RESPONDER_ARRIVAL (R272). A WRITE, READ_REQ or atomic arrives at the responder and passes its checks or is NAKed. -/
  | responderArrival (hdr : RmaHdr)
  /-- SEGMENT_COMPLETE (R274). An accepted segment's placement leaves; EPSN advances and a notice may be written. -/
  | segmentComplete (qpn : Nat) (psn : Nat) (data : List Byte)
  /-- RMA_ACK_SEND (R275). 1 µs after an uncovered completion, the responder sends an ACK. -/
  | rmaAckSend (qpn : Nat)
  /-- REASM_TIMEOUT (R276). EPSN does not advance for REASM_TIMEOUT and NAK_MISSING is sent. -/
  | reasmTimeout (qpn : Nat)
  /-- PLACEMENT_FAULT (R277). A placement write is dropped or denied; the responder QP enters ERROR and sends NAK_FAULT. -/
  | placementFault (qpn : Nat)
  /-- QP_FLUSH (R279). On entry to ERROR every outstanding request completes FLUSHED in SQ order. -/
  | qpFlush (qpn : Nat) (posted : List (List Byte))
  /-- BACKING_FETCH (R255). A backing-store fetch of a context or region entry completes and waiting items proceed. -/
  | backingFetch (region : Bool) (number : Nat)
  /-- BACKING_STALL (R255). A backing fetch has not completed after 1 ms. -/
  | backingStall (region : Bool) (number : Nat)
  /-- SHP_SAMPLE (R301). At each INTERVAL_US, queue depths and head delays are captured and written. -/
  | shpSample
  /-- COUNTER_DUMP (R465). At each INTERVAL_US, counters are snapshotted and written as a dump. -/
  | counterDump
  /-- COUNTER_OVERFLOW (R463). A counter in OVF mode wraps; its OVF bit is set and it may reload and tag. -/
  | counterOverflow (port counter : Nat)
  /-- TLM_EVALUATION (R143). Every 1 ms the mapper evaluates entries with internal sources. -/
  | tlmEvaluation
  /-- IPMB_MESSAGE (R142). An IPMB message arrives and matching mapper entries are evaluated. -/
  | ipmbMessage (sa : Nat) (netfn : Nat) (cmd : Nat) (bytes : List Byte)
  /-- GET_SENSOR_READING (R144). A PLDM or IPMB sensor read is answered from the mapper. -/
  | getSensorReading (id : Nat) (ipmb : Bool)
  /-- CANARY_EVALUATION (R447). Every 100 ms the canary grades its inputs and changes the device grade. -/
  | canaryEvaluation (sample : CanarySample)
  /-- BASELINE_END (R448). The 10 s canary baseline window ends. -/
  | baselineEnd
  /-- ROW_RETIREMENT (R443). A row shows repeated or uncorrectable errors and is scheduled for retirement. -/
  | rowRetirement (memory row busy : Nat) (uncorrectable : Bool)
  /-- ROW_SPARED (R443). The last cell of a scheduled row frees and the row is mapped to a spare. -/
  | rowSpared (memory : Nat) (row : Nat)
  /-- ITEM_ECC_ERROR (R438). An uncorrectable error in item data poisons the TLP or discards the RMA item. -/
  | itemEccError (item : Nat)
  /-- DESCRIPTOR_ECC_ERROR (R439). Both copies of a descriptor word fail and the item is discarded and reported. -/
  | descriptorEccError (item : Nat) (identified : Bool)
  /-- CONTEXT_ECC_ERROR (R440). An uncorrectable error in a context or region entry ends the access and the partition is
  told; of the translation cache, `number` is the place in it. -/
  | contextEccError (store : EccStore) (number : Nat)
  /-- DEVICE_LEVEL_FAULT (R444). A device-level uncorrectable error drives FAULT_N and sets grade 3. -/
  | deviceLevelFault (cause : FaultCause)
  /-- SHAFT_CRC_ERROR (R442). A shaft flit fails its CRC and is replayed. -/
  | shaftCrcError (dir lane : Nat)
  /-- SHAFT_LANE_FAILURE (R13). A shaft data lane fails and its traffic moves to a spare. -/
  | shaftLaneFailure (dir lane : Nat)
  /-- THROTTLE_UPDATE (R541). Every 1 ms the throttle level N rises, falls or stays by temperature and power. -/
  | throttleUpdate (tj : Nat) (power : Nat) (hotDie : Nat)
  /-- THERMAL_EMERGENCY (R542). TJ_MAX stays at 125 °C for 1 ms; N is set to 16. -/
  | thermalEmergency (tj : Nat)
  /-- FAST_TRIP (R413). V_SENSE exceeds V_FT and the gate is pulled off within 500 ns. -/
  | fastTrip (ch : Nat)
  /-- FAULT_TIMER_EXPIRY (R416). The fault timer reaches FAULT_US and the channel trips BREAKER. -/
  | faultTimerExpiry (ch : Nat)
  /-- PRECHARGE_DONE (R414). V_OUT rises 100 mV in PRECHARGE and the channel enters RAMP. -/
  | prechargeDone (ch : Nat)
  /-- PRECHARGE_TIMEOUT (R414). 2 ms in PRECHARGE without a rise; trip GATE. -/
  | prechargeTimeout (ch : Nat)
  /-- RAMP_DONE (R414). V_OUT reaches V_IN − PG_DROP and the channel enters QUALIFY. -/
  | rampDone (ch : Nat)
  /-- RAMP_TIMEOUT (R414). The ramp does not finish in time; trip RAMP_TIMEOUT. -/
  | rampTimeout (ch : Nat)
  /-- POWER_GOOD (R417). Power-good conditions hold for PG_DELAY_US and the channel enters ON. -/
  | powerGood (ch : Nat)
  /-- INPUT_OV (R415). V_IN above OV_TH for 2 ticks; trip OV. -/
  | inputOv (ch : Nat)
  /-- INPUT_UV (R415). V_IN below UV_TH for 1,000 ticks; trip UV. -/
  | inputUv (ch : Nat)
  /-- GATE_FAULT (R415). V_GS below 6 V for 100 ticks in ON; trip GATE. -/
  | gateFault (ch : Nat)
  /-- RETRY_WAIT_EXPIRY (R421). The wait in WAIT ends and the channel retries from PRECHARGE. -/
  | retryWaitExpiry (ch : Nat)
  /-- INPUT_RECOVERY (R422). After a UV or OV trip, V_IN stays in range for 100 ms and the channel leaves WAIT. -/
  | inputRecovery (ch : Nat)
  /-- RETRY_RESTORE (R420). A channel ON for 10 s has its retry count restored. -/
  | retryRestore (ch : Nat)
  /-- SHUTDOWN_DONE (R414). V_GS falls below 1 V in SHUTDOWN and the channel enters OFF. -/
  | shutdownDone (ch : Nat)
  /-- FEED_SAMPLE (R424). Every 10 µs the feeds are sampled and WARN_N asserted or released. -/
  | feedSample (feedA feedB vgate : Nat)
  /-- CHANNEL_SAMPLE (R425). Every 10 µs a channel samples sense, input and output and adds energy. -/
  | channelSample (ch : Nat) (vsense : Int) (vin vout vgs : Nat) (ilim : Bool)
  /-- FAULT_TIMER_RESET (R416). After 16 consecutive ticks with neither the breaker level nor current limit, a channel's
  fault timer returns to 0. -/
  | faultTimerReset (ch : Nat)
  /-- CHECKER_LOCK (R353). A lane's pattern checker locks after 64 error-free bits, or aligns to USER, and begins counting. -/
  | checkerLock (lane : Nat)
  /-- CKR_LOCK (R337). CKRh locks or relocks at 8 or 16 GHz, which restarts a STEP rung that lost lock. -/
  | ckrLock (pair : Nat)
  /-- INACTIVE_REFCLK_CHANGE (R477). The REFCLK input that is not the root is lost or becomes valid again, which changes
  CLK_STATUS and the redundancy that canary input 7 grades. -/
  | inactiveRefclkChange (valid : Bool)
  /-- SMBUS_BUS_TIMEOUT (R547). A bus timeout of 25–35 ms makes the S96 release the SMBus and reset its interface. -/
  | smbusBusTimeout
  /-- VOQMIN_RAISE_TIMEOUT (R79). A raised class minimum that is not backed within 500 µs ends PORT_BUFFER_SET with TIMEOUT
  and leaves the old minimum. -/
  | voqminRaiseTimeout (port : Nat)
  /-- ASPM_L1_ENTRY (R324). The S96 requests ASPM L1 on a USP once every DSP link of the partition is in L1 or down and no
  item has been inside for 10 µs. -/
  | aspmL1Entry (port : Nat)
  /-- PERST_N_IN_RELEASE (R493). PERST_N_IN at a USP is deasserted, starting the 100 ms within which the USP answers
  configuration requests. -/
  | perstNInRelease (port : Nat)
  /-- UPDATEFC (R287). An UpdateFC from the partner of a PCI Express link returns credit, so that waiting items may become
  egress candidates. -/
  | updatefc (port : Nat) (cls : Nat) (hdr : Nat) (data : Nat)
  /-- UPDATEFC_REFRESH (R309). For each class the S96 sends an UpdateFC at least every 30 µs on a PCI Express link. -/
  | updatefcRefresh (port : Nat) (cls : Nat)
  /-- PATH_LOAD_SAMPLE (R223). Every 1 µs the cells queued toward each path's port are sampled into the 1 ms average that
  sets the ADAPT weights EW and, once filled, SAMPLED. -/
  | pathLoadSample
  /-- VECTOR_UNMASK (R364). A host write that unmasks an MSI-X vector with its pending bit set sends one message and clears
  the bit. -/
  | vectorUnmask (f : Fn) (vector : Nat)
  /-- JTAG_INSTRUCTION (R522). A boundary-scan instruction is loaded through the TAP and, for EXTEST and its variants, takes
  hold of the balls while POR_N is low. -/
  | jtagInstruction (instr : Nat)
deriving DecidableEq, Repr

end Sys2Proof
end

