-- ==== Sys2Proof/Decode.lean ====
section
/-! DEFINITION. Decode.lean: the command that a word spells by the bits of the table. -/

namespace Sys2Proof

/-- The command a word spells: opcode_table.json gives no row any bits, since every row is a command packet, an event or a
register access whose operands no word holds; so no word spells a command. (DESIGN CHOICE, log entry 9) -/
def decodeTableWord (_nbits _w : Nat) : Option Instr := none

end Sys2Proof
end

