-- ==== Sys2Proof/Config.lean ====
section
/-! DEFINITION. Config.lean: the values the spec leaves open. They have no body, so nothing can be proved from their
value: a claim about them holds for every value. -/

namespace Sys2Proof.Config

/-- The values that analog hardware or an unstated choice supplies: the k-th value that a run takes
(Machine/Ops.lean, Device.fresh). (DESIGN CHOICE, log entry 1) -/
opaque freeNat : Nat → Nat

/-- Level of an indicator pin that blinks, at a device time: a 1.5 Hz square wave whose phase no rule states (R315).
(DESIGN CHOICE, log entry 1) -/
opaque blinkLevel : Nat → Bool

/-- The hash that gives an item its flow bucket, of its ingress port, DST_FID, DST_PORT and QUEUE (R220): no rule states it.
(DESIGN CHOICE, log entry 1; DESIGN CHOICE, log entry 35) -/
opaque flowHash : Nat → Nat → Nat → Nat → Nat

/-- What entry `index` of a partition's new access-table segment held before, at the k-th creation of the partition (R152).
(DESIGN CHOICE, log entry 1) -/
opaque staleEntry : Nat → Nat → Nat → Nat

/-- Whether the k-th caddy row that leaves service held contexts, or region entries (Table 16.7): no rule states which.
(DESIGN CHOICE, log entry 1) -/
opaque caddyRow : Nat → Bool

/-- Merhus's Vendor ID: no rule gives its number (R311, R359). (DESIGN CHOICE, log entry 1) -/
opaque vendorId : Nat

/-- What the PF with a requester ID below a DSP of another device shows in its k-th value (R98, R114): by FID, port,
requester ID, k. (DESIGN CHOICE, log entry 1) -/
opaque remotePf : Nat → Nat → Nat → Nat → Nat

/-- Byte i of the header of a TLP with its prefixes, as a fabric item carries it (R218): its layout is that of the PCI
Express Base Specification, which no rule restates. (DESIGN CHOICE, log entry 1) -/
opaque tlpHeader : Tlp → Nat → Byte

/-- The device's own serial number (GLB_SERIAL, Table 14.12). (DESIGN CHOICE, log entry 1; DESIGN CHOICE, log entry 6) -/
opaque serial : BitVec 64

end Sys2Proof.Config
end

