-- ==== Sys2Proof/Machine/State.lean ====
section
/-! DEFINITION. Machine/State.lean: everything the spec gives the S96 that changes: registers, tables, queues and the
traffic inside, as plain data; the reasons a step can stop; the state after reset. -/

namespace Sys2Proof.Machine


/-- STATUS of a reply (Table 14.7). -/
inductive Status where
  | ok | accepted | badOpcode | badLength | badParam | notPermitted | busyLocked
  | noResource | noContext | overlap | notQuiesced | fidConflict
  | aborted | timeout | hwFault | doneDegraded
deriving DecidableEq, Repr

/-- What a command answers: STATUS, DETAIL and the bytes of the result (R379, R402). -/
structure Ans where
  status : Status
  detail : Nat
  result : List Byte
deriving DecidableEq, Repr

/-- A command admitted to the KME that has not had its final answer (R399–R401). -/
structure Exec where
  op : Nat
  cmd : Cmd
  /-- Time of admission, ns. -/
  since : Nat
  /-- ACCEPTED has been replied: the command is LONG and no longer occupies the KME. -/
  accepted : Bool
  /-- The command's configuration change is in force already (DETAIL 1 of R390). -/
  applied : Bool
  /-- Items this command has reported so far (R94, R96, R112). -/
  reported : Nat
  /-- Its execution has begun: it waits for an event that will answer it. -/
  begun : Bool
deriving DecidableEq, Repr

/-- A frame held on a byte-stream transport, waiting for admission (R383). -/
structure Held where
  source : Source
  /-- Header, parameters and, on SMBus and the adit port, the CRC-32C. -/
  frame : List Byte
  since : Nat
  /-- STARVE_MS in force when the wait began (R405). -/
  starveMs : Nat
  starved : Bool
deriving DecidableEq, Repr

/-- The last command admitted from a source of transports 3–6 and its stored answers (R384). -/
structure LastCmd where
  op : Nat
  seq : Byte
  reply : Option (List Byte)
  notice : Option (List Byte)
  /-- When the final answer was sent. -/
  finalAt : Option Nat
  /-- Repeats that wait for the original's reply. -/
  repeats : Nat
deriving DecidableEq, Repr

/-- The arbiter lock (R395–R397). -/
structure ArbLock where
  holder : Source
  began : Nat
  lastReply : Nat
  /-- LOCK_END has been admitted, or LOCK_MAX passed while a command of the holder ran: the lock ends at its reply. -/
  ending : Bool
  gap100us : Nat
  maxMs : Nat
deriving DecidableEq, Repr

/-- An SMBus reply write and how often it has been retried (R381). -/
structure SmbReply where
  bytes : List Byte
  tries : Nat
  sentAt : Nat
deriving DecidableEq, Repr

/-- The Katurath management engine: arbiter, transports and registers (Tables 14.12–14.13, chapter 14). -/
structure Kme where
  running : Bool
  imageB : Bool
  fallback : Bool
  clk100 : Bool
  restarts : Nat
  lastOp : Nat
  lastSource : Nat
  lastStatus : Nat
  lastSeq : Byte
  admitted : Nat
  starveMs : Nat
  lockGap : Nat
  lockMaxMs : Nat
  lock : Option ArbLock
  /-- Former holders whose lock expired and whose next LOCK_HOLD or LOCK_END is answered ABORTED (R397). -/
  expired : List Source
  starveCount : Nat
  lastStarved : Nat
  intStatus : BitVec 6
  intMask : BitVec 6
  crcSmbus : Nat
  crcAdit : Nat
  dropped : Nat
  duplicates : Nat
  eid : Byte
  undelivered : Nat
  held : List Held
  execs : List Exec
  /-- Per rank, 1 + the source number last admitted (R392). -/
  roundRobin : Tbl Nat
  last : Tbl LastCmd
  smbReplies : Tbl SmbReply
deriving DecidableEq, Repr

/-- STATE of a mailbox (R386). -/
inductive MbxState where
  | idle | submitted | executing | done
deriving DecidableEq, Repr

/-- One mailbox: its 16 KiB of request, reply and notice areas, and its MBX registers (Tables 14.5, 14.6). -/
structure Mbx where
  state : MbxState
  mem : Memory
  intStatus : BitVec 5
  intMask : BitVec 5
  lastSeq : Byte
  lastStatus : Nat
  prod : W32
  cons : W32
  submittedAt : Nat
  /-- STARVE_MS in force when the wait began (R405). -/
  starveMs : Nat
  starved : Bool
deriving DecidableEq, Repr

/-- Interrupt outputs and the GLB block's writable registers (Table 14.12). -/
structure Glb where
  intMask : BitVec 14
  alertEn : BitVec 14
  /-- ALERT_N is driven low (R381). -/
  alertLow : Bool
  serial : BitVec 64
  fwLevel : W32
  fid : Nat
  /-- Manager's upstream port, STRAP_MGRPORT (R37). -/
  mgrPort : Nat
  smbAddrStrap : Nat
deriving DecidableEq, Repr

/-- One MSI-X vector (R364): every entry resets masked with address and data 0. -/
structure MsixVec where
  addr : Nat
  data : W32
  masked : Bool
  pending : Bool
deriving DecidableEq, Repr

/-- Personality of a port (Table 2.1). -/
inductive Personality where
  | off | usp | dsp | pfl | diag
deriving DecidableEq, Repr

/-- Configuration of one port unit (R29–R42). Width 0 is none, else the number of lanes. -/
structure Port where
  personality : Personality
  width : Nat
  maxRate : Nat
  sris : Bool
  hotplug : Bool
  clkout : Bool
  /-- The lowest unit of the merge that absorbs this unit (R9). -/
  absorbedBy : Option Nat
  /-- The link is enabled: PORT_DISABLE has not taken it down (R39). -/
  enabled : Bool
  /-- Partition that holds the port (R28). -/
  holder : Nat
  /-- Downstream virtual bridge a DSP of a tenant is bound to (R86). -/
  bridge : Option Nat
deriving DecidableEq, Repr

/-- Ingress and output-buffer settings of one port (Tables 3.5, 3.10) and the shared blocks it holds (R54). -/
structure PortBuf where
  minP : Nat
  minNp : Nat
  minCpl : Nat
  alpha : BitVec 24
  sharedP : Nat
  sharedNp : Nat
  sharedCpl : Nat
  /-- When a shared block of the port last came into use (R54). -/
  sharedUsedAt : Nat
  /-- Matcher pointers of the unit's or internal port's attachment: grant, accept (R57). -/
  grantPtr : Nat
  acceptPtr : Nat
  /-- Class minima and α before a PORT_BUFFER_SET whose raise is not backed yet (R25, R79). -/
  before : Option (Nat × Nat × Nat × BitVec 24)
deriving DecidableEq, Repr

/-- Lock state of a DSP (Table 3.4). -/
inductive LockState where
  | unlocked | pending | locked
deriving DecidableEq, Repr

/-- The lock of one DSP and its counters (XBR_P_LOCK, XBR_P_LOCKCNT). -/
structure PortLock where
  state : LockState
  owner : Nat
  since : Nat
  timeoutMs : Nat
  timeouts : Nat
  lockUr : Nat
deriving DecidableEq, Repr

/-- The first reclaimed output-buffer cell (XBR_TALLY_FIRST). -/
structure LeakRecord where
  cell : Nat
  port : Nat
  queue : Nat
  cls : Nat
deriving DecidableEq, Repr

/-- A cell that is allocated and referenced by nothing (R74): a leak the tally audit can reclaim. -/
structure LostCell where
  /-- Panel of a panel-memory cell; none for an output-buffer cell. -/
  panel : Option Nat
  record : LeakRecord
  allocatedAt : Nat
deriving DecidableEq, Repr

/-- The switch core: dynamic pool, audit, interrupts (Tables 3.8–3.9). -/
structure Xbr where
  enabled : Bool
  enabledAt : Nat
  auditMs : Nat
  maxresMs : Nat
  lockTimeoutMs : Nat
  passes : W32
  reclaimedLast : Nat
  mismatch : Bool
  running : Bool
  /-- A pass is due as soon as the running one ends (R73). -/
  passDue : Bool
  lastStart : Option Nat
  /-- AUDIT_PERIOD and MAXRES in force since the last pass began (R80). -/
  passAuditMs : Nat
  passMaxresMs : Nat
  /-- The running pass repeats one that did not add up (R76). -/
  rerun : Bool
  reclaimedTotal : Nat
  first : LeakRecord
  firstTime : BitVec 64
  panelLast : Nat
  panelFirst : Nat
  intStatus : BitVec 4
  intMask : BitVec 4
  lost : List LostCell
  cellTime : Nat
  /-- Per input and output, 1 + the VOQ (queue and class) served last (R58). -/
  voqLast : Tbl Nat
deriving DecidableEq, Repr

/-- State of a partition (Table 4.1). -/
inductive PartState where
  | free | active | quiescing | quiesced | resetting
deriving DecidableEq, Repr

/-- One partition (Tables 4.10, 4.11). -/
structure Part where
  state : PartState
  fabric : Bool
  vfSteered : Bool
  rmaP2p : Bool
  quiesceReq : Bool
  dsbCount : Nat
  actEntries : Nat
  capturedBus : Nat
  blockedCfg : Nat
  quiesceSince : Nat
  quiesceTimeoutMs : Nat
  /-- Since when the partition has been ACTIVE (R156). -/
  activeSince : Nat
  /-- Home device of a fabric-spanning partition whose USP is elsewhere: the device that relayed its binds (R226). -/
  home : Option Nat
  /-- The USP of the partition that a relayed bind of this device has placed on another one: its FID and port (R45, R226). -/
  remoteUsp : Option (Nat × Nat)
deriving DecidableEq, Repr

/-- One steered VF (R98–R104, Table 4.4). -/
structure Steer where
  /-- The other device that holds the DSP, for a VF whose steering bridge is emulated here alone (R114). -/
  away : Option Nat
  port : Nat
  bridge : Nat
  pfRid : Nat
  vfIndex : Nat
  func : Nat
  part : Nat
  realRid : Nat
  mse : Bool
  bme : Bool
  /-- Emulated BAR0–BAR5 as the receiving host wrote them. -/
  bars : List Nat
  fenced : Bool
  fencedAt : Nat
  timeoutMs : Nat
  retryUntil : Nat
  /-- Posted requests of the VF discarded because it is muted (R100). -/
  muted : Nat
deriving DecidableEq, Repr

/-- SR-IOV settings of a PF behind a DSP, as its configuration space holds them (R98, R102, R114). -/
structure Sriov where
  vendor : Nat
  vfDevice : Nat
  vfEnable : Bool
  vfMse : Bool
  ariCapable : Bool
  numVfs : Nat
  firstOffset : Nat
  stride : Nat
  /-- Base and size per VF of VF BAR0–BAR5, and their type bits. -/
  vfBars : List (Nat × Nat)
  vfTypes : List Nat
deriving DecidableEq, Repr

/-- Configuration registers of one virtual bridge that govern routing, slot and containment (R85–R90, R312–R315, R555). -/
structure VBridge where
  primary : Nat
  secondary : Nat
  subordinate : Nat
  memBase : Nat
  memLimit : Nat
  prefBase : Nat
  prefLimit : Nat
  ioBase : Nat
  ioLimit : Nat
  mse : Bool
  iose : Bool
  bme : Bool
  /-- ACS control bits, in the base specification's order. -/
  acs : Nat
  egressVector : Nat
  bridgeControl : Nat
  /-- Max_Payload_Size and Max_Read_Request_Size codes. -/
  mps : Nat
  mrrs : Nat
  linkControl : Nat
  linkControl2 : Nat
  slotControl : Nat
  slotStatus : Nat
  dpcControl : Nat
  /-- AER uncorrectable status, in the base specification's bit order, and its mask. -/
  aerUncor : Nat
  aerMask : Nat
  /-- Link Bandwidth Management Status (R307). -/
  bandwidthNotice : Bool
  /-- Other fields of the base specification, by offset, as written. -/
  raw : Tbl Nat
deriving DecidableEq, Repr

/-- One access-table entry (Table 6.2). -/
structure ActEntry where
  base : Nat
  limit : Nat
  rid : Nat
  ridMask : Nat
  rights : Nat
deriving DecidableEq, Repr

/-- State of an access-table segment (Table 6.3). -/
inductive SegState where
  | none | disabled | enabled
deriving DecidableEq, Repr

/-- One access-table segment and its registers (Table 6.5). Entries are listed once they have been written. -/
structure Seg where
  state : SegState
  entries : Tbl (Option ActEntry)
  /-- Ages of the entries' stale contents: counts PART_CREATE of this partition number (R152). -/
  epoch : Nat
  gen : Nat
  disabledAt : Nat
  stallLong : Bool
  vector : Nat
  violCount : Nat
  violAddr : Nat
  violReason : Nat
  violType : Nat
  violPosted : Bool
  violValid : Bool
  violRid : Nat
  multiA : Nat
  multiB : Nat
deriving DecidableEq, Repr

/-- ACT registers of the whole table. -/
structure ActGlobal where
  intStatus : BitVec 3
  intMask : BitVec 3
deriving DecidableEq, Repr

/-- One non-transparent window with its error log and doorbell (Tables 5.3, 5.4, R131, R132). -/
structure Window where
  valid : Bool
  srcPart : Nat
  dstPart : Nat
  srcOffset : Nat
  size : Nat
  dstBase : Nat
  mode : Nat
  unit : Nat
  read : Bool
  write : Bool
  doorbell : Bool
  maxPayload : Nat
  errVector : Nat
  dbVector : Nat
  cplTimeoutMs : Nat
  errCount : Nat
  errAddr : Nat
  errReason : Nat
  errValid : Bool
  errRid : Nat
  cplTimeouts : Nat
  dbStatus : W32
  dbMask : W32
deriving DecidableEq, Repr

/-- NTW registers of the whole device. -/
structure NtwGlobal where
  intStatus : BitVec 3
  intMask : BitVec 3
  misses : Nat
deriving DecidableEq, Repr

/-- An outbound doorbell write waiting for the earlier writes of its port through its window (R133). -/
structure DoorbellWait where
  window : Nat
  bits : W32
  /-- Items of the window and port that must leave first. -/
  behind : List Nat
deriving DecidableEq, Repr

/-- One telemetry mapper entry (Table 5.6) and its output (Table 5.7). -/
structure TlmEntry where
  enable : Bool
  srcIpmb : Bool
  dstIpmb : Bool
  signed : Bool
  srcBe : Bool
  shift : Nat
  srcId : Nat
  ipmbSa : Nat
  ipmbNetfn : Nat
  ipmbCmd : Nat
  matchOffset : Nat
  matchValue : Nat
  fieldByte : Nat
  fieldLsb : Nat
  fieldWidth : Nat
  m : Int
  b : Int
  dstId : Nat
  dstSize : Nat
  maxAgeMs : Nat
  value : Int
  /-- The last evaluation found its source valid. -/
  srcValid : Bool
  saturated : Bool
  evals : Nat
  /-- Time of the source value. -/
  evalAt : Option Nat
deriving DecidableEq, Repr

/-- FLR progress of a function (EPF_VSEC_STAT.FLR_STATE, Table 13.4). -/
inductive FlrState where
  | idle | silencing | releasing
deriving DecidableEq, Repr

/-- Configuration space and vendor-specific registers of one function of the S96 (chapter 13). -/
structure Func where
  mse : Bool
  bme : Bool
  d3hot : Bool
  mailboxBar : Nat
  queueBar : Nat
  windowBar : Nat
  atsEnable : Bool
  vfEnable : Bool
  numVfs : Nat
  /-- VF BARs of a PF's SR-IOV capability: mailbox and queue. -/
  vfMailboxBar : Nat
  vfQueueBar : Nat
  cplTimeoutNs : Nat
  /-- AER: uncorrectable status, mask and severity; correctable status and mask (R375). -/
  aerUncor : Nat
  aerUncorMask : Nat
  aerSeverity : Nat
  aerCor : Nat
  aerCorMask : Nat
  /-- Error reporting enables of Device Control, bits 0–3. -/
  devControl : Nat
  flr : FlrState
  /-- Work requests the FLR ended without a completion entry. -/
  flrEnded : Nat
  lateCpl : Nat
  cqLost : Nat
  /-- Tags of reads issued before the FLR: not reused for 50 ms (R373). -/
  oldTags : List (Nat × Nat)
  /-- Other fields of the base specification, by offset, as written. -/
  raw : Tbl Nat
deriving DecidableEq, Repr

/-- One entry of the address-translation cache (R366). -/
structure AtsEntry where
  fn : Fn
  page : Nat
  pages : Nat
  target : Nat
  read : Bool
  write : Bool
deriving DecidableEq, Repr

/-- An Invalidate Request whose completion has not been sent (R368). -/
structure Invalidation where
  fn : Fn
  page : Nat
  pages : Nat
  tag : Nat
  /-- Items issued under a removed entry that are still inside or unanswered. -/
  waitFor : List Nat
  /-- The removed entries, for requests under them that panel lookup has not numbered yet. -/
  gone : List AtsEntry := []
deriving DecidableEq, Repr

/-- How far boot has come (Table 18.5). -/
inductive BootPhase where
  | held       -- POR_N low
  | rom        -- boot ROM running, image not loaded yet
  | noImage    -- neither image valid: tried again every 1 s (R486)
  | loaded     -- firmware loaded, MAIN PLL starting
  | locked     -- MAIN PLL locked, memories and lane dies being initialised
  | ready      -- configuration replayed
deriving DecidableEq, Repr

/-- A reset that SYS_RESET has asked for (R495, R500). -/
structure ResetPlan where
  cold : Bool
  at_ : Nat
deriving DecidableEq, Repr

/-- An image that FW_UPDATE is writing or has written (R502): its slot, FW_LEVEL and default configuration list. -/
structure FwStage where
  slotB : Bool
  fwLevel : W32
  defaults : List (Nat × Cmd)
  /-- The slot verifies: the whole image was read and TOTAL_CRC matches. -/
  good : Bool
deriving DecidableEq, Repr

/-- Clocks, boot and reset (Table 18.11) and the straps (Table 18.2). -/
structure Clk where
  aValid : Bool
  bValid : Bool
  /-- REFCLK_B is the root. -/
  activeB : Bool
  mainLock : Bool
  holdover : Bool
  switches : Nat
  cause : Nat
  warmCount : Nat
  imageB : Bool
  fallback : Bool
  watchdog : Bool
  cfgSrc : Nat
  replayErr : Nat
  readyUs : Nat
  strapIgnoreSnapshot : Bool
  strapPerstWarm : Bool
  /-- Bit d: lane die d is parked. -/
  parked : BitVec 4
  intStatus : BitVec 4
  intMask : BitVec 4
  phase : BootPhase
  releasedAt : Nat
  resetPlan : Option ResetPlan
  /-- Default configuration list of the running image: OPCODE and packet (R485, R490). -/
  defaults : List (Nat × Cmd)
  /-- When the boot ROM last loaded an image, or last tried (R486, R487). -/
  loadedAt : Nat
  staged : Option FwStage
deriving DecidableEq, Repr

/-- One snapshot copy in MRAM (R490). -/
structure Snapshot where
  valid : Bool
  fwLevel : Nat
  saveSeq : Nat
  time : Nat
  packets : List (Nat × Cmd)
deriving DecidableEq, Repr

/-- A black-box record (R451–R453); the record's fields are those of Table 16.8. -/
structure BlackBox where
  seq : Nat
  time : Nat
  kind : Nat
  grade : Nat
  object : Nat
  code : Nat
  data : List Nat
  suppressed : Nat
  /-- Cold resets since manufacture, when it was written. -/
  boots : Nat
deriving DecidableEq, Repr

/-- The boot record in MRAM (R486, R487). -/
structure BootRecord where
  activeB : Bool
  failedA : Bool
  failedB : Bool
deriving DecidableEq, Repr

/-- A text command of the adit monitor whose packet has not been answered (R513). -/
inductive TextWait where
  | info | log
deriving DecidableEq, Repr

/-- The adit monitor's session (chapter 19). -/
structure Adit where
  level : Nat
  baud : Nat
  raw : Bool
  challenge : Option Nat
  wrong : Nat
  barredAt : Option Nat
  lastRx : Nat
  /-- SEQ of the last packet that a text command issued, and the text command that waits for its reply. -/
  seq : Byte
  waiting : Option TextWait
deriving DecidableEq, Repr

/-- Boundary-scan instructions (R522). -/
inductive Jtag where
  | bypass | idcode | sample | extest | extestPulse | extestTrain
deriving DecidableEq, Repr

/-- Where an item inside the S96 is (Table 1.4). -/
inductive Stage where
  | voq       -- panel ingress memory, in its VOQ
  | entry     -- at crossbar entry, waiting for the access check
  | held      -- in the hold store of a DISABLED segment (R154)
  | crossing  -- first cell in the output buffer, the rest on the way
  | buffered  -- every cell in the output buffer
  | sending   -- chosen for egress (R287)
  | replay    -- in unacknowledged flits of a PFL port's replay buffer
deriving DecidableEq, Repr

/-- An item inside the S96: what it carries, what panel lookup decided, and the cells it holds. -/
structure Item where
  id : Nat
  tlp : Tlp
  /-- The RMA header of an RMA item. -/
  rma : Option RmaHdr
  /-- 0 P, 1 NP, 2 CPL. -/
  cls : Nat
  ingress : Nat
  /-- Partition it is assigned to (R87), after window translation the target's (R119). -/
  part : Nat
  /-- Window that translated it, with the source address and requester (R119, R130). -/
  window : Option Nat
  srcAddr : Nat
  srcRid : Nat
  srcTag : Nat
  /-- Steering entry it passes through (R99). -/
  steer : Option Nat
  /-- Issuing function, on P96–P100. -/
  fn : Option Fn
  egress : Nat
  queue : Nat
  fab : Option FabHdr
  stage : Stage
  /-- Cells still in ingress memory, in the hold store (R154), in the dynamic pool, in the class reserve. -/
  inCells : Nat
  holdCells : Nat
  poolCells : Nat
  rsvCells : Nat
  /-- Segment under which it passed the access check (R158). -/
  checkedBy : Option Nat
  /-- It holds a journal slot of its source, or of the shared slots (R236). -/
  slot : Bool
  sharedSlot : Bool
  /-- Order of admission to the hold store, then to the output buffer (R157, R287), and the time of the latter (R301). -/
  order : Nat
  admittedAt : Nat
  /-- Bytes in a swap unit of its window, 0 none, and the part of a read that its source asked for (R127). -/
  swap : Nat
  wantAddr : Nat
  wantLen : Nat
  /-- It was stored and forwarded (R67, R68). -/
  stored : Bool
  /-- Partition of its source: another than `part` once a window has translated it (R27, R121, R125). -/
  srcPart : Nat
  /-- Link credit of its ingress port that goes back as its cells leave the ingress memory: headers, and data in units of 16 B
  on PCI Express, of cells on PFL (R55, R190, R309). -/
  hdrCr : Nat
  dataCr : Nat
  /-- A piece whose source has had its last completion (R129). -/
  spent : Bool
  /-- Steering entry of the VF that issued it (R104). -/
  vf : Option Nat
deriving DecidableEq, Repr

/-- A non-posted request sent out whose completions have not all returned (R122, R231, R322). -/
structure Track where
  id : Nat
  /-- Egress port it left by, and the FID it went to when that port is PFL. -/
  port : Nat
  fid : Option Nat
  /-- Requester ID and tag on the far side. -/
  rid : Nat
  tag : Nat
  /-- Requester ID, tag and port on the near side, restored at the completion. -/
  nearRid : Nat
  nearTag : Nat
  nearPort : Nat
  part : Nat
  /-- Source partition and window of a translated request; it counts for both partitions (R125). -/
  srcPart : Nat
  window : Option Nat
  steer : Option Nat
  fn : Option Fn
  kind : Kind
  queue : Nat
  addr : Nat
  remaining : Nat
  /-- As in Item: the bytes to be returned of a swapped read (R127). -/
  swap : Nat
  wantAddr : Nat
  wantLen : Nat
  /-- Fabric header of the request as it arrived. -/
  nearFab : Option FabHdr
  /-- Completions of a later piece, held until every earlier piece has been returned (R129). -/
  held : List Tlp
  sentAt : Nat
  /-- A synthetic completion has answered it: the real one is late (R94, R123, R232, R322). -/
  answered : Bool
  /-- The source has had its last completion: what this piece returns is discarded (R129). -/
  spent : Bool
  /-- Steering entry of the VF that issued it (R104). -/
  vf : Option Nat
deriving DecidableEq, Repr

/-- The tailings journal of a partition (R235–R239, Table 8.9). -/
structure Journal where
  base : Nat
  consAddr : Nat
  entries : Nat
  portLimit : Nat
  sharedLimit : Nat
  vector : Nat
  viaMgr : Bool
  /-- Entries written since the ring was set: the next entry's index. -/
  index : Nat
  prod : W32
  cons : W32
  lost : Nat
  /-- Source of each entry not consumed yet, oldest first: its port, 96 the RMA function, 127 the shared slots. -/
  owed : List Nat
deriving DecidableEq, Repr

/-- LSTATE of a PCI Express link (Table 11.11). -/
inductive LState where
  | disabled | detect | polling | config | l0 | recovery | l0s | l1 | l2 | hotReset | loopback | dpc
deriving DecidableEq, Repr

/-- PCI Express and sideband state of one port (Table 11.11, chapter 11). -/
structure Pcie where
  /-- Events at the port that have no meaning under its personality (R41). -/
  stray : Nat
  lstate : LState
  negWidth : Nat
  flit : Bool
  reversed : Bool
  downtrained : Bool
  partnerRate : Nat
  curRate : Nat
  targetRate : Nat
  retrains : Nat
  /-- SB_FUNC: nibble 3u + j is the function of pin j of unit u. -/
  sbFunc : BitVec 48
  sbLevel : BitVec 12
  prsnt : Bool
  attn : Nat
  pwr : Nat
  perstOut : Bool
  /-- Power-good time t1 of Table 11.5; PERST_N_OUT is released PERST_DELAY_MS after it. -/
  pgAt : Option Nat
  dpc : Bool
  /-- DPC Trigger Reason. -/
  dpcReason : Nat
  perstDelayMs : Nat
  /-- A new PERST_DELAY_MS applies at the next power-on (R320). -/
  perstDelayNext : Nat
  cplTimeoutMs : Nat
  cplTimeouts : Nat
  lateCpl : Nat
  tagUr : Nat
  ptmOfs : BitVec 64
  ptmEnable : Bool
  intStatus : BitVec 5
  intMask : BitVec 5
  /-- Slot events of the bridge (R315): Power Fault Detected, Attention Button Pressed, Presence Detect Changed,
  Data Link Layer State Changed. -/
  powerFault : Bool
  buttonPressed : Bool
  presenceChanged : Bool
  dlChanged : Bool
  wakeIn : Bool
  pmePending : Bool
  wakeOut : Bool
  /-- CLKREQ_N asserted by the partner, and L1 PM Substates enabled (R326). -/
  clkreq : Bool
  l1ss : Bool
  /-- PME_Turn_Off forwarded and acknowledged (R324). -/
  pmeOff : Bool
  pmeAck : Bool
  /-- Transmit credit left, header and data, for P, NP, CPL. -/
  txHdr : List Nat
  txData : List Nat
  /-- Data credit in units of 16 B and header credit that has not been sent to the partner, credit of shared blocks taken
  back that is withheld from what is freed next, and when the last UpdateFC left, for P, NP, CPL (R54, R55, R309). -/
  owed : List Nat
  owedHdr : List Nat
  takeBack : List Nat
  takeBackHdr : List Nat
  fcSentAt : List Nat
  /-- UpdateFC messages sent. -/
  fcSent : Nat
  perstIn : Bool
  perstInReleasedAt : Nat
  dsn : Option Nat
deriving DecidableEq, Repr

/-- Settings of one shaped queue (Table 10.4): rates in Mb/s, sizes in 256 B units. -/
structure Shape where
  shaped : Bool
  cir : Nat
  pir : Nat
  steep : Nat
  cbs : Nat
  pbs : Nat
  smax : Nat
deriving DecidableEq, Repr

/-- One egress queue: settings in force, settings that take effect at the next refill (R295), levels in 1/64 B,
and its last sample (R301). -/
structure EQueue where
  cfg : Shape
  next : Option Shape
  c : Int
  p : Int
  s : Int
  depth : Nat
  delay : Nat
deriving DecidableEq, Repr

/-- QP states (Table 9.7). -/
inductive QpState where
  | init | rts | error | reset
deriving DecidableEq, Repr

/-- A fetched work request that has no completion yet (R266, R268). -/
structure WorkReq where
  wqe : Wqe
  firstPsn : Nat
  psns : Nat
  /-- Segments (or the one request) sent so far. -/
  sent : Nat
  /-- PSNs answered by a placed response, for READ and atomics (R269). -/
  placed : List Nat
  /-- When its entry was fetched (event 0x063). -/
  fetchedAt : Nat
deriving DecidableEq, Repr

/-- A sent segment whose PSN is not acknowledged (R268–R270). -/
structure SentSeg where
  hdr : RmaHdr
  lastSent : Nat
  /-- The last bitmap shows it accepted. -/
  accepted : Bool
  /-- A retransmission is due at this time (RNR_DELAY). -/
  dueAt : Option Nat
deriving DecidableEq, Repr

/-- An accepted segment at the responder, from EPSN onward (R272, R274). -/
structure RxSeg where
  hdr : RmaHdr
  /-- PSNs it occupies: n of a READ_REQ, else 1. -/
  psns : Nat
  complete : Bool
deriving DecidableEq, Repr

/-- A queue pair (Tables 9.7, 9.9, 9.10). -/
structure Qp where
  fn : Fn
  part : Nat
  cqn : Nat
  rspCqn : Nat
  sqBase : Nat
  sqDepth : Nat
  immDepth : Nat
  dbPage : Nat
  pd : Nat
  queue : Nat
  state : QpState
  dstFid : Nat
  dstQpn : Nat
  retryLimit : Nat
  rnrLimit : Nat
  ackTimeout : Nat
  rnrDelayUs : Nat
  reasmTimeout : Nat
  /-- Next PSN to send, total posted SQ_PI, entries fetched, entries with a completion. -/
  nextPsn : Nat
  sqPi : Nat
  fetched : Nat
  completed : Nat
  /-- Entries up to the last one whose completion was written: their slots are free (R262). -/
  freed : Nat
  reqs : List WorkReq
  unacked : List SentSeg
  retries : Nat
  rnrRetries : Nat
  progressAt : Nat
  epsn : Nat
  rx : List RxSeg
  /-- Bytes of the message that EPSN lies in which have completed. -/
  msgBytes : Nat
  lastAtomicPsn : Option Nat
  lastAtomicValue : Nat
  atomicBusy : Bool
  sinceAck : Nat
  uncoveredAt : Option Nat
  epsnAt : Nat
  nakAt : Option Nat
  /-- Duplicate READ_REQs that are being read again (R273). -/
  rereads : List RmaHdr
  /-- Notices written to RSP_CQ for this QP, and how many of them the tenant has consumed. -/
  notices : Nat
  noticesUsed : Nat
  faultSent : Bool
  /-- Status of the request that caused the entry to ERROR, and its first PSN (R279). -/
  errorStatus : Nat
  errorPsn : Option Nat
  /-- Per-QP shaping (R296), with the refill boundary of its last evaluation. -/
  shape : EQueue
  evalAt : Nat
  /-- Ordinal of its last use, while a backing store is configured (R253, R255). -/
  lastUse : Nat
  /-- The range of host memory that the engine has asked to read for the requester and waits for: address and bytes (R268). -/
  reading : Option (Nat × Nat) := none
deriving DecidableEq, Repr

/-- A completion queue (R263). -/
structure Cq where
  fn : Fn
  base : Nat
  depth : Nat
  vector : Nat
  dbPage : Nat
  prod : Nat
  ci : Nat
  armed : Bool
  /-- For each entry not consumed yet: 1 + the QP whose responder notice it is, 0 for a requester entry. -/
  noticeOf : List Nat
  lastUse : Nat
deriving DecidableEq, Repr

/-- A region entry (R257): it keeps its variant after deregistration. -/
structure Region where
  inUse : Bool
  used : Bool
  fn : Fn
  base : Nat
  length : Nat
  pd : Nat
  rights : Nat
  variant : Nat
  lastUse : Nat
deriving DecidableEq, Repr

/-- Limits of a partition (RMA_POOL_SET). -/
structure RmaPool where
  ctxLimit : Nat
  regLimit : Nat
  pageLimit : Nat
deriving DecidableEq, Repr

/-- A Translation Request whose completion has not arrived: the page, the QP that waits, and what for (R366, R367):
0 an entry fetch or source read, 1 the placement of a response, 2 a placement of the responder, 3 a read of the responder,
4 a completion entry. -/
structure AtsAsk where
  fn : Fn
  page : Nat
  qpn : Nat
  use : Nat
  /-- The response that waits to be placed. -/
  held : Option RmaHdr
deriving DecidableEq, Repr

/-- An access waiting for its context or region entry to be fetched (R255). -/
structure MissWait where
  region : Bool
  number : Nat
  since : Nat
  hdr : RmaHdr
  part : Nat
deriving DecidableEq, Repr

/-- RMA engine registers and pools (Table 9.13). -/
structure RmaGlobal where
  ctxBase : Nat
  regBase : Nat
  ctxCount : Nat
  regCount : Nat
  intStatus : BitVec 3
  intMask : BitVec 3
  cntMiss : Nat
  cntEvict : Nat
  cntDup : Nat
  cntStray : Nat
  cntBeyond : Nat
  cntBadDb : Nat
  /-- Uses of contexts and region entries counted so far, for the least recently used. -/
  uses : Nat
  /-- QPN that each slice served last for each QUEUE, at 8 × slice + QUEUE (R296). -/
  lastServed : Tbl Nat
  /-- Entries to ERROR and segments sent, by slice. -/
  qpErrors : List Nat
  segments : List Nat
deriving DecidableEq, Repr

/-- Egress settings of one port (SHP_P_MAP, SHP_P_OVH). -/
structure EPort where
  overhead : Nat
  tcMap : BitVec 24
  /-- OVERHEAD and TC_MAP that take effect at the next refill. -/
  nextMap : Option (Nat × BitVec 24)
  lastQ : Nat
  /-- The item whose cells are being sent. -/
  sending : Option Nat
deriving DecidableEq, Repr

/-- A ring of records in the manager's host memory with its consumed count (R303, R466). -/
structure Ring where
  on : Bool
  base : Nat
  consAddr : Nat
  entries : Nat
  intervalUs : Nat
  vector : Nat
  index : Nat
  prod : W32
  cons : W32
  lost : Nat
  /-- No record has been written since the command. -/
  first : Bool
  /-- Last multiple of the interval that was served. -/
  lastMultiple : Nat
deriving DecidableEq, Repr

/-- Queue sampling (SHP_SMP registers). -/
structure Shp where
  ring : Ring
  portMask : Nat
  regOnly : Bool
  intStatus : BitVec 1
  intMask : BitVec 1
  /-- 125 ns boundaries served so far (R292). -/
  refills : Nat
deriving DecidableEq, Repr

/-- PFL link states (Table 7.4). -/
inductive PflState where
  | disabled | train | cap | step | active | retrain | down | conflict
deriving DecidableEq, Repr

/-- What is left to send of an item's record (R174): the item, its VL, the bytes, and whether a flit has begun it. -/
structure TxRecord where
  item : Nat
  vl : Nat
  bytes : List Byte
  begun : Bool
deriving DecidableEq, Repr

/-- A DATA flit in the replay buffer (R178, R183–R186): what it carries is sent again as it was (R177). -/
structure TxFlit where
  seq : Nat
  vl : Nat
  firstRec : Nat
  payload : List Byte
  /-- Items with bytes in the flit, and those whose record ends in it. -/
  items : List Nat
  ends : List Nat
  firstSent : Nat
  lastSent : Nat
  sentOnce : Bool
  retransmissions : Nat
  /-- It reached LIMIT and caused a fast retrain (R186). -/
  marked : Bool
  /-- A retransmission is due: NAKed (R183), a probe (R184), or the resend of R201 step 6. -/
  due : Bool
  resend : Bool
  probe : Bool
  /-- When it was last retransmitted (R183). -/
  lastResent : Option Nat
deriving DecidableEq, Repr

/-- A flit in the resequencing buffer (R179, R187). -/
structure RxHeld where
  seq : Nat
  vl : Nat
  firstRec : Nat
  payload : List Byte
  items : List Arrival
deriving DecidableEq, Repr

/-- Credit of one combination of VL and class: this port's transmitter and its receiver (R188–R191). -/
structure PflCredit where
  hdrUsed : Nat
  dataUsed : Nat
  hdrFreedRx : Nat
  dataFreedRx : Nat
  grantHdr : Nat
  grantData : Nat
  /-- Counts this port's receiver sends: credit made available since the last full link reset (R190). -/
  hdrFreed : Nat
  dataFreed : Nat
  /-- Since when a change waits to be sent. -/
  changedAt : Option Nat
  /-- Headers and cells received, and the initial grants this port's CAP gave (R191, R193). -/
  hdrRx : Nat
  dataRx : Nat
  rxHdr : Nat
  rxData : Nat
  /-- Shared blocks held, in cells and descriptors, what is taken back of freed credit, and when a block last came into use
  (R190, R191). -/
  sharedCells : Nat
  takeBack : Nat
  sharedHdr : Nat
  takeBackHdr : Nat
  blockUsedAt : Nat
deriving DecidableEq, Repr

/-- A control message waiting to be sent (Table 7.2). -/
inductive Ctl where
  | cap | capAck (serial : BitVec 64) | retrainReq (full : Bool) (cause width maxRate : Nat) | retrainAck (full : Bool)
  | idleNotice | downNotice (cause : Nat) | timeReq (seq : Nat) | timeResp (seq t2 : Nat)
deriving DecidableEq, Repr

/-- A PFL port's link layer (chapter 7, Table 7.9). -/
structure Plk where
  state : PflState
  causeC : Nat
  enteredAt : Nat
  txIdle : Bool
  rxIdle : Bool
  partnerFid : Nat
  partnerPort : Nat
  partnerValid : Bool
  partnerSerial : BitVec 64
  partnerFw : W32
  partnerRate : Nat
  /-- What the partner's last CAP said, before the exchange completes (R196, R198). -/
  capFid : Nat
  capPort : Nat
  capSerial : BitVec 64
  capFw : W32
  /-- The link is held in CONFLICT for a duplicate FID (R217). -/
  dupHeld : Bool
  gotAck : Bool
  gotCap : Bool
  capSentAt : Nat
  rate : Nat
  rxPool : Nat
  rxMin : List Nat
  ackAdapt : Bool
  idleEn : Bool
  idleEntryUs : Nat
  restartMs : Nat
  limit : Nat
  ackSetNs : Nat
  ackNs : Nat
  /-- Sum of the first samples, then the average, in 1/16 ns. -/
  rtt16 : Nat
  samples : Nat
  txNext : Nat
  replay : List TxFlit
  rxNext : Nat
  held : List RxHeld
  /-- Largest d + 1 seen since RX_NEXT was reached (R180). -/
  seen : Nat
  forceAck : Bool
  /-- When the transmitter last entered electrical idle (R208), and a lock lost while the partner's direction was idle
  (R207). -/
  idleAt : Nat
  lostInIdle : Bool
  /-- Record stream of the items released for the link (R174, R194). -/
  stream : List TxRecord
  /-- The bytes received of a record that has not ended, by VL (R174, R175). -/
  rxParts : Tbl (List Byte)
  /-- Items delivered by the link layer that have not passed panel lookup (R187). -/
  delivered : List Arrival
  credits : Tbl PflCredit
  refreshAt : Nat
  lastGood : Nat
  retrainAt : Nat
  retrainCause : Nat
  leading : Bool
  reqSentAt : Nat
  acked : Bool
  ctl : List Ctl
  quietSince : Nat
  lastCause : Nat
  downTime : BitVec 64
  badFlits : Nat
  replays : Nat
  probes : Nat
  dups : Nat
  beyond : Nat
  fastRetrains : Nat
  linkDowns : Nat
  discarded : Nat
  intStatus : BitVec 6
  intMask : BitVec 6
  goSent : Nat
  fromRecord : Bool
  timeSeq : Nat
  timeT1 : Nat
deriving DecidableEq, Repr

/-- One serial lane (Table 12.16). -/
structure Lane where
  rate : Nat
  rxLock : Bool
  polInv : Bool
  txIdle : Bool
  rxIdle : Bool
  adapt : Nat
  fromRecord : Bool
  preset : Nat
  pre : Nat
  post : Nat
  partnerPreset : Nat
  ctle : Nat
  vga : Nat
  dfe1 : Nat
  il : Nat
  lengthMm : Nat
  cls : Nat
  measRate : Nat
  measValid : Bool
  skew : Int
  skewWarn : Bool
  pattern : Nat
  userPattern : BitVec 64
  loopback : Nat
  genOn : Bool
  chkOn : Bool
  noGray : Bool
  inTest : Bool
  locked : Bool
  eyeBusy : Bool
  eyeDone : Bool
  lockLosses : Nat
  bits : Nat
  errors : Nat
  eye : W32
  eyeTarget : Nat
  inject : Nat
  rxLosses : Nat
  intStatus : BitVec 4
  intMask : BitVec 4
  /-- READY sets received in a row, GO sets received, at the rung under way (Table 12.4). -/
  readyRun : Nat
  goRun : Nat
  asked : Bool
deriving DecidableEq, Repr

/-- One clock pair (Tables 11.9, 12.17): the receiver side and the gate; CKT follows the ports. -/
structure ClockPair where
  ckrFreq : Nat
  ckrLock : Bool
  ckrPolInv : Bool
  ckrLosses : Nat
deriving DecidableEq, Repr

/-- An equalization record in MRAM (R347). -/
structure EqRecord where
  port : Nat
  partner : Nat
  width : Nat
  rate : Nat
  cls : Nat
  writtenAt : Nat
  usedAt : Nat
  /-- Per lane: transmit preset and loss estimate; receiver settings CTLE, VGA, DFE1. -/
  lanes : List (Nat × Nat × Nat × Nat × Nat)
deriving DecidableEq, Repr

/-- One path of a route (R221): a PFL port with its weight. -/
structure FabPath where
  port : Nat
  weight : Nat
  /-- A ROUTE item UNREACH has withdrawn it (R224). -/
  withdrawn : Bool
  /-- Cells queued toward the port, newest first, one sample each 1 µs, the last 1,000 (R223). -/
  samples : List Nat
deriving DecidableEq, Repr

/-- A flow bucket that has sent (R222): its path, when it last sent, until when it may not send. -/
structure Bucket where
  path : Nat
  lastSent : Nat
  guardUntil : Nat
deriving DecidableEq, Repr

/-- The route to a FID (R221–R223). -/
structure FabRoute where
  adapt : Bool
  paths : List FabPath
  /-- Samples taken since the route was set, up to 1,000. -/
  sampled : Nat
  buckets : Tbl Bucket
  /-- The deal in force: ports and weights (R222). -/
  deal : List (Nat × Nat)
  /-- Moves that a path's death made of buckets that had not sent: the deal before, the port, the end of their guard (R222). -/
  died : List (List (Nat × Nat) × Nat × Nat)
deriving DecidableEq, Repr

/-- An advert held (R215), by FID and serial. -/
structure HeldAdvert where
  adv : Advert
  port : Nat
  heldAt : Nat
deriving DecidableEq, Repr

/-- A command relayed to another device that has no reply yet (R226). -/
structure Relay where
  fid : Nat
  op : Nat
  cmd : Cmd
  sentAt : Nat
deriving DecidableEq, Repr

/-- The first synthetic completion since SYNTH was last clear (FAB_SYNTH_INFO). -/
structure SynthInfo where
  reqId : Nat
  fid : Nat
  port : Nat
deriving DecidableEq, Repr

/-- Fabric mode (Table 8.9): adverts, routes, time, counters, parameters. -/
structure Fab where
  priority : Nat
  reach : BitVec 32
  dup : BitVec 32
  advSeq : Nat
  advSentAt : Nat
  /-- A link state has changed since the last advert. -/
  advDue : Bool
  adverts : List HeldAdvert
  routes : Tbl FabRoute
  /-- FIDs for which an UNREACH has been sent and no REACH since. -/
  unreachSent : BitVec 32
  masterValid : Bool
  masterFid : Nat
  timeLocked : Bool
  parentPort : Nat
  hops : Nat
  holdover : Bool
  holdoverAt : Nat
  /-- The parent link has failed and no new parent is taken yet (R243). -/
  parentLost : Bool
  offsetPs : Int
  goodOffsets : Nat
  badOffsets : Nat
  parentLocked : Bool
  /-- Nanoseconds still to be slewed (R241). -/
  slew : Int
  reqAt : Nat
  intStatus : BitVec 8
  intMask : BitVec 8
  cntSynth : Nat
  synthInfo : SynthInfo
  cntLate : Nat
  cntNoPart : Nat
  guardUs : Nat
  vlMap : Nat
  relays : List Relay
  /-- Posted items sent toward a FID: FID, partition, time; the last 1 ms is what R233 counts. -/
  sentPosted : List (Nat × Nat × Nat)
deriving DecidableEq, Repr

/-- States of a slot-power channel (Table 15.3). -/
inductive SpwState where
  | off | precharge | ramp | qualify | on | wait | latched | shutdown
deriving DecidableEq, Repr

/-- One slot-power channel (Tables 15.2, 15.8). -/
structure Spw where
  fitted : Bool
  warnEn : Bool
  feed : Nat
  clRatio : Nat
  ftRatio : Nat
  rampRate : Nat
  vCb : Nat
  pgDrop : Nat
  rsense : Nat
  faultUs : Nat
  pgDelayUs : Nat
  uvTh : Nat
  ovTh : Nat
  warnTh : Nat
  retryCount : Nat
  retryDuty : Nat
  retryMinMs : Nat
  avgMs : Nat
  state : SpwState
  /-- The gate is in current limit. -/
  ilim : Bool
  timerUs : Nat
  timerRun : Bool
  pg : Bool
  warn : Bool
  retriesLeft : Nat
  trips : Nat
  /-- Entry to PRECHARGE of the attempt under way, entry to the present state (ns). -/
  attemptAt : Nat
  enteredAt : Nat
  /-- End of the wait of R421; none after a UV or OV trip (R422). -/
  waitUntil : Option Nat
  iMa : Int
  vin : Nat
  vout : Nat
  sense : Int
  vgs : Nat
  /-- Sum of instantaneous power (µW) over the samples of the present millisecond, their number, and the sums of
  the earlier milliseconds of the window, newest first. -/
  acc : Int
  accN : Nat
  msSums : List Int
  pAvg : Int
  pValid : Bool
  /-- Energy in units of 10 pJ. -/
  energy : Int
  tripCause : Nat
  tripState : Nat
  tripValid : Bool
  tripI : Int
  tripTime : BitVec 64
  intStatus : BitVec 5
  intMask : BitVec 5
  /-- Consecutive feed samples below WARN_TH, and since when a named feed has been above WARN_TH + 0.3 V. -/
  lowFeed : Nat
  highSince : Option Nat
  /-- SPW_ON or Power Controller Control came during SHUTDOWN: the channel is switched on when SHUTDOWN ends (R431, Table
  15.3). -/
  onAfter : Bool
deriving DecidableEq, Repr

/-- The backplane feeds and VGATE, in mV (Table 15.8). -/
structure Feeds where
  vinA : Nat
  vinB : Nat
  vgate : Nat
deriving DecidableEq, Repr

/-- One shaft direction (R13, R442): spares used, data lanes failed beyond them, recent CRC errors (lane, time). -/
structure Shaft where
  spares : Nat
  failed : Nat
  errors : List (Nat × Nat)
  replays : Nat
deriving DecidableEq, Repr

/-- A memory's spare rows (Table 16.4): used, and rows out of service. -/
structure Spares where
  used : Nat
  out : Nat
deriving DecidableEq, Repr

/-- A row scheduled for retirement (R443). Memory 0 the output buffer, 1–8 the panels' ingress memory, 9 the caddy die,
10 the other core-die memories. -/
structure RowPlan where
  memory : Nat
  row : Nat
  /-- Cells of the row still holding items. -/
  busy : Nat
deriving DecidableEq, Repr

/-- Faults, canary and throttle (Tables 16.11, 21.5). -/
structure Can where
  grade : Nat
  repl : Bool
  baseline : Bool
  fault : Bool
  cause : Nat
  /-- Grade of each input, 0–9. -/
  grades : List Nat
  /-- Since when every input has stayed below grade 1 and below grade 2 (R447). -/
  below1 : Option Nat
  below2 : Option Nat
  firstEval : Option Nat
  eccCorr : Nat
  eccItem : Nat
  eccStruct : Nat
  /-- Corrected errors by time, newest first, two hours of them (input 0). -/
  eccLog : List (Nat × Nat)
  spares : Tbl Spares
  plans : List RowPlan
  retired : Nat
  shafts : Tbl Shaft
  mramWear : Nat
  mramRetired : Nat
  /-- Times of KME restarts, uncorrectable partition-fatal faults, and link retrains by port (inputs 3, 8, 9). -/
  restarts : List Nat
  fatalTimes : List Nat
  linkEvents : List (Nat × Nat)
  deviceFault : Bool
  /-- Table entries lost in both their copies and not rewritten yet (R444). -/
  lostEntries : List FaultCause
  intStatus : BitVec 5
  intMask : BitVec 5
  partFatal : BitVec 64
  /-- Next SEQ of the black box, cold resets since manufacture, and per KIND the last write and what was suppressed. -/
  nextSeq : Nat
  boots : Nat
  kindAt : Tbl Nat
  suppressed : Tbl Nat
  tjLast : Nat
deriving DecidableEq, Repr

/-- Throttling (R541, R542, Table 21.5). -/
structure Throttle where
  level : Nat
  temp : Bool
  power : Bool
  emergency : Bool
  entries : Nat
  pkgPower : Nat
  tjMax : Nat
  hotDie : Nat
  updatedAt : Nat
deriving DecidableEq, Repr

/-- One counter (R458): a value that has passed 2^48 in OVF mode waits for its overflow (R463). -/
structure Counter where
  value : Nat
  ovf : Bool
  sel : W32
  period : Nat
  portSel : Nat
deriving DecidableEq, Repr

/-- A tagged item on its way (R468, R469). -/
structure Tagged where
  tagId : Nat
  item : Nat
  tIn : Nat
  /-- D1–D7, ns after T_IN, where reached. -/
  stamps : List (Option Nat)
  ovf : Option Nat
deriving DecidableEq, Repr

/-- Dumps, overflow records and tagging (Table 17.12). -/
structure Cnt where
  dump : Ring
  global : Bool
  portMask : Nat
  seq : Nat
  skipped : Bool
  /-- SEQ of the last dump written. -/
  lastWritten : Option Nat
  /-- Blocks of that dump, and blocks whose counters were programmed since: port n, 128 + i the global blocks (R467). -/
  lastBlocks : List Nat
  staleBlocks : List Nat
  tag : Ring
  rateLog2 : Nat
  classMask : Nat
  part : Nat
  tagOnOvf : Bool
  randomOff : Bool
  tagPortMask : Nat
  seed : Nat
  tags : List Tagged
  /-- Counters that owe an item a tag (R464): port * 64 + counter. -/
  tagOwed : List Nat
  intStatus : BitVec 3
  intMask : BitVec 3
  ovfPort : Nat
  ovfCounter : Nat
  ovfTime : BitVec 64
deriving DecidableEq, Repr

/-- A mailbox after reset (Table 14.6). (DESIGN CHOICE, log entry 8) -/
def mbxReset : Mbx :=
  { state := .idle, mem := [], intStatus := 0, intMask := 0, lastSeq := 0, lastStatus := 0,
    prod := 0, cons := 0, submittedAt := 0, starveMs := 5, starved := false }

/-- An MSI-X entry after reset: masked, address and data 0 (R364). -/
def msixReset : MsixVec := { addr := 0, data := 0, masked := true, pending := false }

/-- The KME after cold reset (Table 14.13). -/
def kmeReset : Kme :=
  { running := false, imageB := false, fallback := false, clk100 := true, restarts := 0,
    lastOp := 0, lastSource := 0, lastStatus := 0, lastSeq := 0, admitted := 0,
    starveMs := 5, lockGap := 10, lockMaxMs := 100, lock := none, expired := [],
    starveCount := 0, lastStarved := 0, intStatus := 0, intMask := 0, crcSmbus := 0, crcAdit := 0,
    dropped := 0, duplicates := 0, eid := 0, undelivered := 0, held := [], execs := [],
    roundRobin := [], last := [], smbReplies := [] }

/-- A port unit after reset: OFF, no width, link enabled, held by PART0 (Table 2.5, R29). -/
def portReset : Port :=
  { personality := .off, width := 0, maxRate := 0, sris := false, hotplug := false, clkout := false,
    absorbedBy := none, enabled := true, holder := 0, bridge := none }

/-- Buffer settings after reset: class minima of 64 cells, α code 4 (Table 3.10). -/
def bufReset : PortBuf :=
  { minP := 64, minNp := 64, minCpl := 64, alpha := 0x924924, sharedP := 0, sharedNp := 0, sharedCpl := 0,
    sharedUsedAt := 0, grantPtr := 0, acceptPtr := 0, before := none }

/-- A DSP lock after reset (Table 3.10). -/
def lockReset : PortLock :=
  { state := .unlocked, owner := 0, since := 0, timeoutMs := 10, timeouts := 0, lockUr := 0 }

/-- The switch core after reset (Tables 3.8, 3.9). -/
def xbrReset : Xbr :=
  { enabled := false, enabledAt := 0, auditMs := 100, maxresMs := 10, lockTimeoutMs := 10, passes := 0,
    reclaimedLast := 0, mismatch := false, running := false, passDue := false, lastStart := none,
    passAuditMs := 100, passMaxresMs := 10, rerun := false,
    reclaimedTotal := 0, first := { cell := 0, port := 0, queue := 0, cls := 0 }, firstTime := 0,
    panelLast := 0, panelFirst := 0, intStatus := 0, intMask := 0, lost := [], cellTime := 0, voqLast := [] }

/-- A FREE tenant partition (Table 4.11). -/
def partFree : Part :=
  { state := .free, fabric := false, vfSteered := false, rmaP2p := false, quiesceReq := false,
    dsbCount := 0, actEntries := 0, capturedBus := 0, blockedCfg := 0, quiesceSince := 0,
    quiesceTimeoutMs := 10, activeSince := 0, home := none, remoteUsp := none }

/-- PART0: always ACTIVE, with 96 bridges (R83, R85). -/
def partZero : Part := { partFree with state := .active, dsbCount := 96 }

/-- A segment of a FREE partition (Table 6.5). (DESIGN CHOICE, log entry 7) -/
def segReset : Seg :=
  { state := .none, entries := [], epoch := 0, gen := 0, disabledAt := 0, stallLong := false, vector := 0xFFFF,
    violCount := 0, violAddr := 0, violReason := 0, violType := 0, violPosted := false, violValid := false,
    violRid := 0, multiA := 0, multiB := 0 }

/-- A free window (Table 5.4). -/
def windowFree : Window :=
  { valid := false, srcPart := 0, dstPart := 0, srcOffset := 0, size := 0, dstBase := 0, mode := 0, unit := 0,
    read := false, write := false, doorbell := false, maxPayload := 0, errVector := 0, dbVector := 0,
    cplTimeoutMs := 0, errCount := 0, errAddr := 0, errReason := 0, errValid := false, errRid := 0,
    cplTimeouts := 0, dbStatus := 0, dbMask := 0 }

/-- A removed mapper entry (Table 5.7). -/
def tlmReset : TlmEntry :=
  { enable := false, srcIpmb := false, dstIpmb := false, signed := false, srcBe := false, shift := 0, srcId := 0,
    ipmbSa := 0, ipmbNetfn := 0, ipmbCmd := 0, matchOffset := 0, matchValue := 0, fieldByte := 0, fieldLsb := 0,
    fieldWidth := 0, m := 0, b := 0, dstId := 0, dstSize := 0, maxAgeMs := 0, value := 0, srcValid := false,
    saturated := false, evals := 0, evalAt := none }

/-- A function of the S96 after reset (chapter 13). Completion timeout 50 ms (R376); both internal errors
masked, Malformed TLP and Uncorrectable Internal Error fatal (Table 13.6). -/
def funcReset : Func :=
  { mse := false, bme := false, d3hot := false, mailboxBar := 0, queueBar := 0, windowBar := 0, atsEnable := false,
    vfEnable := false, numVfs := 0, vfMailboxBar := 0, vfQueueBar := 0, cplTimeoutNs := 50000000,
    aerUncor := 0, aerUncorMask := 0x400000, aerSeverity := 0x440000, aerCor := 0,
    aerCorMask := 0x6000, devControl := 0,
    flr := .idle, flrEnded := 0, lateCpl := 0, cqLost := 0, oldTags := [], raw := [] }

/-- No black box, no snapshot: an invalid copy. -/
def snapshotNone : Snapshot := { valid := false, fwLevel := 0, saveSeq := 0, time := 0, packets := [] }

/-- A steering entry that is free. -/
def steerFree : Steer :=
  { away := none, port := 0, bridge := 0, pfRid := 0, vfIndex := 0, func := 0, part := 0, realRid := 0, mse := false, bme := false,
    bars := [], fenced := false, fencedAt := 0, timeoutMs := 10, retryUntil := 0, muted := 0 }

/-- A journal that is not set: ENTRIES 0 (R238). (DESIGN CHOICE, log entry 7) -/
def journalNone : Journal :=
  { base := 0, consAddr := 0, entries := 0, portLimit := 64, sharedLimit := 0, vector := 0xFFFF, viaMgr := false,
    index := 0, prod := 0, cons := 0, lost := 0, owed := [] }

/-- PCI Express state of a port after reset (Table 11.11): PERST_N_OUT asserted, timers at their defaults.
(DESIGN CHOICE, log entry 7) -/
def pcieReset : Pcie :=
  { lstate := .disabled, negWidth := 0, flit := false, reversed := false, downtrained := false, partnerRate := 0,
    curRate := 0, targetRate := 0, retrains := 0, sbFunc := 0, sbLevel := 0, prsnt := false, attn := 0, pwr := 0,
    perstOut := true, pgAt := none, dpc := false, dpcReason := 0, perstDelayMs := 100, perstDelayNext := 100, cplTimeoutMs := 50,
    stray := 0, cplTimeouts := 0, lateCpl := 0, tagUr := 0, ptmOfs := 0, ptmEnable := false, intStatus := 0, intMask := 0,
    powerFault := false, buttonPressed := false, presenceChanged := false, dlChanged := false, wakeIn := false,
    pmePending := false, wakeOut := false, clkreq := false, l1ss := false, pmeOff := false, pmeAck := false,
    txHdr := [0, 0, 0], txData := [0, 0, 0], owed := [0, 0, 0], owedHdr := [0, 0, 0], takeBack := [0, 0, 0],
      takeBackHdr := [0, 0, 0], fcSentAt := [0, 0, 0], fcSent := 0, perstIn := false,
    perstInReleasedAt := 0, dsn := none }

/-- A virtual bridge after reset (R555): command 0, buses 0, every window closed, Max_Payload_Size 128 B (code 0),
Max_Read_Request_Size 512 B (code 2), ACS and Bridge Control 0. (DESIGN CHOICE, log entry 7) -/
def bridgeReset : VBridge :=
  { primary := 0, secondary := 0, subordinate := 0, memBase := 0xFFF00000, memLimit := 0x000FFFFF,
    prefBase := 0xFFFFFFFFFFF00000, prefLimit := 0x00000000000FFFFF, ioBase := 0xFFFFF000, ioLimit := 0x00000FFF,
    mse := false, iose := false, bme := false, acs := 0, egressVector := 0, bridgeControl := 0, mps := 0, mrrs := 2,
    linkControl := 0, linkControl2 := 0, slotControl := 0, slotStatus := 0, dpcControl := 0, aerUncor := 0, aerMask := 0,
    bandwidthNotice := false, raw := [] }

/-- RMA engine after reset (Table 9.13). -/
def rmaReset : RmaGlobal :=
  { ctxBase := 0, regBase := 0, ctxCount := 0, regCount := 0, intStatus := 0, intMask := 0, cntMiss := 0,
    cntEvict := 0, cntDup := 0, cntStray := 0, cntBeyond := 0, cntBadDb := 0, uses := 0, lastServed := [], qpErrors := [0, 0, 0, 0],
    segments := [0, 0, 0, 0] }

/-- A region index never used: it starts at variant 0 (R257). -/
def regionReset : Region :=
  { inUse := false, used := false, fn := .mgr, base := 0, length := 0, pd := 0, rights := 0, variant := 0, lastUse := 0 }

/-- The limits of a partition at PART_CREATE (R285). -/
def poolReset : RmaPool := { ctxLimit := 0, regLimit := 0, pageLimit := 0 }

/-- Unshaped, with the reset sizes of Table 10.7. -/
def shapeReset : Shape := { shaped := false, cir := 0, pir := 0, steep := 0, cbs := 64, pbs := 64, smax := 64 }

/-- A queue after reset: C and P full (0x40 × 256 B, in 1/64 B), S 0 (R293). -/
def equeueReset : EQueue :=
  { cfg := shapeReset, next := none, c := 1048576, p := 1048576, s := 0, depth := 0, delay := 0 }

/-- Egress settings after reset: OVERHEAD 24, TC n to Qn (R294). -/
def eportReset : EPort := { overhead := 24, tcMap := 0xFAC688, nextMap := none, lastQ := 0, sending := none }

/-- A ring that is off. (DESIGN CHOICE, log entry 7) -/
def ringOff (interval : Nat) : Ring :=
  { on := false, base := 0, consAddr := 0, entries := 0, intervalUs := interval, vector := 0xFFFF, index := 0,
    prod := 0, cons := 0, lost := 0, first := true, lastMultiple := 0 }

/-- Queue sampling after reset: off, INTERVAL_US 1,000. -/
def shpReset : Shp :=
  { ring := ringOff 1000, portMask := 0, regOnly := false, intStatus := 0, intMask := 0, refills := 0 }

/-- A PFL port whose registers read 0 (R212): the state of a port that is not PFL. -/
def plkReset : Plk :=
  { state := .disabled, causeC := 0, enteredAt := 0, txIdle := false, rxIdle := false, partnerFid := 0,
    partnerPort := 0, partnerValid := false, partnerSerial := 0, partnerFw := 0, partnerRate := 0, capFid := 0,
    capPort := 0, capSerial := 0, capFw := 0, dupHeld := false, gotAck := false,
    gotCap := false, capSentAt := 0, rate := 0, rxPool := 0, rxMin := [0, 0, 0], ackAdapt := false, idleEn := false,
    idleEntryUs := 0, restartMs := 0, limit := 0, ackSetNs := 0, ackNs := 0, rtt16 := 0, samples := 0, txNext := 0,
    replay := [], rxNext := 0, held := [], seen := 0, forceAck := false, idleAt := 0,
    lostInIdle := false, stream := [], rxParts := [], delivered := [], credits := [], refreshAt := 0,
    lastGood := 0, retrainAt := 0, retrainCause := 0, leading := false, reqSentAt := 0,
    acked := false, ctl := [], quietSince := 0, lastCause := 0,
    downTime := 0, badFlits := 0, replays := 0, probes := 0, dups := 0, beyond := 0, fastRetrains := 0,
    linkDowns := 0, discarded := 0, intStatus := 0, intMask := 0, goSent := 0,
    fromRecord := false, timeSeq := 0, timeT1 := 0 }

/-- Credit counts after a full link reset. -/
def creditReset : PflCredit :=
  { hdrUsed := 0, dataUsed := 0, hdrFreedRx := 0, dataFreedRx := 0, grantHdr := 0, grantData := 0, hdrFreed := 0,
    dataFreed := 0, changedAt := none, hdrRx := 0, dataRx := 0, rxHdr := 0, rxData := 0, sharedCells := 0, takeBack := 0,
    sharedHdr := 0, takeBackHdr := 0, blockUsedAt := 0 }

/-- A lane after reset (Table 12.16): PARTNER_PRESET 0xFF unknown. -/
def laneReset : Lane :=
  { rate := 0, rxLock := false, polInv := false, txIdle := false, rxIdle := false, adapt := 0, fromRecord := false,
    preset := 0, pre := 0, post := 0, partnerPreset := 0xFF, ctle := 0, vga := 0, dfe1 := 0, il := 0, lengthMm := 0,
    cls := 0, measRate := 0, measValid := false, skew := 0, skewWarn := false, pattern := 0, userPattern := 0,
    loopback := 0, genOn := false, chkOn := false, noGray := false, inTest := false, locked := false,
    eyeBusy := false, eyeDone := false, lockLosses := 0, bits := 0, errors := 0, eye := 0, eyeTarget := 0, inject := 0,
    rxLosses := 0, intStatus := 0, intMask := 0, readyRun := 0, goRun := 0, asked := false }

/-- A clock pair after reset. -/
def clockPairReset : ClockPair :=
  { ckrFreq := 0, ckrLock := false, ckrPolInv := false, ckrLosses := 0 }

/-- A route that is not set. -/
def routeNone : FabRoute := { adapt := false, paths := [], sampled := 0, buckets := [], deal := [], died := [] }

/-- A bucket that has sent nothing. -/
def bucketNone : Bucket := { path := 0, lastSent := 0, guardUntil := 0 }

/-- Fabric after reset (Table 8.9): PRIORITY 128, ROUTE_GUARD_US 20, the default queue map of R219. -/
def fabReset : Fab :=
  { priority := 128, reach := 0, dup := 0, advSeq := 0, advSentAt := 0, advDue := false, adverts := [], routes := [],
    unreachSent := 0, masterValid := false, masterFid := 0, timeLocked := false, parentPort := 0x7F, hops := 0,
    holdover := false, holdoverAt := 0, parentLost := false, offsetPs := 0, goodOffsets := 0, badOffsets := 0,
    parentLocked := false, slew := 0, reqAt := 0, intStatus := 0, intMask := 0, cntSynth := 0,
    synthInfo := { reqId := 0, fid := 0, port := 0 }, cntLate := 0, cntNoPart := 0, guardUs := 20, vlMap := 0xA500,
    relays := [], sentPosted := [] }

/-- A channel after cold reset (Table 15.8): not FITTED, OFF, the defaults of Table 15.2. -/
def spwReset : Spw :=
  { fitted := false, warnEn := false, feed := 0, clRatio := 1, ftRatio := 8, rampRate := 6, vCb := 100, pgDrop := 5,
    rsense := 1000, faultUs := 5000, pgDelayUs := 100, uvTh := 8500, ovTh := 14500, warnTh := 10000, retryCount := 3,
    retryDuty := 1, retryMinMs := 100, avgMs := 100, state := .off, ilim := false, timerUs := 0, timerRun := false,
    pg := false, warn := false, retriesLeft := 3, trips := 0, attemptAt := 0, enteredAt := 0, waitUntil := none,
    iMa := 0, vin := 0, vout := 0, sense := 0, vgs := 0, acc := 0, accN := 0, msSums := [], pAvg := 0, pValid := false,
    energy := 0, tripCause := 0, tripState := 0, tripValid := false, tripI := 0, tripTime := 0, intStatus := 0,
    intMask := 0, lowFeed := 0, highSince := none, onAfter := false }

/-- No spare used. -/
def sparesReset : Spares := { used := 0, out := 0 }

/-- A shaft direction with every data lane working. -/
def shaftReset : Shaft := { spares := 0, failed := 0, errors := [], replays := 0 }

/-- The canary after cold reset (Table 16.11). -/
def canReset : Can :=
  { grade := 0, repl := false, baseline := false, fault := false, cause := 0, grades := [0, 0, 0, 0, 0, 0, 0, 0, 0, 0],
    below1 := none, below2 := none, firstEval := none, eccCorr := 0, eccItem := 0, eccStruct := 0, eccLog := [],
    spares := [], plans := [], retired := 0, shafts := [], mramWear := 0, mramRetired := 0, restarts := [],
    fatalTimes := [], linkEvents := [], deviceFault := false, lostEntries := [], intStatus := 0, intMask := 0, partFatal := 0,
    nextSeq := 0, boots := 0, kindAt := [], suppressed := [], tjLast := 0 }

/-- No throttling (Table 21.5). -/
def throttleReset : Throttle :=
  { level := 0, temp := false, power := false, emergency := false, entries := 0, pkgPower := 0, tjMax := 0, hotDie := 0,
    updatedAt := 0 }

/-- A counter after reset: event NONE, FREE mode, 0 (R462). -/
def counterReset : Counter := { value := 0, ovf := false, sel := 0, period := 0, portSel := 0 }

/-- Dumps and tagging after reset (Table 17.12): off, INTERVAL_US 1,000. -/
def cntReset : Cnt :=
  { dump := ringOff 1000, global := false, portMask := 0, seq := 0, skipped := false, lastWritten := none, lastBlocks := [],
    staleBlocks := [],
    tag := ringOff 0, rateLog2 := 0, classMask := 0, part := 0, tagOnOvf := false, randomOff := false, tagPortMask := 0,
    seed := 0, tags := [], tagOwed := [], intStatus := 0, intMask := 0, ovfPort := 0, ovfCounter := 0, ovfTime := 0 }

/-- Everything the S96 sends out, newest first (the log of Machine/State.lean's `out`). -/
inductive Output where
  /-- An MSI-X write of a function's vector (R364). -/
  | msix (fn : Fn) (vector : Nat) (addr : Nat) (data : W32)
  /-- A command message on a byte-stream transport: kind 2 reply, 3 notice, others MCTP control or IPMB. -/
  | message (dest : Source) (kind : Nat) (bytes : List Byte)
  /-- Text on the adit port. -/
  | text (line : String)
  /-- An item leaves by a port; with its fabric header on a PFL port. -/
  | item (port : Nat) (tlp : Tlp) (fab : Option FabHdr)
  /-- A write of the S96 into host memory through a port: journal, ring, completion queue, notice (R235, R263, R303). -/
  | hostWrite (port : Nat) (addr : Nat) (bytes : List Byte)
  /-- A read of the S96 from host memory: work requests, consumer counts, backing-store slots, images. -/
  | hostRead (port : Nat) (addr : Nat) (len : Nat)
  /-- A write (or read) of a home slot of the backing store: of a region entry or a context, its number, its address (R255). -/
  | backing (write region : Bool) (number : Nat) (addr : Nat)
  /-- Zeros into the resident and home slots of the unused entries of a range (CTX_ZERO): of region entries or contexts. -/
  | zeroSlots (region : Bool) (first count : Nat)
  /-- An RMA item enters the fabric or loops back (Table 9.5). -/
  | rma (dstFid : Nat) (hdr : RmaHdr)
  /-- A flit on a PFL port: CONTROL bytes, a NULL flit, or DATA with its SEQ. -/
  | flit (port : Nat) (kind : Nat) (seq : Nat) (bytes : List Byte)
  /-- A training set on a lane. -/
  | pts (lane : Nat) (bytes : List Byte)
  /-- A configuration access to a function below a DSP. -/
  | config (port : Nat) (rid : Nat) (field : CfgField) (value : Option Nat)
  /-- The same for a VF below a DSP of another device: it travels there as an item of the VF's receiving partition (R114). -/
  | configAway (fid : Nat) (part : Nat) (port : Nat) (rid : Nat) (field : CfgField) (value : Option Nat)
  /-- The answer to a host's configuration request: completion status and value. -/
  | configReply (part : Nat) (status : CplStatus) (value : Nat)
  /-- A vendor-defined or PCI Express message by a port: its code. -/
  | pcieMessage (port : Nat) (code : Nat)
  /-- A flow-control update: class, header and data credit (R309). -/
  | updateFc (port : Nat) (cls : Nat) (hdr : Nat) (data : Nat)
  /-- A topology advert or ROUTE item on VL3. -/
  | advert (port : Nat) (adv : Advert)
  | route (port : Nat) (fid : Nat) (reach : Bool)
  /-- A relayed command to another device (R226). -/
  | relay (fid : Nat) (op : Nat) (cmd : Cmd)
  /-- An ATS message: 0 Translation Request, 1 Invalidate Completion. -/
  | ats (fn : Fn) (kind : Nat) (page : Nat) (tag : Nat)
  /-- A read of a boot-flash image header, or a write of a whole slot (R484, R502). -/
  | flashWrite (slotB : Bool) (image : List Byte)
  /-- Gate command of a slot-power channel: 0 off, 1 charge, 2 discharge. -/
  | gate (channel : Nat) (drive : Nat)
  /-- What the boundary-scan data register shifts out (R522). -/
  | tdo (value : Nat)
deriving DecidableEq, Repr

/-- Rows that the S96 repeats at a fixed interval, by the object each acts on. -/
inductive Repeated where
  | consPoll (ring : Nat) | pathLoad | ptmDialog (port : Nat) | feedSample | channelSample (ch : Nat) | canary
deriving DecidableEq, Repr

/-- The S96 itself: everything but the queue of waiting commands. -/
structure Device where
  /-- Elapsed time, ns. -/
  now : Nat
  devTime : BitVec 64
  /-- Free values taken so far (Config). -/
  freeCount : Nat
  out : List Output
  /-- When each row that the S96 repeats last ran; one not listed has not run yet. (DESIGN CHOICE, log entry 72) -/
  lastRun : List (Repeated × Nat)
  /-- By partition, the last nanosecond in which an item of it was inside (R324). -/
  insideAt : Tbl Nat
  /-- HI registers as latched by reads of their LO registers, by address in the register BAR (R407, R250, R433, R474). -/
  hiLatch : Tbl Nat
  glb : Glb
  kme : Kme
  mbx : Tbl Mbx
  msix : Tbl MsixVec
  clk : Clk
  snapshots : Tbl Snapshot
  bootRecord : BootRecord
  blackBox : List BlackBox
  adit : Adit
  ports : Tbl Port
  bufs : Tbl PortBuf
  locks : Tbl PortLock
  xbr : Xbr
  parts : Tbl Part
  steers : Tbl Steer
  sriov : Tbl Sriov
  bridges : Tbl VBridge
  segs : Tbl Seg
  act : ActGlobal
  windows : Tbl Window
  ntw : NtwGlobal
  dbWaits : List DoorbellWait
  tlm : Tbl TlmEntry
  funcs : Tbl Func
  ats : List AtsEntry
  invals : List Invalidation
  /-- Invalidate Requests that wait while 32 are handled: function, page, pages, tag (R368). -/
  invalWaits : List (Fn × Nat × Nat × Nat)
  atsAsks : List AtsAsk
  /-- Partition of each RMA VF instance; 0: the instance does not exist (R251). -/
  vfPart : Tbl Nat
  /-- VF index of each instance (R251). -/
  vfIndex : Tbl Nat
  /-- Ports of other devices bound to downstream bridges here: bridge key, FID, port (R226). -/
  remotes : List (Nat × Nat × Nat)
  /-- VFs steered here from other devices: their FID and their emulation (R114). -/
  homeSteers : List (Nat × Steer)
  items : List Item
  /-- What the S96's own functions have issued on P96–P100 and panel lookup has not taken yet, oldest first (R23, R53). -/
  issued : List Arrival
  nextId : Nat
  tracks : List Track
  journals : Tbl Journal
  pcie : Tbl Pcie
  qps : Tbl Qp
  cqs : Tbl Cq
  regions : Tbl Region
  /-- Doorbell pages handed out: 1 at 4,096 × key of the function + page (R265). -/
  dbPages : Tbl Nat
  pools : Tbl RmaPool
  missWait : List MissWait
  rma : RmaGlobal
  equeues : Tbl EQueue
  eports : Tbl EPort
  shp : Shp
  plk : Tbl Plk
  lanes : Tbl Lane
  clockPairs : Tbl ClockPair
  eqRecords : List EqRecord
  /-- By port, when its last bring-up ended in L0 or ACTIVE (R348). -/
  upAt : Tbl Nat
  /-- By PFL port, when the partner's direction last woke from electrical idle (R346). -/
  wokeAt : Tbl Nat
  fab : Fab
  spw : Tbl Spw
  feeds : Feeds
  can : Can
  throttle : Throttle
  counters : Tbl Counter
  cnt : Cnt
  /-- Boundary-scan instruction in force (R522). -/
  jtag : Jtag
deriving DecidableEq, Repr

/-- The model's state: the device, and the commands that wait, first in, first out. -/
structure State where
  pending : List Instr
  dev : Device
deriving DecidableEq, Repr

/-- The machine stops. No meaning raises a fault: every row of the table has an effect the spec gives it, so the type is
empty of reasons but one. -/
inductive Fault where
  /-- Raised by nothing; it stands so that the type is inhabited. Safe: a stop that never happens proves nothing. -/
  | unreachable
deriving DecidableEq, Repr

/-- A command without a meaning. -/
inductive Refusal where
  /-- Raised by the dispatcher for a row that has no meaning yet, by its mnemonic. Safe: the machine stops. -/
  | notModelled (mnemonic : String)
deriving DecidableEq, Repr

/-- The device at cold reset (R494): every register at the value of its chapter's table; straps 0 until POR_N rises.
(DESIGN CHOICE, log entry 2; DESIGN CHOICE, log entry 4; DESIGN CHOICE, log entry 5; DESIGN CHOICE, log entry 6) -/
def Device.reset : Device :=
  { now := 0, devTime := 0, freeCount := 0, out := [], lastRun := [], insideAt := [], hiLatch := [],
    glb := { intMask := 0, alertEn := 0, alertLow := false, serial := Config.serial, fwLevel := 0, fid := 0,
             mgrPort := 0, smbAddrStrap := 0 },
    kme := kmeReset, mbx := [], msix := [],
    clk := { aValid := false, bValid := false, activeB := false, mainLock := false, holdover := false, switches := 0,
             cause := 1, warmCount := 0, imageB := false, fallback := false, watchdog := false, cfgSrc := 0,
             replayErr := 0, readyUs := 0, strapIgnoreSnapshot := false, strapPerstWarm := false, parked := 0,
             intStatus := 0, intMask := 0, phase := .held, releasedAt := 0, resetPlan := none, defaults := [],
             loadedAt := 0, staged := none },
    snapshots := [], bootRecord := { activeB := false, failedA := false, failedB := false }, blackBox := [],
    adit := { level := 0, baud := 115200, raw := false, challenge := none, wrong := 0, barredAt := none, lastRx := 0,
              seq := 0, waiting := none },
    ports := [], bufs := [], locks := [], xbr := xbrReset, parts := [(0, partZero)], steers := [], sriov := [],
    bridges := [], segs := [], act := { intStatus := 0, intMask := 0 }, windows := [],
    ntw := { intStatus := 0, intMask := 0, misses := 0 }, dbWaits := [], tlm := [], funcs := [], ats := [], invals := [],
    invalWaits := [], atsAsks := [],
    vfPart := [], vfIndex := [], remotes := [], homeSteers := [], items := [], issued := [], nextId := 0, tracks := [],
      journals := [], pcie := [], qps := [], cqs := [],
    regions := [], dbPages := [], pools := [], missWait := [], rma := rmaReset, equeues := [], eports := [],
    shp := shpReset, plk := [], lanes := [], clockPairs := [], eqRecords := [], upAt := [], wokeAt := [], fab := fabReset, spw := [],
    feeds := { vinA := 0, vinB := 0, vgate := 0 }, can := canReset, throttle := throttleReset, counters := [],
    cnt := cntReset, jtag := .bypass }

/-- The model after reset: the device held in cold reset, no command waiting. -/
def State.reset : State := { pending := [], dev := Device.reset }

end Sys2Proof.Machine
end

