-- ==== Sys2Proof/Machine/Ops.lean ====
section
/-! DEFINITION. Machine/Ops.lean: the named operations over tables, memories, outputs and interrupts that every
meaning is written with. -/

namespace Sys2Proof.Machine

/-- Read object `n` of a table whose unlisted objects are `dflt`. -/
def tget {α : Type} (dflt : α) : Tbl α → Nat → α
  | [], _ => dflt
  | (k, v) :: t, n => if k = n then v else tget dflt t n

/-- Insert an entry at its place in key order, replacing one with the same key. -/
def tinsert {α : Type} (n : Nat) (v : α) : Tbl α → Tbl α
  | [] => [(n, v)]
  | (k, w) :: t => if n < k then (n, v) :: (k, w) :: t else if n = k then (n, v) :: t else (k, w) :: tinsert n v t

/-- Remove every entry with key `n`. -/
def terase {α : Type} (n : Nat) : Tbl α → Tbl α
  | [] => []
  | (k, w) :: t => if k = n then terase n t else (k, w) :: terase n t

/-- Write object `n`: an object equal to the default is not listed, so that equal tables are equal data. -/
def tset {α : Type} [DecidableEq α] (dflt : α) (t : Tbl α) (n : Nat) (v : α) : Tbl α :=
  if v = dflt then terase n t else tinsert n v t

/-- Change object `n` by a function. -/
def tmod {α : Type} [DecidableEq α] (dflt : α) (t : Tbl α) (n : Nat) (f : α → α) : Tbl α :=
  tset dflt t n (f (tget dflt t n))

/-- The canonical form: keys strictly rising, no entry equal to the default. -/
def tableWf {α : Type} [DecidableEq α] (dflt : α) : Tbl α → Bool
  | [] => true
  | [(_, v)] => decide (v ≠ dflt)
  | (k, v) :: (l, w) :: t => decide (v ≠ dflt) && decide (k < l) && tableWf dflt ((l, w) :: t)

/-- The lowest of the numbers `from`, `from`+1, … (`count` of them) for which `free` holds. -/
def lowest (free : Nat → Bool) : Nat → Nat → Option Nat
  | _, 0 => none
  | n, k + 1 => if free n then some n else lowest free (n + 1) k

/-- Read one byte of a memory; a byte never written reads 0. -/
def memByte (m : Memory) (a : Nat) : Byte := tget 0 m a

/-- Read `k` bytes from address `a`. -/
def memRead (m : Memory) (a : Nat) : Nat → List Byte
  | 0 => []
  | k + 1 => memByte m a :: memRead m (a + 1) k

/-- Write bytes from address `a` upward. -/
def memWrite (m : Memory) (a : Nat) : List Byte → Memory
  | [] => m
  | b :: bs => memWrite (tset 0 m a b) (a + 1) bs

/-- The canonical form of a memory (a Bool). -/
def Memory.wf (m : Memory) : Bool := tableWf 0 m

/-- One byte of the CRC-32C of R378, in reflected form: eight shifts. -/
def crcShift : Nat → BitVec 32 → BitVec 32
  | 0, c => c
  | k + 1, c => crcShift k (if c.getLsbD 0 then (c >>> 1) ^^^ 0x82F63B78#32 else c >>> 1)

/-- The CRC register after the given bytes. -/
def crcBytes : List Byte → BitVec 32 → BitVec 32
  | [], c => c
  | b :: bs, c => crcBytes bs (crcShift 8 (c ^^^ b.setWidth 32))

/-- CRC-32C (Castagnoli) of R378: initial value and final XOR 0xFFFF_FFFF. -/
def crc32c (bs : List Byte) : BitVec 32 := crcBytes bs 0xFFFFFFFF#32 ^^^ 0xFFFFFFFF#32

/-- A parameter byte of a packet; one that was not sent reads 0 (the length checks come first). (DEDUCED, log entry 61) -/
def u8 (p : List Byte) (off : Nat) : Nat := (p.getD off 0).toNat
def u16 (p : List Byte) (off : Nat) : Nat := leNat ((p.drop off).take 2)
def u32 (p : List Byte) (off : Nat) : Nat := leNat ((p.drop off).take 4)
def u64 (p : List Byte) (off : Nat) : Nat := leNat ((p.drop off).take 8)

/-- True when every byte of the range is 0. -/
def zeros (p : List Byte) (off count : Nat) : Bool := ((p.drop off).take count).all (· == 0)

/-- STATUS codes (Table 14.7). -/
def statusCode : Status → Nat
  | .ok => 0x0000
  | .accepted => 0x0001
  | .badOpcode => 0x0010
  | .badLength => 0x0011
  | .badParam => 0x0012
  | .notPermitted => 0x0013
  | .busyLocked => 0x0014
  | .noResource => 0x0020
  | .noContext => 0x0021
  | .overlap => 0x0022
  | .notQuiesced => 0x0023
  | .fidConflict => 0x0024
  | .aborted => 0x0030
  | .timeout => 0x0031
  | .hwFault => 0x0040
  | .doneDegraded => 0x0041

/-- Answers in the forms the commands use. -/
def ansOk (result : List Byte) : Ans := { status := .ok, detail := 0, result := result }
def ansBad (off : Nat) : Ans := { status := .badParam, detail := off, result := [] }
def ansLen (expected : Nat) : Ans := { status := .badLength, detail := expected, result := [] }
def ansNo : Ans := { status := .notPermitted, detail := 0, result := [] }
def ansPool (pool : Nat) : Ans := { status := .noResource, detail := pool, result := [] }

/-- Key of a function's records: 0 the management function, p the RMA PF of PARTp, 64 + v RMA VF instance v. -/
def fnKey : Fn → Nat
  | .mgr => 0
  | .pf p => p
  | .vf v => 64 + v

/-- The function with a key. -/
def fnOfKey (k : Nat) : Fn := if k = 0 then .mgr else if k < 64 then .pf k else .vf (k - 64)

/-- The number of MSI-X vectors of a function (Table 13.3). -/
def vectorCount : Fn → Nat
  | .mgr => 64
  | .pf _ => 2048
  | .vf _ => 64

/-- Function 1 of a partition's upstream device (R85). -/
def function1 (p : Nat) : Fn := if p = 0 then .mgr else .pf p

/-- The mailbox of a source, by key of its function; transports 3–7 have none. -/
def sourceFn (s : Source) : Option Fn :=
  match s.transport with
  | 0 => some .mgr
  | 1 => some (.pf s.inst)
  | 2 => some (.vf s.inst)
  | _ => none

/-- The source of a mailbox. -/
def fnSource : Fn → Source
  | .mgr => { transport := 0, inst := 0 }
  | .pf p => { transport := 1, inst := p }
  | .vf v => { transport := 2, inst := v }

/-- SOURCE as the header carries it: [15:12] transport, [11:0] instance. -/
def sourceNum (s : Source) : Nat := s.transport * 4096 + s.inst % 4096

/-- Nanoseconds of the elapsed-time counter in a millisecond. -/
def msNs : Nat := 1000000

/-- Ports, buffers, partitions and the rest, read and changed by number. -/
def Device.port (d : Device) (n : Nat) : Port := tget portReset d.ports n
def Device.setPort (d : Device) (n : Nat) (p : Port) : Device := { d with ports := tset portReset d.ports n p }
def Device.buf (d : Device) (n : Nat) : PortBuf := tget bufReset d.bufs n
def Device.setBuf (d : Device) (n : Nat) (b : PortBuf) : Device := { d with bufs := tset bufReset d.bufs n b }
def Device.lockOf (d : Device) (n : Nat) : PortLock := tget lockReset d.locks n
def Device.setLock (d : Device) (n : Nat) (l : PortLock) : Device := { d with locks := tset lockReset d.locks n l }
def Device.part (d : Device) (p : Nat) : Part := tget partFree d.parts p
def Device.setPart (d : Device) (p : Nat) (x : Part) : Device := { d with parts := tset partFree d.parts p x }
def Device.seg (d : Device) (p : Nat) : Seg := tget segReset d.segs p
def Device.setSeg (d : Device) (p : Nat) (g : Seg) : Device := { d with segs := tset segReset d.segs p g }
def Device.window (d : Device) (w : Nat) : Window := tget windowFree d.windows w
def Device.setWindow (d : Device) (w : Nat) (x : Window) : Device := { d with windows := tset windowFree d.windows w x }
def Device.mailbox (d : Device) (f : Fn) : Mbx := tget mbxReset d.mbx (fnKey f)
def Device.setMailbox (d : Device) (f : Fn) (m : Mbx) : Device := { d with mbx := tset mbxReset d.mbx (fnKey f) m }
def Device.func (d : Device) (f : Fn) : Func := tget funcReset d.funcs (fnKey f)
def Device.setFunc (d : Device) (f : Fn) (x : Func) : Device := { d with funcs := tset funcReset d.funcs (fnKey f) x }

/-- The partition of a function, and its routing ID (R85, R361). -/
def fnPart (f : Fn) (d : Device) : Nat :=
  match f with
  | .mgr => 0
  | .pf p => p
  | .vf v => tget 0 d.vfPart v
def function1Rid (p : Nat) (d : Device) : Nat := (d.part p).capturedBus * 256 + 1
def fnRid (f : Fn) (d : Device) : Nat :=
  match f with
  | .mgr => function1Rid 0 d
  | .pf p => function1Rid p d
  | .vf v => function1Rid (fnPart (.vf v) d) d + 1 + tget 0 d.vfIndex v

/-- A memory request of a function, as it leaves for panel lookup. -/
def requestTlp (k : Kind) (f : Fn) (a len : Nat) (data : List Byte) (d : Device) : Tlp :=
  { kind := k, addr := a, destId := 0, reqId := fnRid f d, tag := 0, tc := 0, ro := false, len := len, data := data,
    poisoned := false, digest := false, status := .sc, byteCount := 0 }

/-- A function of the S96 issues an item on internal port n: it waits for panel lookup there, and passes through the device
as the items of an external port do (R23). -/
def issue (n : Nat) (f : Option Fn) (t : Tlp) (h : Option RmaHdr) (d : Device) : Device :=
  { d with issued := d.issued ++ [{ port := n, tlp := t, fab := none, rma := h, fn := f }] }

/-- Send an event of a vector (R364): a message, which is a posted write of 4 B issued on a port, while the vector is
unmasked, else its pending bit. A number that no vector of the function has, such as 0xFFFF for none, sends nothing. -/
def sendVectorAt (n : Nat) (f : Fn) (v : Nat) (d : Device) : Device :=
  if v < vectorCount f then
    let k := fnKey f * 2048 + v
    let e := tget msixReset d.msix k
    if e.masked then { d with msix := tset msixReset d.msix k { e with pending := true } }
    else issue n (some f) (requestTlp .memWrite f e.addr 4 (natLe 4 e.data.toNat) d) none d
  else d
def sendVector (f : Fn) (v : Nat) (d : Device) : Device := sendVectorAt 100 f v d

/-- Panel of a port unit (R8): p = s div 3 with s = n div 4. -/
def panelOf (n : Nat) : Nat := n / 12

/-- Lane die of a port unit: d = p div 2. -/
def dieOf (n : Nat) : Nat := n / 24

/-- Number of units a width takes. -/
def unitsOf (width : Nat) : Nat := if width = 16 then 4 else if width = 8 then 2 else 1

/-- A partition's fence holds (R92). -/
def fencedState : PartState → Bool
  | .quiescing => true
  | .quiesced => true
  | .resetting => true
  | _ => false

def Device.fenced (d : Device) (p : Nat) : Bool := fencedState (d.part p).state

/-- Raise bits of a mailbox's MBX_INT_STATUS; vector 0 is sent when an unmasked bit becomes set (R386). -/
def mbxRaise (f : Fn) (bits : BitVec 5) (d : Device) : Device :=
  let m := d.mailbox f
  let d' := d.setMailbox f { m with intStatus := m.intStatus ||| bits }
  if bits &&& ~~~ m.intStatus &&& ~~~ m.intMask = 0 then d' else sendVector f 0 d'

/-- Set bits of an interrupt status register. -/
def kmeRaise (bits : BitVec 6) (d : Device) : Device :=
  { d with kme := { d.kme with intStatus := d.kme.intStatus ||| bits } }

/-- One bit of the interrupt summary. -/
def summaryBit (n : Nat) (on : Bool) : BitVec 14 := if on then BitVec.ofNat 14 (2 ^ n) else 0

/-- GLB_INT_SUMMARY (R407): a bit is 1 while any unmasked bit of its block's status registers is 1. -/
def summaryBits (d : Device) : BitVec 14 :=
  summaryBit 0 (d.kme.intStatus &&& ~~~ d.kme.intMask != 0) |||
  summaryBit 1 (d.clk.intStatus &&& ~~~ d.clk.intMask != 0) |||
  summaryBit 2 (d.pcie.any fun e => e.2.intStatus &&& ~~~ e.2.intMask != 0) |||
  summaryBit 3 (d.lanes.any fun e => e.2.intStatus &&& ~~~ e.2.intMask != 0) |||
  summaryBit 4 (d.xbr.intStatus &&& ~~~ d.xbr.intMask != 0) |||
  summaryBit 5 (d.act.intStatus &&& ~~~ d.act.intMask != 0) |||
  summaryBit 6 (d.ntw.intStatus &&& ~~~ d.ntw.intMask != 0) |||
  summaryBit 7 (d.plk.any fun e => decide ((tget portReset d.ports e.1).personality = .pfl) && e.2.intStatus &&& ~~~ e.2.intMask != 0) |||
  summaryBit 8 (d.fab.intStatus &&& ~~~ d.fab.intMask != 0) |||
  summaryBit 9 (d.rma.intStatus &&& ~~~ d.rma.intMask != 0) |||
  summaryBit 10 (d.shp.intStatus &&& ~~~ d.shp.intMask != 0) |||
  summaryBit 11 (d.spw.any fun e => e.2.intStatus &&& ~~~ e.2.intMask != 0) |||
  summaryBit 12 (d.cnt.intStatus &&& ~~~ d.cnt.intMask != 0) |||
  summaryBit 13 (d.can.intStatus &&& ~~~ d.can.intMask != 0)

/-- IRQ_N is driven low while an unmasked summary bit is 1 (R407). -/
def irqLow (d : Device) : Bool := summaryBits d &&& ~~~ d.glb.intMask != 0

/-- ALERT_N after a change (R381): driven low when an enabled summary bit becomes 1, released when none is 1. -/
def alertStep (so sn : BitVec 14) (d : Device) : Device :=
  if sn &&& ~~~ so &&& d.glb.alertEn ≠ 0 then { d with glb := { d.glb with alertLow := true } }
  else if sn &&& d.glb.alertEn = 0 then { d with glb := { d.glb with alertLow := false } }
  else d

/-- What follows a change within its cycle: vector 1 of the management function, sent once when a summary bit becomes
both 1 and unmasked (R407), and ALERT_N (R381). (DEDUCED, log entry 46; DEDUCED, log entry 60) -/
def notify (old new : Device) : Device :=
  alertStep (summaryBits old) (summaryBits new)
    (if (summaryBits new &&& ~~~ new.glb.intMask) &&& ~~~ (summaryBits old &&& ~~~ old.glb.intMask) = 0 then new
      else sendVector .mgr 1 new)

/-- The outcome of a meaning: a next state whose queue is as it was. -/
def done (s : State) (d : Device) : Host.Outcome State Fault Refusal := .next { s with dev := notify s.dev d }

/-- Take one free value: the counter moves on (Config). -/
def Device.freed (d : Device) : Device := { d with freeCount := d.freeCount + 1 }

/-- The next free value, below `m`, with the device that has taken it (Config). (DESIGN CHOICE, log entry 1) -/
def Device.fresh (d : Device) (m : Nat) : Nat × Device := (Config.freeNat d.freeCount % m, d.freed)

/-- An output, newest first. (DESIGN CHOICE, log entry 10) -/
def emit (o : Output) (d : Device) : Device := { d with out := o :: d.out }

/-- More objects by number. -/
def Device.pci (d : Device) (n : Nat) : Pcie := tget pcieReset d.pcie n
def Device.setPci (d : Device) (n : Nat) (x : Pcie) : Device := { d with pcie := tset pcieReset d.pcie n x }
def Device.pfl (d : Device) (n : Nat) : Plk := tget plkReset d.plk n
def Device.setPfl (d : Device) (n : Nat) (x : Plk) : Device := { d with plk := tset plkReset d.plk n x }
def Device.lane (d : Device) (k : Nat) : Lane := tget laneReset d.lanes k
def Device.setLane (d : Device) (k : Nat) (x : Lane) : Device := { d with lanes := tset laneReset d.lanes k x }
def Device.bridge (d : Device) (k : Nat) : VBridge := tget bridgeReset d.bridges k
def Device.setBridge (d : Device) (k : Nat) (x : VBridge) : Device := { d with bridges := tset bridgeReset d.bridges k x }
def Device.channel (d : Device) (c : Nat) : Spw := tget spwReset d.spw c
def Device.setChannel (d : Device) (c : Nat) (x : Spw) : Device := { d with spw := tset spwReset d.spw c x }
def Device.journal (d : Device) (p : Nat) : Journal := tget journalNone d.journals p
def Device.setJournal (d : Device) (p : Nat) (j : Journal) : Device := { d with journals := tset journalNone d.journals p j }
def Device.route (d : Device) (f : Nat) : FabRoute := tget routeNone d.fab.routes f
def Device.setRoute (d : Device) (f : Nat) (r : FabRoute) : Device :=
  { d with fab := { d.fab with routes := tset routeNone d.fab.routes f r } }
def Device.steer (d : Device) (e : Nat) : Steer := tget steerFree d.steers e
def Device.setSteer (d : Device) (e : Nat) (x : Steer) : Device := { d with steers := tset steerFree d.steers e x }
def Device.eport (d : Device) (n : Nat) : EPort := tget eportReset d.eports n
def Device.setEport (d : Device) (n : Nat) (x : EPort) : Device := { d with eports := tset eportReset d.eports n x }
def Device.equeue (d : Device) (n q : Nat) : EQueue := tget equeueReset d.equeues (n * 8 + q)
def Device.setEqueue (d : Device) (n q : Nat) (x : EQueue) : Device :=
  { d with equeues := tset equeueReset d.equeues (n * 8 + q) x }

/-- Key of a virtual bridge: downstream bridge k of a partition, its intermediate bridges at 96, its upstream bridge at
100 (R85). -/
def bridgeKey (p k : Nat) : Nat := p * 256 + k
def upstreamKey (p : Nat) : Nat := bridgeKey p 100

/-- Log an error at a virtual bridge: set a bit of its AER uncorrectable status. -/
def bridgeError (key bit : Nat) (d : Device) : Device :=
  let b := d.bridge key
  d.setBridge key { b with aerUncor := b.aerUncor ||| 2 ^ bit }

/-- Set bits of a port's PRT_INT_STATUS. -/
def portRaise (n : Nat) (bits : BitVec 5) (d : Device) : Device :=
  let x := d.pci n
  d.setPci n { x with intStatus := x.intStatus ||| bits }

/-- Set bits of FAB_INT_STATUS, CAN_INT_STATUS, CNT_INT_STATUS, RST_INT_STATUS. -/
def fabRaise (bits : BitVec 8) (d : Device) : Device := { d with fab := { d.fab with intStatus := d.fab.intStatus ||| bits } }
def canRaise (bits : BitVec 5) (d : Device) : Device := { d with can := { d.can with intStatus := d.can.intStatus ||| bits } }
def cntRaise (bits : BitVec 3) (d : Device) : Device := { d with cnt := { d.cnt with intStatus := d.cnt.intStatus ||| bits } }
def clkRaise (bits : BitVec 4) (d : Device) : Device := { d with clk := { d.clk with intStatus := d.clk.intStatus ||| bits } }

/-- Write a black-box record (R451), at most one of each KIND per 1 ms: further ones are counted in the next record's
SUPPRESSED (R452). The ring keeps 16,384 records. -/
def blackBoxRecord (kind object code : Nat) (data : List Nat) (d : Device) : Device :=
  let c := d.can
  let last := tget 0 c.kindAt kind
  if last ≠ 0 ∧ d.now < last + msNs then
    { d with can := { c with suppressed := tset 0 c.suppressed kind (satAdd 0xFFFF (tget 0 c.suppressed kind) 1) } }
  else
    let r : BlackBox := { seq := c.nextSeq, time := d.devTime.toNat, kind := kind, grade := c.grade, object := object,
                          code := code, data := data, suppressed := tget 0 c.suppressed kind, boots := c.boots }
    let c' := { c with nextSeq := wrapAdd 32 c.nextSeq 1, kindAt := tset 0 c.kindAt kind (d.now + 1),
                       suppressed := terase kind c.suppressed }
    let log := d.blackBox ++ [r]
    { d with can := c', blackBox := log.drop (log.length - 16384) }

/-- A change of device grade (R447): GRADE_UP or GRADE_DOWN, and a black-box record with the input's code. -/
def setGrade (g input : Nat) (d : Device) : Device :=
  let old := d.can.grade
  if g = old then d
  else canRaise (if old < g then 1 else 2) (blackBoxRecord 1 0 input [] { d with can := { d.can with grade := g } })

/-- A device-level uncorrectable error (R444): FAULT_N low, DEVICE_FAULT, a black-box record; grade 3. -/
def deviceFault (code : Nat) (d : Device) : Device :=
  let d := setGrade 3 9 { d with can := { d.can with fault := true, deviceFault := true } }
  canRaise 0x08 (blackBoxRecord 2 0 code [] d)

/-- A table entry is lost in both its copies: what needs it has no target until it is rewritten (R444).
(DEDUCED, log entry 55) -/
def entryLost (x : FaultCause) (d : Device) : Bool := d.can.lostEntries.contains x

/-- A command rewrites a table entry (R444). (DEDUCED, log entry 55) -/
def entryRewritten (x : FaultCause) (d : Device) : Device :=
  { d with can := { d.can with lostEntries := d.can.lostEntries.filter fun y => decide (y ≠ x) } }

/-- A partition-fatal fault (R435): Uncorrectable Internal Error at the partition's upstream virtual bridge alone.
(DEDUCED, log entry 55) -/
def partFatal (p code : Nat) (d : Device) : Device :=
  let d := bridgeError (upstreamKey p) 22 d
  let c := d.can
  let d := { d with can := { c with partFatal := if p = 0 then c.partFatal else c.partFatal ||| BitVec.ofNat 64 (2 ^ p),
                                    fatalTimes := d.now :: c.fatalTimes } }
  canRaise 0x10 (blackBoxRecord 3 p code [] d)

/-- A port exists as an external port: a unit that no merge absorbs (R9). -/
def portExists (n : Nat) (d : Device) : Bool := decide (n < 96) && decide ((d.port n).absorbedBy = none)

/-- The USP of a partition on this device (R45); the manager's upstream port for PART0 (R37). -/
def uspOf (p : Nat) (d : Device) : Option Nat :=
  if p = 0 then
    if (d.port d.glb.mgrPort).personality = .usp then some d.glb.mgrPort else none
  else (d.ports.find? fun e => decide (e.2.personality = .usp) && decide (e.2.holder = p)).map (·.1)

/-- Ports that a partition holds. -/
def portsOf (p : Nat) (d : Device) : List Nat :=
  (d.ports.filter fun e => decide (e.2.holder = p) && (decide (e.2.personality = .usp) || decide (e.2.personality = .dsp))).map (·.1)

/-- Data Link Layer Link Active of a PCI Express port: the link trained and has not gone down. -/
def lstateUp : LState → Bool
  | .l0 => true
  | .recovery => true
  | .l0s => true
  | .l1 => true
  | _ => false

/-- A PFL port carries items (R221). -/
def pflLive (n : Nat) (d : Device) : Bool :=
  decide ((d.port n).personality = .pfl) && (decide ((d.pfl n).state = .active) || decide ((d.pfl n).state = .retrain))

/-- The port's link is up. -/
def linkUp (n : Nat) (d : Device) : Bool :=
  match (d.port n).personality with
  | .usp => lstateUp (d.pci n).lstate
  | .dsp => lstateUp (d.pci n).lstate
  | .pfl => pflLive n d
  | _ => false

/-- An error message of a function leaves to its partition's host through the USP (R375). (PRESUMED, log entry 73) -/
def errorMessage (f : Fn) (code : Nat) (d : Device) : Device :=
  match uspOf (fnPart f d) d with
  | some u => if linkUp u d then emit (.pcieMessage u code) d else d
  | none => d

/-- The AER severity of a function: a VF's follows its PF (R375). (PRESUMED, log entry 73) -/
def severityOf (f : Fn) (d : Device) : Nat := (d.func (function1 (fnPart f d))).aerSeverity

/-- An error that a function detects (Table 13.6): a bit of its AER uncorrectable status, and, unless it is masked, the message
that its severity and the reporting enables give: ERR_FATAL 0x33, ERR_NONFATAL 0x31, or, for an advisory non-fatal error,
ERR_COR 0x30. (PRESUMED, log entry 73) -/
def fnError (f : Fn) (bit : Nat) (advisory : Bool) (d : Device) : Device :=
  let x := d.func f
  let on := fun (k : Nat) => bitOf x.devControl k && (decide (bit ≠ 20) || bitOf x.devControl 3)
  let d := d.setFunc f { x with aerUncor := x.aerUncor ||| 2 ^ bit }
  if bitOf x.aerUncorMask bit then d
  else if bitOf (severityOf f d) bit then (if on 2 then errorMessage f 0x33 d else d)
  else if advisory then
    let d := d.setFunc f { d.func f with aerCor := x.aerCor ||| 2 ^ 13 }
    if on 0 && !bitOf x.aerCorMask 13 then errorMessage f 0x30 d else d
  else if on 1 then errorMessage f 0x31 d else d

/-- Device times of a millisecond and a microsecond in the elapsed-time count. -/
def usNs : Nat := 1000

/-- A repeated row may run again: it has not run yet, or its interval has passed. (DESIGN CHOICE, log entry 72) -/
def isDue (k : Repeated) (period : Nat) (d : Device) : Bool :=
  match d.lastRun.find? fun e => decide (e.1 = k) with
  | some e => decide (e.2 + period ≤ d.now)
  | none => true

/-- Record that a repeated row runs now. (DESIGN CHOICE, log entry 72) -/
def ranNow (k : Repeated) (d : Device) : Device :=
  { d with lastRun := (k, d.now) :: d.lastRun.filter fun e => decide (e.1 ≠ k) }

/-- Room for `k` blocks in a ring of host memory (R466). -/
def ringRoom (r : Ring) (k : Nat) : Bool := decide ((r.prod - r.cons).toNat + k ≤ r.entries)

/-- Write blocks of `size` bytes into a ring of the manager's memory; VECTOR when nothing waited to be consumed
(R303, R466). The caller has checked the room. -/
def ringWrite (r : Ring) (size : Nat) (blocks : List (List Byte)) (d : Device) : Ring × Device :=
  let d' := (List.range blocks.length).foldl (fun d i =>
    let b := blocks.getD i []
    issue 100 (some .mgr) (requestTlp .memWrite .mgr (r.base + ((r.index + i) % r.entries) * size) b.length b d) none d) d
  let d' := if r.prod = r.cons ∧ r.vector ≠ 0xFFFF then sendVector .mgr r.vector d' else d'
  ({ r with index := r.index + blocks.length, prod := r.prod + BitVec.ofNat 32 blocks.length, first := false }, d')

/-- The PHASE bit of the next block of a ring: 1 on even laps (R235). -/
def ringPhase (r : Ring) (i : Nat) : Nat := natOfBool (decide ((r.index + i) / r.entries % 2 = 0))

end Sys2Proof.Machine
end

