-- ==== Sys2Proof/Machine/LaneOps.lean ====
section
/-! DEFINITION. Machine/LaneOps.lean: lanes of a port, loss, presets and training sets (R30, R342–R345, R350). -/

namespace Sys2Proof.Machine

/-- Lanes of a port: a x1 unit uses lane 4n, a x2 unit 4n and 4n + 1 (R30). -/
def portLanes (n : Nat) (d : Device) : List Nat := (List.range (d.port n).width).map fun j => 4 * n + j

/-- A lane that carries nothing: OFF, or a link that is down. -/
def laneDown (k : Nat) (d : Device) : Device :=
  d.setLane k { d.lane k with rate := 0, rxLock := false, polInv := false, txIdle := false, rxIdle := false, adapt := 0,
                              fromRecord := false, inTest := false, genOn := false, chkOn := false, noGray := false, loopback := 0,
                              locked := false, eyeBusy := false, inject := 0, readyRun := 0, goRun := 0, asked := false }

/-- Every lane of a port that carries nothing. -/
def lanesDown (n : Nat) (d : Device) : Device := (portLanes n d).foldl (fun d k => laneDown k d) d

/-- Change every lane of a port by one function. -/
def eachLane (n : Nat) (f : Lane → Lane) (d : Device) : Device :=
  (portLanes n d).foldl (fun d k => d.setLane k (f (d.lane k))) d

/-- Loss per mm of a trace class at a rate's Nyquist frequency, in 0.0001 dB (Table 12.9). -/
def lossPerMm (cls rate : Nat) : Nat :=
  let f := if rate ≤ 1 then 0 else if rate ≤ 5 then rate - 1 else if rate = 6 then 4 else 5
  let row := if cls = 0 then [100, 160, 240, 400, 700, 1250] else if cls = 1 then [70, 110, 160, 270, 460, 800]
    else if cls = 2 then [50, 80, 110, 180, 310, 540] else [10, 15, 20, 30, 45, 68]
  row.getD f 1

/-- The estimate for the next rung, in 0.25 dB, halves rounded up (R345). -/
def extrapolate (il cls cur next : Nat) : Nat := (2 * il * lossPerMm cls next + lossPerMm cls cur) / (2 * lossPerMm cls cur)

/-- LENGTH_MM of an estimate, to the nearest mm, saturating (R350). -/
def lengthMm (il cls rate : Nat) : Nat :=
  let a := lossPerMm cls rate
  min 16383 ((2 * il * 2500 + a) / (2 * a))

/-- Initial PFL preset for a loss (Table 12.6): each band includes its upper bound. -/
def pflPreset (il : Nat) : Nat := min 23 (16 + (ceilDiv (max il 16 - 16) 16))

/-- Cursors of a preset in 1/128 units, rounded to the nearest, as 8-bit fields (Table 12.6); those of a PCI Express
preset come from the base specification, and no rule here states them. -/
def presetCursors (p : Nat) : Option (Nat × Nat) :=
  if p = 16 then some (0, 0) else if p = 17 then some (0, 250) else if p = 18 then some (0, 243)
  else if p = 19 then some (250, 243) else if p = 20 then some (250, 237) else if p = 21 then some (243, 237)
  else if p = 22 then some (243, 230) else if p = 23 then some (237, 230) else none

/-- Put a transmit preset in force on a lane. (DEDUCED, log entry 42) -/
def setPreset (k p : Nat) (d : Device) : Device :=
  match presetCursors p with
  | some c => d.setLane k { d.lane k with preset := p, pre := c.1, post := c.2 }
  | none =>
    let a := d.fresh 256
    let b := a.2.fresh 256
    b.2.setLane k { b.2.lane k with preset := p, pre := a.1, post := b.1 }

/-- A new estimate of a lane's loss at its rate: what the receiver measures is a free value (R350). (DEDUCED, log entry 42) -/
def measureLane (cls : Nat) (d : Device) (k : Nat) : Device :=
  let v := d.fresh 256
  let x := v.2.lane k
  v.2.setLane k { x with il := v.1, lengthMm := lengthMm v.1 cls x.rate, measRate := x.rate, measValid := true }

/-- CRC-16 of R342: polynomial 0x1021, initial value 0xFFFF. -/
def crc16Shift : Nat → BitVec 16 → BitVec 16
  | 0, c => c
  | k + 1, c => crc16Shift k (if c.getLsbD 15 then (c <<< 1) ^^^ 0x1021#16 else c <<< 1)
def crc16Bytes : List Byte → BitVec 16 → BitVec 16
  | [], c => c
  | b :: bs, c => crc16Bytes bs (crc16Shift 8 (c ^^^ (BitVec.setWidth 16 b <<< (8 : Nat))))
def crc16 (bs : List Byte) : BitVec 16 := crc16Bytes bs 0xFFFF#16

/-- The training set a lane sends (Table 12.5). -/
def ptsBytes (rung st index preset req il : Nat) (record : Bool) : List Byte :=
  let b := [0xB5] ++ natLe 1 rung ++ natLe 1 st ++ natLe 1 index ++ natLe 1 preset ++ natLe 1 req ++ natLe 2 il ++
    natLe 1 (natOfBool record) ++ natLe 5 0
  b ++ natLe 2 (crc16 b).toNat

/-- Half-stopes of a port: H = unit div 2. -/
def halfStopes (n : Nat) (d : Device) : List Nat := ((List.range (unitsOf (d.port n).width)).map fun u => (n + u) / 2).eraseDups

/-- Clock pairs by half-stope. -/
def Device.pair (d : Device) (h : Nat) : ClockPair := tget clockPairReset d.clockPairs h
def Device.setPair (d : Device) (h : Nat) (x : ClockPair) : Device := { d with clockPairs := tset clockPairReset d.clockPairs h x }

/-- CKR of a half-stope locks (R337): its frequency is the partner's; the model leaves it free when it was unknown. -/
def lockPair (d : Device) (h : Nat) : Device :=
  let x := d.pair h
  if x.ckrFreq = 0 then
    let v := d.fresh 2
    let p := v.2.fresh 2
    p.2.setPair h { x with ckrLock := true, ckrFreq := v.1 + 1, ckrPolInv := decide (p.1 = 1) }
  else d.setPair h { x with ckrLock := true }

/-- A direction of a shaft: 2 × die from the core die, 2 × die + 1 to it. -/
def shaftOf (k : Nat) (d : Device) : Shaft := tget shaftReset d.can.shafts k

/-- A shaft direction with fewer than 308 working lanes holds the traffic of its die back (R14): the share withheld is in
sixteenths, like R541's. `toDie` is the direction from the core die; it carries what leaves by the die's ports, the other
what came in by them. -/
def shaftHolds (toDie : Bool) (n : Nat) (d : Device) : Bool :=
  decide (n < 96) &&
    (let working := 400 - (shaftOf (2 * dieOf n + (if toDie then 0 else 1)) d).failed
     decide (working < 308) && decide (working * 16 ≤ (d.xbr.cellTime % 16) * 308))

end Sys2Proof.Machine
end

