-- ==== Sys2Proof/Machine/Count.lean ====
section
/-! DEFINITION. Machine/Count.lean: counting of events (R458–R464) and the trace of tagged items (R468, R469). -/

namespace Sys2Proof.Machine

/-- Key of counter j of port n, and of global counter i. -/
def counterKey (n j : Nat) : Nat := n * 64 + j
def globalKey (i : Nat) : Nat := 127 * 64 + i

def Device.counter (d : Device) (k : Nat) : Counter := tget counterReset d.counters k
def Device.setCounter (d : Device) (k : Nat) (c : Counter) : Device := { d with counters := tset counterReset d.counters k c }

/-- Fields of CNT_P_SEL. -/
def selEvent (sel : W32) : Nat := fieldOf sel.toNat 9 0
def selOvf (sel : W32) : Bool := sel.getLsbD 10
def selReload (sel : W32) : Bool := sel.getLsbD 11
def selTag (sel : W32) : Bool := sel.getLsbD 12
def selClass (sel : W32) : Nat := fieldOf sel.toNat 15 13
def selQueue (sel : W32) : Nat := fieldOf sel.toNat 23 16
def selPart (sel : W32) : Nat := fieldOf sel.toNat 29 24

/-- The events of Table 17.2. -/
def portEvents : List Nat :=
  [0x001, 0x002, 0x003, 0x004, 0x010, 0x011, 0x012, 0x013, 0x014, 0x015, 0x020, 0x021, 0x022] ++
  [0x030, 0x031, 0x032, 0x033, 0x034, 0x035, 0x040, 0x041, 0x042, 0x043, 0x044, 0x045] ++
  [0x050, 0x051, 0x052, 0x053, 0x054, 0x060, 0x061, 0x062, 0x063]
def globalEvents : List Nat := [0x100, 0x101, 0x102, 0x103, 0x104, 0x105, 0x106, 0x107, 0x108]

/-- Events counted in items (Table 17.2). -/
def itemEvents : List Nat :=
  [0x001, 0x003, 0x013, 0x014, 0x020, 0x022, 0x030, 0x031, 0x032, 0x033, 0x034, 0x035] ++
  [0x050, 0x051, 0x052, 0x053, 0x060, 0x061, 0x062, 0x100, 0x103, 0x104, 0x105, 0x107, 0x108]

/-- Which qualifiers an event lists (Table 17.2): queue, class, partition. -/
def qualifiers (ev : Nat) : Bool × Bool × Bool :=
  if ev ≤ 0x004 ∨ ev = 0x013 ∨ ev = 0x014 then (true, true, true)
  else if ev = 0x010 ∨ ev = 0x012 ∨ ev = 0x040 then (true, true, false)
  else if ev = 0x011 ∨ ev = 0x050 ∨ ev = 0x051 ∨ ev = 0x052 ∨ ev = 0x053 ∨ ev = 0x060 then (true, false, false)
  else if ev = 0x015 then (false, true, false)
  else if ev = 0x020 ∨ ev = 0x031 then (false, true, true)
  else if ev = 0x021 ∨ ev = 0x022 ∨ ev = 0x030 ∨ (0x032 ≤ ev ∧ ev ≤ 0x035) ∨ (0x061 ≤ ev ∧ ev ≤ 0x063) ∨ ev = 0x107 ∨
    ev = 0x108 then (false, false, true)
  else (false, false, false)

/-- What an occurrence of an event carries (R460). -/
structure Occurrence where
  ev : Nat
  port : Nat
  q : Nat
  cls : Nat
  part : Nat
  count : Nat
deriving DecidableEq, Repr

/-- A counter's settings count an occurrence (R460): event and qualifiers. -/
def selCounts (sel : W32) (o : Occurrence) : Bool :=
  let u := qualifiers o.ev
  decide (selEvent sel = o.ev) && decide (o.ev ≠ 0) &&
  (!u.1 || bitOf (selQueue sel) o.q) && (!u.2.1 || bitOf (selClass sel) o.cls) &&
  (!u.2.2 || decide (selPart sel = 0x3F) || decide (selPart sel = o.part))

/-- A counter, by its key, counts an occurrence: at its own port, or a global counter at PORT_SEL (R461). -/
def counterHit (k : Nat) (c : Counter) (o : Occurrence) : Bool :=
  selCounts c.sel o &&
    (if k < 127 * 64 then decide (k / 64 = o.port) && decide (8 ≤ k % 64)
     else decide (0x100 ≤ o.ev) || decide (c.portSel = 0x7F) || decide (c.portSel = o.port))

/-- Add to a counter: it wraps in FREE mode (R462); in OVF mode a value past 2^48 waits for its overflow (R463). -/
def bumpCounter (c : Counter) (n : Nat) : Counter :=
  { c with value := if selOvf c.sel then c.value + n else (c.value + n) % 2 ^ 48 }

/-- Count an occurrence on every counter that counts it. -/
def countOnly (o : Occurrence) (d : Device) : Device :=
  { d with counters := d.counters.map fun e => if counterHit e.1 e.2 o then (e.1, bumpCounter e.2 o.count) else e }

/-- The lowest free tag (R468). -/
def freeTag (d : Device) : Option Nat :=
  if d.cnt.tags.length < 1024 then lowest (fun t => !d.cnt.tags.any (fun x => x.tagId = t)) 0 1024 else none

/-- Tag an item; without a free tag it is counted as TAG_MISSED (R464, R468). -/
def tagItem (item : Nat) (ovf : Option Nat) (d : Device) : Device :=
  match freeTag d with
  | none => countOnly { ev := 0x105, port := 0x7F, q := 0, cls := 0, part := 0x3F, count := 1 } d
  | some t =>
    let x : Tagged := { tagId := t, item := item, tIn := d.devTime.toNat, stamps := [none, none, none, none, none, none, none],
                        ovf := ovf }
    { d with cnt := { d.cnt with tags := d.cnt.tags ++ [x] } }

/-- Count an occurrence, and tag the item when a counter owes a tag to the first item it counts (R464). -/
def countEvent (o : Occurrence) (item : Option Nat) (d : Device) : Device :=
  let owed := d.cnt.tagOwed.filter fun k => counterHit k (d.counter k) o
  let d := countOnly o d
  match item, owed with
  | some i, k :: _ =>
    tagItem i (some k) { d with cnt := { d.cnt with tagOwed := d.cnt.tagOwed.filter fun x => !owed.contains x } }
  | _, _ => d

/-- A port event and a global event without an item. -/
def countPort (ev port q cls part n : Nat) (d : Device) : Device :=
  countEvent { ev := ev, port := port, q := q, cls := cls, part := part, count := n } none d
def countGlobal (ev part n : Nat) (d : Device) : Device :=
  countEvent { ev := ev, port := 0x7F, q := 0, cls := 0, part := part, count := n } none d

/-- Advance a fixed counter of a port (Table 17.1). -/
def countFixed (port j n : Nat) (d : Device) : Device :=
  let k := counterKey port j
  let c := d.counter k
  d.setCounter k { c with value := (c.value + n) % 2 ^ 48 }

/-- A 4 B little-endian number that saturates. -/
def satLe4 (n : Nat) : List Byte := natLe 4 (min n 0xFFFFFFFF)

/-- Write a stamp of a tagged item: stage j = 1–7 is D1–D7 (Table 17.6). -/
def traceStage (item j : Nat) (d : Device) : Device :=
  { d with cnt := { d.cnt with tags := d.cnt.tags.map fun x =>
      if x.item = item then { x with stamps := x.stamps.set (j - 1) (some (d.devTime.toNat - x.tIn)) } else x } }

/-- Payload bytes of an item: a read carries none (R50). -/
def payloadLen (t : Tlp) : Nat :=
  match t.kind with
  | .memRead => 0
  | .lockedRead => 0
  | .ioRead => 0
  | .cfgRead => 0
  | .transReq => 0
  | _ => t.len

/-- How an item is routed. -/
def byAddress : Kind → Bool
  | .memRead => true
  | .lockedRead => true
  | .memWrite => true
  | .fetchAdd => true
  | .swap => true
  | .cas => true
  | .transReq => true
  | .msgAddr => true
  | _ => false
def isMemory (k : Kind) : Bool := byAddress k && decide (k ≠ .msgAddr)
def isAtomic (k : Kind) : Bool := decide (k = .fetchAdd) || decide (k = .swap) || decide (k = .cas)
def isIo (k : Kind) : Bool := decide (k = .ioRead) || decide (k = .ioWrite)
def isConfig (k : Kind) : Bool := decide (k = .cfgRead) || decide (k = .cfgWrite)
def isCpl (k : Kind) : Bool := decide (k = .cpl) || decide (k = .lockedCpl)

/-- REQ_ID, TAG, KIND and the rest of a trace record (Table 17.7): an item that entered this device's fabric here has this device as its source. -/
def traceRecord (x : Tagged) (i : Item) (outcome phase : Nat) (d : Device) : List Byte :=
  let fid : Nat := match i.fab with
    | some f => f.srcFid
    | none => d.glb.fid
  let which : Nat := match x.ovf with
    | some k => k / 64 + (k % 64) * 128
    | none => 0
  let kind : Nat := if i.ingress < 96 ∧ (d.port i.ingress).personality = .pfl then 2 else if i.rma.isSome then 1 else 0
  let stamps : List Byte := (x.stamps.map fun s => satLe4 (s.getD 0xFFFFFFFF)).flatten
  natLe 8 x.tIn ++ stamps ++ natLe 2 x.tagId ++ natLe 1 i.ingress ++ natLe 1 i.egress ++ natLe 1 i.part ++
  natLe 1 (i.queue % 8 + i.cls * 8 + natOfBool (!i.stored) * 32 + natOfBool x.ovf.isSome * 64 + phase * 128) ++
  natLe 2 (payloadLen i.tlp) ++ natLe 1 outcome ++ natLe 1 kind ++ natLe 2 i.tlp.reqId ++ natLe 2 (i.tlp.tag % 2 ^ 14) ++
  natLe 1 fid ++ natLe 1 0 ++ natLe 4 which ++
  natLe 8 (if i.rma.isNone && (isMemory i.tlp.kind || isIo i.tlp.kind) then i.tlp.addr else 0)

/-- A tagged item leaves or is dropped: its record goes to the trace ring in force, or is counted lost (R469). -/
def traceEnd (i : Item) (outcome : Nat) (d : Device) : Device :=
  match d.cnt.tags.find? fun x => x.item = i.id with
  | none => d
  | some x =>
    let d := { d with cnt := { d.cnt with tags := d.cnt.tags.filter fun y => y.item ≠ i.id } }
    let r := d.cnt.tag
    if r.entries ≠ 0 ∧ ringRoom r 1 then
      let w := ringWrite r 64 [traceRecord x i outcome (ringPhase r 0) d] d
      { w.2 with cnt := { w.2.cnt with tag := w.1 } }
    else cntRaise 0x04 { d with cnt := { d.cnt with tag := { r with lost := satAdd 0xFFFFFFFF r.lost 1 } } }

end Sys2Proof.Machine
end

