-- ==== Sys2Proof/Machine/RmaBase.lean ====
section
/-! DEFINITION. Machine/RmaBase.lean: what the whole device needs of the RMA engine (chapter 9): contexts, the host memory of a
function, items that a QP sends, the entry to ERROR. -/

namespace Sys2Proof.Machine

/-- Queue pairs, completion queues and regions by number. -/
def Device.qp (d : Device) (n : Nat) : Option Qp := (d.qps.find? fun e => decide (e.1 = n)).map (·.2)
def Device.putQp (d : Device) (n : Nat) (q : Qp) : Device := { d with qps := tinsert n q d.qps }
def Device.cq (d : Device) (n : Nat) : Option Cq := (d.cqs.find? fun e => decide (e.1 = n)).map (·.2)
def Device.putCq (d : Device) (n : Nat) (c : Cq) : Device := { d with cqs := tinsert n c d.cqs }
def Device.region (d : Device) (i : Nat) : Region := tget regionReset d.regions i
def Device.setRegion (d : Device) (i : Nat) (x : Region) : Device := { d with regions := tset regionReset d.regions i x }

/-- How far count `a` is ahead of count `b`, both of 32 bits that wrap; the same for PSNs of 24 bits. -/
def ahead (a b : Nat) : Nat := (a + 2 ^ 32 - b) % 2 ^ 32
def psnFrom (a b : Nat) : Nat := (a + 2 ^ 24 - b) % 2 ^ 24
def psnAdd (a k : Nat) : Nat := (a + k) % 2 ^ 24

/-- The function may issue memory requests (R362, R371). -/
def fnEnabled (f : Fn) (d : Device) : Bool :=
  let x := d.func f
  x.bme && !x.d3hot && decide (x.flr = .idle)

/-- Internal port of a context's slice (R252). -/
def slicePort (n : Nat) : Nat := 96 + n % 4

/-- The cached translation of an address of a function (R366). -/
def atsFind (f : Fn) (a : Nat) (d : Device) : Option AtsEntry :=
  d.ats.find? fun e => decide (e.fn = f) && decide (e.page ≤ a / 4096) && decide (a / 4096 < e.page + e.pages)

/-- The address a request of a function carries. -/
def hostAddr (f : Fn) (a : Nat) (d : Device) : Nat :=
  if (d.func f).atsEnable then
    match atsFind f a d with
    | some e => (e.target + (a / 4096 - e.page)) * 4096 + a % 4096
    | none => a
  else a

/-- The operation of a send queue entry (Table 9.1). -/
def isWriteOp (op : Nat) : Bool := decide (op = 1) || decide (op = 2)
def isAtomicOp (op : Nat) : Bool := decide (op = 5) || decide (op = 6)

/-- An item of a QP's requester or responder, without what its kind adds (Table 9.5). (DEDUCED, log entry 36) -/
def baseHdr (n : Nat) (q : Qp) (op psn : Nat) (d : Device) : RmaHdr :=
  { srcFid := d.glb.fid, dstFid := q.dstFid, op := op, last := false, retx := false, syndrome := 0, dstQpn := q.dstQpn, srcQpn := n,
    psn := psn, msgPsn := psn, msgOffset := 0, address := 0, key := 0, totalLen := 0, imm := 0, laddrLo := 0, data := [] }

/-- What an RMA item carries, as the device's queues see it. -/
def rmaTlp (h : RmaHdr) : Tlp :=
  { kind := .rma, addr := 0, destId := 0, reqId := 0, tag := 0, tc := 0, ro := false, len := h.data.length, data := h.data,
    poisoned := false,
    digest := false, status := .sc, byteCount := 0 }

/-- Send an item from its QP's slice; what is not an ACK counts in RMA_SLICE_SEG. -/
def sendRma (n : Nat) (h : RmaHdr) (d : Device) : Device :=
  let g := d.rma
  let g := if h.op = 8 then g else { g with segments := g.segments.set (n % 4) (wrapAdd 32 (g.segments.getD (n % 4) 0) 1) }
  issue (slicePort n) ((d.qp n).map (·.fn)) (rmaTlp h) (some h) { d with rma := g }

/-- Bitmap of accepted PSNs from EPSN onward (Table 9.5). -/
def acceptedMap (q : Qp) : Nat :=
  (List.range 256).foldl (fun m i =>
    let psn := psnAdd q.epsn i
    if q.rx.any (fun x => decide (psnFrom psn x.hdr.psn < x.psns)) then m + 2 ^ i else m) 0

/-- The ACK of a responder with a syndrome; a NAK names the PSN it concerns. -/
def ackHdr (n syndrome psn : Nat) (q : Qp) (d : Device) : RmaHdr :=
  { baseHdr n q 8 q.epsn d with syndrome := syndrome, msgPsn := psn, data := if syndrome ≤ 1 then natLe 32 (acceptedMap q) else [] }

/-- Entry to ERROR (Table 9.7, R279): the status and first PSN of the request that caused it; a connected peer is sent
NAK_FAULT once. (DEDUCED, log entry 37) -/
def toError (n status : Nat) (psn : Option Nat) (d : Device) : Device :=
  match d.qp n with
  | none => d
  | some q =>
    if q.state = .error then d
    else
      let g := d.rma
      let g := { g with qpErrors := g.qpErrors.set (n % 4) (satAdd 0xFFFF (g.qpErrors.getD (n % 4) 0) 1),
                        intStatus := g.intStatus ||| 2 }
      let told := decide (q.state = .rts)
      let q' := { q with state := .error, errorStatus := status, errorPsn := psn, rereads := [], faultSent := told }
      let d := { d with rma := g }.putQp n q'
      if told then sendRma n (ackHdr n 5 q.epsn q d) d else d

/-- A dropped or denied placement (R277). -/
def placementFault (n : Nat) (d : Device) : Device := toError n 0 none d

/-- Bytes of host memory that an operation reads or writes at its responder (R259, Table 9.11). -/
def remoteLen (h : RmaHdr) : Nat := if isWriteOp h.op then h.data.length else if h.op = 3 then h.totalLen else 8

/-- Address a lies in a range of a function's memory, as its requests carry it. -/
def coversAddr (f : Fn) (b len a : Nat) (d : Device) : Bool :=
  (List.range (len / 4096 + 2)).any fun k =>
    let lo := if k = 0 then b else (b / 4096 + k) * 4096
    let hi := min (b + max len 1) ((b / 4096 + k + 1) * 4096)
    decide (lo < hi) && decide (hostAddr f lo d ≤ a) && decide (a < hostAddr f lo d + (hi - lo))

/-- A memory request of a function at an address has been dropped or denied, or was answered with an error: what a responder
of the function places or reads there is R277's, and a request that places there ends with LOCAL_DMA (Table 9.3). -/
def placementFails (f : Fn) (a : Nat) (d : Device) : Device :=
  let hit := fun (h : RmaHdr) => coversAddr f h.address (remoteLen h) a d
  match d.qps.find? fun e => decide (e.2.fn = f) && decide (e.2.state = .rts) &&
      (e.2.rx.any (fun x => !x.complete && hit x.hdr) || e.2.rereads.any hit) with
  | some e => placementFault e.1 d
  | none =>
    let placing := fun (r : WorkReq) =>
      !isWriteOp r.wqe.op && decide (0 < r.sent) && coversAddr f r.wqe.localAddr (if isAtomicOp r.wqe.op then 8 else r.wqe.length) a d
    match d.qps.find? fun e => decide (e.2.fn = f) && decide (e.2.state = .rts) && e.2.reqs.any placing with
    | some e => toError e.1 7 ((e.2.reqs.find? placing).map (·.firstPsn)) d
    | none => d

end Sys2Proof.Machine
end

