-- ==== Sys2Proof/Machine/Items.lean ====
section
/-! DEFINITION. Machine/Items.lean: items inside the device, what happens to one that is dropped (Table 8.3), the
tailings journal (R235–R239), synthetic completions (R230), link loss (R229) and the end of a lock (R69). -/

namespace Sys2Proof.Machine

/-- Cells of an item by its payload bytes (R50). -/
def cellsOf (len : Nat) : Nat := if len = 0 then 1 else ceilDiv len 256

/-- Transaction class of a TLP kind: 0 P, 1 NP, 2 CPL. -/
def kindClass : Kind → Nat
  | .memRead => 1
  | .lockedRead => 1
  | .memWrite => 0
  | .fetchAdd => 1
  | .swap => 1
  | .cas => 1
  | .transReq => 1
  | .ioRead => 1
  | .ioWrite => 1
  | .cfgRead => 1
  | .cfgWrite => 1
  | .msgRoot => 0
  | .msgAddr => 0
  | .msgId => 0
  | .msgBroadcast => 0
  | .msgLocal => 0
  | .vdm => 0
  | .cpl => 2
  | .lockedCpl => 2
  | .rma => 0
  | .fabRoute => 0
  | .topo => 0
  | .mgmt => 0

/-- The item with a number. -/
def findItem (id : Nat) (d : Device) : Option Item := d.items.find? fun i => i.id = id

/-- The VL an item travels on (R219): its queue's, VL3 for ROUTE, TOPO and MGMT. -/
def vlOfQueue (q : Nat) (d : Device) : Nat := fieldOf d.fab.vlMap (2 * q + 1) (2 * q)
def itemVl (t : Tlp) (q : Nat) (d : Device) : Nat :=
  match t.kind with
  | .fabRoute => 3
  | .topo => 3
  | .mgmt => 3
  | _ => vlOfQueue q d

/-- Add to one of three class counts. -/
def addClass (l : List Nat) (cls n : Nat) : List Nat := l.set cls (l.getD cls 0 + n)

/-- Data credit that an arriving item takes: cells on a PFL port (R188), units of 16 B on a PCI Express port (R309), none on an
internal port. -/
def dataCredit (n : Nat) (t : Tlp) (d : Device) : Nat :=
  if 96 ≤ n then 0
  else if (d.port n).personality = .pfl then cellsOf (payloadLen t) else ceilDiv (payloadLen t) 16

/-- Link credit of an ingress port is free (R55): it is owed to a PCI Express partner (R309), or counted as freed for a PFL
partner (R190); what a block taken back has to give is withheld first. -/
def freeIngress (n cls q : Nat) (t : Tlp) (hdr data : Nat) (d : Device) : Device :=
  if 96 ≤ n then d
  else if (d.port n).personality = .pfl then
    let x := d.pfl n
    let credits := tmod creditReset x.credits (4 * itemVl t q d + cls) fun c =>
      let kept := min c.takeBack data
      let keptHdr := min c.takeBackHdr hdr
      { c with takeBack := c.takeBack - kept, dataFreed := (c.dataFreed + (data - kept)) % 2 ^ 32,
               takeBackHdr := c.takeBackHdr - keptHdr, hdrFreed := (c.hdrFreed + (hdr - keptHdr)) % 2 ^ 32,
               changedAt := some (c.changedAt.getD d.now) }
    d.setPfl n { x with credits := credits }
  else
    let x := d.pci n
    let kept := min (x.takeBack.getD cls 0) data
    let keptHdr := min (x.takeBackHdr.getD cls 0) hdr
    d.setPci n { x with owed := addClass x.owed cls (data - kept), owedHdr := addClass x.owedHdr cls (hdr - keptHdr),
                        takeBack := x.takeBack.set cls (x.takeBack.getD cls 0 - kept),
                        takeBackHdr := x.takeBackHdr.set cls (x.takeBackHdr.getD cls 0 - keptHdr) }

/-- The credit, headers and data, that goes back as some of an item's cells leave the ingress memory (R55): a cell's own, and
all that is left with the last. -/
def cellCredit (i : Item) (cells : Nat) (d : Device) : Nat × Nat :=
  if i.inCells ≤ cells then (i.hdrCr, i.dataCr)
  else (0, min i.dataCr (if (d.port i.ingress).personality = .pfl then cells else 16 * cells))

/-- Cells of an item leave the ingress memory. -/
def leaveIngress (cells : Nat) (i : Item) (d : Device) : Device :=
  let c := cellCredit i cells d
  freeIngress i.ingress i.cls i.queue i.tlp c.1 c.2 d

/-- Take an item out of the device: its cells, counts and slot go with it (R63). -/
def removeItem (id : Nat) (d : Device) : Device :=
  let d := match findItem id d with
    | some i => if i.inCells = 0 then d else leaveIngress i.inCells i d
    | none => d
  { d with items := d.items.filter fun i => i.id ≠ id }

/-- Replace an item. -/
def putItem (i : Item) (d : Device) : Device := { d with items := d.items.map fun j => if j.id = i.id then i else j }

/-- A path of a route is live (R221). -/
def pathLive (x : FabPath) (d : Device) : Bool := pflLive x.port d && !x.withdrawn

/-- The paths of a route that carry items: the live ones with W > 0, or, without one, the live standby paths (R221). -/
def usablePaths (r : FabRoute) (d : Device) : List FabPath :=
  let live := r.paths.filter fun x => pathLive x d
  let weighted := live.filter fun x => x.weight ≠ 0
  if weighted.isEmpty then live else weighted

/-- A live path to a FID exists, in a route that is not lost (R444). -/
def hasLivePath (fid : Nat) (d : Device) : Bool := !(usablePaths (d.route fid) d).isEmpty && !entryLost (.route fid) d

/-- Weights with which the buckets of a route are dealt: those of the usable paths, all 1 when only standby paths are live
(R221, R222). -/
def dealWeights (r : FabRoute) (d : Device) : List (Nat × Nat) :=
  let us := usablePaths r d
  us.map fun x => (x.port, if x.weight = 0 then 1 else x.weight)

/-- Pick by position: the path whose share of the total weight a position falls in. -/
def pickWeighted : List (Nat × Nat) → Nat → Option Nat
  | [], _ => none
  | (port, w) :: rest, k => if k < w then some port else pickWeighted rest (k - w)

/-- The path that a deal gives bucket b of 4,096. -/
def dealtPort (ws : List (Nat × Nat)) (b : Nat) : Option Nat :=
  let total := (ws.map (·.2)).foldl (· + ·) 0
  pickWeighted ws (b * total / 4096)

/-- A bucket may go on using a port: a live path of the route, or, after the route was replaced, a port that is live (R222). -/
def bucketLive (r : FabRoute) (n : Nat) (d : Device) : Bool :=
  match r.paths.find? fun x => x.port = n with
  | some x => pathLive x d
  | none => pflLive n d && !r.paths.isEmpty

/-- The path that the deal in force gives bucket b, or, where that path is no longer live, a deal among those that are. -/
def dealtPath (r : FabRoute) (b : Nat) (d : Device) : Option Nat :=
  match dealtPort r.deal b with
  | some n => if bucketLive r n d then some n else dealtPort (dealWeights r d) b
  | none => dealtPort (dealWeights r d) b

/-- The path of a bucket (R222): it keeps a live path until it has been silent for ROUTE_GUARD_US and the deal differs. -/
def bucketPath (fid b : Nat) (d : Device) : Option Nat :=
  let r := d.route fid
  match r.buckets.find? fun e => e.1 = b with
  | none => dealtPath r b d
  | some (_, x) =>
    if bucketLive r x.path d && decide (d.now < x.lastSent + d.fab.guardUs * usNs) then some x.path else dealtPath r b d

/-- A bucket sends nothing: it waits out its guard after a move, or its path has died and the move has yet to be made (R222). -/
def bucketGuarded (fid b : Nat) (d : Device) : Bool :=
  let r := d.route fid
  match r.buckets.find? fun e => e.1 = b with
  | some (_, x) => decide (d.now < x.guardUntil) || !bucketLive r x.path d
  | none => (match dealtPort r.deal b with
      | some n => !bucketLive r n d
      | none => false) ||
    r.died.any fun x => decide (d.now < x.2.2) && decide (dealtPort x.1 b = some x.2.1)

/-- The deal follows the live paths; buckets whose path is no longer live move to the path of the new deal, and wait out the
guard (R222). -/
def moveBuckets (fid : Nat) (d : Device) : Device :=
  let r := d.route fid
  let deal := dealWeights r d
  let until_ := d.now + d.fab.guardUs * usNs
  let moved := r.buckets.filterMap fun e =>
    if bucketLive r e.2.path d then some e
    else (dealtPort deal e.1).map fun n => (e.1, { e.2 with path := n, guardUntil := until_ })
  let dead := (r.deal.map (·.1)).filter fun n => !bucketLive r n d
  let died := (r.died.filter fun x => decide (d.now < x.2.2)) ++ dead.map fun n => (r.deal, n, until_)
  d.setRoute fid { r with buckets := moved, deal := deal, died := died }

/-- The flow bucket of an item that enters the fabric here (R220). (DESIGN CHOICE, log entry 35) -/
def flowOf (ingress fid port queue : Nat) : Nat := Config.flowHash ingress fid port queue % 4096

/-- Journal slots held: by items inside and by entries the host has not consumed (FAB_J_HELD, R236). -/
def journalHeld (p : Nat) (d : Device) : Nat :=
  (d.items.filter fun i => i.part = p ∧ (i.slot ∨ i.sharedSlot)).length + (d.journal p).owed.length

/-- Source of an item's journal slot: its port, 96 the RMA function, 127 the shared slots, 255 none. -/
def slotSource (i : Item) : Nat :=
  if i.sharedSlot then 127
  else if i.slot then (if 96 ≤ i.ingress then 96 else i.ingress)
  else 255

/-- A journal entry (Table 8.4). -/
structure JournalEntry where
  address : Nat
  reqId : Nat
  tag : Nat
  length : Nat
  reason : Nat
  count : Bool
  srcFid : Nat
  port : Nat
  lossFid : Nat
  lossPort : Nat
deriving DecidableEq, Repr

/-- The 32 bytes of an entry, with the PHASE of its lap. -/
def entryBytes (e : JournalEntry) (time phase : Nat) : List Byte :=
  natLe 8 e.address ++ natLe 8 time ++ natLe 2 e.reqId ++ natLe 2 (e.tag % 2 ^ 14) ++ natLe 4 e.length ++
  natLe 1 e.reason ++ natLe 1 (phase + 2 * natOfBool e.count) ++ natLe 1 e.srcFid ++ natLe 1 e.port ++
  natLe 1 e.lossFid ++ natLe 1 e.lossPort ++ natLe 2 0

/-- The USP a journal's entries are sent to (R239). -/
def journalPort (p : Nat) (j : Journal) (d : Device) : Option Nat := uspOf (if j.viaMgr then 0 else p) d

/-- A journal entry that could not be written is counted (R238, R239). -/
def journalLost (p : Nat) (d : Device) : Device :=
  let j := d.journal p
  fabRaise 0x80 (d.setJournal p { j with lost := satAdd 0xFFFFFFFF j.lost 1 })

/-- Write one journal entry of a partition, or count it lost: a partition without a journal (R238), or a USP whose link
is not up (R239). `src` is the source whose slot the entry goes on holding, 255 none. -/
def journalWrite (p src : Nat) (e : JournalEntry) (d : Device) : Device :=
  let j := d.journal p
  match journalPort p j d with
  | none => journalLost p d
  | some u =>
    if j.entries = 0 ∨ linkUp u d = false then journalLost p d
    else
      let phase := natOfBool (decide (j.index / j.entries % 2 = 0))
      let d' := emit (.hostWrite u (j.base + (j.index % j.entries) * 32) (entryBytes e d.devTime.toNat phase)) d
      let d' := d'.setJournal p { j with index := j.index + 1, prod := j.prod + 1, owed := j.owed ++ [src] }
      let d' := countGlobal 0x107 p 1 d'
      if j.prod = j.cons ∧ j.vector ≠ 0xFFFF then sendVector (if j.viaMgr then .mgr else function1 p) j.vector d' else d'

/-- The entry of a dropped posted item. -/
def dropEntry (i : Item) (reason lossFid lossPort : Nat) (d : Device) : JournalEntry :=
  let src : Nat := match i.fab with
    | some f => f.srcFid
    | none => d.glb.fid
  { address := i.tlp.addr, reqId := i.srcRid, tag := i.srcTag, length := i.tlp.len, reason := reason, count := false,
    srcFid := src, port := i.ingress, lossFid := lossFid, lossPort := lossPort }

/-- A completion for a request, with a status. -/
def completionFor (t : Tlp) (rid tag : Nat) (st : CplStatus) : Tlp :=
  let k : Kind := if t.kind = .lockedRead then .lockedCpl else .cpl
  { kind := k, addr := 0, destId := rid, reqId := rid, tag := tag, tc := t.tc, ro := false, len := 0, data := [],
    poisoned := false, digest := false, status := st, byteCount := t.len }

/-- The fabric header of a completion that the device forms itself: it enters the fabric here and crosses its first link (R218,
R220). `port` is the port that it stands for. -/
def ownFab (f : FabHdr) (fid port : Nat) (synth : Bool) (d : Device) : FabHdr :=
  { f with dstFid := fid, srcFid := d.glb.fid, cls := 2, dstPort := 0x7F, hops := 1, synth := synth,
           flow := flowOf port fid 0x7F f.queue, stamp := d.devTime.toNat % 2 ^ 32 }

/-- A completion of the device's own leaves toward another device; without a live path it is lost (R221, Table 8.4). -/
def emitAway (h : FabHdr) (c : Tlp) (d : Device) : Device :=
  match bucketPath h.dstFid h.flow d with
  | some n => emit (.item n c (some h)) d
  | none => d

/-- The tracker entry of a request that leaves (R122, R231, R322). -/
def trackOf (i : Item) (d : Device) : Track :=
  let fid : Option Nat := if i.egress < 96 ∧ (d.port i.egress).personality = .pfl then i.fab.map (·.dstFid) else none
  let near : Option FabHdr := match i.fab with
    | some f => if f.srcFid = d.glb.fid then none else some f
    | none => none
  { id := i.id, port := i.egress, fid := fid, rid := i.tlp.reqId, tag := i.tlp.tag, nearRid := i.srcRid, nearTag := i.srcTag,
    nearPort := i.ingress, part := i.part, srcPart := i.srcPart, window := i.window, steer := i.steer, fn := i.fn, kind := i.tlp.kind,
    queue := i.queue, addr := i.tlp.addr, remaining := i.tlp.len, swap := i.swap, wantAddr := i.wantAddr, wantLen := i.wantLen,
    nearFab := near, held := [], sentAt := d.now, answered := false, spent := i.spent, vf := i.vf }

/-- A non-posted request that its link has taken is in the tracker as well as in a replay buffer. -/
def isTracked (i : Item) (d : Device) : Bool := decide (i.cls = 1) && d.tracks.any fun t => decide (t.id = i.id)

/-- Bytes of a range that the source asked for. -/
def wanted (lo len wlo wlen : Nat) : Nat × Nat :=
  let a := max lo wlo
  let b := min (lo + len) (wlo + wlen)
  (a, b - a)

/-- Bytes that a track still owes its source. -/
def wantedLeft (t : Track) : Nat := (wanted t.addr t.remaining t.wantAddr t.wantLen).2

/-- The source request that a track or an item is a piece of (R129). -/
def requestOf (t : Track) : Option Nat × Nat × Nat × Nat := (t.window, t.nearRid, t.nearTag, t.nearPort)
def itemRequest (i : Item) : Option Nat × Nat × Nat × Nat := (i.window, i.srcRid, i.srcTag, i.ingress)

/-- The other pieces of a source request that the source has not had yet: sent ones, or ones that have failed and wait for their
turn, and ones still on their way (R129). -/
def pieceTracks (t : Track) (d : Device) : List Track :=
  d.tracks.filter fun x => decide (requestOf x = requestOf t) && !x.spent && (!x.answered || !x.held.isEmpty) && decide (x.id ≠ t.id)
def pieceItems (t : Track) (d : Device) : List Item :=
  d.items.filter fun i => decide (i.cls = 1) && decide (itemRequest i = requestOf t) && !i.spent && !isTracked i d && decide (i.id ≠ t.id)

/-- Pieces have their numbers in address order: no earlier one is still owed. -/
def isFirstPiece (t : Track) (d : Device) : Bool :=
  (pieceTracks t d).all (fun x => decide (t.id < x.id)) && (pieceItems t d).all fun i => decide (t.id < i.id)

/-- Bytes of a source request that it has not had yet, from this piece on. -/
def bytesLeft (t : Track) (d : Device) : Nat :=
  wantedLeft t + ((pieceTracks t d).map wantedLeft).foldl (· + ·) 0 + ((pieceItems t d).map (·.wantLen)).foldl (· + ·) 0

/-- The source of a piece has had its last completion: what its pieces return is discarded (R129). -/
def spendPieces (t : Track) (d : Device) : Device :=
  { d with tracks := d.tracks.map fun x => if requestOf x = requestOf t then { x with spent := true, held := [] } else x,
           items := d.items.map fun i => if i.cls = 1 ∧ itemRequest i = requestOf t then { i with spent := true } else i }

/-- Port of a piece that failed before it left: no completion of it comes. -/
def unsentPort : Nat := 128

/-- Put a track into the tracker, in place of one of its number. -/
def putTrack (t : Track) (d : Device) : Device := { d with tracks := d.tracks.map fun x => if x.id = t.id then t else x }
def dropTrack (t : Track) (d : Device) : Device := { d with tracks := d.tracks.filter fun x => decide (x.id ≠ t.id) }
def keepTrack (t : Track) (d : Device) : Device :=
  if d.tracks.any fun x => decide (x.id = t.id) then putTrack t d else { d with tracks := d.tracks ++ [t] }

/-- An item that a completion of the device's own is, toward the source of a translated request: it holds no link credit. -/
def ownCpl (t : Track) (c : Tlp) (egress : Nat) (fab : Option FabHdr) (d : Device) : Item :=
  { id := d.nextId, tlp := { c with addrType := natOfBool (decide (t.kind = .transReq)) }, rma := none, cls := 2,
    ingress := t.port, part := t.srcPart, window := none, srcAddr := t.addr, srcRid := c.reqId,
    srcTag := c.tag, steer := none, fn := t.fn, egress := egress, queue := t.queue, fab := fab, stage := .voq, inCells := 1, holdCells := 0,
    poolCells := 0, rsvCells := 0, checkedBy := none, slot := false, sharedSlot := false, order := 0, admittedAt := 0, swap := 0,
    wantAddr := 0, wantLen := 0, stored := true, srcPart := t.srcPart, hdrCr := 0, dataCr := 0, spent := false, vf := none }

/-- Items that the device sends for itself on VL3 (R219): ROUTE, TOPO, MGMT. -/
def isControl (k : Kind) : Bool := decide (k = .fabRoute) || decide (k = .topo) || decide (k = .mgmt)

/-- A VL3 item that waits at a PFL port's egress, with no partition (R219): it holds no cell of an output buffer and waits in
the highest queue. `src` is where it entered the fabric, `hops` the links it has crossed. (DESIGN CHOICE, log entry 71) -/
def controlItem (n : Nat) (k : Kind) (cls dst src hops : Nat) (data : List Byte) (d : Device) : Item :=
  { id := d.nextId,
    tlp := { kind := k, addr := 0, destId := 0, reqId := 0, tag := 0, tc := 0, ro := false, len := data.length, data := data,
             poisoned := false, digest := false, status := .sc, byteCount := 0 },
    rma := none, cls := cls, ingress := 100, part := 63, srcPart := 63, window := none, srcAddr := 0, srcRid := 0, srcTag := 0,
      steer := none,
    vf := none, fn := none, egress := n, queue := 7,
    fab := some { dstFid := dst, srcFid := src, part := 0, cls := cls, dstPort := 0x7F, queue := 7, hops := hops, synth := false,
                  flow := flowOf 100 dst 0x7F 7, stamp := d.devTime.toNat % 2 ^ 32 },
    stage := .buffered, inCells := 0, holdCells := 0, poolCells := 0, rsvCells := 0, checkedBy := none, slot := false, sharedSlot := false,
    order := d.nextId, admittedAt := d.now, swap := 0, wantAddr := 0, wantLen := 0, stored := true, hdrCr := 0, dataCr := 0,
      spent := false }

/-- Send an item of KIND ROUTE, TOPO or MGMT by a PFL port (R219). -/
def sendControl (n : Nat) (k : Kind) (cls dst src hops : Nat) (data : List Byte) (d : Device) : Device :=
  { d with items := d.items ++ [controlItem n k cls dst src hops data d], nextId := d.nextId + 1 }

/-- Send a relayed command, or a reply to one, to another device (R226): over the path of its bucket; without a live path it
is lost. A command travels in class P, what answers it in class CPL. (DESIGN CHOICE, log entry 71) -/
def sendMgmt (cls fid : Nat) (data : List Byte) (d : Device) : Device :=
  match bucketPath fid (flowOf 100 fid 0x7F 7) d with
  | some n => sendControl n .mgmt cls fid d.glb.fid 0 data d
  | none => d

/-- A completion of the device's own toward the requester of an item: back through its ingress port, into the queue toward the
function that issued it, or over a live path to the FID it came from. -/
def emitCpl (i : Item) (c : Tlp) (synth : Bool) (d : Device) : Device :=
  let near := fun (d : Device) =>
    if 96 ≤ i.ingress then { d with items := d.items ++ [ownCpl (trackOf i d) c i.ingress none d], nextId := d.nextId + 1 }
    else emit (.item i.ingress c none) d
  match i.fab with
  | some f => if f.srcFid = d.glb.fid then near d else emitAway (ownFab f f.srcFid i.egress synth d) c d
  | none => near d

/-- The completion that ends a source request at one of its pieces: it waits behind the data of the earlier pieces (R64,
R129). -/
def endRequest (t : Track) (st : CplStatus) (synth : Bool) (d : Device) : Device :=
  let c : Tlp := { kind := .cpl, addr := 0, destId := t.nearRid, reqId := t.nearRid, tag := t.nearTag, tc := 0, ro := false, len := 0,
                   data := [], poisoned := false, digest := false, status := st, byteCount := bytesLeft t d }
  let d := spendPieces t d
  let enter := fun (i : Item) (d : Device) => { d with items := d.items ++ [i], nextId := d.nextId + 1 }
  match t.nearFab with
  | some f =>
    let h := { ownFab f f.srcFid t.port synth d with hops := 0 }
    match bucketPath h.dstFid h.flow d with
    | some n => enter (ownCpl t c n (some h) d) d
    | none => d
  | none => if t.nearPort < 96 ∧ linkUp t.nearPort d = false then d else enter (ownCpl t c t.nearPort none d) d

/-- A piece of a translated request fails: the first one ends the request; a later one waits for the earlier ones (R123,
R129). -/
def failPiece (t0 : Track) (st : CplStatus) (synth : Bool) (d : Device) : Device :=
  let t := { t0 with answered := true }
  if t.spent then (if d.tracks.any fun x => decide (x.id = t.id) then putTrack t d else d)
  else if isFirstPiece t d then
    let d := endRequest t st synth d
    if d.tracks.any fun x => decide (x.id = t.id) then putTrack { t with spent := true, held := [] } d else d
  else
    keepTrack { t with held := t.held ++ [{ kind := .cpl, addr := 0, destId := t.nearRid, reqId := t.nearRid, tag := t.nearTag, tc := 0,
                                            ro := false, len := 0, data := [], poisoned := false, digest := false, status := st,
                                            byteCount := 0 }] } d

/-- Answer a request item with a completion status (R87, R88, R92, R160): it leaves toward its requester; one for a piece of a
translated request keeps the order of R129. (DEDUCED, log entry 25; DEDUCED, log entry 26) -/
def answerItem (i : Item) (st : CplStatus) (synth : Bool) (d : Device) : Device :=
  if i.window.isSome then
    match d.tracks.find? fun t => decide (t.id = i.id) with
    | some t => failPiece t st synth d
    | none => failPiece { trackOf i d with port := unsentPort, fid := none } st synth d
  else emitCpl i (completionFor i.tlp i.srcRid i.srcTag st) synth d

/-- Log a synthetic completion (R230): FAB_CNT_SYNTH, the first in FAB_SYNTH_INFO, SYNTH. -/
def logSynth (rid lossFid lossPort part : Nat) (d : Device) : Device :=
  let f := d.fab
  let info : SynthInfo := if f.intStatus.getLsbD 2 then f.synthInfo else { reqId := rid, fid := lossFid, port := lossPort }
  let d := { d with fab := { f with cntSynth := satAdd 0xFFFFFFFF f.cntSynth 1, synthInfo := info } }
  countGlobal 0x108 part 1 (fabRaise 0x04 d)

/-- A failed translated posted write (R130): the window counts it, and captures the first. A window removed meanwhile has no
log. (DEDUCED, log entry 30) -/
def windowFail (w addr reason rid : Nat) (d : Device) : Device :=
  let x := d.window w
  let x' := { x with errCount := satAdd 0xFFFFFFFF x.errCount 1 }
  if x.valid = false then d
  else if x.errValid then d.setWindow w x'
  else
    let x'' := { x' with errAddr := addr, errReason := reason, errValid := true, errRid := rid }
    let d := d.setWindow w x''
    sendVector (function1 x.srcPart) x.errVector { d with ntw := { d.ntw with intStatus := d.ntw.intStatus ||| 1 } }

/-- The window's view of a dropped posted write, when a window translated it. -/
def windowDrop (i : Item) (reason : Nat) (d : Device) : Device :=
  match i.window with
  | some w => if i.cls = 0 then windowFail w i.srcAddr reason i.srcRid d else d
  | none => d

/-- An RMA item is dropped (R271): a segment or request of one of this device's own QPs is due again at once, and that
is no retry; every other RMA item, an ACK or a response too, is discarded. -/
def rmaDrop (h : RmaHdr) (d : Device) : Device :=
  if h.srcFid = d.glb.fid ∧ (h.op = 1 ∨ h.op = 2 ∨ h.op = 3 ∨ h.op = 5 ∨ h.op = 6) then
    match d.qps.find? fun e => e.1 = h.srcQpn with
    | none => d
    | some (n, q) =>
      if q.state = .rts then
        let q' := { q with unacked := q.unacked.map fun s => if s.hdr.psn = h.psn then { s with dueAt := some d.now } else s }
        { d with qps := tinsert n q' d.qps }
      else d
  else d

/-- A DSP's lock ends (Table 3.4). -/
def unlockPort (n : Nat) (d : Device) : Device :=
  let l := d.lockOf n
  d.setLock n { l with state := .unlocked, owner := 0 }

/-- A locked read through a port has had a synthetic completion: PENDING ends (Table 3.4). -/
def lockFails (n : Nat) (k : Kind) (d : Device) : Device :=
  if k = .lockedRead ∧ (d.lockOf n).state = .pending then unlockPort n d else d

/-- Drop an item and report it as Table 8.3 states: reason, and the FID and port whose loss dropped it. A tracked request that
has been answered already is not answered again (R94). -/
def dropItem (reason lossFid lossPort : Nat) (i : Item) (d : Device) : Device :=
  let d := removeItem i.id d
  let d := traceEnd i (if reason = 1 then 1 else if reason = 3 then 2 else if reason = 2 then 3 else 5) d
  match i.rma with
  | some h => rmaDrop h d
  | none =>
    match i.tlp.kind with
    | .fabRoute => d
    | .topo => d
    | .mgmt => d
    | _ =>
      if i.cls = 1 then
        if i.spent then { d with tracks := d.tracks.map fun t => if t.id = i.id then { t with answered := true } else t }
        else if d.tracks.any fun t => decide (t.id = i.id) && t.answered then d
        else
          let d := { d with tracks := d.tracks.map fun t => if t.id = i.id then { t with answered := true } else t }
          answerItem i .ca true (lockFails i.egress i.tlp.kind (logSynth i.srcRid lossFid lossPort i.part d))
      else if i.cls = 2 then
        let c : Tlp := { i.tlp with status := .ca, data := [], len := 0, digest := false }
        let d := logSynth i.tlp.reqId lossFid lossPort i.part d
        match i.fab with
        | some f => if f.dstFid = d.glb.fid then emit (.item i.egress c none) d else emitAway (ownFab f f.dstFid i.ingress true d) c d
        | none => emit (.item i.egress c none) d
      else
        let d := journalWrite i.part (slotSource i) (dropEntry i reason lossFid lossPort d) d
        match i.fn with
        | some f => placementFails f i.tlp.addr d
        | none => d

/-- Drop every item with a property. -/
def dropItems (p : Item → Bool) (reason lossFid lossPort : Nat) (d : Device) : Device :=
  (d.items.filter p).foldl (fun d i => windowDrop i (if reason = 2 then 3 else 4) (dropItem reason lossFid lossPort i d)) d

/-- FID concerned by the loss of a port: its partner's on a PFL port, else this device's own. -/
def lossFidOf (n : Nat) (d : Device) : Nat := if (d.port n).personality = .pfl then (d.pfl n).partnerFid else d.glb.fid

/-- The part of link loss that concerns items (R229): everything queued toward the port is dropped and reported, and
partial items held for resequencing go. -/
def lossItems (n : Nat) (d : Device) : Device :=
  let d := dropItems (fun i => decide (i.egress = n)) 1 (lossFidOf n d) n d
  d.setPfl n { d.pfl n with held := [], stream := [], rxParts := [] }

/-- Every bridge of a partition takes its reset values; sticky AER fields stay, and so do bindings (R555, Table 4.3).
(DEDUCED, log entry 29) -/
def resetBridges (p : Nat) (d : Device) : Device :=
  let d := d.bridges.foldl (fun d e =>
    if e.1 / 256 = p then d.setBridge e.1 { bridgeReset with aerUncor := e.2.aerUncor, aerMask := e.2.aerMask } else d) d
  d.setPart p { d.part p with capturedBus := 0 }

/-- PART0's bridges and the management function take reset values (R497). (DEDUCED, log entry 29) -/
def managerReset (d : Device) : Device :=
  let f := d.func .mgr
  let d := (resetBridges 0 d).setFunc .mgr { funcReset with lateCpl := f.lateCpl }
  { d with msix := d.msix.filter fun e => decide (2048 ≤ e.1) }

/-- A PCI Express link goes down: link state, credits, lock, the bridge's Data Link Layer State Changed, its items. -/
def pcieDown (n : Nat) (st : LState) (d : Device) : Device :=
  let x := d.pci n
  let up := lstateUp x.lstate
  let d := lanesDown n (lossItems n (d.setPci n { x with lstate := st }))
  let x := d.pci n
  let x := { x with lstate := st, negWidth := 0, flit := false, curRate := if st = .hotReset ∨ st = .l2 then x.curRate else 0,
                    txHdr := [0, 0, 0], txData := [0, 0, 0],
                    dlChanged := x.dlChanged || up, presenceChanged := x.presenceChanged || (up && !x.prsnt),
                    downtrained := false }
  let d := unlockPort n (d.setPci n x)
  let d := if up then portRaise n 1 d else d
  if up ∧ st ≠ .l2 ∧ n = d.glb.mgrPort ∧ (d.port n).personality = .usp ∧ (d.port n).holder = 0 then managerReset d else d

end Sys2Proof.Machine
end

