-- ==== Sys2Proof/Machine/Names.lean ====
section
/-! DEFINITION. Machine/Names.lean: what a command names (R552), for the waits of R401. -/

namespace Sys2Proof.Machine

/-- The kinds of object that a command can name (R552). -/
inductive ObjKind where
  | part | port | lane | channel | window | qp | cq | region | context | entry | vf | fn
deriving DecidableEq, Repr

/-- Objects of one kind that a command names: `count` of them from `first`. -/
structure Named where
  kind : ObjKind
  first : Nat
  count : Nat
deriving DecidableEq, Repr

/-- Two names have an object in common. -/
def Named.meets (a b : Named) : Bool :=
  decide (a.kind = b.kind) && decide (a.first < b.first + b.count) && decide (b.first < a.first + a.count)

def oneObj (k : ObjKind) (n : Nat) : List Named := [{ kind := k, first := n, count := 1 }]

/-- A port and every lane it owns. -/
def portObj (n : Nat) (d : Device) : List Named :=
  oneObj .port n ++ [{ kind := .lane, first := 4 * n, count := (d.port n).width }]

/-- A range of lanes, and the ports that own them. -/
def laneObjs (first count : Nat) (d : Device) : List Named :=
  let units := (List.range (ceilDiv (first % 4 + count) 4)).map (first / 4 + ·)
  { kind := .lane, first := first, count := count } ::
    (units.map fun u => oneObj .port ((d.port u).absorbedBy.getD u)).flatten

/-- A QP or CQ is a context, a region a region entry. -/
def qpObj (n : Nat) : List Named := oneObj .qp n ++ oneObj .context n
def cqObj (n : Nat) : List Named := oneObj .cq n ++ oneObj .context n
def regionObj (i : Nat) : List Named := oneObj .region i ++ oneObj .entry i

/-- The function on which a tenant command acts: the mailbox's own, or the one that TARGET names. -/
def actingFn (c : Cmd) : Nat :=
  let t := c.target.toNat
  match c.source.transport with
  | 1 => fnKey (.pf c.source.inst)
  | 2 => fnKey (.vf c.source.inst)
  | _ => if bitOf t 12 then fnKey (.vf (t % 4096)) else fnKey (.pf (t % 4096))

/-- A port of this device, where the command's FID field names this device or the command was relayed here. -/
def portHere (c : Cmd) (n fid : Nat) (d : Device) : List Named :=
  if fid = d.glb.fid ∨ c.source.transport = 6 then portObj n d else []

/-- What a command of an opcode names (R552). (DEDUCED, log entry 47) -/
def namesOf (op : Nat) (c : Cmd) (d : Device) : List Named :=
  let p := c.params
  let t := c.target.toNat
  match op with
  | 0x0206 => laneObjs (u16 p 0) (u16 p 2) d
  | 0x0301 => if u8 p 0 = 0 then [] else oneObj .part (u8 p 0)
  | 0x0304 => oneObj .part t ++ portHere c (u8 p 0) (u8 p 1) d
  | 0x0305 => (if t = 0 then [] else oneObj .part t) ++ portHere c (u8 p 0) (u8 p 7) d
  | 0x0501 => (if u16 p 0 = 0xFFFF then [] else oneObj .window (u16 p 0)) ++ oneObj .part (u8 p 2) ++ oneObj .part (u8 p 3)
  | 0x0502 => oneObj .window t
  | 0x0503 => oneObj .window t
  | 0x0603 => oneObj .part t
  | 0x0701 => oneObj .part t
  | 0x0702 => oneObj .vf t
  | 0x0703 => oneObj .part t
  | 0x0705 => [{ kind := if u8 p 0 = 1 then .entry else .context, first := u32 p 4, count := u32 p 8 }]
  | 0x0801 => if u8 p 0 = 0 then portObj t d else qpObj t
  | 0x0A01 => if t = 0x7F then [] else portObj t d
  | 0x0A03 => if u8 p 22 = 0x3F then [] else oneObj .part (u8 p 22)
  | 0x7101 => oneObj .fn (actingFn c) ++ cqObj (u32 p 0) ++ cqObj (u32 p 4)
  | 0x7102 => oneObj .fn (actingFn c) ++ qpObj (u32 p 0) ++ (if u8 p 5 = d.glb.fid then qpObj (u32 p 8) else [])
  | 0x7103 => oneObj .fn (actingFn c) ++ qpObj (u32 p 0)
  | 0x7104 => oneObj .fn (actingFn c)
  | 0x7105 => oneObj .fn (actingFn c) ++ cqObj (u32 p 0)
  | 0x7106 => oneObj .fn (actingFn c)
  | 0x7107 => oneObj .fn (actingFn c) ++ regionObj (u32 p 0 / 256)
  | 0x7108 => oneObj .fn (actingFn c)
  | _ =>
    if op / 256 = 0x02 then portObj t d
    else if op / 256 = 0x03 ∨ op / 256 = 0x04 then oneObj .part t
    else if op / 256 = 0x09 then oneObj .channel t
    else []

/-- While a LONG CTX_ZERO runs, commands that create or release contexts or region entries of its KIND wait (R552). -/
def zeroHolds (zero : Cmd) (op : Nat) : Bool :=
  if u8 zero.params 0 = 1 then op == 0x7106 || op == 0x7107
  else op == 0x7101 || op == 0x7103 || op == 0x7104 || op == 0x7105

/-- A command waits because a LONG command that has replied ACCEPTED names an object it names too, or is the one FW_UPDATE or
SYS_SNAPSHOT_SAVE that may run (R401). (DEDUCED, log entry 47) -/
def waitsForLong (op : Nat) (c : Cmd) (d : Device) : Bool :=
  d.kme.execs.any fun e => e.accepted &&
    ((decide (e.op = op) && (op == 0x0104 || op == 0x0B01)) || (decide (e.op = 0x0705) && zeroHolds e.cmd op) ||
      (namesOf e.op e.cmd d).any fun a => (namesOf op c d).any fun b => a.meets b)

end Sys2Proof.Machine
end

