-- ==== Sys2Proof/Machine/Panel.lean ====
section
/-! DEFINITION. Machine/Panel.lean: panel memory as it is reserved and shared (R18, R54, R191), and the result of PORT_CONFIG
(Table 2.3). -/

namespace Sys2Proof.Machine

/-- Rows of a memory that spares have replaced, and those out of service. -/
def sparesOf (m : Nat) (d : Device) : Spares := tget sparesReset d.can.spares m

/-- Panel cells reserved: receive pools, replay and resequencing buffers, and class minima of enabled ports (R18). -/
def enabledPort (x : Port) : Bool :=
  decide (x.personality = .usp) || decide (x.personality = .dsp) || decide (x.personality = .pfl)
def panelPfl (p : Nat) (d : Device) : Nat :=
  (List.range 12).foldl (fun a u =>
    let n := p * 12 + u
    if (d.port n).personality = .pfl ∧ (d.port n).absorbedBy = none then a + (d.pfl n).rxPool + 768 else a) 0
def panelMin (p : Nat) (d : Device) : Nat :=
  (List.range 12).foldl (fun a u =>
    let n := p * 12 + u
    let b := d.buf n
    if enabledPort (d.port n) ∧ (d.port n).absorbedBy = none then a + b.minP + b.minNp + b.minCpl else a) 0

/-- The panel's shared pool, less the rows taken out of service (R18, Table 16.7). -/
def panelShared (p : Nat) (d : Device) : Nat := 16384 - panelPfl p d - panelMin p d - 16 * (sparesOf (p + 1) d).out

/-- Shared cells in use: the blocks ports and PFL receivers hold (R54, R191). -/
def panelTaken (p : Nat) (d : Device) : Nat :=
  (List.range 12).foldl (fun a u =>
    let b := d.buf (p * 12 + u)
    let vl3 := if (d.port (p * 12 + u)).personality = .pfl then
        (((d.pfl (p * 12 + u)).credits.filter fun e => decide (12 ≤ e.1)).map (·.2.sharedCells)).foldl (· + ·) 0
      else 0
    a + b.sharedP + b.sharedNp + b.sharedCpl + vl3) 0
/-- Cells of a memory's scheduled rows that were free when their row was scheduled, and are not allocated (R443).
(DEDUCED, log entry 55) -/
def plannedFree (m : Nat) (d : Device) : Nat :=
  ((d.can.plans.filter fun p => decide (p.memory = m)).map fun p => 16 - p.busy).foldl (· + ·) 0
def panelFree (p : Nat) (d : Device) : Nat := panelShared p d - panelTaken p d - plannedFree (p + 1) d

/-- PERSONALITY codes (Table 2.1). -/
def personalityCode : Personality → Nat
  | .off => 0
  | .usp => 1
  | .dsp => 2
  | .pfl => 3
  | .diag => 4

/-- FLAGS of a port in force. -/
def portFlags (x : Port) : Nat := natOfBool x.sris + 2 * natOfBool x.hotplug + 4 * natOfBool x.clkout

/-- The result of Table 2.3. -/
def portResult (n : Nat) (d : Device) : List Byte :=
  if portExists n d then
    let x := d.port n
    natLe 1 (personalityCode x.personality) ++ natLe 1 x.width ++ natLe 1 x.maxRate ++ natLe 1 (portFlags x) ++
      natLe 2 (panelShared (panelOf n) d) ++ natLe 2 0
  else natLe 8 0

/-- Shared blocks of an ingress port's class (R54). -/
def sharedOf (b : PortBuf) (cls : Nat) : Nat := if cls = 0 then b.sharedP else if cls = 1 then b.sharedNp else b.sharedCpl
def minOf (b : PortBuf) (cls : Nat) : Nat := if cls = 0 then b.minP else if cls = 1 then b.minNp else b.minCpl
def withShared (b : PortBuf) (cls v : Nat) : PortBuf :=
  if cls = 0 then { b with sharedP := v } else if cls = 1 then { b with sharedNp := v } else { b with sharedCpl := v }

/-- Link credit that cells set aside back on a PCI Express port (R55, R309): a quarter of them back a header each, the others 16
data credits each, so that no use of the credit needs more cells. (DESIGN CHOICE, log entry 65) -/
def headersOf (cells : Nat) : Nat := cells / 4
def dataOf (cells : Nat) : Nat := 16 * (cells - cells / 4)

end Sys2Proof.Machine
end

