-- ==== Sys2Proof/Machine/Text.lean ====
section
/-! DEFINITION. Machine/Text.lean: the lines that the adit monitor prints (R507, Tables 19.1 and 19.3): numbers, names, and the
answers of its text commands. -/

namespace Sys2Proof.Machine

/-- One hexadecimal digit, upper case. -/
def hexDigit (n : Nat) : Char := if n < 10 then Char.ofNat (48 + n) else Char.ofNat (55 + n)

/-- `k` groups of four hexadecimal digits, joined by underscores. -/
def hexGroups : Nat → Nat → List Char
  | 0, _ => []
  | k + 1, n =>
    let g := [hexDigit (n / 4096 % 16), hexDigit (n / 256 % 16), hexDigit (n / 16 % 16), hexDigit (n % 16)]
    if k = 0 then g else hexGroups k (n / 65536) ++ '_' :: g

/-- Values as the manual writes them: 0x0000_0102. -/
def hex16 (n : Nat) : String := "0x" ++ String.ofList (hexGroups 1 n)
def hex32 (n : Nat) : String := "0x" ++ String.ofList (hexGroups 2 n)
def hex64 (n : Nat) : String := "0x" ++ String.ofList (hexGroups 4 n)
def hexByte (b : Byte) : String := String.ofList [hexDigit (b.toNat / 16), hexDigit (b.toNat % 16)]

/-- Fields joined by single spaces. -/
def words (l : List String) : String := String.intercalate " " l

/-- Names of the status codes (Table 14.7). -/
def statusName : Status → String
  | .ok => "OK"
  | .accepted => "ACCEPTED"
  | .badOpcode => "BAD_OPCODE"
  | .badLength => "BAD_LENGTH"
  | .badParam => "BAD_PARAM"
  | .notPermitted => "NOT_PERMITTED"
  | .busyLocked => "BUSY_LOCKED"
  | .noResource => "NO_RESOURCE"
  | .noContext => "NO_CONTEXT"
  | .overlap => "OVERLAP"
  | .notQuiesced => "NOT_QUIESCED"
  | .fidConflict => "FID_CONFLICT"
  | .aborted => "ABORTED"
  | .timeout => "TIMEOUT"
  | .hwFault => "HW_FAULT"
  | .doneDegraded => "DONE_DEGRADED"

/-- KIND of a black-box record by name (Table 16.8). -/
def kindName (k : Nat) : String :=
  match k with
  | 1 => "GRADE_CHANGE"
  | 2 => "DEVICE_LEVEL_FAULT"
  | 3 => "PARTITION_FATAL"
  | 4 => "ROW_RETIRED"
  | 5 => "SHAFT_SPARE_USED"
  | 6 => "REFCLK_SWITCHOVER"
  | 7 => "KME_RESTART"
  | 8 => "SLOT_POWER_TRIP"
  | 9 => "LINK_DOWN"
  | 10 => "BOOT"
  | _ => "UNKNOWN"

/-- Monitor error codes (Table 19.1). -/
def errText (k : Nat) : String :=
  match k with
  | 1 => "UNKNOWN"
  | 2 => "SYNTAX"
  | 3 => "LEVEL"
  | 4 => "ADDRESS"
  | 5 => "STATUS"
  | _ => "UNLOCK"

/-- Lines of text on the adit port. -/
def sayLines (l : List String) (d : Device) : Device := l.foldl (fun d x => emit (.text x) d) d

/-- The prompt, with the access level in force. -/
def prompt (d : Device) : Device := emit (.text ("adit" ++ toString d.adit.level ++ ">")) d

/-- A reply of the monitor: its lines, OK, the prompt (R507). -/
def sayOk (l : List String) (d : Device) : Device := prompt (sayLines (l ++ ["OK"]) d)

/-- A reply that ends with an error of Table 19.1. -/
def sayErr (k : Nat) (d : Device) : Device := prompt (sayLines ["ERR " ++ toString k ++ " " ++ errText k] d)

/-- ERR 5: the line adds STATUS and its name. -/
def sayStatus (a : Status) (d : Device) : Device :=
  prompt (sayLines [words ["ERR 5 STATUS", hex16 (statusCode a), statusName a]] d)

/-- The lines of `info`, from the result of SYS_INFO (Table 14.10). (DESIGN CHOICE, log entry 44) -/
def infoLines (r : List Byte) : List String :=
  [words ["SERIAL", hex64 (u64 r 0)], words ["FW", hex32 (u32 r 8)], words ["FID", toString (u8 r 15)],
   words ["IMAGE", if bitOf (u8 r 19) 0 then "B" else "A"], words ["TIME", toString (u64 r 24)]]

/-- One line of `log`, from a record of Table 16.8. (DESIGN CHOICE, log entry 44) -/
def logLine (r : List Byte) : String :=
  words [toString (u32 r 0), toString (u64 r 8), kindName (u8 r 4), toString (u8 r 5), toString (u16 r 20), toString (u16 r 22),
         toString (u16 r 6)]

/-- The lines of `log`, from the result of MRAM_LOG_READ (R453). -/
def logLines (r : List Byte) : List String := (List.range ((r.length - 8) / 64)).map fun i => logLine (r.drop (8 + 64 * i))

/-- The lines of 16 hexadecimal bytes each. -/
def hexLines (r : List Byte) : List String :=
  (List.range (ceilDiv r.length 16)).map fun i => words (((r.drop (16 * i)).take 16).map hexByte)

/-- A notice that arrives while the port is in text mode (R514). -/
def noticeLines (op : Nat) (seq : Byte) (a : Ans) : List String :=
  words ["NOTICE", hex16 op, toString seq.toNat, hex16 (statusCode a.status), statusName a.status, toString a.result.length] ::
    hexLines a.result

/-- The reply of the packet that a text command issued (R513). -/
def sayAnswer (w : TextWait) (a : Ans) (d : Device) : Device :=
  let d := { d with adit := { d.adit with waiting := none } }
  if a.status = .ok then
    match w with
    | .info => sayOk (infoLines a.result) d
    | .log => sayOk (logLines a.result) d
  else sayStatus a.status d

end Sys2Proof.Machine
end

