-- ==== Sys2Proof/Machine/Kme.lean ====
section
/-! DEFINITION. Machine/Kme.lean: command packets, replies and notices, the checks of R398, the arbiter and its lock
(chapter 14). -/

namespace Sys2Proof.Machine

/-- Rank of a source (Table 14.2). -/
def rankOf (s : Source) : Nat :=
  match s.transport with
  | 0 => 1
  | 1 => 2
  | 2 => 3
  | 3 => 0
  | 4 => 1
  | 5 => 0
  | 6 => 1
  | _ => 0

/-- The opcodes of Table 14.8. -/
def opcodes : List Nat :=
  [0x0101, 0x0102, 0x0103, 0x0104] ++
  [0x0201, 0x0202, 0x0203, 0x0204, 0x0205, 0x0206, 0x0207, 0x0208, 0x0209] ++
  [0x0301, 0x0302, 0x0303, 0x0304, 0x0305, 0x0306] ++
  [0x0401, 0x0402, 0x0403, 0x0404] ++ [0x0501, 0x0502, 0x0503, 0x0504] ++
  [0x0601, 0x0602, 0x0603, 0x0604, 0x0605] ++ [0x0701, 0x0702, 0x0703, 0x0704, 0x0705] ++
  [0x0801, 0x0802] ++ [0x0901, 0x0902, 0x0903, 0x0904] ++ [0x0A01, 0x0A02, 0x0A03] ++
  [0x0B01, 0x0B02] ++ [0x0C01, 0x0C02] ++
  [0x7101, 0x7102, 0x7103, 0x7104, 0x7105, 0x7106, 0x7107, 0x7108]

/-- Opcodes the adit monitor may issue at an access level (Table 19.2): level 1 adds the reading commands without
their clearing flags, level 2 every manager opcode but FW_UPDATE, level 3 all. -/
def aditAllowed (level op : Nat) (c : Cmd) : Bool :=
  op == 0x0101 ||
  (decide (1 ≤ level) &&
    (op == 0x0202 || op == 0x0602 || op == 0x0404 || op == 0x0B02 ||
     (op == 0x0103 && !bitOf (u8 c.params 0) 0) ||
     (op == 0x0503 && !bitOf (u8 c.params 0) 0) ||
     (op == 0x0904 && !bitOf (u8 c.params 0) 0 && !bitOf (u8 c.params 0) 1))) ||
  (decide (2 ≤ level) && op != 0x0B01) || decide (3 ≤ level)

/-- Step 4 of R398: the source may issue the opcode (Table 14.2). The manager's upstream port is the USP of PART0. -/
def sourceAllowed (op : Nat) (c : Cmd) : Bool :=
  match c.source.transport with
  | 0 => true
  | 1 => decide (op / 256 = 0x71) || op == 0x0101
  | 2 => decide (op / 256 = 0x71) || op == 0x0101
  | 3 => true
  | 4 => decide (c.source.inst = 0) || op == 0x0101
  | 5 => aditAllowed (c.source.inst % 4) op c
  | 6 => op == 0x0304 || op == 0x0305
  | 7 => true
  | _ => false

def lockBegin (c : Cmd) : Bool := c.flags.getLsbD 0
def lockHold (c : Cmd) : Bool := c.flags.getLsbD 1
def lockEnd (c : Cmd) : Bool := c.flags.getLsbD 2
def noReply (c : Cmd) : Bool := c.flags.getLsbD 3
def lockBits (c : Cmd) : Nat := natOfBool (lockBegin c) + natOfBool (lockHold c) + natOfBool (lockEnd c)

/-- The source holds the arbiter lock. -/
def holdsLock (s : Source) (d : Device) : Bool :=
  match d.kme.lock with
  | some l => decide (l.holder = s)
  | none => false

/-- Step 5 of R398 with the lock rules of R395–R396. On the adit port the lock bits need level 2 (Table 19.2):
a withheld flag is refused at step 4 (R508). -/
def flagsRefused (c : Cmd) (d : Device) : Option Ans :=
  if decide (2 ≤ rankOf c.source) && decide (0 < lockBits c) then some ansNo
  else if decide (16 ≤ c.flags.toNat) then some (ansBad 0xFF02)
  else if 1 < lockBits c then some (ansBad 0xFF02)
  else if holdsLock c.source d && !(lockHold c || lockEnd c) then some (ansBad 0xFF02)
  else if (lockHold c || lockEnd c) && !holdsLock c.source d && !d.kme.expired.contains c.source then
    some (ansBad 0xFF02)
  else none

/-- The partition a tenant mailbox is bound to (R105); 0 for every other source. -/
def sourcePart (s : Source) (d : Device) : Nat :=
  match s.transport with
  | 1 => s.inst
  | 2 => tget 0 d.vfPart s.inst
  | 4 => s.inst % 64
  | _ => 0

/-- R106: while the partition is fenced, tenant commands other than SYS_INFO are refused. -/
def fenceRefused (op : Nat) (c : Cmd) (d : Device) : Bool :=
  (decide (c.source.transport = 1) || decide (c.source.transport = 2)) && op != 0x0101 &&
    d.fenced (sourcePart c.source d)

/-- Steps 2–5 of R398, the expired lock of R397, then R106. Step 1, the CRC, is judged on the frame. (DEDUCED, log entry 61) -/
def commandChecks (op : Nat) (c : Cmd) (d : Device) : Option Ans :=
  if 4072 < c.params.length then some (ansLen 4072)
  else if !opcodes.contains op then some { status := .badOpcode, detail := 0, result := [] }
  else if !sourceAllowed op c || (decide (c.source.transport = 5) && decide (c.source.inst % 4 < 2) &&
      decide (0 < lockBits c)) then
    some { status := .notPermitted, detail := 1, result := [] }
  else match flagsRefused c d with
    | some a => some a
    | none =>
      if (lockHold c || lockEnd c) && !holdsLock c.source d then
        some { status := .aborted, detail := 2, result := [] }
      else if fenceRefused op c d then some ansNo
      else none

/-- An admitted command whose lock bits pass R396 begins, holds or ends the lock (R395), whatever else is found. -/
def applyLockBits (c : Cmd) (d : Device) : Device :=
  match flagsRefused c d with
  | some _ => d
  | none =>
    if lockBegin c then
      { d with kme := { d.kme with
          lock := some { holder := c.source, began := d.now, lastReply := d.now, ending := false,
                         gap100us := d.kme.lockGap, maxMs := d.kme.lockMaxMs },
          expired := d.kme.expired.filter (· ≠ c.source) } }
    else match d.kme.lock with
      | none => { d with kme := { d.kme with
          expired := if lockHold c || lockEnd c then d.kme.expired.filter (· ≠ c.source) else d.kme.expired } }
      | some l =>
        if l.holder = c.source then
          if lockEnd c then { d with kme := { d.kme with lock := some { l with ending := true } } } else d
        else { d with kme := { d.kme with
          expired := if lockHold c || lockEnd c then d.kme.expired.filter (· ≠ c.source) else d.kme.expired } }

/-- The header of a reply or notice (Table 14.3) followed by the result. -/
def answerBytes (op flags : Nat) (seq : Byte) (a : Ans) (d : Device) : List Byte :=
  natLe 2 op ++ [BitVec.ofNat 8 flags, seq] ++ natLe 2 a.result.length ++ natLe 2 (statusCode a.status) ++
  natLe 2 a.detail ++ [0, 0] ++ natLe 4 (d.devTime.toNat % 2 ^ 32) ++ a.result

/-- The trailing CRC-32C of SMBus and the adit port (R378, R379). -/
def withCrc (s : Source) (bytes : List Byte) : List Byte :=
  if s.transport = 3 ∨ s.transport = 5 then bytes ++ natLe 4 (crc32c bytes).toNat else bytes

/-- Send bytes on a byte-stream transport; an SMBus write is remembered until it is acknowledged (R381), and the answer to a
relayed command goes back as an item of KIND MGMT (R226). -/
def sendMessage (s : Source) (kind : Nat) (bytes : List Byte) (d : Device) : Device :=
  let d := { d with out := .message s kind bytes :: d.out }
  if s.transport = 6 then sendMgmt 2 s.inst bytes d
  else if s.transport = 3 then
    let r : SmbReply := { bytes := bytes, tries := 0, sentAt := d.now }
    { d with kme := { d.kme with smbReplies := tinsert s.inst r d.kme.smbReplies } }
  else d

/-- Send bytes `n` times: a reply and its repeats (R384). -/
def sendTimes (s : Source) (kind : Nat) (bytes : List Byte) : Nat → Device → Device
  | 0, d => d
  | n + 1, d => sendTimes s kind bytes n (sendMessage s kind bytes d)

/-- A lock whose LOCK_END command has its reply ends (R395); the holder's last reply restarts LOCK_GAP (R397). -/
def lockAtReply (c : Cmd) (d : Device) : Device :=
  match d.kme.lock with
  | none => d
  | some l =>
    if l.holder = c.source then
      if l.ending then { d with kme := { d.kme with lock := none } }
      else { d with kme := { d.kme with lock := some { l with lastReply := d.now, gap100us := d.kme.lockGap } } }
    else d

/-- Write a reply into a mailbox (R386, R387). -/
def mailboxReply (f : Fn) (op : Nat) (c : Cmd) (a : Ans) (flags : Nat) (d : Device) : Device :=
  let m := d.mailbox f
  let st : MbxState := if m.state = .executing then .done else m.state
  let m := { m with state := st, lastSeq := c.seq, lastStatus := statusCode a.status }
  if noReply c then d.setMailbox f m
  else mbxRaise f 0x02 (d.setMailbox f { m with mem := memWrite m.mem 0x1000 (answerBytes op flags c.seq a d) })

/-- Post a notice into the notice ring of a mailbox (R388). -/
def mailboxNotice (f : Fn) (op : Nat) (c : Cmd) (a : Ans) (flags : Nat) (d : Device) : Device :=
  let m := { d.mailbox f with lastSeq := c.seq, lastStatus := statusCode a.status }
  if noReply c then d.setMailbox f m
  else mbxRaise f 0x04 (d.setMailbox f { m with
    mem := memWrite m.mem (0x3000 + (m.prod.toNat % 16) * 256) (answerBytes op flags c.seq a d),
    prod := m.prod + 1 })

/-- Record the answer of the last command of a byte-stream source, for repeats (R384). -/
def storeAnswer (c : Cmd) (op : Nat) (notice final : Bool) (bytes : List Byte) (d : Device) : Device :=
  match d.kme.last.find? (fun e => e.1 = sourceNum c.source) with
  | none => d
  | some (_, l) =>
    if l.op = op ∧ l.seq = c.seq then
      let l := if notice then { l with notice := some bytes } else { l with reply := some bytes }
      let l := { l with finalAt := if final then some d.now else l.finalAt, repeats := 0 }
      { d with kme := { d.kme with last := tinsert (sourceNum c.source) l d.kme.last } }
    else d

/-- How many repeats wait for the reply of a command. -/
def waitingRepeats (c : Cmd) (op : Nat) (d : Device) : Nat :=
  match d.kme.last.find? (fun e => e.1 = sourceNum c.source) with
  | some (_, l) => if l.op = op ∧ l.seq = c.seq then l.repeats else 0
  | none => 0

/-- The text command of the adit monitor that waits for this command's reply (R513). -/
def textWaits (c : Cmd) (d : Device) : Option TextWait :=
  if c.source.transport = 5 ∧ d.adit.seq = c.seq then d.adit.waiting else none

/-- Deliver a reply or a notice on the command's transport; in text mode the adit monitor prints it (R388, R514). -/
def deliver (op : Nat) (c : Cmd) (a : Ans) (notice final : Bool) (d : Device) : Device :=
  let flags := natOfBool notice + 2 * natOfBool (holdsLock c.source d)
  match sourceFn c.source with
  | some f => if notice then mailboxNotice f op c a flags d else mailboxReply f op c a flags d
  | none =>
    if c.source.transport = 7 then d
    else
      let bytes := withCrc c.source (answerBytes op flags c.seq a d)
      let n := waitingRepeats c op d
      let d := storeAnswer c op notice final bytes d
      if noReply c then d
      else if c.source.transport = 5 ∧ !d.adit.raw ∧ notice then sayLines (noticeLines op c.seq a) d
      else match textWaits c d with
        | some w => sayAnswer w a d
        | none => sendTimes c.source (if notice then 3 else 2) bytes (n + 1) d

/-- The record of an admitted packet. -/
def sameCommand (op : Nat) (c : Cmd) (e : Exec) : Bool := decide (e.op = op) && decide (e.cmd = c.packet)

/-- The admitted command's record, if it has one. -/
def execOf (op : Nat) (c : Cmd) (d : Device) : Option Exec := d.kme.execs.find? (sameCommand op c)

/-- A command admitted that has not replied yet occupies the KME (R24, R401). -/
def kmeBusy (d : Device) : Bool := d.kme.execs.any (fun e => !e.accepted)

/-- PORT_CONFIG returns the values in force with any status (R33). -/
def statedResult (op : Nat) (c : Cmd) (a : Ans) (d : Device) : Ans :=
  if op = 0x0201 ∧ a.result = [] then { a with result := portResult c.target.toNat d } else a

/-- The final answer of a command: the reply, or the notice when it has replied ACCEPTED (R399). (DEDUCED, log entry 15) -/
def finish (op : Nat) (c : Cmd) (a : Ans) (d : Device) : Device :=
  let wasLong := match execOf op c d with
    | some e => e.accepted
    | none => false
  let d := { d with kme := { d.kme with
    execs := d.kme.execs.filter (fun e => !sameCommand op c e),
    lastOp := op, lastSource := sourceNum c.source, lastStatus := statusCode a.status, lastSeq := c.seq } }
  let d := if wasLong then d else lockAtReply c d
  deliver op c (statedResult op c a d) wasLong true d

/-- Reply ACCEPTED, once: the command becomes LONG and frees the KME (R399–R401). (DEDUCED, log entry 13) -/
def acceptLong (op : Nat) (c : Cmd) (d : Device) : Device :=
  if d.kme.execs.any (fun e => sameCommand op c e && e.accepted) then d
  else
  let d := { d with kme := { d.kme with
    execs := d.kme.execs.map (fun e => if sameCommand op c e then { e with accepted := true } else e) } }
  deliver op c { status := .accepted, detail := 0, result := [] } false false (lockAtReply c d)

/-- Admission of one command (R392, R395): it is counted, its source is remembered for the round robin and for
repeats, its lock bits act, and it occupies the KME. (DESIGN CHOICE, log entry 12) -/
def admitCommand (op : Nat) (c : Cmd) (d : Device) : Device :=
  let k := d.kme
  let fresh : LastCmd := { op := op, seq := c.seq, reply := none, notice := none, finalAt := none, repeats := 0 }
  let stream := decide (3 ≤ c.source.transport) && decide (c.source.transport ≤ 6)
  let run : Exec := { op := op, cmd := c.packet, since := d.now, accepted := false, applied := false, reported := 0, begun := false }
  let k := { k with
    admitted := wrapAdd 32 k.admitted 1,
    roundRobin := tset 0 k.roundRobin (rankOf c.source) (sourceNum c.source + 1),
    last := if stream then tinsert (sourceNum c.source) fresh k.last else k.last,
    execs := k.execs ++ [run] }
  applyLockBits c (countGlobal 0x100 0x3F 1 { d with kme := k })

/-- Admit a command and make the checks that precede the subject chapter's: the first failure is its reply. -/
def admitAndCheck (op : Nat) (c : Cmd) (d : Device) : Device × Bool :=
  let verdict := commandChecks op c d
  let d := admitCommand op c d
  match verdict with
  | some a => (finish op c a d, false)
  | none => (d, true)

/-- A command's own effect: it answers now, or it waits for an event that will answer it. -/
abbrev Effect := Cmd → Device → Device × Option Ans

/-- The KME admits a command of an opcode: its firmware runs and has replayed the configuration (R491); while the MAIN
PLL is not locked, the 0x01xx and 0x0Bxx commands only (R398). (DESIGN CHOICE, log entry 9) -/
def kmeAdmits (op : Nat) (d : Device) : Bool :=
  d.kme.running && (if d.clk.mainLock then decide (d.clk.phase = .ready) else decide (op / 256 = 0x01) || decide (op / 256 = 0x0B))

/-- Another source holds the arbiter lock (R395). -/
def lockedOut (s : Source) (d : Device) : Bool :=
  match d.kme.lock with
  | some l => decide (l.holder ≠ s)
  | none => false

/-- NOTICES_OUT (R388): LONG commands of the mailbox without a notice, and notices not consumed. -/
def noticesOut (f : Fn) (d : Device) : Nat :=
  (d.kme.execs.filter fun e => e.accepted && decide (e.cmd.source = fnSource f)).length +
    ((d.mailbox f).prod - (d.mailbox f).cons).toNat

/-- A mailbox with 16 notices outstanding submits nothing further (R388). -/
def noticeRoom (s : Source) (d : Device) : Bool :=
  match sourceFn s with
  | some f => decide (noticesOut f d < 16)
  | none => true

/-- The arbiter may admit a command now (R388, R392, R395, R398, R401).
(DESIGN CHOICE, log entry 9; DESIGN CHOICE, log entry 12) -/
def mayAdmit (op : Nat) (c : Cmd) (d : Device) : Bool :=
  !kmeBusy d && kmeAdmits op d && !lockedOut c.source d && noticeRoom c.source d && !waitsForLong op c d

/-- BUSY_LOCKED, answered at once and without admission (R396). -/
def answerLocked (op : Nat) (c : Cmd) (d : Device) : Device :=
  if noReply c then d
  else sendMessage c.source 2
    (withCrc c.source (answerBytes op 0 c.seq (statedResult op c { status := .busyLocked, detail := 0, result := [] } d) d)) d

/-- The source is one of the byte-stream transports 3–6. -/
def streamSource (s : Source) : Bool := decide (3 ≤ s.transport) && decide (s.transport ≤ 6)

/-- The execution of an admitted command begins. -/
def markBegun (op : Nat) (c : Cmd) (d : Device) : Device :=
  { d with kme := { d.kme with
    execs := d.kme.execs.map (fun e => if sameCommand op c e then { e with begun := true } else e) } }

/-- A command that would not be refused fails on the hardware (R446). (DESIGN CHOICE, log entry 63) -/
def hwFails (c : Cmd) (a : Option Ans) : Bool :=
  decide (c.fault ≠ 0) && (match a with
    | some a => decide (a.status = .ok) || decide (a.status = .doneDegraded)
    | none => true)

/-- Execute an admitted command: it replies now, or it waits for an event; one that fails on the hardware leaves the
configuration as it was (R25, R446). (DESIGN CHOICE, log entry 12; DESIGN CHOICE, log entry 63) -/
def execute (op : Nat) (f : Device → Device × Option Ans) (c : Cmd) (d : Device) : Device :=
  if hwFails c (f (markBegun op c d)).2 then finish op c { status := .hwFault, detail := c.fault, result := [] } (markBegun op c d)
  else match f (markBegun op c d) with
    | (d', some a) => finish op c a d'
    | (d', none) => d'

/-- The KME executes a packet. One that COMMAND_ADMISSION has admitted is executed as such; one that has not been is admitted
here, when the arbiter may admit it; otherwise it waits and nothing changes (R24, R394), but that a byte-stream source is
told of a lock at once (R396). (DESIGN CHOICE, log entry 12) -/
def runPacket (op : Nat) (f : Device → Device × Option Ans) (c : Cmd) (d : Device) : Device :=
  match execOf op c d with
  | some e => if e.begun then d else execute op f c d
  | none =>
    if mayAdmit op c d then
      match admitAndCheck op c d with
      | (d', true) => execute op f c d'
      | (d', false) => d'
    else if lockedOut c.source d && streamSource c.source then answerLocked op c d
    else d

/-- R553: TARGET and PARAM0 where the command states them as 0. -/
def headerZero (c : Cmd) : Option Ans :=
  if c.target ≠ 0 then some (ansBad 0xFF08) else if c.param0 ≠ 0 then some (ansBad 0xFF0C) else none

/-- R553 for a TARGET whose low `n` bits hold a value and whose other bits are 0. (DEDUCED, log entry 61) -/
def headerBits (n : Nat) (c : Cmd) : Option Ans :=
  if 2 ^ n ≤ c.target.toNat then some (ansBad 0xFF08) else if c.param0 ≠ 0 then some (ansBad 0xFF0C) else none

/-- The first of two checks to fail. -/
def orElse (a : Option Ans) (b : Option Ans) : Option Ans :=
  match a with
  | some x => some x
  | none => b

/-- A check: the answer when `bad` holds. -/
def failIf (bad : Bool) (a : Ans) : Option Ans := if bad then some a else none

/-- The first failure of an ordered list of checks. (DEDUCED, log entry 17) -/
def firstFail : List (Option Ans) → Option Ans
  | [] => none
  | some a :: _ => some a
  | none :: t => firstFail t

/-- Refuse with the first failure, else act. A refused command leaves the configuration as it was (R25). -/
def checked (checks : List (Option Ans)) (act : Device → Device × Option Ans) (d : Device) : Device × Option Ans :=
  match firstFail checks with
  | some a => (d, some a)
  | none => act d

/-- Mark the change of an admitted command as in force (R390). -/
def markApplied (op : Nat) (c : Cmd) (d : Device) : Device :=
  { d with kme := { d.kme with
    execs := d.kme.execs.map (fun e => if sameCommand op c e then { e with applied := true } else e) } }

/-- The first command whose execution has begun, not yet answered, with a property. -/
def findExec (p : Exec → Bool) (d : Device) : Option Exec := d.kme.execs.find? fun e => p e && e.begun

/-- Answer a command that waits for an event. -/
def finishExec (e : Exec) (a : Ans) (d : Device) : Device := finish e.op e.cmd a d

/-- The mailboxes that exist: the manager's, the PFs of partitions that are not FREE, the VF instances (R385). -/
def mailboxes (d : Device) : List Fn :=
  .mgr :: ((d.parts.filter fun e => decide (e.1 ≠ 0) && decide (e.2.state ≠ .free)).map fun e => Fn.pf e.1) ++
    (d.vfPart.map fun e => Fn.vf e.1)

/-- End of the arbiter lock before its LOCK_END (R397): LOCK_EXPIRED, and the holder's next command is answered ABORTED. -/
def expireLock (d : Device) : Device :=
  match d.kme.lock with
  | none => d
  | some l => kmeRaise 2 { d with kme := { d.kme with lock := none, expired := l.holder :: d.kme.expired } }

/-- Every admitted command without its final answer ends with ABORTED (R390). (DEDUCED, log entry 16) -/
def abortAll (d : Device) : Device :=
  d.kme.execs.foldl (fun d e => finish e.op e.cmd { status := .aborted, detail := natOfBool e.applied, result := [] } d) d

/-- Receiver reset (R390): every admitted command without its final answer ends with ABORTED; ABORTED is set in every
mailbox; the lock ends; the adit session returns to level 0 (R506, R510). -/
def kmeRestart (d : Device) : Device :=
  let d := expireLock (abortAll d)
  let d := (mailboxes d).foldl (fun d f =>
    let m := d.mailbox f
    mbxRaise f 0x10 (d.setMailbox f { m with state := if m.state = .executing then .done else m.state })) d
  let k := { d.kme with restarts := satAdd 0xFFFF d.kme.restarts 1, execs := [] }
  let a := { d.adit with level := 0, baud := 115200, challenge := none, waiting := none }
  let c := { d.can with restarts := d.now :: d.can.restarts }
  kmeRaise 8 (blackBoxRecord 7 0 0 [] { d with kme := k, adit := a, can := c })

end Sys2Proof.Machine
end

