-- ==== Sys2Proof/Machine/Faults.lean ====
section
/-! DEFINITION. Machine/Faults.lean: health, the black box, the canary, row retirement, faults and throttling
(chapter 16, R541–R544). -/

namespace Sys2Proof.Machine

/-- Largest entry of a list. -/
def maxOf (l : List Nat) : Nat := l.foldl max 0

/-- First index at which a list holds a value. -/
def indexOf (v : Nat) (l : List Nat) : Nat := l.findIdx (fun x => x = v)

/-- Spare rows of a memory (Table 16.4): 0 the output buffer, 1–8 the panels, 9 the caddy die, 10 the rest. -/
def spareLimit (m : Nat) : Nat := if m = 0 then 1536 else if m ≤ 8 then 64 else if m = 9 then 2048 else 256

/-- CAN registers (Table 16.11). -/
def canGradeWord (d : Device) : Nat :=
  d.can.grade + 4 * natOfBool d.can.repl + 8 * natOfBool d.can.baseline + 16 * natOfBool d.can.fault + 256 * d.can.cause
def canInputsWord (d : Device) : Nat := (List.range 10).foldl (fun a i => a + (d.can.grades.getD i 0) * 4 ^ i) 0
def spareObWord (d : Device) : Nat := (sparesOf 0 d).used + 65536 * (sparesOf 0 d).out
def spareCaddyWord (d : Device) : Nat := (sparesOf 9 d).used + 65536 * (sparesOf 9 d).out
def sparePanelWord (d : Device) : Nat :=
  let us := (List.range 8).map fun p => (sparesOf (p + 1) d).used
  let out := ((List.range 8).map fun p => (sparesOf (p + 1) d).out).foldl (· + ·) 0
  maxOf us + 256 * indexOf (maxOf us) us + 65536 * min out 0xFFFF
def shaftWord (d : Device) : Nat :=
  let us := (List.range 8).map fun k => (shaftOf k d).spares
  let failed := ((List.range 8).map fun k => (shaftOf k d).failed).foldl (· + ·) 0
  maxOf us + 64 * indexOf (maxOf us) us + 65536 * min failed 0xFFFF
def mramWord (d : Device) : Nat := min d.can.mramWear 0x3FF + 65536 * min d.can.mramRetired 0xFFFF

/-- SYS_HEALTH (R454): sampled before any acknowledgement. -/
def sysHealth (c : Cmd) (d : Device) : Device × Option Ans :=
  let p := c.params
  checked [failIf (decide (p.length ≠ 4)) (ansLen 4), headerZero c, failIf (decide (2 ≤ u8 p 0)) (ansBad 0),
           failIf (!zeros p 1 3) (ansBad 1)] (fun d =>
    let res := natLe 4 (canGradeWord d) ++ natLe 4 (canInputsWord d) ++ natLe 4 (spareObWord d) ++
      natLe 4 (spareCaddyWord d) ++ natLe 4 (shaftWord d) ++ natLe 4 (mramWord d) ++ natLe 8 d.devTime.toNat
    ({ d with can := { d.can with fault := d.can.fault && !bitOf (u8 p 0) 0 } }, some (ansOk res))) d

def execSysHealth (c : Cmd) (s : State) : Host.Outcome State Fault Refusal := done s (runPacket 0x0103 (sysHealth c) c s.dev)

/-- A black-box record as stored (Table 16.8). -/
def blackBoxBytes (r : BlackBox) : List Byte :=
  let data : List Byte := (r.data.map fun x => natLe 4 x).flatten
  let body := natLe 4 r.seq ++ natLe 1 r.kind ++ natLe 1 r.grade ++ natLe 2 r.suppressed ++ natLe 8 r.time ++
    natLe 4 r.boots ++ natLe 2 r.object ++ natLe 2 r.code ++ (data ++ List.replicate 36 0).take 36
  body ++ natLe 4 (crc32c body).toNat

/-- MRAM_LOG_READ (R453). -/
def mramLogRead (c : Cmd) (d : Device) : Device × Option Ans :=
  let p := c.params
  let first := u32 p 0
  checked [failIf (decide (p.length ≠ 8)) (ansLen 8), headerZero c,
           failIf (decide (u16 p 4 = 0) || decide (63 < u16 p 4)) (ansBad 4), failIf (!zeros p 6 2) (ansBad 6)] (fun d =>
    let from_ := d.blackBox.filter fun r => first = 0xFFFFFFFF || (r.seq + 2 ^ 32 - first) % 2 ^ 32 < 2 ^ 31
    let oldest : Nat := match d.blackBox.head? with
      | some r => r.seq
      | none => d.can.nextSeq
    (d, some (ansOk (natLe 4 oldest ++ natLe 4 d.can.nextSeq ++ ((from_.take (u16 p 4)).map blackBoxBytes).flatten)))) d

def execMramLogRead (c : Cmd) (s : State) : Host.Outcome State Fault Refusal :=
  done s (runPacket 0x0B02 (mramLogRead c) c s.dev)

/-- Seconds, hours in ns. -/
def secNs : Nat := 1000000000
def hourNs : Nat := 3600 * secNs

/-- Input 0 (Table 16.6): corrected errors of the last 10 min, of the hour before them, of the last hour. -/
def gradeEcc (log : List (Nat × Nat)) (now : Nat) (baseline : Bool) : Nat :=
  let within := fun (lo hi : Nat) => (log.filter fun e => e.1 + hi ≤ now ∧ now < e.1 + lo).foldl (fun a e => a + e.2) 0
  let recent := within (600 * secNs) 0
  let before := within (600 * secNs + hourNs) (600 * secNs)
  if 10000 ≤ within hourNs 0 then 2 else if !baseline && decide (10 * before < recent) && decide (100 ≤ recent) then 1 else 0

/-- Input 1: the worst pool of spare rows. -/
def gradeSpares (d : Device) : Nat :=
  maxOf ((List.range 11).map fun m =>
    let x := sparesOf m d
    if x.out ≠ 0 then 3 else if 3 * spareLimit m ≤ 4 * x.used then 2 else if spareLimit m ≤ 4 * x.used then 1 else 0)

/-- Input 2: shaft spares. -/
def gradeShafts (d : Device) : Nat :=
  maxOf ((List.range 8).map fun k =>
    let x := shaftOf k d
    if x.failed ≠ 0 then 3 else if 16 ≤ x.spares then 2 else if 4 ≤ x.spares then 1 else 0)

/-- Grades of the ten inputs (Table 16.6); the rate-of-change conditions rest during the baseline window (R448). -/
def canaryGrades (x : CanarySample) (d : Device) : List Nat :=
  let b := d.can.baseline
  let lastHour := d.can.linkEvents.filter fun e => d.now < e.2 + hourNs
  let links := (List.range 96).any fun n => 10 < (lastHour.filter fun e => e.1 = n).length
  let restarts := (d.can.restarts.filter fun t => d.now < t + 24 * hourNs).length
  let fatal := d.can.fatalTimes.any fun t => d.now < t + 24 * hourNs
  let absent := if d.clk.activeB then !d.clk.aValid else !d.clk.bValid
  [ gradeEcc d.can.eccLog d.now b, gradeSpares d, gradeShafts d, natOfBool links,
    (if 950 ≤ x.wear then 3 else if 800 ≤ x.wear then 2 else if 500 ≤ x.wear then 1 else 0),
    (if x.tjLong then 3 else if 110 ≤ x.tj then 2 else if 105 ≤ x.tj || (x.tjRise && !b) then 1 else 0),
    (if 60 < x.rails then 3 else if 40 < x.rails then 2 else if 25 < x.rails then 1 else 0),
    (if absent then 2 else 0), (if 3 ≤ restarts then 2 else if 1 ≤ restarts then 1 else 0),
    (if d.can.deviceFault then 3 else if fatal then 2 else 0) ]

/-- Since when every input has stayed below a grade. -/
def belowSince (g highest now : Nat) (old : Option Nat) : Option Nat := if highest < g then some (old.getD now) else none

/-- The device grade after an evaluation (R447): it rises at once, and falls only after 60 s below it; 3 stays. -/
def nextGrade (old highest now : Nat) (b1 b2 : Option Nat) : Nat :=
  let expired := fun (b : Option Nat) => match b with
    | some t => decide (t + 60 * secNs ≤ now)
    | none => false
  if old ≤ highest then highest
  else if old = 3 then 3
  else if old = 2 then (if expired b2 then (if expired b1 then 0 else max highest 1) else 2)
  else if expired b1 then 0 else old

/-- CANARY_EVALUATION (R447–R449), once at each device time that is a whole multiple of 100 ms. -/
def canaryEvaluation (x : CanarySample) (d : Device) : Device :=
  if d.clk.mainLock ∧ d.devTime.toNat % (100 * msNs) = 0 ∧ isDue .canary 1 d = true then
    let d := ranNow .canary d
    let c := d.can
    let first := decide (c.firstEval = none)
    let log := ((d.now, x.corrected) :: c.eccLog).filter fun e => decide (e.2 ≠ 0) && decide (d.now < e.1 + 2 * hourNs)
    let c := { c with firstEval := some (c.firstEval.getD d.now), baseline := c.baseline || first, eccLog := log,
                      eccCorr := satAdd 0xFFFFFFFF c.eccCorr x.corrected, mramWear := x.wear, mramRetired := x.mramRetired,
                      tjLast := x.tj, linkEvents := c.linkEvents.filter fun e => decide (d.now < e.2 + hourNs) }
    let d := { d with can := c }
    let d := if x.corrected = 0 then d else countGlobal 0x102 0x3F x.corrected d
    let gs := canaryGrades x d
    let top := maxOf gs
    let b1 := belowSince 1 top d.now c.below1
    let b2 := belowSince 2 top d.now c.below2
    let d := { d with can := { d.can with grades := gs, cause := indexOf top gs, below1 := b1, below2 := b2 } }
    let d := setGrade (nextGrade d.can.grade top d.now b1 b2) (indexOf top gs) d
    { d with can := { d.can with repl := d.can.repl || decide (d.can.grade = 3) } }
  else d

def execCanaryEvaluation (sample : CanarySample) (s : State) : Host.Outcome State Fault Refusal :=
  done s (canaryEvaluation sample s.dev)

/-- BASELINE_END (R448): 10 s after the first evaluation. -/
def execBaselineEnd (s : State) : Host.Outcome State Fault Refusal :=
  let d := s.dev
  let above : Bool := match d.can.firstEval with
    | some t => decide (t + 10 * secNs ≤ d.now)
    | none => false
  done s (if above then { d with can := { d.can with baseline := false } } else d)

/-- Map a row to a spare, or take it out of service when none is left (R443, Table 16.4). -/
def spareRow (m row : Nat) (d : Device) : Device :=
  let x := sparesOf m d
  let d :=
    if x.used < spareLimit m then
      { d with can := { d.can with spares := tset sparesReset d.can.spares m { x with used := x.used + 1 } } }
    else if m = 10 then d
    else { d with can := { d.can with spares := tset sparesReset d.can.spares m { x with out := satAdd 0xFFFF x.out 1 } } }
  canRaise 4 (blackBoxRecord 4 m row [] { d with can := { d.can with retired := d.can.retired + 1 } })

/-- ROW_RETIREMENT (R443): a table row moves to its spare at once; a packet row waits until its last cell is freed. -/
def rowRetirement (m row busy : Nat) (uncorrectable : Bool) (d : Device) : Device :=
  let d := if uncorrectable then d
    else countGlobal 0x102 0x3F 1 { d with can := { d.can with eccCorr := satAdd 0xFFFFFFFF d.can.eccCorr 1,
                                                               eccLog := (d.now, 1) :: d.can.eccLog } }
  if d.can.plans.any (fun p => p.memory = m ∧ p.row = row) then d
  else if 9 ≤ m then spareRow m row d
  else { d with can := { d.can with plans := d.can.plans ++ [{ memory := m, row := row, busy := min busy 16 }] } }

def execRowRetirement (memory row busy : Nat) (uncorrectable : Bool) (s : State) : Host.Outcome State Fault Refusal :=
  done s (rowRetirement memory row busy uncorrectable s.dev)

/-- ROW_SPARED (R443): the last cell of a scheduled row is free. Without a spare, a panel row leaves service only when
the shared pool holds 16 free cells. -/
def rowSpared (m row : Nat) (d : Device) : Device :=
  let planned := d.can.plans.any fun p => p.memory = m ∧ p.row = row
  let stays : Bool := decide (1 ≤ m) && decide (m ≤ 8) && decide (spareLimit m ≤ (sparesOf m d).used) &&
    decide (panelFree (m - 1) d < 16)
  if planned && !stays then
    spareRow m row { d with can := { d.can with plans := d.can.plans.filter fun p => !(decide (p.memory = m) && decide (p.row = row)) } }
  else d

def execRowSpared (memory row : Nat) (s : State) : Host.Outcome State Fault Refusal := done s (rowSpared memory row s.dev)

/-- CAN_ECC_UNCORR counts (R437). -/
def countItemEcc (d : Device) : Device := { d with can := { d.can with eccItem := satAdd 0xFFFF d.can.eccItem 1 } }
def countStructEcc (d : Device) : Device := { d with can := { d.can with eccStruct := satAdd 0xFFFF d.can.eccStruct 1 } }

/-- ITEM_ECC_ERROR (R438): a TLP goes on with EP set; an RMA item is discarded. -/
def itemEcc (id : Nat) (d : Device) : Device :=
  match findItem id d with
  | none => d
  | some i =>
    if i.rma.isSome then traceEnd i 5 (removeItem id (countItemEcc d))
    else putItem { i with tlp := { i.tlp with poisoned := true } } (countItemEcc d)

def execItemEccError (item : Nat) (s : State) : Host.Outcome State Fault Refusal := done s (itemEcc item s.dev)

/-- DESCRIPTOR_ECC_ERROR (R439): both copies of a descriptor word fail; `identified` when one of the copies still yields
the requester ID and tag. -/
def descriptorEcc (id : Nat) (identified : Bool) (d : Device) : Device :=
  match findItem id d with
  | none => d
  | some i =>
    if identified then countItemEcc (windowDrop i 5 (dropItem 7 d.glb.fid 0x7F i d))
    else deviceFault 0 (countStructEcc (traceEnd i 5 (removeItem id d)))

def execDescriptorEccError (item : Nat) (identified : Bool) (s : State) : Host.Outcome State Fault Refusal :=
  done s (descriptorEcc item identified s.dev)

/-- DEVICE_LEVEL_FAULT (R444): a lost table entry is invalid until its command rewrites it. (DEDUCED, log entry 55) -/
def deviceLevelFault (cause : FaultCause) (d : Device) : Device :=
  let d := countStructEcc d
  match cause with
  | .other code => deviceFault code d
  | _ => deviceFault 1 { d with can := { d.can with lostEntries := cause :: (entryRewritten cause d).can.lostEntries } }

def execDeviceLevelFault (cause : FaultCause) (s : State) : Host.Outcome State Fault Refusal :=
  done s (deviceLevelFault cause s.dev)

/-- A data lane of a shaft direction fails: its traffic moves to a spare, or its capacity is lost (R13, R14, R442). -/
def shaftLaneFails (dir lane : Nat) (d : Device) : Device :=
  let x := shaftOf dir d
  let y := if x.spares < 32 then { x with spares := x.spares + 1 } else { x with failed := x.failed + 1 }
  let y := { y with errors := y.errors.filter fun e => e.1 ≠ lane }
  blackBoxRecord 5 dir lane [] { d with can := { d.can with shafts := tset shaftReset d.can.shafts dir y } }

/-- SHAFT_CRC_ERROR (R442): the flit is replayed; a lane implicated in 8 errors within 1 ms is declared failed. -/
def shaftCrcError (dir lane : Nat) (d : Device) : Device :=
  let x := shaftOf dir d
  let errs := (lane, d.now) :: x.errors.filter fun e => decide (d.now < e.2 + msNs)
  let y := { x with errors := errs, replays := x.replays + 1 }
  let d := countGlobal 0x106 0x3F 1 { d with can := { d.can with shafts := tset shaftReset d.can.shafts dir y } }
  if 8 ≤ (errs.filter fun e => e.1 = lane).length then shaftLaneFails dir lane d else d

def execShaftCrcError (dir lane : Nat) (s : State) : Host.Outcome State Fault Refusal :=
  done s (if dir < 8 then shaftCrcError dir lane s.dev else s.dev)

def execShaftLaneFailure (dir lane : Nat) (s : State) : Host.Outcome State Fault Refusal :=
  done s (if dir < 8 then shaftLaneFails dir lane s.dev else s.dev)

/-- LOCKSTEP_MISMATCH (R445): the KME reloads its firmware and resumes; commands follow R390. -/
def execLockstepMismatch (s : State) : Host.Outcome State Fault Refusal :=
  done s (if s.dev.kme.running then kmeRestart s.dev else s.dev)

/-- THROTTLE_UPDATE (R541, R542, R544): every 1 ms N rises, falls or stays; power in 0.1 W. -/
def throttleUpdate (tj power hot : Nat) (t : Throttle) (now : Nat) : Throttle :=
  let temp := decide (112 ≤ tj)
  let above := decide (2850 < power)
  let rise := temp || above
  let fall := decide (tj ≤ 108) && decide (power ≤ 2750)
  let t := { t with temp := temp, power := above, pkgPower := min power 0xFFF, tjMax := min tj 0xFF, hotDie := hot % 8,
                    updatedAt := now }
  if t.emergency then (if tj ≤ 115 then { t with level := 12, emergency := false } else t)
  else if rise then
    (if t.level < 12 then { t with level := t.level + 1, entries := if t.level = 0 then satAdd 0xFFFF t.entries 1 else t.entries }
     else t)
  else if fall then { t with level := t.level - 1 } else t

def execThrottleUpdate (tj power hotDie : Nat) (s : State) : Host.Outcome State Fault Refusal :=
  let d := s.dev
  done s (if d.throttle.updatedAt + msNs ≤ d.now then { d with throttle := throttleUpdate tj power hotDie d.throttle d.now } else d)

/-- THERMAL_EMERGENCY (R542): TJ_MAX at 125 °C or more for 1 ms. -/
def execThermalEmergency (tj : Nat) (s : State) : Host.Outcome State Fault Refusal :=
  let d := s.dev
  let t := d.throttle
  let entries := if t.level = 0 then satAdd 0xFFFF t.entries 1 else t.entries
  done s (if 125 ≤ tj then { d with throttle := { t with level := 16, emergency := true, tjMax := min tj 0xFF, entries := entries } }
    else d)

end Sys2Proof.Machine
end

