-- ==== Sys2Proof/Machine/Spw.lean ====
section
/-! DEFINITION. Machine/Spw.lean: slot-power channels (chapter 15). -/

namespace Sys2Proof.Machine

/-- The port that a channel serves (R8, R31): SP2s the one containing unit 4s, SP2s+1 the one containing unit 4s + 2. -/
def channelPort (c : Nat) (d : Device) : Nat :=
  let u := (c / 2) * 4 + (c % 2) * 2
  (d.port u).absorbedBy.getD u

/-- The channels of a port, and its gang: the fitted ones (R427). -/
def portChannels (n : Nat) (d : Device) : List Nat := (List.range 48).filter fun c => channelPort c d = n
def gangOf (n : Nat) (d : Device) : List Nat := (portChannels n d).filter fun c => (d.channel c).fitted

/-- The channels a command on channel c acts on: its gang, c among them. -/
def gangWith (c : Nat) (d : Device) : List Nat :=
  (portChannels (channelPort c d) d).filter fun x => decide (x = c) || (d.channel x).fitted

/-- PRECHARGE, RAMP, QUALIFY and ON. -/
def spwActive : SpwState → Bool
  | .precharge => true
  | .ramp => true
  | .qualify => true
  | .on => true
  | _ => false

/-- STATE codes (Table 15.3). -/
def spwCode : SpwState → Nat
  | .off => 0
  | .precharge => 1
  | .ramp => 2
  | .qualify => 3
  | .on => 4
  | .wait => 5
  | .latched => 6
  | .shutdown => 7

/-- SPW_STATE (Table 15.8). (DEDUCED, log entry 41) -/
def spwStateWord (x : Spw) : Nat :=
  spwCode x.state + 8 * natOfBool x.ilim + 16 * natOfBool x.timerRun + 32 * natOfBool x.pg + 64 * natOfBool x.warn +
    256 * x.retriesLeft + 65536 * x.trips

/-- A signed number as the bits of a field of `w` bits. -/
def twos (w : Nat) (i : Int) : Nat := (i % (2 ^ w : Nat)).toNat

/-- Enter PRECHARGE: a new attempt begins, and the average starts again (R414, R421, R426). -/
def precharge (c : Nat) (d : Device) : Device :=
  let x := d.channel c
  let x' := { x with state := .precharge, attemptAt := d.now, enteredAt := d.now, waitUntil := none, timerUs := 0,
                     timerRun := false, acc := 0, accN := 0, msSums := [], pValid := false }
  emit (.gate c 1) (d.setChannel c x')

/-- PERST_N_OUT of the port a channel serves is asserted and its link goes down (Table 11.5). -/
def slotOff (n : Nat) (d : Device) : Device :=
  if (d.port n).personality = .dsp then
    let d := d.setPci n { d.pci n with perstOut := true, pgAt := none }
    if lstateUp (d.pci n).lstate then pcieDown n .detect d else d
  else d

/-- Begin SHUTDOWN of an active channel; WAIT and LATCHED end in OFF (Table 15.3). -/
def shutChannel (c : Nat) (d : Device) : Device :=
  let x := d.channel c
  if spwActive x.state then
    let x' := { x with state := .shutdown, enteredAt := d.now, pg := false, timerUs := 0, timerRun := false, ilim := false,
                       onAfter := false, intStatus := if x.pg then x.intStatus ||| 4 else x.intStatus }
    slotOff (channelPort c d) (d.setChannel c x')
  else if x.state = .wait ∨ x.state = .latched then
    d.setChannel c { x with state := .off, enteredAt := d.now, waitUntil := none }
  else d.setChannel c { x with onAfter := false }

/-- The wait of R421, in ns: max(RETRY_MIN_MS, t_on × (D − 1)). -/
def retryWait (x : Spw) (now : Nat) : Nat :=
  let duty : Nat := 25 * 2 ^ x.retryDuty
  max (x.retryMinMs * msNs) ((now - x.attemptAt) * (duty - 1))

/-- The trip of one channel (R415, R420, R422, R423). (DEDUCED, log entry 40) -/
def tripOne (cause c : Nat) (d : Device) : Device :=
  let x := d.channel c
  if spwActive x.state ∨ x.state = .shutdown then
    let input : Bool := decide (cause = 2) || decide (cause = 4)
    let st : SpwState := if x.state = .shutdown then .off else if input || decide (0 < x.retriesLeft) then .wait else .latched
    let uses : Bool := decide (st = .wait) && !input
    let bits : BitVec 5 := 1 ||| (if x.pg then 4 else 0) ||| (if st = .latched then 16 else 0)
    let x' := { x with state := st, enteredAt := d.now, pg := false, ilim := false, timerRun := false, timerUs := 0,
                       retriesLeft := if uses then x.retriesLeft - 1 else x.retriesLeft,
                       waitUntil := if uses then some (d.now + retryWait x d.now) else none,
                       trips := satAdd 0xFFFF x.trips 1, tripCause := cause, tripState := spwCode x.state,
                       tripValid := true, tripI := x.iMa, tripTime := d.devTime, intStatus := x.intStatus ||| bits }
    let n := channelPort c d
    let d := emit (.gate c 0) (slotOff n (d.setChannel c x'))
    let d := portRaise n 0x10 d
    let d := if (d.port n).hotplug then d.setPci n { d.pci n with powerFault := true } else d
    blackBoxRecord 8 c cause [] d
  else d

/-- The result of SPW_CONFIG, SPW_ON and SPW_OFF: SPW_STATE of the named channel. -/
def spwAnswer (c : Nat) (d : Device) : Ans := ansOk (natLe 4 (spwStateWord (d.channel c)))

/-- SPW_ON or SPW_OFF on a gang that a channel is in, every channel of which has reached what the command waits for, is answered
(R431). -/
def answerGang (op c : Nat) (ok : Spw → Bool) (d : Device) : Device :=
  let ready := fun (e : Exec) => decide (e.op = op) &&
    (let g := gangWith e.cmd.target.toNat d
     g.contains c && g.all fun k => ok (d.channel k))
  match findExec ready d with
  | some e => finishExec e (spwAnswer e.cmd.target.toNat d) d
  | none => d

/-- SHUTDOWN has ended in OFF: an SPW_OFF that waited for it replies, and a channel that was switched on meanwhile enters
PRECHARGE (R431, Table 15.3). -/
def offReached (c : Nat) (d : Device) : Device :=
  let d := answerGang 0x0903 c (fun x => decide (x.state = .off)) d
  let x := d.channel c
  let d := if x.onAfter then precharge c (d.setChannel c { x with onAfter := false }) else d
  answerGang 0x0902 c (fun x => !x.onAfter && decide (x.state ≠ .shutdown)) d

/-- A channel trips, and the others of its gang with cause GANG in the same tick (R427). (DEDUCED, log entry 40) -/
def tripChannel (cause c : Nat) (d : Device) : Device :=
  let x := d.channel c
  if x.fitted ∧ (spwActive x.state ∨ x.state = .shutdown) then
    let others := (gangOf (channelPort c d) d).filter fun o => o ≠ c
    let d := others.foldl (fun d o => if spwActive (d.channel o).state then tripOne 7 o d else d) (tripOne cause c d)
    if x.state = .shutdown then offReached c d else d
  else d

/-- TARGET and PARAM0 of a 0x09xx command: a channel 0–47 (R553, R402). -/
def spwHeader (c : Cmd) : Option Ans :=
  orElse (headerBits 6 c) (failIf (decide (48 ≤ c.target.toNat)) (ansBad 0xFF08))

/-- A field of SPW_CONFIG: 0 keeps, else within range and step. -/
def keepRange (v lo hi step : Nat) : Bool := decide (v = 0) || (decide (lo ≤ v) && decide (v ≤ hi) && decide (v % step = 0))

/-- The value in force after a field that keeps at 0. -/
def kept (v old : Nat) : Nat := if v = 0 then old else v

/-- Channel settings that SPW_CONFIG would leave (Table 15.7). -/
def spwSettings (p : List Byte) (x : Spw) : Spw :=
  let avg := kept (u16 p 28) x.avgMs
  { x with fitted := bitOf (u8 p 0) 0, warnEn := bitOf (u8 p 0) 1, feed := u8 p 1, vCb := kept (u16 p 2) x.vCb,
           rsense := kept (u32 p 4) x.rsense, faultUs := kept (u32 p 8) x.faultUs, clRatio := u8 p 12,
           ftRatio := kept (u8 p 13) x.ftRatio, rampRate := kept (u8 p 14) x.rampRate, pgDrop := kept (u8 p 15) x.pgDrop,
           pgDelayUs := kept (u16 p 16) x.pgDelayUs, uvTh := kept (u16 p 18) x.uvTh, ovTh := kept (u16 p 20) x.ovTh,
           warnTh := kept (u16 p 22) x.warnTh, retryCount := u8 p 24, retryDuty := u8 p 25,
           retryMinMs := kept (u16 p 26) x.retryMinMs, avgMs := avg,
           msSums := if avg = x.avgMs then x.msSums else [], pValid := if avg = x.avgMs then x.pValid else false,
           warn := x.warn && bitOf (u8 p 0) 1 }

/-- Checks of R430 in order. -/
def spwConfigChecks (c : Cmd) (d : Device) : List (Option Ans) :=
  let p := c.params
  let x := d.channel c.target.toNat
  let y := spwSettings p x
  [ failIf (decide (p.length ≠ 32)) (ansLen 32), spwHeader c,
    failIf (decide (4 ≤ u8 p 0)) (ansBad 0), failIf (decide (2 < u8 p 1)) (ansBad 1),
    failIf (!keepRange (u16 p 2) 10 200 1) (ansBad 2), failIf (!keepRange (u32 p 4) 100 100000 1) (ansBad 4),
    failIf (!keepRange (u32 p 8) 10 50000 10) (ansBad 8), failIf (decide (2 < u8 p 12)) (ansBad 12),
    failIf (!keepRange (u8 p 13) 6 16 1) (ansBad 13), failIf (!keepRange (u8 p 14) 1 24 1) (ansBad 14),
    failIf (!keepRange (u8 p 15) 1 20 1) (ansBad 15), failIf (!keepRange (u16 p 16) 10 10000 10) (ansBad 16),
    failIf (!keepRange (u16 p 18) 7000 12000 100) (ansBad 18), failIf (!keepRange (u16 p 20) 12500 15500 100) (ansBad 20),
    failIf (!keepRange (u16 p 22) 8000 13000 100) (ansBad 22), failIf (decide (15 < u8 p 24)) (ansBad 24),
    failIf (decide (3 < u8 p 25)) (ansBad 25), failIf (!keepRange (u16 p 26) 10 10000 1) (ansBad 26),
    failIf (!keepRange (u16 p 28) 1 1000 1) (ansBad 28), failIf (!zeros p 30 2) (ansBad 30),
    failIf (decide (y.ftRatio ≤ 4 + y.clRatio)) (ansBad 12), failIf (decide (1200 < y.vCb * y.ftRatio)) (ansBad 2),
    failIf (!(decide (y.uvTh < y.warnTh) && decide (y.warnTh < y.ovTh))) (ansBad 18),
    failIf ((decide (y.fitted ≠ x.fitted) || decide (y.feed ≠ x.feed) || decide (y.rsense ≠ x.rsense)) &&
      !(decide (x.state = .off) || decide (x.state = .latched))) ansNo ]

/-- SPW_CONFIG (R430). -/
def spwConfig (c : Cmd) (d : Device) : Device × Option Ans :=
  checked (spwConfigChecks c d) (fun d =>
    let n := c.target.toNat
    let x := d.channel n
    let y := spwSettings c.params x
    let y := if y.fitted && !x.fitted then { y with state := .off } else y
    let d := d.setChannel n y
    (d, some (spwAnswer n d))) d

def execSpwConfig (c : Cmd) (s : State) : Host.Outcome State Fault Refusal := done s (runPacket 0x0901 (spwConfig c) c s.dev)

/-- The conditions under which a gang may be switched on (R431): FITTED, VGATE at 20 V or more, V_IN in range. -/
def canSwitchOn (gang : List Nat) (d : Device) : Bool :=
  decide (20000 ≤ d.feeds.vgate) && gang.all fun c =>
    let x := d.channel c
    x.fitted && decide (x.uvTh ≤ x.vin) && decide (x.vin ≤ x.ovTh)

/-- Switch one channel on: its retries are restored; a channel under way stays, one shutting down waits (R420, R431).
(DEDUCED, log entry 41) -/
def switchOn (c : Nat) (d : Device) : Device :=
  let x := d.channel c
  let d := d.setChannel c { x with retriesLeft := x.retryCount, onAfter := decide (x.state = .shutdown) }
  if spwActive x.state ∨ x.state = .shutdown then d else precharge c d

/-- SPW_ON (R431): OK once every channel of the gang has entered PRECHARGE. -/
def spwOn (c : Cmd) (d : Device) : Device × Option Ans :=
  let n := c.target.toNat
  checked [failIf (decide (c.params.length ≠ 0)) (ansLen 0), spwHeader c,
           failIf (!canSwitchOn (gangWith n d) d) ansNo] (fun d =>
    let d' := (gangWith n d).foldl (fun d c => switchOn c d) d
    if (gangWith n d).all (fun c => spwActive (d'.channel c).state) then (d', some (spwAnswer n d')) else (d', none)) d

def execSpwOn (c : Cmd) (s : State) : Host.Outcome State Fault Refusal := done s (runPacket 0x0902 (spwOn c) c s.dev)

/-- SPW_OFF (R431): OK when every channel of the gang is OFF. -/
def spwOff (c : Cmd) (d : Device) : Device × Option Ans :=
  let n := c.target.toNat
  checked [failIf (decide (c.params.length ≠ 0)) (ansLen 0), spwHeader c] (fun d =>
    let d' := (gangWith n d).foldl (fun d c => shutChannel c d) d
    if (gangWith n d).all (fun c => decide ((d'.channel c).state = .off)) then (d', some (spwAnswer n d'))
    else (markApplied 0x0903 c d', none)) d

def execSpwOff (c : Cmd) (s : State) : Host.Outcome State Fault Refusal := done s (runPacket 0x0903 (spwOff c) c s.dev)

/-- A power average in mW as SPW_P_AVG shows it. -/
def spwAvgWord (x : Spw) : Nat := if x.fitted then twos 31 x.pAvg + 2 ^ 31 * natOfBool x.pValid else 0

/-- Energy in mJ (R425). -/
def spwEnergy (x : Spw) : Nat := if x.fitted then twos 64 (x.energy / 100000000) else 0
def spwTripWord (x : Spw) : Nat := x.tripCause + 16 * x.tripState + 128 * natOfBool x.tripValid
def feedWord (d : Device) : Nat := d.feeds.vinA % 65536 + 65536 * d.feeds.vinB

/-- The registers SPW_I, SPW_V and SPW_SENSE: 0 for a channel that is not FITTED (R426). -/
def spwCurrentWord (x : Spw) : Nat := if x.fitted then twos 32 x.iMa else 0
def spwVoltWord (x : Spw) : Nat := if x.fitted then x.vin % 65536 + 65536 * x.vout else 0
def spwSenseWord (x : Spw) : Nat := if x.fitted then twos 16 x.sense + 65536 * x.vgs else 0

/-- SPW_READ (R432): sampled before any clear. -/
def spwRead (c : Cmd) (d : Device) : Device × Option Ans :=
  let n := c.target.toNat
  let p := c.params
  let x := d.channel n
  checked [failIf (decide (p.length ≠ 4)) (ansLen 4), spwHeader c, failIf (decide (4 ≤ u8 p 0)) (ansBad 0),
           failIf (!zeros p 1 3) (ansBad 1)] (fun d =>
    let res := natLe 4 (spwStateWord x) ++ natLe 4 (spwCurrentWord x) ++ natLe 4 (spwVoltWord x) ++
      natLe 4 (spwSenseWord x) ++ natLe 4 (spwAvgWord x) ++ natLe 8 (spwEnergy x) ++ natLe 4 (spwTripWord x) ++
      natLe 4 (twos 32 x.tripI) ++ natLe 4 (feedWord d) ++ natLe 8 d.devTime.toNat
    let y := { x with energy := if bitOf (u8 p 0) 0 then 0 else x.energy,
                      tripValid := x.tripValid && !bitOf (u8 p 0) 1 }
    (d.setChannel n y, some (ansOk res))) d

def execSpwRead (c : Cmd) (s : State) : Host.Outcome State Fault Refusal := done s (runPacket 0x0904 (spwRead c) c s.dev)

/-- FAST_TRIP (R413). -/
def execFastTrip (ch : Nat) (s : State) : Host.Outcome State Fault Refusal := done s (tripChannel 1 ch s.dev)

/-- INPUT_OV (R415). -/
def execInputOv (ch : Nat) (s : State) : Host.Outcome State Fault Refusal := done s (tripChannel 2 ch s.dev)

/-- INPUT_UV (R415): not while the channel is OFF, WAIT or LATCHED. -/
def execInputUv (ch : Nat) (s : State) : Host.Outcome State Fault Refusal := done s (tripChannel 4 ch s.dev)

/-- FAULT_TIMER_EXPIRY (R416): the timer runs in every state from PRECHARGE to ON. -/
def execFaultTimerExpiry (ch : Nat) (s : State) : Host.Outcome State Fault Refusal :=
  done s (if spwActive (s.dev.channel ch).state then tripChannel 3 ch s.dev else s.dev)

/-- GATE_FAULT (R415): V_GS below 6 V for 100 ticks in ON. -/
def execGateFault (ch : Nat) (s : State) : Host.Outcome State Fault Refusal :=
  done s (if (s.dev.channel ch).state = .on then tripChannel 5 ch s.dev else s.dev)

/-- A channel moves on from one state to the next. -/
def spwMove (ch : Nat) (old new : SpwState) (d : Device) : Device :=
  let x := d.channel ch
  if x.state = old then d.setChannel ch { x with state := new, enteredAt := d.now } else d

/-- PRECHARGE_DONE (R414): V_OUT has risen 100 mV. -/
def execPrechargeDone (ch : Nat) (s : State) : Host.Outcome State Fault Refusal := done s (spwMove ch .precharge .ramp s.dev)

/-- RAMP_DONE (R414): V_OUT has reached V_IN − PG_DROP. -/
def execRampDone (ch : Nat) (s : State) : Host.Outcome State Fault Refusal := done s (spwMove ch .ramp .qualify s.dev)

/-- PRECHARGE_TIMEOUT (R414): 2 ms without a rise. -/
def execPrechargeTimeout (ch : Nat) (s : State) : Host.Outcome State Fault Refusal :=
  let d := s.dev
  let x := d.channel ch
  done s (if x.state = .precharge ∧ x.enteredAt + 2 * msNs ≤ d.now then tripChannel 5 ch d else d)

/-- RAMP_TIMEOUT (R414): 2 × V_IN / RAMP + 5 ms without reaching V_IN − PG_DROP. -/
def execRampTimeout (ch : Nat) (s : State) : Host.Outcome State Fault Refusal :=
  let d := s.dev
  let x := d.channel ch
  done s (if x.state = .ramp ∧ x.enteredAt + 2 * x.vin * 4000 / x.rampRate + 5 * msNs ≤ d.now then tripChannel 6 ch d else d)

/-- POWER_GOOD (R417, R418): the conditions have held for PG_DELAY_US; a running fault timer or a current limit wins.
Power-good of the whole gang starts the sequence of Table 11.5. -/
def powerGood (ch : Nat) (d : Device) : Device :=
  let x := d.channel ch
  if x.state = .qualify ∧ x.timerUs = 0 ∧ x.timerRun = false ∧ x.ilim = false ∧ x.enteredAt + x.pgDelayUs * usNs ≤ d.now then
    let d := d.setChannel ch { x with state := .on, enteredAt := d.now, pg := true, intStatus := x.intStatus ||| 2 }
    let n := channelPort ch d
    if (d.port n).personality = .dsp ∧ (gangOf n d).all (fun c => (d.channel c).pg) then
      let y := d.pci n
      d.setPci n { y with pgAt := some d.now, perstDelayMs := y.perstDelayNext }
    else d
  else d

def execPowerGood (ch : Nat) (s : State) : Host.Outcome State Fault Refusal := done s (powerGood ch s.dev)

/-- Every waiting channel of the gang is due: a retry restarts them together, after the longest wait (R427).
(DEDUCED, log entry 40) -/
def gangRetry (ch : Nat) (d : Device) : Device :=
  let waiting := (gangOf (channelPort ch d) d).filter fun c => decide ((d.channel c).state = .wait)
  let due := fun c => match (d.channel c).waitUntil with
    | some t => decide (t ≤ d.now)
    | none => false
  if waiting.all due then waiting.foldl (fun d c => precharge c d) d else d

/-- RETRY_WAIT_EXPIRY (R421). -/
def execRetryWaitExpiry (ch : Nat) (s : State) : Host.Outcome State Fault Refusal :=
  done s (if (s.dev.channel ch).state = .wait then gangRetry ch s.dev else s.dev)

/-- INPUT_RECOVERY (R422): V_IN has stayed within the recovery range for 100 ms after a UV or OV trip. -/
def inputRecovery (ch : Nat) (d : Device) : Device :=
  let x := d.channel ch
  if x.state = .wait ∧ x.waitUntil = none ∧ x.uvTh + 200 ≤ x.vin ∧ x.vin + 200 ≤ x.ovTh ∧ x.enteredAt + 100 * msNs ≤ d.now then
    gangRetry ch (d.setChannel ch { x with waitUntil := some d.now })
  else d

def execInputRecovery (ch : Nat) (s : State) : Host.Outcome State Fault Refusal := done s (inputRecovery ch s.dev)

/-- RETRY_RESTORE (R420): ON for 10 s without a break. -/
def execRetryRestore (ch : Nat) (s : State) : Host.Outcome State Fault Refusal :=
  let d := s.dev
  let x := d.channel ch
  done s (if x.state = .on ∧ x.enteredAt + 10000 * msNs ≤ d.now then d.setChannel ch { x with retriesLeft := x.retryCount }
    else d)

/-- SHUTDOWN_DONE (R414): V_GS below 1 V; SPW_OFF replies when its whole gang is OFF (R431). (DEDUCED, log entry 41) -/
def shutdownDone (ch : Nat) (d : Device) : Device :=
  let x := d.channel ch
  if x.state = .shutdown then
    offReached ch (emit (.gate ch 0) (d.setChannel ch { x with state := .off, enteredAt := d.now }))
  else d

def execShutdownDone (ch : Nat) (s : State) : Host.Outcome State Fault Refusal := done s (shutdownDone ch s.dev)

/-- The feeds that supply a channel (FEED), in mV. -/
def channelFeeds (x : Spw) (a b : Nat) : List Nat := if x.feed = 0 then [a] else if x.feed = 1 then [b] else [a, b]

/-- One channel's early warning at a feed sample (R424): asserted when every named feed has been low for 2 samples,
released when one has been above WARN_TH + 0.3 V for 1 ms. -/
def warnSample (a b now : Nat) (x : Spw) : Spw :=
  if x.fitted ∧ x.warnEn then
    let low := (channelFeeds x a b).all fun v => v < x.warnTh
    let high := (channelFeeds x a b).any fun v => x.warnTh + 300 < v
    let count := if low then x.lowFeed + 1 else 0
    let since : Option Nat := if high then some (x.highSince.getD now) else none
    let release : Bool := match since with
      | some t => decide (t + msNs ≤ now)
      | none => false
    let x := { x with lowFeed := min count 2, highSince := since }
    if 2 ≤ count ∧ x.warn = false then { x with warn := true, intStatus := x.intStatus ||| 8 }
    else if release then { x with warn := false } else x
  else x

/-- FEED_SAMPLE (R424), every 10 µs: VIN_A, VIN_B and VGATE in mV. -/
def feedSample (a b vgate : Nat) (d : Device) : Device :=
  if isDue .feedSample (10 * usNs) d then
    let d := ranNow .feedSample { d with feeds := { vinA := a, vinB := b, vgate := vgate } }
    (List.range 48).foldl (fun d c => d.setChannel c (warnSample a b d.now (d.channel c))) d
  else d

def execFeedSample (feedA feedB vgate : Nat) (s : State) : Host.Outcome State Fault Refusal :=
  done s (feedSample feedA feedB vgate s.dev)

/-- Division to the nearest whole number, halves upward. -/
def roundDiv (n : Int) (k : Nat) : Int := (2 * n + k) / (2 * k)

/-- CHANNEL_SAMPLE (R416, R425, R426): V_SENSE in 2.5 µV, V_IN and V_OUT in mV, V_GS in 10 mV, current limit. One
sample stands for the ten ticks since the last. (DEDUCED, log entry 41; DESIGN CHOICE, log entry 72) -/
def channelSample (vsense : Int) (vin vout vgs : Nat) (ilim : Bool) (x : Spw) : Spw :=
  if x.fitted then
    let i := roundDiv (vsense * 2500) x.rsense
    let p : Int := (vout : Int) * i
    let above : Bool := spwActive x.state && (decide ((x.vCb * 100 : Nat) ≤ vsense) || ilim)
    let x := { x with iMa := i, vin := vin, vout := vout, sense := vsense, vgs := vgs, ilim := ilim && spwActive x.state,
                      energy := x.energy + p, timerRun := above, timerUs := if above then x.timerUs + 10 else x.timerUs }
    if x.accN + 1 < 100 then { x with acc := x.acc + p, accN := x.accN + 1 }
    else
      let sums := ((x.acc + p) :: x.msSums).take x.avgMs
      let avg := roundDiv (sums.foldl (· + ·) 0) (sums.length * 100 * 1000)
      { x with acc := 0, accN := 0, msSums := sums, pAvg := avg, pValid := decide (sums.length = x.avgMs) }
  else x

def execChannelSample (ch : Nat) (vsense : Int) (vin vout vgs : Nat) (ilim : Bool) (s : State) :
    Host.Outcome State Fault Refusal :=
  let d := s.dev
  done s (if ch < 48 ∧ isDue (.channelSample ch) (10 * usNs) d = true then
    ranNow (.channelSample ch) (d.setChannel ch (channelSample vsense vin vout vgs ilim (d.channel ch))) else d)

/-- FAULT_TIMER_RESET (R416): 16 consecutive ticks with neither condition. -/
def execFaultTimerReset (ch : Nat) (s : State) : Host.Outcome State Fault Refusal :=
  let x := s.dev.channel ch
  done s (if x.timerRun then s.dev else s.dev.setChannel ch { x with timerUs := 0 })

end Sys2Proof.Machine
end

