-- ==== Sys2Proof/Machine/PortWords.lean ====
section
/-! DEFINITION. Machine/PortWords.lean: the words of a port's status registers (Tables 2.5 and 11.11). -/

namespace Sys2Proof.Machine

/-- WIDTH code: 0 none, 1 x1, 2 x2, 3 x4, 4 x8, 5 x16. -/
def widthCode (w : Nat) : Nat :=
  if w = 1 then 1 else if w = 2 then 2 else if w = 4 then 3 else if w = 8 then 4 else if w = 16 then 5 else 0

/-- LSTATE codes (Table 11.11). -/
def lstateCode : LState → Nat
  | .disabled => 0
  | .detect => 1
  | .polling => 2
  | .config => 3
  | .l0 => 4
  | .recovery => 5
  | .l0s => 6
  | .l1 => 7
  | .l2 => 8
  | .hotReset => 9
  | .loopback => 10
  | .dpc => 11

/-- PFL link state codes (Table 7.4). -/
def pflCode : PflState → Nat
  | .disabled => 0
  | .train => 1
  | .cap => 2
  | .step => 3
  | .active => 4
  | .retrain => 5
  | .down => 6
  | .conflict => 7

/-- An event at a port that has no meaning under its personality is counted, and dropped (R41). (DESIGN CHOICE, log entry 69) -/
def strayEvent (n : Nat) (d : Device) : Device :=
  if n < 96 then d.setPci n { d.pci n with stray := (d.pci n).stray + 1 } else d

/-- CUR_RATE (Table 2.5). -/
def curRate (n : Nat) (d : Device) : Nat :=
  match (d.port n).personality with
  | .off => 0
  | .diag => match (portLanes n d).find? fun k => (d.lane k).inTest with
    | some k => (d.lane k).rate
    | none => 0
  | .pfl =>
    match (d.pfl n).state with
    | .train => 5
    | .cap => 5
    | .conflict => 5
    | .step => (d.pfl n).rate
    | .active => (d.pfl n).rate
    | .retrain => (d.pfl n).rate
    | .disabled => 0
    | .down => 0
  | _ =>
    match (d.pci n).lstate with
    | .detect => 0
    | .disabled => 0
    | .dpc => 0
    | _ => (d.pci n).curRate

/-- SLOT_CH: the slot-power channels of a port (R8, R31). -/
def slotChannels (n : Nat) (d : Device) : Nat :=
  let cs := portChannels n d
  natOfBool (cs.any fun c => c % 2 = 0) + 2 * natOfBool (cs.any fun c => c % 2 = 1)

/-- PRT_MODE (Table 2.5); 0 for an absorbed unit and for P96–P100 (R42). -/
def prtMode (n : Nat) (d : Device) : Nat :=
  if portExists n d then
    let x := d.port n
    personalityCode x.personality + 2 ^ 4 * widthCode x.width + 2 ^ 8 * x.maxRate + 2 ^ 12 * curRate n d +
      2 ^ 16 * x.holder +
      2 ^ 22 * natOfBool (decide (n = d.glb.mgrPort)) + 2 ^ 23 * natOfBool (d.part x.holder).fabric +
      2 ^ 24 * natOfBool (d.steers.any fun e => e.2.port = n) + 2 ^ 25 * natOfBool x.sris +
      2 ^ 26 * natOfBool x.hotplug + 2 ^ 27 * natOfBool x.clkout + 2 ^ 28 * slotChannels n d
  else 0

/-- PRT_LINK (Table 11.11). -/
def prtLink (n : Nat) (d : Device) : Nat :=
  if portExists n d then
    let x := d.pci n
    lstateCode x.lstate + 2 ^ 4 * natOfBool (lstateUp x.lstate) + 2 ^ 5 * widthCode x.negWidth + 2 ^ 8 * natOfBool x.flit +
      2 ^ 9 * natOfBool x.reversed + 2 ^ 10 * natOfBool x.downtrained + 2 ^ 12 * x.partnerRate + 2 ^ 16 * x.retrains
  else 0

/-- A pin of the port has a function (Table 11.6): its nibble index. -/
def pinOf (n f : Nat) (d : Device) : Option Nat :=
  (List.range 12).find? fun k => fieldOf (d.pci n).sbFunc.toNat (4 * k + 3) (4 * k) = f

/-- PERST_N_OUT is asserted (R316): it is deasserted PERST_DELAY_MS after power-good and held in Pcie.perstOut. -/
def perstAsserted (n : Nat) (d : Device) : Bool :=
  match (d.port n).personality with
  | .dsp => (d.pci n).perstOut
  | .usp => (d.pci n).perstIn && (pinOf n 2 d).isSome
  | _ => true

/-- PRT_HP (Table 11.11). -/
def prtHp (n : Nat) (d : Device) : Nat :=
  if portExists n d then
    let x := d.pci n
    let g := gangOf n d
    natOfBool (x.prsnt && (pinOf n 6 d).isSome) +
      2 * natOfBool (!g.isEmpty && g.all fun c => spwActive (d.channel c).state) +
      4 * natOfBool (!g.isEmpty && g.all fun c => (d.channel c).pg) + 8 * natOfBool (perstAsserted n d) +
      16 * x.attn + 64 * x.pwr + 256 * natOfBool x.dpc
  else 0

/-- PLK_STATE (Table 7.9). -/
def plkStateWord (n : Nat) (d : Device) : Nat :=
  if (d.port n).personality = .pfl then
    let x := d.pfl n
    pflCode x.state + 2 ^ 4 * (if x.state = .conflict then x.causeC else 0) + 2 ^ 6 * natOfBool x.txIdle +
      2 ^ 7 * natOfBool x.rxIdle + 2 ^ 8 * x.partnerFid +
      2 ^ 13 * x.partnerPort + 2 ^ 20 * natOfBool x.partnerValid + 2 ^ 21 * natOfBool (decide (16 ≤ x.samples))
  else 0

/-- WAKE_N_OUT of a partition's USP (R319): asserted in L2 while a DSP of the partition has a WAKE_N_IN assertion or a PME
message pending. -/
def updateWake (p : Nat) (d : Device) : Device :=
  match uspOf p d with
  | none => d
  | some u =>
    let x := d.pci u
    let waiting := d.ports.any fun e => decide (e.2.personality = .dsp) && decide (e.2.holder = p) &&
      ((d.pci e.1).wakeIn || (d.pci e.1).pmePending)
    d.setPci u { x with wakeOut := decide (x.lstate = .l2) && waiting && (pinOf u 5 d).isSome }

end Sys2Proof.Machine
end

