-- ==== Sys2Proof/Machine/Counters.lean ====
section
/-! DEFINITION. Machine/Counters.lean: programming, dumps, overflow and tagging of counters (chapter 17). -/

namespace Sys2Proof.Machine

/-- TARGET of CNT_PROGRAM: a port that exists, an internal port, or 0x7F the global counters (R470). -/
def counterTarget (n : Nat) (d : Device) : Bool :=
  portExists n d || (decide (96 ≤ n) && decide (n ≤ 100)) || decide (n = 0x7F)

/-- Checks of one counter's parameters in CNT_PROGRAM (Table 17.8), in offset order. -/
def counterEntryChecks (p : List Byte) (global : Bool) (d : Device) (i : Nat) : List (Option Ans) :=
  let sel := BitVec.ofNat 32 (u32 p (4 + 12 * i))
  let ev := selEvent sel
  let sp := u8 p (12 + 12 * i)
  [ failIf (!(decide (ev = 0) || portEvents.contains ev || (global && globalEvents.contains ev)) ||
      (selTag sel && !itemEvents.contains ev) || decide (fieldOf sel.toNat 31 30 ≠ 0)) (ansBad (4 + 12 * i)),
    failIf (if selOvf sel then decide (u32 p (8 + 12 * i) = 0) else decide (u32 p (8 + 12 * i) ≠ 0)) (ansBad (8 + 12 * i)),
    failIf (if global then !(portExists sp d || (decide (96 ≤ sp) && decide (sp ≤ 100)) || decide (sp = 0x7F))
      else decide (sp ≠ 0)) (ansBad (12 + 12 * i)),
    failIf (!zeros p (13 + 12 * i) 3) (ansBad (13 + 12 * i)) ]

/-- The LENGTH that CNT_PROGRAM's COUNT implies; 0xFFFF when COUNT is out of range or was not received (R402). -/
def programLength (p : List Byte) (global : Bool) : Nat :=
  let n := u8 p 1
  if p.length < 2 ∨ n = 0 ∨ (if global then 64 else 16) < n then 0xFFFF else 4 + 12 * n

/-- Checks of R470. -/
def cntProgramChecks (c : Cmd) (d : Device) : List (Option Ans) :=
  let p := c.params
  let t := c.target.toNat
  let global := decide (t = 0x7F)
  let lo : Nat := if global then 0 else 8
  let hi : Nat := if global then 63 else 23
  [ failIf (decide (p.length ≠ 4 + 12 * u8 p 1) || decide (p.length < 2)) (ansLen (programLength p global)),
    headerBits 7 c, failIf (!counterTarget t d) (ansBad 0xFF08),
    failIf (decide (u8 p 0 < lo) || decide (hi < u8 p 0)) (ansBad 0),
    failIf (decide (u8 p 1 = 0) || decide ((if global then 64 else 16) < u8 p 1)) (ansBad 1),
    failIf (decide (hi + 1 < u8 p 0 + u8 p 1)) (ansBad 0),
    failIf (decide (2 ≤ u8 p 2) || (global && decide (u8 p 2 ≠ 0))) (ansBad 2), failIf (!zeros p 3 1) (ansBad 3) ] ++
  ((List.range (u8 p 1)).map (counterEntryChecks p global d)).flatten

/-- Key of the counter that a CNT_PROGRAM entry names. -/
def programKey (t j : Nat) : Nat := if t = 0x7F then globalKey j else counterKey t j

/-- Set one counter as CNT_PROGRAM says: value 0 in FREE mode, 2^48 − PERIOD in OVF mode, its OVF bit clear (R463, R470). -/
def programCounter (p : List Byte) (t : Nat) (d : Device) (i : Nat) : Device :=
  let sel := BitVec.ofNat 32 (u32 p (4 + 12 * i))
  let period := u32 p (8 + 12 * i)
  d.setCounter (programKey t (u8 p 0 + i))
    { value := if selOvf sel then 2 ^ 48 - period else 0, ovf := false, sel := sel, period := period,
      portSel := u8 p (12 + 12 * i) }

/-- CNT_PROGRAM (R470). -/
def cntProgram (c : Cmd) (d : Device) : Device × Option Ans :=
  checked (cntProgramChecks c d) (fun d =>
    let p := c.params
    let t := c.target.toNat
    let d := (List.range (u8 p 1)).foldl (programCounter p t) d
    let d := if bitOf (u8 p 2) 0 then
      (List.range 8).foldl (fun d j => d.setCounter (counterKey t j) { d.counter (counterKey t j) with value := 0 }) d else d
    let blocks : List Nat := if t = 0x7F then (List.range 4).map (128 + ·) else [t]
    ({ d with cnt := { d.cnt with staleBlocks := d.cnt.staleBlocks ++ blocks } }, some (ansOk (natLe 8 d.devTime.toNat)))) d

def execCntProgram (c : Cmd) (s : State) : Host.Outcome State Fault Refusal := done s (runPacket 0x0A01 (cntProgram c) c s.dev)

/-- A power of two within a range, as ring sizes are. -/
def ringSize (n lo hi : Nat) : Bool := decide (n = 0) || (decide (lo ≤ n) && decide (n ≤ hi) && decide (2 ^ n.log2 = n))

/-- PORT_MASK of a dump or of tagging, and the ports it selects: absorbed units are ignored. -/
def maskOf (p : List Byte) (off : Nat) : Nat := u64 p off + 2 ^ 64 * u64 p (off + 8)
def selectedPorts (mask : Nat) (d : Device) : List Nat :=
  (List.range 101).filter fun n => bitOf mask n && (portExists n d || decide (96 ≤ n))

/-- Blocks of a dump: B = 1 + selected ports + 4 × GLOBAL (R466). -/
def dumpBlocks (mask : Nat) (global : Bool) (d : Device) : Nat := 1 + (selectedPorts mask d).length + 4 * natOfBool global

/-- A vector of the management function, or none (0xFFFF). -/
def mgrVector (v : Nat) : Bool := decide (v < 64) || decide (v = 0xFFFF)

/-- CNT_DUMP_SET (R471). -/
def cntDumpSet (c : Cmd) (d : Device) : Device × Option Ans :=
  let p := c.params
  let global := bitOf (u8 p 40) 0
  let b := dumpBlocks (maskOf p 24) global d
  checked
    [ failIf (decide (p.length ≠ 48)) (ansLen 48), headerZero c, failIf (decide (u64 p 0 % 4096 ≠ 0)) (ansBad 0),
      failIf (decide (u64 p 8 % 4 ≠ 0)) (ansBad 8), failIf (!ringSize (u32 p 16) 256 1048576) (ansBad 16),
      failIf (decide (u32 p 20 = 0) || decide (1000000 < u32 p 20)) (ansBad 20),
      failIf (decide (2 ^ 101 ≤ maskOf p 24)) (ansBad 24), failIf (decide (2 ≤ u8 p 40)) (ansBad 40),
      failIf (!mgrVector (u16 p 41)) (ansBad 41), failIf (!zeros p 43 5) (ansBad 43),
      failIf (decide (16 * u32 p 20 < b)) (ansBad 20) ] (fun d =>
    let r : Ring := { on := decide (u32 p 16 ≠ 0), base := u64 p 0, consAddr := u64 p 8, entries := u32 p 16,
                      intervalUs := u32 p 20, vector := u16 p 41, index := 0, prod := 0, cons := 0, lost := d.cnt.dump.lost,
                      first := true, lastMultiple := d.devTime.toNat / (u32 p 20 * usNs) }
    let k := { d.cnt with dump := r, global := global, portMask := maskOf p 24, seq := 0, skipped := false,
                          lastWritten := none, lastBlocks := [], staleBlocks := [] }
    ({ d with cnt := k }, some (ansOk (natLe 4 b)))) d

def execCntDumpSet (c : Cmd) (s : State) : Host.Outcome State Fault Refusal := done s (runPacket 0x0A02 (cntDumpSet c) c s.dev)

/-- TAG_SET (R472). -/
def tagSet (c : Cmd) (d : Device) : Device × Option Ans :=
  let p := c.params
  checked
    [ failIf (decide (p.length ≠ 48)) (ansLen 48), headerZero c, failIf (decide (u64 p 0 % 4096 ≠ 0)) (ansBad 0),
      failIf (decide (u64 p 8 % 4 ≠ 0)) (ansBad 8), failIf (!ringSize (u32 p 16) 256 1048576) (ansBad 16),
      failIf (decide (24 < u8 p 20)) (ansBad 20), failIf (decide (8 ≤ u8 p 21)) (ansBad 21),
      failIf (decide (48 < u8 p 22) && decide (u8 p 22 ≠ 0x3F)) (ansBad 22), failIf (decide (4 ≤ u8 p 23)) (ansBad 23),
      failIf (decide (2 ^ 101 ≤ maskOf p 24)) (ansBad 24), failIf (!mgrVector (u16 p 40)) (ansBad 40),
      failIf (!zeros p 46 2) (ansBad 46) ] (fun d =>
    let on := decide (u32 p 16 ≠ 0)
    let old := d.cnt.tag
    let r : Ring := { on := on, base := u64 p 0, consAddr := u64 p 8, entries := u32 p 16, intervalUs := 0,
                      vector := u16 p 40, index := 0, prod := 0, cons := 0, lost := old.lost, first := true, lastMultiple := 0 }
    let k := { d.cnt with tag := if on then r else { old with on := false }, rateLog2 := u8 p 20, classMask := u8 p 21,
                          part := u8 p 22, tagOnOvf := bitOf (u8 p 23) 0, randomOff := bitOf (u8 p 23) 1,
                          tagPortMask := maskOf p 24, seed := if u32 p 42 = 0 then 1 else u32 p 42, tagOwed := [] }
    ({ d with cnt := k }, some (ansOk (natLe 4 d.cnt.tags.length)))) d

def execTagSet (c : Cmd) (s : State) : Host.Outcome State Fault Refusal := done s (runPacket 0x0A03 (tagSet c) c s.dev)

/-- A counter as a block shows it: value, OVF mode, OVF pending (Table 17.4). -/
def counterWord (c : Counter) : Nat := c.value % 2 ^ 48 + 2 ^ 48 * natOfBool (selOvf c.sel) + 2 ^ 49 * natOfBool c.ovf

/-- Header block of a dump (Table 17.3). -/
def dumpHeader (b phase : Nat) (d : Device) : List Byte :=
  let k := d.cnt
  natLe 8 d.devTime.toNat ++ natLe 4 k.seq ++ natLe 2 b ++ natLe 1 0 ++
  natLe 1 (phase + 2 * natOfBool k.dump.first + 4 * natOfBool k.skipped) ++ natLe 4 k.dump.intervalUs ++
  natLe 1 d.glb.fid ++ natLe 3 0 ++ natLe 4 k.dump.lost ++ natLe 4 0 ++ natLe 16 k.portMask ++ natLe 208 0

/-- DELTA_VALID of a block (R467). -/
def deltaValid (block : Nat) (d : Device) : Bool :=
  let k := d.cnt
  decide (k.lastWritten = some (k.seq - 1)) && decide (k.seq ≠ 0) && k.lastBlocks.contains block && !k.staleBlocks.contains block

/-- Port block (Table 17.4). -/
def dumpPort (n phase : Nat) (d : Device) : List Byte :=
  natLe 8 d.devTime.toNat ++ natLe 4 d.cnt.seq ++ natLe 1 n ++ natLe 1 1 ++
  natLe 1 (phase + 2 * natOfBool (deltaValid n d)) ++ natLe 1 0 ++
  ((List.range 24).map fun j => natLe 8 (counterWord (d.counter (counterKey n j)))).flatten ++
  natLe 4 (prtMode n d) ++ natLe 44 0

/-- Global block (Table 17.5). -/
def dumpGlobal (i phase : Nat) (d : Device) : List Byte :=
  natLe 8 d.devTime.toNat ++ natLe 4 d.cnt.seq ++ natLe 1 i ++ natLe 1 2 ++
  natLe 1 (phase + 2 * natOfBool (deltaValid (128 + i) d)) ++ natLe 1 0 ++
  ((List.range 16).map fun j => natLe 8 (counterWord (d.counter (globalKey (16 * i + j))))).flatten ++ natLe 112 0

/-- Block numbers of a dump in the order they are written: none the header. -/
def dumpOrder (d : Device) : List (Option Nat) :=
  none :: ((selectedPorts d.cnt.portMask d).map some ++ (if d.cnt.global then (List.range 4).map (fun i => some (128 + i)) else []))

/-- Take a dump (R465, R466): written whole when its blocks fit, else skipped and counted. -/
def takeDump (d : Device) : Device :=
  let k := d.cnt
  let order := dumpOrder d
  let r := { k.dump with lastMultiple := d.devTime.toNat / (k.dump.intervalUs * usNs) }
  if ringRoom r order.length then
    let blocks := (List.range order.length).map fun i =>
      let phase := ringPhase r i
      match order.getD i none with
      | none => dumpHeader order.length phase d
      | some n => if n < 128 then dumpPort n phase d else dumpGlobal (n - 128) phase d
    let w := ringWrite r 256 blocks d
    let names := order.filterMap id
    { w.2 with cnt := { w.2.cnt with dump := w.1, seq := wrapAdd 32 k.seq 1, skipped := false, lastWritten := some k.seq,
                                     lastBlocks := names, staleBlocks := [] } }
  else
    let r := { r with lost := satAdd 0xFFFFFFFF r.lost 1 }
    cntRaise 2 { d with cnt := { k with dump := r, seq := wrapAdd 32 k.seq 1, skipped := true } }

/-- COUNTER_DUMP (R465): at each device time that is a whole multiple of INTERVAL_US, once; instants that a step passes
over share one snapshot. -/
def execCounterDump (s : State) : Host.Outcome State Fault Refusal :=
  let d := s.dev
  let r := d.cnt.dump
  done s (if r.on ∧ r.lastMultiple < d.devTime.toNat / (r.intervalUs * usNs) then takeDump d else d)

/-- An OVF bit is pending anywhere. -/
def ovfPending (d : Device) : Bool := d.counters.any fun e => e.2.ovf

/-- COUNTER_OVERFLOW (R463, R464): a counter in OVF mode has passed 2^48. -/
def counterOverflow (port j : Nat) (d : Device) : Device :=
  let key := programKey port j
  let c := d.counter key
  if selOvf c.sel ∧ 2 ^ 48 ≤ c.value then
    let past := c.value - 2 ^ 48
    let c' := { c with value := if selReload c.sel then 2 ^ 48 - c.period + past else past, ovf := true }
    let k := d.cnt
    let k := if ovfPending d then k else { k with ovfPort := port, ovfCounter := j, ovfTime := d.devTime }
    let k := if selTag c.sel ∧ k.tag.on ∧ k.tagOnOvf then { k with tagOwed := key :: k.tagOwed.filter (· ≠ key) } else k
    cntRaise 1 ({ d with cnt := k }.setCounter key c')
  else d

def execCounterOverflow (port counter : Nat) (s : State) : Host.Outcome State Fault Refusal :=
  done s (counterOverflow port counter s.dev)

end Sys2Proof.Machine
end

