-- ==== Sys2Proof/Machine/Pfl.lean ====
section
/-! DEFINITION. Machine/Pfl.lean: the Plinas Fabric Link's link layer (chapter 7). -/

namespace Sys2Proof.Machine

/-- One byte of the CRC-64 of R172 in reflected form. -/
def crc64Shift : Nat → BitVec 64 → BitVec 64
  | 0, c => c
  | k + 1, c => crc64Shift k (if c.getLsbD 0 then (c >>> 1) ^^^ 0xC96C5795D7870F42#64 else c >>> 1)

def crc64Bytes : List Byte → BitVec 64 → BitVec 64
  | [], c => c
  | b :: bs, c => crc64Bytes bs (crc64Shift 8 (c ^^^ b.setWidth 64))

/-- CRC-64 of ECMA-182, least significant bit first, initial value and final XOR all ones (R172). -/
def crc64 (bs : List Byte) : BitVec 64 := crc64Bytes bs 0xFFFFFFFFFFFFFFFF#64 ^^^ 0xFFFFFFFFFFFFFFFF#64

/-- The link parameters of a port that becomes PFL (R192). -/
def pflDefaults : Plk :=
  { plkReset with rxPool := 2048, rxMin := [64, 64, 64], ackAdapt := true, idleEn := true, idleEntryUs := 10,
                  restartMs := 100, limit := 4, ackSetNs := 2000, ackNs := 2000 }

/-- Set bits of PLK_INT_STATUS. -/
def pflRaise (n : Nat) (bits : BitVec 6) (d : Device) : Device :=
  let x := d.pfl n
  d.setPfl n { x with intStatus := x.intStatus ||| bits }

/-- The link is training or carries traffic: it can go down. -/
def pflCanFall : PflState → Bool
  | .train => true
  | .cap => true
  | .step => true
  | .active => true
  | .retrain => true
  | _ => false

/-- A ROUTE item's data (R224): FID and REACH. -/
def routeBytes (fid : Nat) (reach : Bool) : List Byte := natLe 4 (fid % 32 + 256 * natOfBool reach)

/-- ROUTE items about a FID on every ACTIVE PFL port, each to the neighbour there (R224). -/
def sendRoute (fid : Nat) (reach : Bool) (d : Device) : Device :=
  (d.ports.filter fun e => decide (e.2.personality = .pfl) && decide ((d.pfl e.1).state = .active)).foldl
    (fun d e => sendControl e.1 .fabRoute 0 (d.pfl e.1).partnerFid d.glb.fid 0 (routeBytes fid reach) d) d

def sendUnreach (fid : Nat) (d : Device) : Device :=
  sendRoute fid false { d with fab := { d.fab with unreachSent := d.fab.unreachSent ||| BitVec.ofNat 32 (2 ^ fid) } }

/-- UNREACH when no live path to a FID is left, REACH when one is live again (R224); the buckets follow the paths (R222). -/
def announce (fid : Nat) (d : Device) : Device :=
  let d := moveBuckets fid d
  let bit := BitVec.ofNat 32 (2 ^ fid)
  let sent := d.fab.unreachSent.getLsbD fid
  if hasLivePath fid d then
    if sent then sendRoute fid true { d with fab := { d.fab with unreachSent := d.fab.unreachSent &&& ~~~ bit } } else d
  else if sent || (d.route fid).paths.isEmpty then d
  else sendUnreach fid d

/-- A list of bytes filled up with zeros to a length. -/
def padTo (n : Nat) (bs : List Byte) : List Byte := bs ++ List.replicate (n - bs.length) 0

/-- A flit without its FEC, which the PCS adds (Table 7.1): bytes 0–8, FIRST_REC, PAYLOAD, CRC. -/
def flitBytes (head : List Byte) (firstRec : Nat) (payload : List Byte) : List Byte :=
  let b := head ++ natLe 1 firstRec ++ padTo 232 payload
  b ++ natLe 8 (crc64 b).toNat

/-- NAK_MAP of the receiver (R180). -/
def nakMap (x : Plk) : Nat :=
  (List.range 32).foldl (fun m i =>
    if i + 1 < x.seen ∧ !x.held.any (fun h => h.seq = (x.rxNext + i) % 65536) then m + 2 ^ i else m) 0

/-- Bytes 0–8 of a flit the port sends: KIND, SEQ, ACK_SEQ, NAK_MAP; the ack is valid in ACTIVE (R181).
(DESIGN CHOICE, log entry 70) -/
def flitHeader (ty vl seq : Nat) (replay : Bool) (x : Plk) : List Byte :=
  let acks : Bool := decide (x.state = .active)
  natLe 1 (ty + 4 * vl + 16 * natOfBool replay + 32 * natOfBool acks) ++ natLe 2 seq ++
    (if acks then natLe 2 x.rxNext ++ natLe 4 (nakMap x) else natLe 6 0)

/-- A control message fills whole slots of 16 B (R176). -/
def slotPad (m : List Byte) : List Byte := padTo (16 * u8 m 1) m

/-- A CONTROL flit of a port whose link layer is x, with its messages (R176). -/
def ctlFlit (n : Nat) (x : Plk) (messages : List (List Byte)) (d : Device) : Device :=
  emit (.flit n 2 0 (flitBytes (flitHeader 2 0 0 false x) 0 ((messages.map slotPad).flatten))) d

/-- PORT_RETRAIN on the port replies when the link is back, or down (R330). (DEDUCED, log entry 18) -/
def retrainReply (n : Nat) (d : Device) : Device :=
  match findExec (fun e => decide (e.op = 0x0203) && decide (e.cmd.target.toNat = n)) d with
  | some e => finishExec e (ansOk (natLe 4 (prtLink n d))) d
  | none => d

/-- Flit counters and state that a full link reset restarts (Table 18.6). -/
def pflCleared (x : Plk) : Plk :=
  { x with causeC := 0, dupHeld := false, txIdle := false, rxIdle := false, gotAck := false, gotCap := false, txNext := 0,
           replay := [], rxNext := 0,
           held := [], seen := 0, forceAck := false, lostInIdle := false, stream := [], rxParts := [], credits := [], samples := 0,
           rtt16 := 0, ackNs := x.ackSetNs, ctl := [], leading := false, acked := false }

/-- Forget the partner (R198): the link has left ACTIVE, be it by way of a fast retrain. -/
def forgetPartner (x : Plk) : Plk :=
  { x with partnerValid := false, partnerSerial := 0, partnerFw := 0, partnerFid := 0, partnerPort := 0 }

/-- A PFL port declares its link down (R203): DOWN_NOTICE in 4 flits, its items handed to link loss, cause and time
recorded. -/
def pflDown (n cause : Nat) (d : Device) : Device :=
  let x0 := d.pfl n
  if pflCanFall x0.state then
    let d := (List.range 4).foldl (fun d _ => ctlFlit n x0 [[0x07, 1, BitVec.ofNat 8 cause]] d)
      (lanesDown n (lossItems n (d.setPfl n { x0 with state := .down })))
    let x := pflCleared (d.pfl n)
    let x := { x with state := .down, enteredAt := d.now, lastCause := cause, downTime := d.devTime,
                      linkDowns := satAdd 0xFFFF x.linkDowns 1, intStatus := x.intStatus ||| 2 }
    let d := d.setPfl n (if x0.state = .active ∨ x0.state = .retrain then forgetPartner x else x)
    let d := { d with fab := { d.fab with advDue := true } }
    retrainReply n (blackBoxRecord 9 n cause [] d)
  else d

/-- Enter TRAIN (Table 7.4). -/
def pflTrain (n : Nat) (d : Device) : Device :=
  let d := d.setPfl n { d.pfl n with state := .train, enteredAt := d.now, rate := 5, causeC := 0, dupHeld := false }
  let d := eachLane n (fun x => { x with rate := 5, rxLock := false, adapt := 1, fromRecord := false }) d
  { d with fab := { d.fab with advDue := true } }

/-- A full link reset (R202): through DOWN with CAUSE 9, then TRAIN without waiting. -/
def pflFullReset (n : Nat) (d : Device) : Device := if pflCanFall (d.pfl n).state then pflTrain n (pflDown n 9 d) else d

/-- RETRAIN_REQ (Table 7.2); WIDTH and MAX_RATE are 0 but for a full link reset that this end asks for. -/
def retrainBytes (full : Bool) (cause width maxRate n : Nat) (d : Device) : List Byte :=
  [0x04, 1] ++ natLe 1 (natOfBool full) ++ natLe 1 cause ++ natLe 1 d.glb.fid ++ natLe 1 n ++ natLe 1 width ++ natLe 1 maxRate

/-- RETRAIN_REQ of KIND FULL with the new width and rate (R202), where the link can carry it. -/
def askFull (n width maxRate : Nat) (d : Device) : Device :=
  let x := d.pfl n
  if x.state = .active ∨ x.state = .retrain then ctlFlit n x [retrainBytes true 9 width maxRate n d] d else d

/-- A full link reset that this end asks for (R202, R211). (DEDUCED, log entry 39) -/
def askFullReset (n width maxRate : Nat) (d : Device) : Device := pflFullReset n (askFull n width maxRate d)

/-- A fast retrain starts (R200, R201): DATA stops, RETRAIN_REQ is sent. It counts for every flit that has reached LIMIT.
(DEDUCED, log entry 39) -/
def startRetrain (n cause : Nat) (leading : Bool) (d : Device) : Device :=
  let x := d.pfl n
  if x.state = .active then
    let x' := { x with state := .retrain, enteredAt := d.now, retrainAt := d.now, retrainCause := cause,
                       leading := leading, reqSentAt := d.now, acked := false, txIdle := false,
                       rxIdle := false, fastRetrains := satAdd 0xFFFF x.fastRetrains 1, intStatus := x.intStatus ||| 4,
                       replay := x.replay.map fun f => { f with marked := f.marked || decide (x.limit ≤ f.retransmissions) } }
    let d := d.setPfl n x'
    let d := { d with can := { d.can with linkEvents := (n, d.now) :: d.can.linkEvents }, fab := { d.fab with advDue := true } }
    if leading then ctlFlit n x [retrainBytes false cause 0 0 n d] d else d
  else d

/-- A fast retrain succeeds (R201): every unacknowledged flit is sent once more, counts of every flit restart (R186). -/
def retrainDone (n : Nat) (d : Device) : Device :=
  let x := d.pfl n
  let x' := { x with state := .active, enteredAt := d.now, lastGood := d.now, quietSince := d.now,
                     replay := x.replay.map fun f => { f with due := true, resend := true, probe := false, retransmissions := 0 } }
  let d := eachLane n (fun l => { l with rxLock := true }) (d.setPfl n x')
  retrainReply n { d with fab := { d.fab with advDue := true } }

/-- A flit due past LIMIT (R186): a fast retrain with CAUSE 1 and the flit marked, or down with CAUSE 2 when it was. -/
def replayLimit (n seq : Nat) (marked : Bool) (d : Device) : Device :=
  if marked then pflDown n 2 (pflRaise n 0x10 d)
  else
    let x := d.pfl n
    let x' := { x with replay := x.replay.map fun f => if f.seq = seq then { f with marked := true } else f }
    startRetrain n 1 true (pflRaise n 0x10 (d.setPfl n x'))

/-- Make a flit due for retransmission, as a NAK (R183) or a probe (R184) asks, LIMIT allowing. -/
def makeDue (n seq : Nat) (probe : Bool) (d : Device) : Device :=
  let x := d.pfl n
  match x.replay.find? fun f => f.seq = seq with
  | none => d
  | some f =>
    if x.limit ≤ f.retransmissions then replayLimit n seq f.marked d
    else d.setPfl n { x with replay := x.replay.map fun g => 
      if g.seq = seq then { g with due := true, resend := false, probe := probe } else g }

/-- One round-trip sample, in ns (R185): the average is held in 1/16 ns once 16 samples exist, their sum before. -/
def rttSample (x : Plk) (t : Nat) : Plk :=
  let sum := if x.samples < 16 then x.rtt16 + t else x.rtt16 + t - x.rtt16 / 16
  let k := min 16 (x.samples + 1)
  let want := ceilDiv (4 * sum) 1600 * 100
  let ack := if x.ackAdapt && decide (k = 16) then max 500 (min 20000 want) else x.ackNs
  { x with samples := k, rtt16 := sum, ackNs := ack }

/-- Average round trip in ns (PLK_ACK.RTT_NS). -/
def rttNs (x : Plk) : Nat := if x.samples = 0 then 0 else min 0xFFFF (x.rtt16 / x.samples)

/-- The flit may be retransmitted for a NAK: not within RETX_HOLDOFF of its last retransmission (R183). A probe that has yet
to leave is none once the flit is NAKed (Table 7.5). -/
def holdoffOver (x : Plk) (now : Nat) (f : TxFlit) : Bool :=
  (!f.due || f.probe) && (match f.lastResent with
    | none => true
    | some t => decide (t + x.ackNs / 2 ≤ now))

/-- An acknowledgement (R181, R183): flits it covers are freed, their items leave; flits it NAKs become due. One ahead of
every flit sent is a protocol error. (DEDUCED, log entry 39) -/
def processAck (n ack nak : Nat) (d : Device) : Device :=
  let x := d.pfl n
  let ahead := (ack + 65536 - x.txNext) % 65536
  if 1 ≤ ahead ∧ ahead < 32768 then startRetrain n 4 true (pflRaise n 0x20 d)
  else
    let freed := x.replay.filter fun f => decide (1 ≤ (ack + 65536 - f.seq) % 65536) && decide ((ack + 65536 - f.seq) % 65536 ≤ 512)
    let x := { x with replay := x.replay.filter (fun f => !freed.contains f), quietSince := if freed.isEmpty then x.quietSince else d.now }
    let x := freed.foldl (fun x f => if f.sentOnce then rttSample x (d.now - f.firstSent) else x) x
    let gone : List Nat := (freed.map (·.ends)).flatten
    let d := { d.setPfl n x with items := d.items.filter fun i => !gone.contains i.id }
    let named := x.replay.filter fun f =>
      let i := (f.seq + 65536 - ack) % 65536
      decide (i < 32) && bitOf nak i && holdoffOver x d.now f
    named.foldl (fun d f => if (d.pfl n).state = .active then makeDue n f.seq false d else d) d

/-- Index of a combination of VL and class (R188). -/
def comboKey (vl cls : Nat) : Nat := 4 * vl + cls
def creditOf (x : Plk) (vl cls : Nat) : PflCredit := tget creditReset x.credits (comboKey vl cls)
def setCredit (x : Plk) (vl cls : Nat) (c : PflCredit) : Plk :=
  { x with credits := tset creditReset x.credits (comboKey vl cls) c }

/-- Credit left of a grant and of cumulative counts of 32 bits (R189). -/
def creditLeft (grant freed used : Nat) : Nat := (grant + freed + (2 ^ 32 - used % 2 ^ 32)) % 2 ^ 32

/-- An item delivered by the link layer takes credit that this port has granted; one beyond it is a protocol error, and
the link goes down with CAUSE 5 (R193). (DEDUCED, log entry 21) -/
def deliverItem (n : Nat) (a : Arrival) (d : Device) : Device :=
  let x := d.pfl n
  if x.state ≠ .active then d
  else
    let f : FabHdr := a.fab.getD { dstFid := 0, srcFid := 0, part := 0, cls := 0, dstPort := 0, queue := 0, hops := 0,
                                   synth := false, flow := 0, stamp := 0 }
    let vl := itemVl a.tlp f.queue d
    let c := creditOf x vl f.cls
    let cells := cellsOf (payloadLen a.tlp)
    if 1 ≤ creditLeft c.rxHdr c.hdrFreed c.hdrRx ∧ cells ≤ creditLeft c.rxData c.dataFreed c.dataRx then
      let c := { c with hdrRx := (c.hdrRx + 1) % 2 ^ 32, dataRx := (c.dataRx + cells) % 2 ^ 32 }
      let x := setCredit x vl f.cls c
      d.setPfl n { x with delivered := x.delivered ++ [a] }
    else
      let x := { x with discarded := x.discarded + 1 }
      pflDown n 5 (pflRaise n 0x20 (d.setPfl n x))

/-- Send a flit that is due (R177, R184, R186): every retransmission is counted, those of a retrain not toward LIMIT. -/
def sendDue (n : Nat) (f : TxFlit) (d : Device) : Device :=
  let x := d.pfl n
  let g := { f with due := false, resend := false, probe := false, lastSent := d.now, lastResent := some d.now, sentOnce := false,
                    retransmissions := if f.resend then f.retransmissions else f.retransmissions + 1 }
  let x' := { x with replay := x.replay.map (fun h => if h.seq = f.seq then g else h), replays := satAdd 0xFFFFFFFF x.replays 1,
                     probes := if f.probe then satAdd 0xFFFFFFFF x.probes 1 else x.probes, forceAck := false, quietSince := d.now }
  countPort 0x045 n 0 0 0x3F 1
    (emit (.flit n 1 f.seq (flitBytes (flitHeader 1 f.vl f.seq true x) f.firstRec f.payload)) (d.setPfl n x'))

/-- What one flit takes from the front of the record stream. -/
structure Taken where
  left : List TxRecord
  touched : List Nat
  ended : List Nat
  bytes : List Byte
  /-- Where in the flit the first record begins that does so (R171). -/
  first : Option Nat
deriving DecidableEq, Repr

/-- Take up to `room` bytes of one VL from the front of the record stream, `at_` bytes into the flit (R174). -/
def takeRecords (vl : Nat) : Nat → Nat → List TxRecord → Taken
  | _, _, [] => { left := [], touched := [], ended := [], bytes := [], first := none }
  | room, at_, r :: rest =>
    let begins : Option Nat := if r.begun then none else some at_
    if r.vl ≠ vl ∨ room = 0 then { left := r :: rest, touched := [], ended := [], bytes := [], first := none }
    else if r.bytes.length ≤ room then
      let k := takeRecords vl (room - r.bytes.length) (at_ + r.bytes.length) rest
      { left := k.left, touched := r.item :: k.touched, ended := r.item :: k.ended, bytes := r.bytes ++ k.bytes,
        first := begins.or k.first }
    else { left := { r with bytes := r.bytes.drop room, begun := true } :: rest, touched := [r.item], ended := [],
           bytes := r.bytes.take room, first := begins }

/-- Send a new DATA flit of the stream's first VL (R174, R177, R194). What the stream does not fill is zeros.
(DESIGN CHOICE, log entry 70) -/
def sendData (n : Nat) (d : Device) : Device :=
  let x := d.pfl n
  match x.stream with
  | [] => d
  | r :: _ =>
    let k := takeRecords r.vl 232 0 x.stream
    let first : Nat := match k.first with
      | some o => o / 4
      | none => 0xFF
    let f : TxFlit := { seq := x.txNext, vl := r.vl, firstRec := first, payload := k.bytes, items := k.touched, ends := k.ended,
                        firstSent := d.now, lastSent := d.now, sentOnce := true, retransmissions := 0, marked := false, due := false,
                        resend := false, probe := false, lastResent := none }
    let x' := { x with replay := x.replay ++ [f], txNext := (x.txNext + 1) % 65536, stream := k.left, forceAck := false,
                       quietSince := d.now }
    countPort 0x042 n 0 0 0x3F 1
      (emit (.flit n 1 f.seq (flitBytes (flitHeader 1 r.vl f.seq false x) f.firstRec f.payload)) (d.setPfl n x'))

/-- The CREDIT message of a combination (Table 7.2). -/
def creditMessage (x : Plk) (k : Nat) : List Byte :=
  let c := tget creditReset x.credits k
  natLe 1 1 ++ natLe 1 1 ++ natLe 1 (k / 4 + 4 * (k % 4)) ++ natLe 1 0 ++ natLe 4 c.hdrFreed ++ natLe 4 c.dataFreed ++ natLe 4 0

/-- The 12 combinations. -/
def combos : List Nat := [0, 1, 2, 4, 5, 6, 8, 9, 10, 12, 13, 14]

/-- Combinations whose count has changed and not been sent. -/
def changedCombos (x : Plk) : List Nat := combos.filter fun k => (tget creditReset x.credits k).changedAt.isSome

/-- A credit update has waited 0.5 µs (R173). -/
def creditOverdue (x : Plk) (now : Nat) : Bool :=
  combos.any fun k => match (tget creditReset x.credits k).changedAt with
    | some t => decide (t + 500 ≤ now)
    | none => false

/-- Send credit messages: the counts are no longer waiting. -/
def sendCredits (n : Nat) (ks : List Nat) (d : Device) : Device :=
  let x := d.pfl n
  let x' := ks.foldl (fun x k => { x with credits := tmod creditReset x.credits k fun c => { c with changedAt := none } }) x
  countPort 0x043 n 0 0 0x3F 1 (ctlFlit n x (ks.map (creditMessage x)) (d.setPfl n x'))

/-- This device is the domain time master (R240). -/
def isMaster (d : Device) : Bool := d.fab.masterValid && decide (d.fab.masterFid = d.glb.fid)

/-- The CAP message of a port (Table 7.6). -/
def capBytes (n : Nat) (d : Device) : List Byte :=
  let x := d.pfl n
  let b := d.buf n
  let grant := fun (i : Nat) =>
    let mine := if i / 3 = 3 then [b.minP, b.minNp, b.minCpl].getD (i % 3) 64 else x.rxMin.getD (i / 3) 64
    natLe 2 mine ++ natLe 2 32
  [0x02, 6, 1, 0] ++ natLe 1 d.glb.fid ++ natLe 1 n ++ natLe 1 (d.port n).width ++ natLe 1 (d.port n).maxRate ++
  natLe 8 d.glb.serial.toNat ++ natLe 4 d.glb.fwLevel.toNat ++ natLe 2 512 ++ natLe 2 256 ++
  ((List.range 12).map grant).flatten ++ natLe 24 0

/-- Bytes of a pending control message (Tables 7.2, 8.5); t1 and t3 are taken as it leaves. -/
def ctlBytes (m : Ctl) (n : Nat) (d : Device) : List Byte :=
  let own := natLe 1 d.glb.fid ++ natLe 1 n
  match m with
  | .cap => capBytes n d
  | .capAck serial => [0x03, 1, 0, 0] ++ own ++ [0, 0] ++ natLe 8 serial.toNat
  | .retrainReq full cause width maxRate => retrainBytes full cause width maxRate n d
  | .retrainAck full => [0x05, 1, BitVec.ofNat 8 (natOfBool full), 0] ++ own
  | .idleNotice => [0x06, 1]
  | .downNotice cause => [0x07, 1, BitVec.ofNat 8 cause]
  | .timeReq seq => [0x10, 1] ++ natLe 1 seq ++ natLe 5 0 ++ natLe 8 d.devTime.toNat
  | .timeResp seq t2 =>
    [0x11, 2] ++ natLe 1 seq ++ natLe 1 (natOfBool (d.fab.timeLocked || isMaster d) + 2 * natOfBool (isMaster d)) ++
      natLe 1 d.fab.masterFid ++ natLe 1 d.fab.hops ++ natLe 2 0 ++ natLe 8 t2 ++ natLe 8 d.devTime.toNat ++ natLe 8 0

/-- Send the first pending control message. -/
def sendCtl (n : Nat) (m : Ctl) (rest : List Ctl) (d : Device) : Device :=
  let x := d.pfl n
  let t1 : Nat := match m with
    | .timeReq _ => d.devTime.toNat
    | _ => x.timeT1
  countPort 0x043 n 0 0 0x3F 1
    (ctlFlit n x [ctlBytes m n d] (d.setPfl n { x with ctl := rest, quietSince := d.now, timeT1 := t1 }))

/-- PFL_FLIT_SLOT (R173): what the transmitter sends in one flit slot. New DATA waits while 512 flits are
unacknowledged (R178), and in RETRAIN, where the starting end asks again every 2 µs until it is answered (R201). -/
def flitSlot (n : Nat) (d : Device) : Device :=
  let x := d.pfl n
  let null := fun (_ : Unit) =>
    countPort 0x044 n 0 0 0x3F 1
      (emit (.flit n 0 0 (flitBytes (flitHeader 0 0 0 false x) 0 [])) (d.setPfl n { x with forceAck := false }))
  if x.txIdle then d
  else if x.state = .active then
    match x.replay.find? (·.due), x.ctl with
    | some f, _ => sendDue n f d
    | none, m :: rest => sendCtl n m rest d
    | none, [] =>
      let free := !shaftHolds false n d
      if free && creditOverdue x d.now then sendCredits n (changedCombos x) d
      else if x.stream ≠ [] ∧ x.replay.length < 512 then sendData n d
      else if free = true ∧ changedCombos x ≠ [] then sendCredits n (changedCombos x) d
      else null ()
  else if x.state = .retrain ∧ x.leading = true ∧ x.acked = false ∧ x.reqSentAt + 2 * usNs ≤ d.now then
    ctlFlit n x [retrainBytes false x.retrainCause 0 0 n d] (d.setPfl n { x with reqSentAt := d.now })
  else if x.state = .retrain ∨ x.state = .cap ∨ x.state = .step ∨ x.state = .conflict then
    match x.ctl with
    | m :: rest => sendCtl n m rest d
    | [] => if x.state = .retrain ∨ x.state = .cap then null () else d
  else d

def execPflFlitSlot (port : Nat) (s : State) : Host.Outcome State Fault Refusal := done s (flitSlot port s.dev)

/-- ACK_TIMEOUT_PROBE (R184): the oldest unacknowledged flit was last sent ACK_TIMEOUT or more ago. -/
def ackProbe (n : Nat) (d : Device) : Device :=
  let x := d.pfl n
  match x.replay.head? with
  | none => d
  | some f =>
    if x.state = .active ∧ f.due = false ∧ f.lastSent + x.ackNs ≤ d.now then makeDue n f.seq true d
    else d

def execAckTimeoutProbe (port : Nat) (s : State) : Host.Outcome State Fault Refusal := done s (ackProbe port s.dev)

/-- A cumulative 32-bit count is taken when it is ahead by less than 2^31 (R189). -/
def aheadOf (old new : Nat) : Nat := if (new + 2 ^ 32 - old) % 2 ^ 32 < 2 ^ 31 then new else old

/-- CREDIT (R189, R190). -/
def creditArrives (port vl cls hdrFreed dataFreed : Nat) (d : Device) : Device :=
  let x := d.pfl port
  let c := creditOf x vl cls
  let c' := { c with hdrFreedRx := aheadOf c.hdrFreedRx (hdrFreed % 2 ^ 32), dataFreedRx := aheadOf c.dataFreedRx (dataFreed % 2 ^ 32) }
  if (x.state = .active ∨ x.state = .retrain) ∧ vl < 4 ∧ cls < 3 then d.setPfl port (setCredit x vl cls c') else d

def execCredit (port vl cls hdrFreed dataFreed : Nat) (s : State) : Host.Outcome State Fault Refusal :=
  done s (creditArrives port vl cls hdrFreed dataFreed s.dev)

/-- CREDIT_REFRESH (R190): every 10 µs, not while the transmitter is in electrical idle. -/
def execCreditRefresh (port : Nat) (s : State) : Host.Outcome State Fault Refusal :=
  let d := s.dev
  let x := d.pfl port
  done s (if x.state = .active ∧ x.txIdle = false ∧ x.refreshAt + 10 * usNs ≤ d.now ∧ shaftHolds false port d = false then
      sendCredits port combos (d.setPfl port { x with refreshAt := d.now })
    else d)

/-- Ports of the half-stope of port n, other than n, that are PFL and past TRAIN (R196). -/
def halfPartners (n : Nat) (d : Device) : List Nat :=
  let units : List Nat := [n / 2 * 2, n / 2 * 2 + 1, (n / 2 * 2 + 2), (n / 2 * 2 + 3)]
  let mine : List Nat := (List.range (unitsOf (d.port n).width)).map fun u => (n + u) / 2
  let near : List Nat := (units ++ [n - 1, n - 2, n - 3]).filter fun m =>
    decide (m ≠ n) && decide (m < 96) && decide ((d.port m).personality = .pfl) && decide ((d.port m).absorbedBy = none)
  near.eraseDups.filter fun m => (List.range (unitsOf (d.port m).width)).any fun u => mine.contains ((m + u) / 2)

/-- CAUSE_C that a CAP earns, 0 for none (R196). -/
def capCause (n : Nat) (c : Cap) (d : Device) : Nat :=
  let mine := d.port n
  let agreed := min mine.maxRate c.maxRate
  let learned := (halfPartners n d).filter fun m =>
    match (d.pfl m).state with
    | .cap => (d.pfl m).gotCap
    | .step => true
    | .active => true
    | .retrain => true
    | _ => false
  let past := learned.filter fun m => decide ((d.pfl m).state ≠ .cap)
  if c.fid = d.glb.fid then 1
  else if learned.any (fun m => decide ((d.pfl m).capFid ≠ c.fid)) then 2
  else if c.width ≠ mine.width ∨ past.any (fun m => decide (min (d.port m).maxRate (d.pfl m).partnerRate ≠ agreed)) then 3
  else 0

/-- Credits at the entry to a link: the partner's grants, and the grants this port gives (R188, R191). -/
def grantsOf (x : Plk) (grants : List (Nat × Nat)) (voqMin : List Nat) : Tbl PflCredit :=
  (List.range 12).foldl (fun t i =>
    let vl := i / 3
    let cls := i % 3
    let g := grants.getD i (0, 0)
    let mine := if vl = 3 then voqMin.getD cls 64 else x.rxMin.getD vl 64
    tset creditReset t (comboKey vl cls) { creditReset with grantData := g.1, grantHdr := g.2, rxData := mine, rxHdr := 32 }) []

/-- The port's record for its partner (R347). -/
def pflRecord (n : Nat) (d : Device) : Option EqRecord :=
  d.eqRecords.find? fun r => decide (r.port = n) && decide (r.partner = (d.pfl n).partnerSerial.toNat) &&
    decide (r.width = (d.port n).width)

/-- The preset that a lane starts a rung with: its record's, or that of its loss estimate (R344). -/
def recordPreset (n k : Nat) (d : Device) : Nat :=
  match pflRecord n d with
  | some r => (r.lanes.getD (k - 4 * n) (16, 0, 0, 0, 0)).1
  | none => pflPreset (d.lane k).il

/-- The exchange is complete: STEP (R195, R198). A record under the partner's serial speeds it up (R347). -/
def enterStep (n : Nat) (d : Device) : Device :=
  let x := d.pfl n
  let x := { x with partnerFid := x.capFid, partnerPort := x.capPort, partnerSerial := x.capSerial, partnerFw := x.capFw }
  let known := (pflRecord n (d.setPfl n x)).isSome
  let d := d.setPfl n { x with state := .step, causeC := 0, enteredAt := d.now, rate := 5, partnerValid := true, fromRecord := known,
                               goSent := 0 }
  let d := eachLane n (fun l => { l with rate := 5, readyRun := 0, goRun := 0, asked := false, fromRecord := known }) d
  let d := (portLanes n d).foldl (fun d k => setPreset k (recordPreset n k d) d) d
  { d with fab := { d.fab with advDue := true } }

/-- CAP (R196–R198): answered with CAP_ACK, checked; it completes the exchange or holds the link in CONFLICT, where a
duplicate FID keeps it (R217). (DEDUCED, log entry 39) -/
def capArrives (n : Nat) (c : Cap) (d : Device) : Device :=
  let x := d.pfl n
  if x.state = .cap ∨ x.state = .conflict then
    let b := d.buf n
    let cause := if x.dupHeld then 1 else capCause n c d
    let x := { x with ctl := x.ctl ++ [Ctl.capAck c.serial], capFid := c.fid, capPort := c.port, capSerial := c.serial,
                      capFw := c.fw, partnerRate := c.maxRate }
    if cause = 0 then
      let x := { x with gotCap := true, credits := grantsOf x c.grants [b.minP, b.minNp, b.minCpl] }
      let d := d.setPfl n x
      if x.gotAck ∨ x.state = .conflict then enterStep n d else d
    else
      let fresh : Bool := decide (x.state = .cap)
      let x := { x with state := .conflict, causeC := cause, gotCap := false,
                        intStatus := if fresh then x.intStatus ||| 8 else x.intStatus }
      let d := d.setPfl n x
      if fresh then { lossItems n d with fab := { d.fab with advDue := true } } else d
  else d

def execCap (port : Nat) (cap : Cap) (s : State) : Host.Outcome State Fault Refusal := done s (capArrives port cap s.dev)

/-- CAP_ACK (R196): it must echo this device's own SERIAL. -/
def capAckArrives (port : Nat) (serial : BitVec 64) (d : Device) : Device :=
  let x := d.pfl port
  let d' := d.setPfl port { x with gotAck := true }
  if x.state = .cap ∧ serial = d.glb.serial then (if x.gotCap then enterStep port d' else d') else d

def execCapAck (port : Nat) (serial : BitVec 64) (s : State) : Host.Outcome State Fault Refusal := done s (capAckArrives port serial s.dev)

/-- CAP_SEND (R196): every 1 µs in CAP, every 1 ms in CONFLICT. -/
def execCapSend (port : Nat) (s : State) : Host.Outcome State Fault Refusal :=
  let d := s.dev
  let x := d.pfl port
  let due := (decide (x.state = .cap) && decide (x.capSentAt + usNs ≤ d.now)) ||
    (decide (x.state = .conflict) && decide (x.capSentAt + msNs ≤ d.now))
  done s (if due then ctlFlit port x [capBytes port d] (d.setPfl port { x with capSentAt := d.now }) else d)

/-- RETRAIN_REQ (R201, R202): FULL outranks FAST; of two attempts the lower (FID, port) leads. The partner's new rate is held
until its next CAP; its new width is judged there. (DEDUCED, log entry 39) -/
def retrainReq (n : Nat) (full : Bool) (cause fid rport maxRate : Nat) (d : Device) : Device :=
  let x := d.pfl n
  let ack := fun (d : Device) => ctlFlit n x [[0x05, 1, BitVec.ofNat 8 (natOfBool full), 0, BitVec.ofNat 8 fid, BitVec.ofNat 8 rport]] d
  let lower := decide (fid < d.glb.fid) || (decide (fid = d.glb.fid) && decide (rport < n))
  if full then
    (if x.state = .active ∨ x.state = .retrain then
      pflFullReset n (ack (d.setPfl n { x with partnerRate := if maxRate = 0 then x.partnerRate else maxRate }))
    else d)
  else if x.state = .active then startRetrain n cause false (ack d)
  else if x.state = .retrain then
    (if x.leading then (if lower then ack (d.setPfl n { x with leading := false }) else d) else ack d)
  else d

/-- RETRAIN_REQ on a port: one that is not PFL has no meaning for it (R41). -/
def retrainAsked (port : Nat) (full : Bool) (cause fid rport maxRate : Nat) (d : Device) : Device :=
  if (d.port port).personality = .pfl then retrainReq port full cause fid rport maxRate d else strayEvent port d

def execRetrainReq (port : Nat) (full : Bool) (cause fid rport : Nat) (s : State) (_width maxRate : Nat := 0) : Host.Outcome State Fault Refusal :=
  done s (retrainAsked port full cause fid rport maxRate s.dev)

/-- RETRAIN_ACK (R201). -/
def retrainAcked (port : Nat) (full : Bool) (d : Device) : Device :=
  let x := d.pfl port
  if x.state = .retrain ∧ x.leading then
    (if full then pflFullReset port d else d.setPfl port { x with acked := true })
  else d

def execRetrainAck (port : Nat) (full : Bool) (s : State) : Host.Outcome State Fault Refusal := done s (retrainAcked port full s.dev)

/-- FAST_RETRAIN (R201). -/
def execFastRetrain (port cause : Nat) (s : State) : Host.Outcome State Fault Refusal := done s (startRetrain port cause true s.dev)

/-- RETRAIN_TIMEOUT (R201): no good flit within 30 µs. -/
def execRetrainTimeout (port : Nat) (s : State) : Host.Outcome State Fault Refusal :=
  let d := s.dev
  let x := d.pfl port
  done s (if x.state = .retrain ∧ x.retrainAt + 30 * usNs ≤ d.now then pflDown port 2 d else d)

/-- FULL_LINK_RESET (R202). -/
def execFullLinkReset (port : Nat) (s : State) : Host.Outcome State Fault Refusal := done s (pflFullReset port s.dev)

/-- IDLE_NOTICE (R207). -/
def idleNoticed (port : Nat) (d : Device) : Device :=
  let x := d.pfl port
  if x.state = .active then d.setPfl port { x with rxIdle := true } else d

def execIdleNotice (port : Nat) (s : State) : Host.Outcome State Fault Refusal := done s (idleNoticed port s.dev)

/-- DOWN_NOTICE (R203), whatever its cause: in ACTIVE or RETRAIN. -/
def downNoticed (port : Nat) (d : Device) : Device :=
  let x := d.pfl port
  if x.state = .active ∨ x.state = .retrain then pflDown port 10 d else d

def execDownNotice (port _cause : Nat) (s : State) : Host.Outcome State Fault Refusal := done s (downNoticed port s.dev)

/-- NO_GOOD_FLIT_TIMEOUT (R203): 5 µs in ACTIVE while the partner is not in electrical idle. -/
def execNoGoodFlitTimeout (port : Nat) (s : State) : Host.Outcome State Fault Refusal :=
  let d := s.dev
  let x := d.pfl port
  done s (if x.state = .active ∧ x.rxIdle = false ∧ x.lastGood + 5 * usNs ≤ d.now then pflDown port 10 d else d)

/-- PFL_LINK_DOWN (R203). -/
def execPflLinkDown (port cause : Nat) (s : State) : Host.Outcome State Fault Refusal := done s (pflDown port cause s.dev)

/-- RESTART_EXPIRY (R204). -/
def execRestartExpiry (port : Nat) (s : State) : Host.Outcome State Fault Refusal :=
  let d := s.dev
  let x := d.pfl port
  done s (if x.state = .down ∧ (d.port port).enabled ∧ x.enteredAt + x.restartMs * msNs ≤ d.now then pflTrain port d else d)

/-- TRAIN_TIMEOUT (R195): 100 ms in TRAIN or STEP. -/
def execTrainTimeout (port : Nat) (s : State) : Host.Outcome State Fault Refusal :=
  let d := s.dev
  let x := d.pfl port
  done s (if (x.state = .train ∨ x.state = .step) ∧ x.enteredAt + 100 * msNs ≤ d.now then pflDown port 7 d else d)

/-- CAP_TIMEOUT (R195): 10 ms in CAP. -/
def execCapTimeout (port : Nat) (s : State) : Host.Outcome State Fault Refusal :=
  let d := s.dev
  let x := d.pfl port
  done s (if x.state = .cap ∧ x.enteredAt + 10 * msNs ≤ d.now then pflDown port 8 d else d)

/-- Nothing keeps the transmitter awake (R205, R206). -/
def pflQuiet (x : Plk) : Bool :=
  x.stream.isEmpty && x.replay.isEmpty && x.ctl.isEmpty && (changedCombos x).isEmpty && !x.forceAck

/-- IDLE_ENTRY (R205). -/
def execIdleEntry (port : Nat) (s : State) : Host.Outcome State Fault Refusal :=
  let d := s.dev
  let x := d.pfl port
  done s (if x.state = .active ∧ x.idleEn ∧ x.txIdle = false ∧ pflQuiet x ∧ x.quietSince + x.idleEntryUs * usNs ≤ d.now then
      ctlFlit port x [[0x06, 1]] (d.setPfl port { x with txIdle := true, idleAt := d.now })
    else d)

/-- IDLE_EXIT (R206): a training burst precedes the first flit, a CONTROL flit that carries all 12 credits (R190). -/
def execIdleExit (port : Nat) (s : State) : Host.Outcome State Fault Refusal :=
  let d := s.dev
  let x := d.pfl port
  done s (if x.txIdle ∧ x.state = .active ∧ pflQuiet x = false then
      sendCredits port combos (emit (.pts (4 * port) []) (d.setPfl port { x with txIdle := false, quietSince := d.now }))
    else d)

/-- PLK_CFG (Table 7.9). -/
def plkCfgWord (x : Plk) : Nat :=
  x.rxPool + 2 ^ 14 * natOfBool x.ackAdapt + 2 ^ 15 * natOfBool x.idleEn + 2 ^ 16 * x.idleEntryUs

end Sys2Proof.Machine
end

