-- ==== Sys2Proof/Machine/Ports.lean ====
section
/-! DEFINITION. Machine/Ports.lean: PORT_CONFIG and the other port commands (R29–R42, R77–R80, R209–R211, R315–R320,
R329–R331, R554), sideband pins and PERST_N_OUT. -/

namespace Sys2Proof.Machine

/-- A command's target: a port of 0–95 that no merge absorbs. -/
def targetPort (c : Cmd) (d : Device) : Bool := portExists c.target.toNat d
def portHeader (c : Cmd) (d : Device) : Option Ans :=
  orElse (failIf (!targetPort c d) (ansBad 0xFF08)) (failIf (decide (c.param0 ≠ 0)) (ansBad 0xFF0C))

/-- A source that may change the manager's upstream port: SMBus, the adit port, replay (R37). -/
def sidebandSource (s : Source) : Bool := decide (s.transport = 3) || decide (s.transport = 5) || decide (s.transport = 7)

/-- The units of a port of some width whose lowest unit is n (R16). -/
def mergeUnits (n width : Nat) : List Nat := (List.range (unitsOf width)).map (n + ·)

/-- LANE_TEST STOP on one lane (R355): generation and checking end, electrical idle, counters kept. -/
def laneStop (k : Nat) (d : Device) : Device :=
  d.setLane k { d.lane k with inTest := false, genOn := false, chkOn := false, locked := false, rate := 0, rxLock := false,
                              txIdle := true, inject := 0, eyeBusy := false }

/-- The counters of a PLK block (Table 7.9), over a link layer that starts anew: only a cold reset clears them (R212). -/
def plkCounters (x : Plk) : Plk :=
  { plkReset with badFlits := x.badFlits, replays := x.replays, probes := x.probes, dups := x.dups, beyond := x.beyond,
                  fastRetrains := x.fastRetrains, linkDowns := x.linkDowns }

/-- A unit that a command absorbs or frees takes reset values (R9, R35); its counters stay (R462). -/
def clearUnit (absorbed : Option Nat) (d : Device) (u : Nat) : Device :=
  { d with
    ports := tset portReset d.ports u { portReset with absorbedBy := absorbed },
    bufs := terase u d.bufs, locks := terase u d.locks, pcie := terase u d.pcie,
    plk := tset plkReset d.plk u (plkCounters (d.pfl u)),
    eports := terase u d.eports, equeues := d.equeues.filter fun e => decide (e.1 / 8 ≠ u) }

/-- Lay a port out: the units it no longer merges become OFF ports, those it takes are absorbed. -/
def layPort (n : Nat) (x : Port) (d : Device) : Device :=
  let old := mergeUnits n (d.port n).width
  let new := mergeUnits n x.width
  let d := (old.filter fun u => !new.contains u).foldl (clearUnit none) d
  let d := (new.filter fun u => !old.contains u).foldl (clearUnit (some n)) d
  d.setPort n x

/-- Code of Table 2.1 as a personality. -/
def personalityOf (n : Nat) : Option Personality :=
  if n = 0 then some .off else if n = 1 then some .usp else if n = 2 then some .dsp
  else if n = 3 then some .pfl else if n = 4 then some .diag else none

/-- The values of Table 2.2 that Table 2.1 allows a personality. -/
def widthAllowed (p : Personality) (w : Nat) : Bool :=
  match p with
  | .off => decide (w = 0)
  | .pfl => decide (w = 4) || decide (w = 8) || decide (w = 16)
  | _ => decide (w = 1) || decide (w = 2) || decide (w = 4) || decide (w = 8) || decide (w = 16)
def rateAllowed (p : Personality) (r : Nat) : Bool :=
  match p with
  | .off => decide (r = 0)
  | .diag => decide (r = 0)
  | .pfl => decide (5 ≤ r) && decide (r ≤ 7)
  | _ => decide (1 ≤ r) && decide (r ≤ 7)
def flagsAllowed (p : Personality) (f : Nat) : Bool :=
  match p with
  | .dsp => decide (f < 8)
  | .usp => decide (f < 2)
  | _ => decide (f = 0)

/-- Check 3 of Table 2.4. A value no personality has is bad in itself; one that only another personality has fails its
relation with PERSONALITY (R402). (DEDUCED, log entry 17) -/
def portValues (p : List Byte) : Option Ans :=
  match personalityOf (u8 p 0) with
  | none => some (ansBad 0)
  | some x =>
    let w := u8 p 1
    let r := u8 p 2
    let f := u8 p 3
    firstFail
      [ failIf (!widthAllowed x w) (ansBad (if w = 0 ∨ widthCode w ≠ 0 then 0 else 1)),
        failIf (!rateAllowed x r) (ansBad (if r ≤ 7 then 0 else 2)),
        failIf (!flagsAllowed x f) (ansBad (if f < 8 then 0 else 3)) ]

/-- The configuration that PORT_CONFIG asks for. -/
def portAsked (p : List Byte) (old : Port) : Port :=
  { personality := (personalityOf (u8 p 0)).getD .off, width := u8 p 1, maxRate := u8 p 2, sris := bitOf (u8 p 3) 0,
    hotplug := bitOf (u8 p 3) 1, clkout := bitOf (u8 p 3) 2, absorbedBy := none, enabled := true, holder := old.holder,
    bridge := old.bridge }

/-- Every value named equals the value in force (R39). -/
def portSame (a b : Port) : Bool :=
  decide (a.personality = b.personality) && decide (a.width = b.width) && decide (a.maxRate = b.maxRate) &&
  decide (a.sris = b.sris) && decide (a.hotplug = b.hotplug) && decide (a.clkout = b.clkout)

/-- Units that a command touches. -/
def touched (n : Nat) (x : Port) (d : Device) : List Nat := mergeUnits n (max (d.port n).width x.width)

/-- The device with the configuration the command would produce, for checks 5, 10 and 11 (R34, R192). -/
def portPlanned (n : Nat) (x : Port) (d : Device) : Device :=
  let keep := decide ((d.port n).personality = .pfl)
  let e := layPort n x d
  if x.personality = .pfl ∧ keep = false then e.setPfl n pflDefaults else e

/-- The port a unit belongs to. -/
def ownerOf (u : Nat) (d : Device) : Nat := (d.port u).absorbedBy.getD u

/-- The half-stope rule (R17) of the half-stope of unit u. -/
def halfStopeOk (d : Device) (u : Nat) : Bool :=
  let a := d.port (ownerOf (u / 2 * 2) d)
  let b := d.port (ownerOf (u / 2 * 2 + 1) d)
  let alone := fun (x y : Port) => decide (x.personality = .pfl) && decide (y.personality ≠ .pfl) && decide (y.personality ≠ .off)
  !(alone a b) && !(alone b a) &&
    !(decide (a.personality = .pfl) && decide (b.personality = .pfl) && decide (a.maxRate ≠ b.maxRate))

/-- USPs of a panel (R19). -/
def panelUsps (p : Nat) (d : Device) : Nat :=
  ((List.range 12).filter fun u => (d.port (p * 12 + u)).personality = .usp).length

/-- A panel's reservations fit its memory (R18). -/
def panelFits (p : Nat) (d : Device) : Bool :=
  decide (panelPfl p d + panelMin p d + 16 * (sparesOf (p + 1) d).out ≤ 16384)

/-- The checks of Table 2.4. -/
def portConfigChecks (c : Cmd) (d : Device) : List (Option Ans) :=
  let n := c.target.toNat
  let p := c.params
  let old := d.port n
  let x := portAsked p old
  let e := portPlanned n x d
  let us := touched n x d
  [ failIf (decide (p.length ≠ 4)) (ansLen 4), portHeader c d, portValues p,
    failIf (decide (n % unitsOf x.width ≠ 0)) (ansBad 1),
    failIf (!us.all (halfStopeOk e)) (ansBad 0),
    failIf (decide (old.holder ≠ 0)) ansNo,
    failIf ((mergeUnits n x.width).any fun u => !(mergeUnits n old.width).contains u &&
      (decide ((d.port u).personality ≠ .off) || decide ((d.port u).absorbedBy ≠ none))) ansNo,
    failIf (us.contains d.glb.mgrPort && !(portSame x old && old.enabled) && !sidebandSource c.source) ansNo,
    failIf (d.clk.parked.getLsbD (dieOf n) && decide (x.personality ≠ .off)) ansNo,
    failIf (decide (x.personality = .usp) && decide (6 < panelUsps (panelOf n) e)) (ansPool 7),
    failIf (!panelFits (panelOf n) e) (ansPool 6) ]

/-- Default pin functions (Table 11.7), nibble 3u + j. -/
def defaultPins (x : Port) : BitVec 48 :=
  match x.personality with
  | .usp => 0x352
  | .dsp =>
    if x.hotplug then (if 8 ≤ x.width then 0x987361 else 0x761)
    else (if 8 ≤ x.width then 0x004361 else 0x361)
  | _ => 0

/-- Where a PCI Express link starts: it trains, but for DPC (R39), for a USP of PART0 other than the manager's (R40), and while
the host holds Link Disable at the port bridge (R312). -/
def pcieStart (n : Nat) (d : Device) : Device :=
  let x := d.pci n
  let p := d.port n
  let st : LState :=
    if x.dpc then .dpc
    else if p.enabled = false then .disabled
    else if p.personality = .usp ∧ p.holder = 0 ∧ n ≠ d.glb.mgrPort then .disabled
    else if p.personality = .dsp ∧
      bitOf (d.bridge (bridgeKey p.holder (if p.holder = 0 then n else p.bridge.getD 0))).linkControl 4 = true then .disabled
    else .detect
  d.setPci n { x with lstate := st }

/-- A port becomes a DSP: PERST_N_OUT stays asserted until PERST_DELAY_MS after t1, which is now when its gang is empty
or has power already (R316, Table 11.5). -/
def dspBegins (n : Nat) (d : Device) : Device :=
  let g := gangOf n d
  let x := d.pci n
  let powered := g.all fun c => (d.channel c).pg
  d.setPci n { x with perstOut := true, pgAt := if powered then some d.now else none, perstDelayMs := x.perstDelayNext }

/-- Take down the link that a port had before PORT_CONFIG changes it (R15, R38). -/
def portFalls (n : Nat) (new : Port) (d : Device) : Device :=
  match (d.port n).personality with
  | .usp => pcieDown n .disabled d
  | .dsp => pcieDown n .disabled d
  | .pfl => if new.personality = .pfl then pflDown n 9 (askFull n new.width new.maxRate d) else pflDown n 11 d
  | _ => d

/-- Bring up the port under its new configuration. -/
def portStarts (n : Nat) (old : Personality) (d : Device) : Device :=
  let x := d.port n
  let pins := fun (d : Device) => d.setPci n { d.pci n with sbFunc := defaultPins x, dpc := (d.pci n).dpc && decide (old = x.personality) }
  let idle := fun (d : Device) => d.setPci n { d.pci n with perstOut := true, pgAt := none }
  let d := (mergeUnits n x.width).foldl (fun d u => (List.range 4).foldl (fun d j => laneDown (4 * u + j) d) d) (pins d)
  match x.personality with
  | .usp => pcieStart n (idle d)
  | .dsp => pcieStart n (if old = .dsp then d else dspBegins n d)
  | .pfl =>
    let y := d.pfl n
    let kept := { pflCleared y with rxPool := 2048, rxMin := [64, 64, 64], ackAdapt := true, idleEn := true, idleEntryUs := 10,
                                    restartMs := 100, limit := 4, ackSetNs := 2000, ackNs := 2000 }
    pflTrain n (idle (d.setPfl n (if old = .pfl then y else kept)))
  | _ => idle d

/-- The effect of PORT_CONFIG (R35, R38–R41, R554). (DEDUCED, log entry 39) -/
def portConfigure (n : Nat) (x : Port) (d : Device) : Device :=
  let old := d.port n
  if portSame x old then
    if old.enabled ∨ old.personality = .off ∨ old.personality = .diag then d.setPort n { old with enabled := true }
    else
      let d := d.setPort n { old with enabled := true }
      if old.personality = .pfl then pflTrain n d else pcieStart n d
  else
    let d := portFalls n x d
    let d := if old.personality = .pfl ∧ x.personality ≠ .pfl then d.setPfl n { pflCleared (d.pfl n) with state := .disabled } else d
    let d := (mergeUnits n old.width).foldl (fun d u => (List.range 4).foldl (fun d j => laneDown (4 * u + j) d) d) d
    portStarts n old.personality (unlockPort n (layPort n x d))

/-- PORT_CONFIG (R33–R41): its result comes with any status. -/
def portConfig (c : Cmd) (d : Device) : Device × Option Ans :=
  let n := c.target.toNat
  match firstFail (portConfigChecks c d) with
  | some a => (d, some { a with result := portResult n d })
  | none =>
    let d := portConfigure n (portAsked c.params (d.port n)) d
    (d, some (ansOk (portResult n d)))

def execPortConfig (c : Cmd) (s : State) : Host.Outcome State Fault Refusal := done s (runPacket 0x0201 (portConfig c) c s.dev)

/-- Level of an output or open-drain pin; an input's level is the last one sampled (Table 11.6, R315).
(DEDUCED, log entry 60) -/
def pinLevel (n k : Nat) (d : Device) : Bool :=
  let x := d.pci n
  let ind := fun (v : Nat) => if v = 0 then true else if v = 1 then false else Config.blinkLevel d.now
  let f := fieldOf x.sbFunc.toNat (4 * k + 3) (4 * k)
  if f = 1 then !perstAsserted n d
  else if f = 3 then !x.clkreq
  else if f = 5 then !x.wakeOut
  else if f = 7 then ind x.attn
  else if f = 8 then ind x.pwr
  else x.sbLevel.getLsbD k

/-- PRT_SB_LEVEL (Table 11.11): the pins of the port's units. (DEDUCED, log entry 60) -/
def sbLevelWord (n : Nat) (d : Device) : Nat :=
  (List.range 12).foldl (fun a k =>
    if k / 3 < unitsOf (d.port n).width ∧ pinLevel n k d then a + 2 ^ k else a) 0

/-- PORT_STATUS (R329). -/
def portStatus (c : Cmd) (d : Device) : Device × Option Ans :=
  let n := c.target.toNat
  let internal := decide (96 ≤ n) && decide (n ≤ 100)
  checked
    [ failIf (decide (c.params.length ≠ 0)) (ansLen 0), failIf (!(portExists n d || internal)) (ansBad 0xFF08),
      failIf (decide (c.param0 ≠ 0)) (ansBad 0xFF0C) ] (fun d =>
    let words := if internal then natLe 24 0
      else natLe 4 (prtMode n d) ++ natLe 4 (prtLink n d) ++ natLe 4 (prtHp n d) ++ natLe 4 (plkStateWord n d) ++
        natLe 4 (sbLevelWord n d) ++ natLe 4 0
    (d, some (ansOk (words ++ natLe 8 d.devTime.toNat)))) d

def execPortStatus (c : Cmd) (s : State) : Host.Outcome State Fault Refusal := done s (runPacket 0x0202 (portStatus c) c s.dev)

/-- A PCI Express link goes through Recovery: one more retrain, and a link event of canary input 3. -/
def pcieRecovery (n : Nat) (d : Device) : Device :=
  let x := d.pci n
  if lstateUp x.lstate then
    let d := d.setPci n { x with lstate := .recovery, retrains := satAdd 0xFFFF x.retrains 1 }
    { d with can := { d.can with linkEvents := (n, d.now) :: d.can.linkEvents } }
  else d

/-- PORT_RETRAIN (R330): it replies when the link is back (LINK_UP, the end of the fast retrain), or after 100 ms.
(DEDUCED, log entry 18) -/
def portRetrain (c : Cmd) (d : Device) : Device × Option Ans :=
  let n := c.target.toNat
  let p := c.params
  let x := d.port n
  let pcie := decide (x.personality = .usp) || decide (x.personality = .dsp)
  checked
    [ failIf (decide (p.length ≠ 4)) (ansLen 4), portHeader c d,
      failIf (decide (7 < u8 p 0)) (ansBad 0), failIf (!zeros p 1 3) (ansBad 1),
      failIf (!pcie && decide (x.personality ≠ .pfl)) (ansBad 0xFF08),
      failIf (pcie && decide (x.maxRate < u8 p 0)) (ansBad 0),
      failIf (decide (x.personality = .pfl) && decide (u8 p 0 ≠ 0)) (ansBad 0),
      failIf (decide (x.personality = .pfl) && decide ((d.pfl n).state = .conflict) && decide ((d.pfl n).causeC = 1))
        { status := .fidConflict, detail := n, result := [] } ] (fun d =>
    if pcie then
      let y := d.pci n
      (pcieRecovery n (d.setPci n { y with targetRate := kept (u8 p 0) y.targetRate }), none)
    else
      match (d.pfl n).state with
      | .active => (startRetrain n 6 true d, none)
      | .disabled => (d, some (ansOk (natLe 4 (prtLink n d))))
      | .down => (d, some (ansOk (natLe 4 (prtLink n d))))
      | .conflict => (d, some (ansOk (natLe 4 (prtLink n d))))
      | _ => (d, none)) d

def execPortRetrain (c : Cmd) (s : State) : Host.Outcome State Fault Refusal := done s (runPacket 0x0203 (portRetrain c) c s.dev)

/-- PORT_DISABLE (R331): the link goes down and stays down until PORT_CONFIG enables it; DPC stays (R554). -/
def portDisable (c : Cmd) (d : Device) : Device × Option Ans :=
  let n := c.target.toNat
  let x := d.port n
  checked
    [ failIf (decide (c.params.length ≠ 0)) (ansLen 0), portHeader c d,
      failIf (decide (n = d.glb.mgrPort) && !sidebandSource c.source) ansNo ] (fun d =>
    let off := { x with enabled := false }
    match x.personality with
    | .off => (d, some (ansOk []))
    | .diag => ((portLanes n d).foldl (fun d k => laneStop k d) d, some (ansOk []))
    | .pfl =>
      let d := pflDown n 11 d
      let d := d.setPort n off |>.setPfl n { pflCleared (d.pfl n) with state := .disabled, enteredAt := d.now }
      ({ d with fab := { d.fab with advDue := true } }, some (ansOk []))
    | _ => ((pcieDown n (if (d.pci n).dpc then .dpc else .disabled) d).setPort n off, some (ansOk []))) d

def execPortDisable (c : Cmd) (s : State) : Host.Outcome State Fault Refusal := done s (runPacket 0x0204 (portDisable c) c s.dev)

/-- XBR_P_VOQMIN and XBR_P_ALPHA (Table 3.10). -/
def voqMinWord (b : PortBuf) : Nat := b.minP / 16 + 256 * (b.minNp / 16) + 65536 * (b.minCpl / 16)

/-- The result of PORT_BUFFER_SET (Table 3.6). -/
def bufResult (n : Nat) (d : Device) : Ans :=
  ansOk (natLe 4 (voqMinWord (d.buf n)) ++ natLe 4 (d.buf n).alpha.toNat ++ natLe 2 (panelShared (panelOf n) d) ++ natLe 2 0)

/-- The class minima a PORT_BUFFER_SET asks for. -/
def bufAsked (p : List Byte) (b : PortBuf) : PortBuf :=
  { b with minP := kept (u16 p 0) b.minP, minNp := kept (u16 p 2) b.minNp, minCpl := kept (u16 p 4) b.minCpl }

/-- α factors: those of the mask come from ALPHA. -/
def alphaAsked (mask new : Nat) (old : BitVec 24) : BitVec 24 :=
  BitVec.ofNat 24 ((List.range 8).foldl (fun a q =>
    a + (if bitOf mask q then fieldOf new (3 * q + 2) (3 * q) else fieldOf old.toNat (3 * q + 2) (3 * q)) * 8 ^ q) 0)

/-- Cells of a class that an ingress port holds in panel memory. -/
def ingressCells (n cls : Nat) (d : Device) : Nat :=
  (d.items.filter fun i => i.ingress = n ∧ i.cls = cls).foldl (fun a i => a + i.inCells) 0

/-- Cells held above a lowered minimum count as shared blocks (R79). -/
def lowered (used old new shared : Nat) : Nat := if new < old then max shared (ceilDiv (used - new) 16 * 16) else shared

/-- Cells set aside for a class that the port did not have before back more credit; cells it no longer has are taken out of
the credit freed next (R55). -/
def moveCredit (n : Nat) (old : PortBuf) (d : Device) : Device :=
  let x := d.pci n
  let cells := fun (b : PortBuf) (c : Nat) => minOf b c + sharedOf b c
  let new := d.buf n
  let more := fun (f : Nat → Nat) (l : List Nat) (a b : PortBuf) => (List.range 3).map fun c => l.getD c 0 + (f (cells a c) - f (cells b c))
  if lstateUp x.lstate then
    d.setPci n { x with owed := more dataOf x.owed new old, owedHdr := more headersOf x.owedHdr new old,
                        takeBack := more dataOf x.takeBack old new, takeBackHdr := more headersOf x.takeBackHdr old new }
  else d

/-- Put class minima in force on a port, a raised one only when `raise` holds. -/
def setMinima (n : Nat) (raise : Bool) (want : PortBuf) (d : Device) : Device :=
  let b := d.buf n
  let pick := fun (old new : Nat) => if new ≤ old then new else if raise then new else old
  let on := enabledPort (d.port n)
  let sh := fun (cls old new shared : Nat) => if on then lowered (ingressCells n cls d) old new shared else shared
  moveCredit n b (d.setBuf n { b with
    minP := pick b.minP want.minP, minNp := pick b.minNp want.minNp, minCpl := pick b.minCpl want.minCpl,
    sharedP := sh 0 b.minP want.minP b.sharedP, sharedNp := sh 1 b.minNp want.minNp b.sharedNp,
    sharedCpl := sh 2 b.minCpl want.minCpl b.sharedCpl })

/-- A raise is backed once the shared blocks in use fit the pool that it leaves (R79). -/
def raiseBacked (n : Nat) (want : PortBuf) (d : Device) : Bool :=
  let e := setMinima n true want d
  !enabledPort (d.port n) || (panelFits (panelOf n) e && decide (panelTaken (panelOf n) e ≤ panelShared (panelOf n) e))

/-- PORT_BUFFER_SET (R77–R79). -/
def portBufferSet (c : Cmd) (d : Device) : Device × Option Ans :=
  let n := c.target.toNat
  let p := c.params
  let size := fun (v : Nat) => decide (v = 0) || (decide (16 ≤ v) && decide (v ≤ 2048) && decide (v % 16 = 0))
  let want := bufAsked p (d.buf n)
  checked
    [ failIf (decide (p.length ≠ 12)) (ansLen 12), portHeader c d,
      failIf (!size (u16 p 0)) (ansBad 0), failIf (!size (u16 p 2)) (ansBad 2), failIf (!size (u16 p 4)) (ansBad 4),
      failIf (decide (u8 p 7 ≠ 0)) (ansBad 7), failIf (decide (2 ^ 24 ≤ u32 p 8)) (ansBad 8),
      failIf (enabledPort (d.port n) && !panelFits (panelOf n) (d.setBuf n want)) (ansPool 6) ] (fun d =>
    let b := d.buf n
    let d := d.setBuf n { b with alpha := alphaAsked (u8 p 6) (u32 p 8) b.alpha }
    let ok := raiseBacked n want d
    let d := setMinima n ok want d
    let d := if ok then d else d.setBuf n { d.buf n with before := some (b.minP, b.minNp, b.minCpl, b.alpha) }
    (d, if ok then some (bufResult n d) else none)) d

def execPortBufferSet (c : Cmd) (s : State) : Host.Outcome State Fault Refusal :=
  done s (runPacket 0x0207 (portBufferSet c) c s.dev)

/-- Raises that wait for cells: each that the panel can back now is put in force and answered (R79). -/
def tryRaises (d : Device) : Device :=
  (d.kme.execs.filter fun e => e.op = 0x0207).foldl (fun d e =>
    let n := e.cmd.target.toNat
    let want := bufAsked e.cmd.params (d.buf n)
    if raiseBacked n want d then
      let d := setMinima n true want d
      let d := d.setBuf n { d.buf n with before := none }
      finishExec e (bufResult n d) d
    else d) d

/-- A PORT_BUFFER_SET that fails leaves the port as it was (R25, R79). -/
def restoreBuf (n : Nat) (d : Device) : Device :=
  let b := d.buf n
  match b.before with
  | some (p, np, cpl, alpha) =>
    moveCredit n b (d.setBuf n { b with minP := p, minNp := np, minCpl := cpl, alpha := alpha, before := none })
  | none => d

/-- VOQMIN_RAISE_TIMEOUT (R79): 500 µs without backing. -/
def execVoqminRaiseTimeout (port : Nat) (s : State) : Host.Outcome State Fault Refusal :=
  let d := s.dev
  done s (match findExec (fun e => decide (e.op = 0x0207) && decide (e.cmd.target.toNat = port) &&
      decide (e.since + 500 * usNs ≤ d.now)) d with
    | some e => finishExec e { status := .timeout, detail := 0, result := [] } (restoreBuf port d)
    | none => d)

/-- The tally audit starts a pass under the periods in force, or runs one more as soon as the running one ends (R73, R80).
One that RUN_NOW asks for restarts the period, and counts as the first pass before 1 s. (DESIGN CHOICE, log entry 20) -/
def startPass (d : Device) : Device :=
  if d.xbr.running then { d with xbr := { d.xbr with passDue := true } }
  else { d with xbr := { d.xbr with running := true, lastStart := some d.now, passAuditMs := d.xbr.auditMs,
                                    passMaxresMs := d.xbr.maxresMs } }

/-- XBR_SET (R80). -/
def xbrSet (c : Cmd) (d : Device) : Device × Option Ans :=
  let p := c.params
  let within := fun (v lo hi : Nat) => decide (lo ≤ v) && decide (v ≤ hi)
  checked
    [ failIf (decide (p.length ≠ 8)) (ansLen 8), headerZero c, failIf (!within (u16 p 0) 10 10000) (ansBad 0),
      failIf (!within (u16 p 2) 1 1000) (ansBad 2), failIf (decide (u8 p 4 = 0)) (ansBad 4),
      failIf (decide (2 ≤ u8 p 5)) (ansBad 5), failIf (!zeros p 6 2) (ansBad 6) ] (fun d =>
    let d := { d with xbr := { d.xbr with auditMs := u16 p 0, maxresMs := u16 p 2, lockTimeoutMs := u8 p 4 } }
    let d := if bitOf (u8 p 5) 0 then startPass d else d
    (d, some (ansOk (natLe 4 d.xbr.passes.toNat)))) d

def execXbrSet (c : Cmd) (s : State) : Host.Outcome State Fault Refusal := done s (runPacket 0x0C01 (xbrSet c) c s.dev)

/-- The link parameters PFL_LINK_SET asks for (R211). -/
def pflAsked (p : List Byte) (x : Plk) : Plk :=
  let mins := [kept (u16 p 2) (x.rxMin.getD 0 64), kept (u16 p 4) (x.rxMin.getD 1 64), kept (u16 p 6) (x.rxMin.getD 2 64)]
  let adapt := bitOf (u8 p 15) 0
  let set := kept (u16 p 8) x.ackSetNs
  { x with rxPool := kept (u16 p 0) x.rxPool, rxMin := mins, ackSetNs := set,
           ackNs := if u16 p 8 ≠ 0 ∧ (x.samples < 16 ∨ adapt = false) then set else x.ackNs,
           idleEntryUs := kept (u16 p 10) x.idleEntryUs, restartMs := kept (u16 p 12) x.restartMs,
           limit := kept (u8 p 14) x.limit, ackAdapt := adapt, idleEn := bitOf (u8 p 15) 1 }

/-- PFL_LINK_SET (R209–R211). -/
def pflLinkSet (c : Cmd) (d : Device) : Device × Option Ans :=
  let n := c.target.toNat
  let p := c.params
  let x := d.pfl n
  let y := pflAsked p x
  let step := fun (v lo hi st : Nat) => decide (v = 0) || (decide (lo ≤ v) && decide (v ≤ hi) && decide (v % st = 0))
  let grants := decide (y.rxPool ≠ x.rxPool) || decide (y.rxMin ≠ x.rxMin)
  checked
    [ failIf (decide (p.length ≠ 16)) (ansLen 16), portHeader c d,
      failIf (decide ((d.port n).personality ≠ .pfl)) (ansBad 0xFF08),
      failIf (!step (u16 p 0) 256 16128 64) (ansBad 0), failIf (!step (u16 p 2) 16 1024 16) (ansBad 2),
      failIf (!step (u16 p 4) 16 1024 16) (ansBad 4), failIf (!step (u16 p 6) 16 1024 16) (ansBad 6),
      failIf (!step (u16 p 8) 500 20000 100) (ansBad 8), failIf (!step (u16 p 10) 1 1000 1) (ansBad 10),
      failIf (!step (u16 p 12) 1 60000 1) (ansBad 12), failIf (decide (15 < u8 p 14)) (ansBad 14),
      failIf (decide (8 ≤ u8 p 15)) (ansBad 15),
      failIf (decide (y.rxPool < 3 * (y.rxMin.getD 0 0 + y.rxMin.getD 1 0 + y.rxMin.getD 2 0))) (ansBad 0),
      failIf (!panelFits (panelOf n) (d.setPfl n y)) (ansPool 6),
      failIf (grants && pflCanFall x.state && !bitOf (u8 p 15) 2) ansNo ] (fun d =>
    let d := d.setPfl n y
    let d := if grants then askFullReset n 0 0 d else d
    (d, some (ansOk (natLe 4 (plkCfgWord (d.pfl n)) ++ natLe 2 (panelShared (panelOf n) d) ++ natLe 2 0)))) d

def execPflLinkSet (c : Cmd) (s : State) : Host.Outcome State Fault Refusal := done s (runPacket 0x0208 (pflLinkSet c) c s.dev)

/-- Functions a personality allows on a pin (Table 11.6). -/
def pinAllowed (p : Personality) (f : Nat) : Bool :=
  if f = 0 then true
  else if f = 3 then decide (p = .usp) || decide (p = .dsp)
  else if f = 2 ∨ f = 5 then decide (p = .usp)
  else decide (f ≤ 9) && decide (p = .dsp)

/-- SB_FUNC is allowed: functions of the personality, none but NONE twice, none on units the port does not have. -/
def pinsOk (v : Nat) (x : Port) : Bool :=
  let f := fun (k : Nat) => fieldOf v (4 * k + 3) (4 * k)
  (List.range 12).all fun k =>
    pinAllowed x.personality (f k) && (decide (k / 3 < unitsOf x.width) || decide (f k = 0)) &&
      (decide (f k = 0) || !(List.range k).any fun j => f j = f k)

/-- PORT_PCIE_SET (R320). -/
def portPcieSet (c : Cmd) (d : Device) : Device × Option Ans :=
  let n := c.target.toNat
  let p := c.params
  let x := d.pci n
  let v := u32 p 0 + 2 ^ 32 * u16 p 4
  let keep := bitOf (u8 p 10) 0
  let y := { x with sbFunc := if keep then x.sbFunc else BitVec.ofNat 48 v, perstDelayNext := kept (u16 p 6) x.perstDelayNext,
                    cplTimeoutMs := kept (u16 p 8) x.cplTimeoutMs }
  checked
    [ failIf (decide (p.length ≠ 16)) (ansLen 16), portHeader c d,
      failIf (!keep && !pinsOk v (d.port n)) (ansBad 0), failIf (decide (1000 < u16 p 6)) (ansBad 6),
      failIf (decide (1000 < u16 p 8)) (ansBad 8), failIf (decide (2 ≤ u8 p 10)) (ansBad 10),
      failIf (!zeros p 11 5) (ansBad 11),
      failIf (decide (n = d.glb.mgrPort) && decide (y ≠ x) && !sidebandSource c.source) ansNo ] (fun d =>
    let f := (d.setPci n y).pci n
    (d.setPci n y, some (ansOk (natLe 4 (f.sbFunc.toNat % 2 ^ 24) ++ natLe 4 (f.sbFunc.toNat / 2 ^ 24))))) d

def execPortPcieSet (c : Cmd) (s : State) : Host.Outcome State Fault Refusal := done s (runPacket 0x0209 (portPcieSet c) c s.dev)

end Sys2Proof.Machine
end

