-- ==== Sys2Proof/Machine/Route.lean ====
section
/-! DEFINITION. Machine/Route.lean: where an item goes (R85–R91, R98–R101, R221–R227): bridges, steered VFs, own functions,
paths of the fabric. -/

namespace Sys2Proof.Machine

/-- The DSP that downstream bridge k of a partition is bound to (R85, R86). -/
def hostsPort (p k : Nat) (d : Device) : Option Nat :=
  if p = 0 then
    if k < 96 ∧ (d.port k).personality = .dsp ∧ (d.port k).holder = 0 then some k else none
  else
    (d.ports.find? fun e => decide (e.2.personality = .dsp) && decide (e.2.holder = p) && decide (e.2.bridge = some k)).map (·.1)

/-- The downstream bridge of a DSP in its holder's hierarchy. -/
def bridgeOfPort (n : Nat) (d : Device) : Nat := if (d.port n).holder = 0 then n else (d.port n).bridge.getD 0
def portKey (n : Nat) (d : Device) : Nat := bridgeKey (d.port n).holder (bridgeOfPort n d)

/-- The bridge above downstream bridge k: an intermediate one when DSB_COUNT exceeds 32 (R85). -/
def parentKey (p k : Nat) (d : Device) : Nat := if (d.part p).dsbCount ≤ 32 then upstreamKey p else bridgeKey p (96 + k / 32)

/-- Routing ID of the port bridge of a DSP, and of a steered VF (R85, R99). -/
def portRid (n : Nat) (d : Device) : Nat :=
  let k := bridgeOfPort n d
  (d.bridge (parentKey (d.port n).holder k d)).secondary * 256 + (k % 32) * 8
def virtualRid (x : Steer) (d : Device) : Nat := (d.bridge (bridgeKey x.part x.bridge)).secondary * 256 + x.func

/-- Addresses that VGA Enable (Bridge Control bit 3) forwards, with 16-bit decode by bit 4, and those of the I/O window that ISA
Enable (bit 2) does not (R89). (PRESUMED, log entry 64) -/
def vgaMemory (b : VBridge) (a : Nat) : Bool := bitOf b.bridgeControl 3 && decide (0xA0000 ≤ a) && decide (a < 0xC0000)
def vgaIo (b : VBridge) (a : Nat) : Bool :=
  let low := if bitOf b.bridgeControl 4 then a else a % 1024
  bitOf b.bridgeControl 3 && decide (a < 65536) && ((decide (0x3B0 ≤ low) && decide (low < 0x3BC)) ||
    (decide (0x3C0 ≤ low) && decide (low < 0x3E0)))
def isaBlocked (b : VBridge) (a : Nat) : Bool := bitOf b.bridgeControl 2 && decide (a < 65536) && decide (256 ≤ a % 1024)

/-- A bridge's windows, bus numbers and enables claim an item for its secondary side (R88, R89). -/
def bridgeClaims (b : VBridge) (t : Tlp) : Bool :=
  if byAddress t.kind then
    b.mse && ((decide (b.memBase ≤ t.addr) && decide (t.addr ≤ b.memLimit)) ||
      (decide (b.prefBase ≤ t.addr) && decide (t.addr ≤ b.prefLimit)) || vgaMemory b t.addr)
  else if isIo t.kind then
    b.iose && ((decide (b.ioBase ≤ t.addr) && decide (t.addr ≤ b.ioLimit) && !isaBlocked b t.addr) || vgaIo b t.addr)
  else decide (b.secondary ≠ 0) && decide (b.secondary ≤ t.destId / 256) && decide (t.destId / 256 ≤ b.subordinate)

/-- Downstream bridge k, with the intermediate bridge above it, claims an item. -/
def downClaims (p k : Nat) (t : Tlp) (d : Device) : Bool :=
  bridgeClaims (d.bridge (bridgeKey p k)) t && (decide ((d.part p).dsbCount ≤ 32) || bridgeClaims (d.bridge (parentKey p k d)) t)

/-- The downstream bridge of a partition that claims an item. -/
def claimant (p : Nat) (t : Tlp) (d : Device) : Option Nat := lowest (fun k => downClaims p k t d) 0 (d.part p).dsbCount

/-- Settings of a PF below a DSP of this device. -/
def sriovKey (port pfRid : Nat) : Nat := port * 65536 + pfRid
def sriovNone : Sriov :=
  { vendor := 0, vfDevice := 0, vfEnable := false, vfMse := false, ariCapable := false, numVfs := 0, firstOffset := 0, stride := 0,
    vfBars := [], vfTypes := [] }
def Device.sriovOf (d : Device) (port pfRid : Nat) : Sriov := tget sriovNone d.sriov (sriovKey port pfRid)

/-- What the PF of a VF below another device shows: that device fixes it, and R102 keeps it while the VF is out (R114). -/
def remoteSriov (fid port rid : Nat) : Sriov :=
  let v := Config.remotePf fid port rid
  { vendor := v 0 % 65536, vfDevice := v 1 % 65536, vfEnable := true, vfMse := v 2 % 2 = 1, ariCapable := v 3 % 2 = 1,
    numVfs := v 4 % 65536, firstOffset := v 5 % 65536, stride := v 6 % 65536,
    vfBars := (List.range 6).map fun j => (v (7 + 3 * j) % 2 ^ 64, if v (8 + 3 * j) % 2 = 0 then 0 else 2 ^ (v (8 + 3 * j) / 2 % 64)),
    vfTypes := (List.range 6).map fun j => v (9 + 3 * j) % 16 }

/-- The PF of a steered VF, here or on another device. -/
def pfOf (x : Steer) (d : Device) : Sriov :=
  match x.away with
  | some fid => remoteSriov fid x.port x.pfRid
  | none => d.sriovOf x.port x.pfRid

/-- Real BAR j of a steered VF: base and size (R99). -/
def realBar (x : Steer) (j : Nat) (d : Device) : Nat × Nat :=
  let b := (pfOf x d).vfBars.getD j (0, 0)
  (b.1 + x.vfIndex * b.2, b.2)

/-- The emulated BAR that an address falls in. -/
def emulatedBar (x : Steer) (a : Nat) (d : Device) : Option Nat :=
  (List.range 6).find? fun j =>
    decide (x.bars.getD j 0 ≤ a) && decide (a < x.bars.getD j 0 + (realBar x j d).2)

/-- The real address of an emulated one. -/
def realAddr (x : Steer) (j a : Nat) (d : Device) : Nat := a - x.bars.getD j 0 + (realBar x j d).1

/-- An address lies in a real BAR of a steered VF (R101). -/
def inRealBar (x : Steer) (a : Nat) (d : Device) : Bool :=
  (List.range 6).any fun j => decide ((realBar x j d).1 ≤ a) && decide (a < (realBar x j d).1 + (realBar x j d).2)

/-- An address lies in a BAR of one of the S96's own functions whose Memory Space Enable is 1 and which is not in D3hot
(R362), or in the window control area (R119). The effects of such requests have rows of their own. -/
def inBar (base size a : Nat) : Bool := decide (base ≠ 0) && decide (base ≤ a) && decide (a < base + size)
def funcOpen (x : Func) : Bool := x.mse && !x.d3hot
def controlArea (p a : Nat) (d : Device) : Bool :=
  let b := (d.func (function1 p)).windowBar
  decide (b ≠ 0) && decide (b + 0xFFFFFC000 ≤ a) && decide (a < b + 0x1000000000)
def vfOpen (p : Nat) (d : Device) (e : Nat × Nat) (a : Nat) : Bool :=
  let pf := d.func (.pf p)
  let i := tget 0 d.vfIndex e.1
  decide (e.2 = p) && pf.vfEnable && decide (i < pf.numVfs) && (d.func (.vf e.1)).mse &&
    ((decide (pf.vfMailboxBar ≠ 0) && inBar (pf.vfMailboxBar + i * 0x4000) 0x4000 a) ||
      (decide (pf.vfQueueBar ≠ 0) && inBar (pf.vfQueueBar + i * 0x200000) 0x200000 a))
def ownMemory (p a : Nat) (d : Device) : Bool :=
  let f := d.func (function1 p)
  controlArea p a d ||
    (funcOpen f && (inBar f.mailboxBar 0x4000 a || inBar f.queueBar (if p = 0 then 0x4000000 else 0x2000000) a)) ||
    d.vfPart.any fun e => vfOpen p d e a

/-- A routing ID of the partition's own functions: function 1 and its VFs (R85, R361). -/
def ownRid (p rid : Nat) (d : Device) : Bool :=
  decide (rid = function1Rid p d) ||
    d.vfPart.any fun e => decide (e.2 = p) && decide (rid = function1Rid p d + 1 + tget 0 d.vfIndex e.1)

/-- Where a routed item goes. -/
inductive Route where
  /-- By an external port of this device, through a steering entry or not. -/
  | port (n : Nat)
  | steer (entry : Nat)
  /-- To another device. -/
  | away (fid dstPort : Nat)
  /-- To an internal port. -/
  | own (n : Nat)
  /-- Unsupported Request at the bridge with this key. -/
  | refuse (key : Nat)
  /-- ACS violation at the bridge with this key. -/
  | blocked (key : Nat)
deriving DecidableEq, Repr

/-- Out by a port for the partition that holds it: but not to the real BAR of a VF steered out (R101). `entry` is the bridge
where the item entered. -/
def portTarget (entry n : Nat) (t : Tlp) (d : Device) : Route :=
  if byAddress t.kind && d.steers.any fun e => decide (e.2.port = n) && inRealBar e.2 t.addr d then .refuse entry else .port n

/-- Below downstream bridge k of a partition (R86, R98–R101); a request without a target is refused where it entered (R88). -/
def routeBelow (p k entry : Nat) (t : Tlp) (d : Device) : Route :=
  let key := bridgeKey p k
  match hostsPort p k d with
  | some n => portTarget entry n t d
  | none =>
    let mine := d.steers.filter fun e => decide (e.2.part = p) && decide (e.2.bridge = k)
    let hit := fun (x : Steer) =>
      if byAddress t.kind then x.mse && (emulatedBar x t.addr d).isSome else decide (t.destId = virtualRid x d)
    match mine.find? (fun e => hit e.2) with
    | some e => if t.kind = .lockedRead ∨ entryLost (.steer e.1) d = true then .refuse entry else .steer e.1
    | none =>
      match d.remotes.find? (fun r => r.1 = key) with
      | some r => .away r.2.1 r.2.2
      | none =>
        match d.homeSteers.find? (fun e => decide (e.2.part = p) && decide (e.2.bridge = k) && hit e.2) with
        | some e => .away e.1 e.2.port
        | none => .refuse entry

/-- Upward out of a partition: its USP here, its home device, or nowhere (R227). `entry` is the bridge that logs. -/
def routeUp (p entry : Nat) (d : Device) : Route :=
  match uspOf p d with
  | some u => .port u
  | none =>
    match (d.part p).home with
    | some h => if (d.part p).fabric ∧ h ≠ d.glb.fid then .away h 0x7F else .refuse entry
    | none => .refuse entry

/-- An item from the host of a partition, or that goes down for it (R88). -/
def routeDown (p : Nat) (t : Tlp) (d : Device) : Route :=
  if (byAddress t.kind && ownMemory p t.addr d) || (decide (t.kind = .msgId) && ownRid p t.destId d) then .own 100
  else if bridgeClaims (d.bridge (upstreamKey p)) t then
    match claimant p t d with
    | some k => routeBelow p k (upstreamKey p) t d
    | none => .refuse (upstreamKey p)
  else .refuse (upstreamKey p)

/-- Address Type of a request: a Translation Request carries 1. -/
def addressType (t : Tlp) : Nat := if t.kind = .transReq then 1 else t.addrType

/-- An item that entered below downstream bridge k: bus mastering, the ACS controls (in the base specification's order:
0 Source Validation, 1 Translation Blocking, 2 P2P Request Redirect, 4 Upstream Forwarding, 5 P2P Egress Control, 6 Direct
Translated P2P), a peer, or upward (R88–R90); an address that the upstream bridge's windows hold and no bridge below claims has
no target. A locked read from below is refused (X9). (PRESUMED, log entry 64) -/
def routeFromBelow (p k : Nat) (t : Tlp) (d : Device) : Route :=
  let key := bridgeKey p k
  let b := d.bridge key
  let parent := d.bridge (parentKey p k d)
  let request := isMemory t.kind || isIo t.kind
  let master := !request || (b.bme && parent.bme && (d.bridge (upstreamKey p)).bme)
  let validSource := decide (b.secondary ≤ t.reqId / 256) && decide (t.reqId / 256 ≤ b.subordinate)
  let direct := bitOf b.acs 6 && isMemory t.kind && decide (addressType t = 2)
  if isConfig t.kind || decide (t.kind = .lockedRead) then .refuse key
  else if bitOf b.acs 0 && request && !validSource then .blocked key
  else if bitOf b.acs 1 && isMemory t.kind && decide (addressType t ≠ 0) then .blocked key
  else if !master then .refuse key
  else if t.kind = .msgRoot then routeUp p key d
  else if byAddress t.kind && ownMemory p t.addr d then .own 100
  else match claimant p t d with
    | some j =>
      if j = k then (if bitOf b.acs 4 then routeUp p key d else .refuse key)
      else if !direct && (bitOf b.acs 2 || (bitOf b.acs 5 && bitOf b.egressVector j)) then routeUp p key d
      else routeBelow p j key t d
    | none => if request && bridgeClaims (d.bridge (upstreamKey p)) t then .refuse key else routeUp p key d

/-- Downstream bridge k of a partition is a port bridge: bound to a DSP here, or of another device (R86, R226). -/
def portBridge (p k : Nat) (d : Device) : Bool :=
  (hostsPort p k d).isSome || d.remotes.any fun r => decide (r.1 = bridgeKey p k)

/-- An item of the partition's own function 1 or VFs (R91, X8). -/
def routeFromOwn (p : Nat) (t : Tlp) (d : Device) : Route :=
  match claimant p t d with
  | some k =>
    if portBridge p k d && (decide (p = 0) || (d.part p).rmaP2p) then routeBelow p k (upstreamKey p) t d
    else routeUp p (upstreamKey p) d
  | none => routeUp p (upstreamKey p) d

/-- The downstream bridge below which a requester of another device entered, by its requester ID (R227). -/
def bridgeOfRid (p rid : Nat) (d : Device) : Option Nat :=
  lowest (fun k => let b := d.bridge (bridgeKey p k); decide (b.secondary ≠ 0) && decide (b.secondary ≤ rid / 256) &&
    decide (rid / 256 ≤ b.subordinate)) 0 (d.part p).dsbCount

/-- Effective weights of a route (R223): with ADAPT, rounded from the exact mean, in thousandths, of the last 1 ms of
samples. -/
def sampleSum (x : FabPath) : Nat := x.samples.foldl (· + ·) 0
def effWeight (r : FabRoute) (x : FabPath) (d : Device) : Nat :=
  if !pathLive x d then 0
  else if x.weight = 0 then (if r.paths.any (fun y => pathLive y d && decide (y.weight ≠ 0)) then 0 else 1)
  else if r.sampled < 1000 then 1
  else if r.adapt then
    let den := 1024000 + sampleSum x
    max 1 ((2 * x.weight * 1024000 + den) / (2 * den))
  else x.weight

/-- The path that sprays an item of KIND RMA (R223): which item takes which path, within the weights, is left free.
(DESIGN CHOICE, log entry 35) -/
def sprayPath (fid : Nat) (d : Device) : Option Nat × Device :=
  let r := d.route fid
  let ws := (r.paths.map fun x => (x.port, effWeight r x d)).filter fun x => decide (x.2 ≠ 0)
  let total := (ws.map (·.2)).foldl (· + ·) 0
  if total = 0 then (none, d)
  else
    let v := d.fresh total
    (pickWeighted ws v.1, v.2)

/-- A bucket sends on a path: it is remembered with the time (R222). -/
def bucketSent (fid b port : Nat) (d : Device) : Device :=
  let r := d.route fid
  let old := tget bucketNone r.buckets b
  let moved := r.buckets.any fun e => decide (e.1 = b)
  let x : Bucket := { path := port, lastSent := d.now, guardUntil := if moved then old.guardUntil else 0 }
  d.setRoute fid { r with buckets := tinsert b x r.buckets }

/-- Bandwidth of a port in 0.1 Gb/s (R67): an internal port's attachment moves 128 B per ns. -/
def bandwidth (n : Nat) (d : Device) : Nat :=
  if 96 ≤ n then 10240
  else
    let r := curRate n d
    let w := if (d.port n).personality = .pfl then (d.port n).width else (d.pci n).negWidth
    ([0, 25, 50, 80, 160, 320, 640, 1280].getD r 0) * w

/-- An item cuts through (R67): it came in FLIT mode or on a PFL port that is as fast. -/
def cutsThrough (ingress egress : Nat) (d : Device) : Bool :=
  decide (ingress < 96) && decide (bandwidth egress d ≤ bandwidth ingress d) &&
    (decide ((d.port ingress).personality = .pfl) || (d.pci ingress).flit)

end Sys2Proof.Machine
end

