-- ==== Sys2Proof/Machine/Lookup.lean ====
section
/-! DEFINITION. Machine/Lookup.lean: panel lookup (R87–R92, R99–R103, R117–R129, R220, R228, R321): the partition, the fence,
window translation, routing, queue, journal slot and VOQ of an arriving item. -/

namespace Sys2Proof.Machine

/-- Cut a range at every 4 KiB boundary and into pieces of at most `m` bytes (R128). -/
def cutRange (m : Nat) : Nat → Nat → Nat → List (Nat × Nat)
  | 0, _, _ => []
  | fuel + 1, a, len =>
    let n := min len (min m (4096 - a % 4096))
    if len ≤ n then [(a, len)] else (a, n) :: cutRange m fuel (a + n) (len - n)

/-- The data of a write with its byte enables (R126), and what a list of them carries: no enables where every byte is
enabled. -/
def enabledBytes (t : Tlp) : List (Byte × Bool) :=
  (List.range t.data.length).map fun k => (t.data.getD k 0, t.enables.getD k true)
def enablesOf (l : List (Byte × Bool)) : List Bool := if l.all (·.2) then [] else l.map (·.2)

/-- The first unit partly covered, the whole units, the last unit partly covered (R127): address and bytes. A write of no bytes
stays one. -/
def unitCuts (u a : Nat) (bytes : List (Byte × Bool)) : List (Nat × List (Byte × Bool)) :=
  let n := bytes.length
  let first := if a % u = 0 then 0 else min n (u - a % u)
  let whole := (n - first) / u * u
  if n = 0 then [(a, [])]
  else
    [(a, bytes.take first), (a + first, (bytes.drop first).take whole), (a + first + whole, bytes.drop (first + whole))].filter
      fun x => !x.2.isEmpty

/-- Mirror whole units: each byte moves within its unit, together with what goes with it (R126). -/
def mirrorUnits {α : Type} (u : Nat) : Nat → List α → List α
  | 0, _ => []
  | fuel + 1, bs => if bs.isEmpty then [] else (bs.take u).reverse ++ mirrorUnits u fuel (bs.drop u)

/-- A cut of R127 in mirrored form: a partial unit moves within its unit. -/
def mirrorPiece (u : Nat) (x : Nat × List (Byte × Bool)) : Nat × List (Byte × Bool) :=
  let n := x.2.length
  if x.1 % u = 0 ∧ n % u = 0 then (x.1, mirrorUnits u n x.2) else (x.1 / u * u + (u - x.1 % u - n), x.2.reverse)

/-- Bytes of a Max_Payload_Size or Max_Read_Request_Size code. -/
def payloadBytes (code : Nat) : Nat := 128 * 2 ^ (min code 5)

/-- One piece of a translated request: address, bytes carried or asked for, the target address that its first byte had before
mirroring, and the part the source asked for. -/
structure Piece where
  addr : Nat
  origin : Nat
  len : Nat
  data : List Byte
  enables : List Bool
  wantAddr : Nat
  wantLen : Nat
deriving DecidableEq, Repr

/-- The window of a partition that an address hits (R119). -/
def windowAt (p a : Nat) (d : Device) : Option (Nat × Window) :=
  let b := (d.func (function1 p)).windowBar
  if b = 0 then none
  else d.windows.find? fun e =>
    e.2.valid && decide (e.2.srcPart = p) && decide (b + e.2.srcOffset ≤ a) && decide (a < b + e.2.srcOffset + e.2.size)

/-- Bytes in a swap unit of a window, 0 for address-invariant. -/
def swapUnit (w : Window) : Nat := if w.mode = 1 then (if w.unit = 0 then 2 else if w.unit = 1 then 4 else 8) else 0

/-- Operand size of an AtomicOp (R127). -/
def operandSize (t : Tlp) : Nat := if t.kind = .cas then t.data.length / 2 else t.data.length

/-- The pieces of a translated request (R127, R128); `wr` and `rd` are the largest write and read. -/
def piecesOf (u wr rd a : Nat) (t : Tlp) : List Piece :=
  if t.kind = .memWrite then
    let cuts := if u = 0 then [(a, enabledBytes t)] else unitCuts u a (enabledBytes t)
    (cuts.map fun c =>
      let m := if u = 0 then c else mirrorPiece u c
      (cutRange wr (m.2.length / 64 + 4) m.1 m.2.length).map fun r =>
        let bytes := (m.2.drop (r.1 - m.1)).take r.2
        { addr := r.1, origin := c.1 + (r.1 - m.1), len := r.2, data := bytes.map (·.1), enables := enablesOf bytes, wantAddr := r.1,
          wantLen := r.2 }).flatten
  else if isAtomic t.kind then
    [{ addr := a, origin := a, len := t.len, data := if u = 0 then t.data else mirrorUnits u t.data.length t.data, enables := [],
       wantAddr := a, wantLen := t.len }]
  else
    let lo := if u = 0 then a else a / u * u
    let hi := if u = 0 then a + t.len else ceilDiv (a + t.len) u * u
    (cutRange rd ((hi - lo) / 64 + 4) lo (hi - lo)).map fun r =>
      let f := max a r.1
      { addr := r.1, origin := r.1, len := r.2, data := [], enables := [], wantAddr := f, wantLen := min (a + t.len) (r.1 + r.2) - f }

/-- Class of an RMA item (R267). -/
def rmaClass (h : RmaHdr) : Nat := if h.op = 1 ∨ h.op = 2 then 0 else if h.op = 3 ∨ h.op = 5 ∨ h.op = 6 then 1 else 2

/-- Class of an arrival: its fabric header's, or that of its kind. -/
def arrivalClass (a : Arrival) : Nat :=
  match a.rma with
  | some h => rmaClass h
  | none => kindClass a.tlp.kind

/-- An item as it stands at panel lookup, before a decision: it carries the link credit of its arrival (R55). -/
def bornItem (a : Arrival) (p : Nat) (d : Device) : Item :=
  { srcPart := p, hdrCr := natOfBool (decide (a.port < 96)), dataCr := dataCredit a.port a.tlp d, spent := false, vf := none,
    id := d.nextId, tlp := a.tlp, rma := a.rma, cls := arrivalClass a,
    ingress := a.port, part := p, window := none, srcAddr := a.tlp.addr, srcRid := a.tlp.reqId, srcTag := a.tlp.tag, steer := none,
    fn := a.fn, egress := a.port, queue := 0, fab := a.fab, stage := .voq, inCells := cellsOf (payloadLen a.tlp), holdCells := 0,
    poolCells := 0, rsvCells := 0, checkedBy := none, slot := false, sharedSlot := false, order := 0,
    admittedAt := 0, swap := 0, wantAddr := a.tlp.addr, wantLen := a.tlp.len, stored := true }

/-- The steered VF whose real requester ID an item from a DSP carries (R87). -/
def steerOfRid (n rid : Nat) (d : Device) : Option (Nat × Steer) :=
  d.steers.find? fun e => decide (e.2.port = n) && decide (e.2.realRid = rid)

/-- XBR_P_LOCKCNT.LOCK_UR of a port (Table 3.10). -/
def countLockUr (n : Nat) (d : Device) : Device :=
  let l := d.lockOf n
  d.setLock n { l with lockUr := satAdd 0xFFFF l.lockUr 1 }

/-- Unsupported Request (R88): a non-posted request is completed, a posted one discarded; logged at a bridge. A locked read
counts at the port it would have left by, or else at the port it came by. -/
def refuseItem (i : Item) (key bit : Nat) (st : CplStatus) (d : Device) : Device :=
  let d := bridgeError key bit d
  let d := if i.tlp.kind = .lockedRead ∧ st = .ur then countLockUr i.egress d else d
  if i.cls = 1 then answerItem i st false d else d

/-- Treatment by a fence (Table 4.2) of an item that reaches it: none when the item goes on. -/
def fenceItem (i : Item) (below : Bool) (d : Device) : Option Device :=
  let counted := fun (d : Device) => countPort 0x020 i.ingress 0 i.cls i.srcPart 1 d
  match i.tlp.kind with
  | .memWrite => some (counted (journalWrite i.part 255 (dropEntry i 2 d.glb.fid 0x7F d) (traceEnd i 3 d)))
  | .cfgRead => if below then some (counted (answerItem i .crs false d)) else none
  | .cfgWrite => if below then some (counted (answerItem i .crs false d)) else none
  | _ => if i.cls = 1 then some (counted (answerItem i .ur false d)) else none

/-- Slots that the shared items of a partition, and the items of one of its sources, hold (R236, R237). -/
def sharedHeld (p : Nat) (d : Device) : Nat :=
  (d.items.filter fun i => decide (i.part = p) && i.sharedSlot).length + ((d.journal p).owed.filter (· = 127)).length
def sourceHeld (p src : Nat) (d : Device) : Nat :=
  (d.items.filter fun i => decide (i.part = p) && i.slot && decide ((if 96 ≤ i.ingress then 96 else i.ingress) = src)).length +
    ((d.journal p).owed.filter (· = src)).length

/-- Posted items of a partition need slots (R238): not those of PART0 before its journal is set. -/
def needsSlot (i : Item) (d : Device) : Bool :=
  decide (i.cls = 0) && i.rma.isNone && !(decide (i.part = 0) && decide ((d.journal 0).entries = 0))

/-- Give an item its slot, if it needs one and one is free (R236, R237). -/
def takeSlot (i : Item) (own : Bool) (d : Device) : Item :=
  if needsSlot i d = false then i
  else if own then { i with slot := true }
  else if sharedHeld i.part d < (d.journal i.part).sharedLimit * 64 then { i with sharedSlot := true } else i

/-- The receive pool of a PFL port (R191): its minima on VL0–VL2, the shared cells taken there, the shared descriptors taken. -/
def poolMinima (x : Plk) : Nat := 3 * (x.rxMin.getD 0 0 + x.rxMin.getD 1 0 + x.rxMin.getD 2 0)
def poolShared (x : Plk) : Nat := ((x.credits.filter fun e => decide (e.1 < 12)).map (·.2.sharedCells)).foldl (· + ·) 0
def sharedHeaders (x : Plk) : Nat := (x.credits.map (·.2.sharedHdr)).foldl (· + ·) 0

/-- A PFL port takes a block of 16 shared cells for a combination whose free data credit has fallen below 16, on VL0–VL2 from
its receive pool, on VL3 from the panel, and 16 shared descriptors where its free header credit has (R54, R191): what it sets
aside counts as freed (R190). -/
def takePflBlock (n vl cls : Nat) (d : Device) : Device :=
  let x := d.pfl n
  let c := creditOf x vl cls
  let freeData := (c.rxData + c.dataFreed + 2 ^ 32 - c.dataRx) % 2 ^ 32
  let freeHdr := (c.rxHdr + c.hdrFreed + 2 ^ 32 - c.hdrRx) % 2 ^ 32
  let c := if freeData < c.sharedCells ∨ freeHdr < c.sharedHdr then { c with blockUsedAt := d.now } else c
  let room : Bool := if vl < 3 then decide (poolMinima x + poolShared x + 16 ≤ x.rxPool)
    else decide (16 ≤ panelFree (panelOf n) d)
  let c := if freeData < 16 ∧ room = true then
      { c with sharedCells := c.sharedCells + 16, dataFreed := (c.dataFreed + 16) % 2 ^ 32, blockUsedAt := d.now,
               changedAt := some (c.changedAt.getD d.now) }
    else c
  let c := if freeHdr < 16 ∧ sharedHeaders x + 16 ≤ 1664 then
      { c with sharedHdr := c.sharedHdr + 16, hdrFreed := (c.hdrFreed + 16) % 2 ^ 32, blockUsedAt := d.now,
               changedAt := some (c.changedAt.getD d.now) }
    else c
  d.setPfl n (setCredit x vl cls c)

/-- A PCI Express port takes a block of 16 shared cells for a class whose free credit has fallen below 16 (R54); the credit
it backs goes to the partner (R55). -/
def takeBlock (n vl cls : Nat) (d : Device) : Device :=
  if 96 ≤ n then d
  else if (d.port n).personality = .pfl then takePflBlock n vl cls d
  else
    let b := d.buf n
    let used := ingressCells n cls d
    let b := if minOf b cls < used then { b with sharedUsedAt := d.now } else b
    if minOf b cls + sharedOf b cls < used + 16 ∧ b.sharedP + b.sharedNp + b.sharedCpl ≤ panelFree (panelOf n) d ∧
        16 ≤ panelFree (panelOf n) d then
      let x := d.pci n
      (d.setBuf n (withShared { b with sharedUsedAt := d.now } cls (sharedOf b cls + 16))).setPci n
        { x with owed := addClass x.owed cls (dataOf 16), owedHdr := addClass x.owedHdr cls (headersOf 16) }
    else d.setBuf n b

/-- Random tagging (R468): which items it takes is left free. (DESIGN CHOICE, log entry 56) -/
def tagRandom (i : Item) (d : Device) : Device :=
  let k := d.cnt
  if k.tag.on && !k.randomOff && bitOf k.tagPortMask i.ingress && bitOf k.classMask i.cls &&
      (decide (k.part = 0x3F) || decide (k.part = i.srcPart)) then
    let v := d.fresh (2 ^ k.rateLog2)
    if v.1 = 0 then tagItem i.id none v.2 else v.2
  else d

/-- An item enters its VOQ: counted, perhaps tagged, its cells held. -/
def enterVoq (i : Item) (d : Device) : Device :=
  let d := { d with items := d.items ++ [i], nextId := d.nextId + 1 }
  let o : Occurrence := { ev := 0x003, port := i.ingress, q := i.queue, cls := i.cls, part := i.srcPart, count := 1 }
  let d := countEvent { o with ev := 0x004, count := i.inCells } (some i.id) (countEvent o (some i.id) (tagRandom i d))
  let d := countFixed i.ingress 3 (payloadLen i.tlp) (countFixed i.ingress 2 1 d)
  traceStage i.id 3 (traceStage i.id 2 (traceStage i.id 1 (takeBlock i.ingress (itemVl i.tlp i.queue d) i.cls d)))

/-- Answer a request toward a port in DPC, or whose link is down (R321). A message to the root that meets its USP in L2 stays
pending (R319). -/
def portAbsent (i : Item) (n : Nat) (d : Device) : Option Device :=
  let key := if (d.port n).personality = .dsp then portKey n d else upstreamKey (d.port n).holder
  if (d.port n).personality = .dsp ∧ (d.pci n).dpc then
    if i.cls = 1 then some (answerItem i (if bitOf (d.bridge key).dpcControl 2 then .ur else .ca) false d)
    else if i.cls = 0 then some (journalWrite i.part 255 (dropEntry i 1 d.glb.fid n d) (traceEnd i 1 d))
    else some (traceEnd i 1 d)
  else if (d.port n).personality = .usp ∧ (d.pci n).lstate = .l2 ∧ i.tlp.kind = .msgRoot ∧ i.ingress < 96 then
    some (updateWake i.part (d.setPci i.ingress { d.pci i.ingress with pmePending := true }))
  else if linkUp n d = false then some (refuseItem { i with egress := n } key 20 .ur d)
  else none

/-- The fabric header an item gets where it enters the fabric (R218, R220). -/
def fabHeader (i : Item) (fid port : Nat) (d : Device) : FabHdr :=
  { dstFid := fid, srcFid := d.glb.fid, part := i.part, cls := i.cls, dstPort := port, queue := i.queue, hops := 0, synth := false,
    flow := flowOf i.ingress fid port i.queue, stamp := d.devTime.toNat % 2 ^ 32 }

/-- An item toward another device: its path, or NO_ROUTE; a fifth link is refused (R220, R221, R227). A locked read never
crosses a PFL port (X4). -/
def sendAway (i : Item) (f : FabHdr) (d : Device) : Device :=
  if i.tlp.kind = .lockedRead then answerItem i .ur false (bridgeError (upstreamKey i.part) 20 d)
  else if 4 ≤ f.hops then fabRaise 0x20 (dropItem 6 f.dstFid 0x7F i d)
  else
    let pick : Option Nat × Device := if i.rma.isSome then sprayPath f.dstFid d else (bucketPath f.dstFid f.flow d, d)
    match pick.1 with
    | none => dropItem 5 f.dstFid 0x7F { i with fab := some f } pick.2
    | some n =>
      let j := { i with egress := n, fab := some f, stored := !cutsThrough i.ingress n pick.2 }
      enterVoq j pick.2

/-- Follow a route. `own` says whether the item's journal slot is its source's. (DEDUCED, log entry 26) -/
def follow (i : Item) (own : Bool) (r : Route) (d : Device) : Device :=
  let enter := fun (i : Item) (n : Nat) (d : Device) =>
    match (if n < 96 then portAbsent i n d else none) with
    | some e => e
    | none => enterVoq (takeSlot { i with egress := n, stored := !cutsThrough i.ingress n d } own d) d
  match r with
  | .refuse key => refuseItem i key 20 .ur d
  | .blocked key => refuseItem i key 21 .ca d
  | .own n =>
    if i.tlp.kind = .lockedRead ∨ (isAtomic i.tlp.kind = true) then refuseItem { i with egress := n } (upstreamKey i.part) 20 .ur d
    else enter i n d
  | .port n => enter i n d
  | .steer e =>
    let x := d.steer e
    let j := (emulatedBar x i.tlp.addr d).getD 0
    let t := if byAddress i.tlp.kind then { i.tlp with addr := realAddr x j i.tlp.addr d } else { i.tlp with destId := x.realRid }
    let t := { t with reqId := portRid x.port d, digest := false }
    if x.fenced then
      match fenceItem i true d with
      | some e => e
      | none => enter { i with tlp := t, steer := some e } x.port d
    else enter { i with tlp := t, steer := some e } x.port d
  | .away fid port => sendAway (takeSlot i own d) (fabHeader i fid port d) d

/-- A miss in the window BAR, or a right that the window lacks (R120): an Unsupported Request at the bridge of entry (R88,
R436). -/
def windowMiss (i : Item) (entry : Nat) (d : Device) : Device :=
  let d := { d with ntw := { d.ntw with misses := satAdd 0xFFFFFFFF d.ntw.misses 1, intStatus := d.ntw.intStatus ||| 2 } }
  refuseItem i entry 20 .ur d

/-- Where a translated request goes in its target partition: as one of that partition's own function (R119, R122). -/
def routeTranslated (p : Nat) (t : Tlp) (d : Device) : Route :=
  if ownMemory p t.addr d then .own 100
  else match claimant p t d with
    | some k => routeBelow p k (upstreamKey p) t d
    | none => routeUp p (upstreamKey p) d

/-- The bridge of the target partition that an item leaves by, for FAR_MPS and FAR_MRRS (R128): the port or steering bridge that
claims it, be its port here or on another device, or the upstream bridge. -/
def farBridge (p : Nat) (t : Tlp) (d : Device) : VBridge :=
  if ownMemory p t.addr d then d.bridge (upstreamKey p)
  else match claimant p t d with
    | some k => d.bridge (bridgeKey p k)
    | none => d.bridge (upstreamKey p)

/-- Why a posted piece with this route that is not inside has failed (Table 5.2): dropped because a link went down, or no
target. -/
def failReason (r : Route) (d : Device) : Nat :=
  match r with
  | .port n => if (d.pci n).dpc then 4 else 1
  | .steer e => if (d.steer e).fenced then 3 else if (d.pci (d.steer e).port).dpc then 4 else 1
  | .away _ _ => 4
  | _ => 1

/-- The data credit that a stretch of an arrival's bytes took: the shares of its pieces add up to the whole (R55). -/
def creditShare (n off len : Nat) (d : Device) : Nat :=
  let unit := if (d.port n).personality = .pfl then 256 else 16
  if 96 ≤ n then 0 else ceilDiv (off + len) unit - ceilDiv off unit

/-- A request that hits window w (R119–R128). `entry` is the bridge where it entered. The pieces share the credit of the
arrival. -/
def translate (i : Item) (w : Nat) (x : Window) (entry : Nat) (d : Device) : Device :=
  let b := (d.func (function1 x.srcPart)).windowBar
  let q := x.dstPart
  let u := swapUnit x
  let a := x.dstBase + (i.tlp.addr - b - x.srcOffset)
  let reads := decide (i.tlp.kind = .memRead) || decide (i.tlp.kind = .transReq) || isAtomic i.tlp.kind
  let writes := decide (i.tlp.kind = .memWrite) || isAtomic i.tlp.kind
  let ur := fun (_ : Unit) => refuseItem i entry 20 .ur d
  if i.tlp.kind = .lockedRead then ur ()
  else if (reads && !x.read) || (writes && !x.write) then windowMiss i entry d
  else if isAtomic i.tlp.kind ∧ u ≠ 0 ∧ operandSize i.tlp ≠ u then ur ()
  else
    let t := { i.tlp with addr := a, reqId := function1Rid q d, digest := false }
    let far := { i with tlp := t, part := q, window := some w, swap := u, wantAddr := a, wantLen := t.len }
    if d.fenced q then
      match fenceItem far false d with
      | some e => if i.cls = 0 then windowFail w i.srcAddr 3 i.srcRid e else e
      | none => d
    else
      let br := farBridge q t d
      let cap := if x.maxPayload = 0 then 4096 else 128 * 2 ^ (x.maxPayload - 1)
      let ps := piecesOf u (min (payloadBytes br.mps) cap) (payloadBytes br.mrrs) a t
      let start := d
      let piece := fun (y : Piece) (first : Bool) (d : Device) =>
        let data := if i.tlp.kind = .memWrite then creditShare i.ingress (y.origin - a) y.len start
          else if first then i.dataCr else 0
        { far with id := d.nextId, tlp := { t with addr := y.addr, len := y.len, data := y.data, enables := y.enables },
                   wantAddr := y.wantAddr, wantLen := y.wantLen, srcAddr := i.srcAddr + (y.origin - a),
                   inCells := if i.tlp.kind = .memWrite then cellsOf y.len else i.inCells,
                   hdrCr := if first then i.hdrCr else 0, dataCr := data : Item }
      let last := fun (y : Piece) => (ps.getLast?.map fun z => z.addr + z.len).getD (y.addr + y.len)
      (ps.foldl (fun (s : Device × Nat × Bool) y =>
        let d := s.1
        if s.2.2 then s
        else
          let j := piece y (decide (s.2.1 = 0)) d
          let r := routeTranslated q j.tlp d
          let e := follow j false r d
          let entered := e.items.any fun x => decide (x.id = j.id) && decide (x.cls = j.cls)
          if j.cls = 0 then (if entered then e else windowFail w j.srcAddr (failReason r d) i.srcRid e, s.2.1 + 1, false)
          else if entered then (e, s.2.1 + 1, false)
          else
            let rest := { j with tlp := { j.tlp with len := last y - y.addr }, wantLen := a + t.len - y.wantAddr }
            let e := follow rest false r d
            ({ e with nextId := e.nextId + 1 }, s.2.1 + 1, true)) (d, 0, false)).1

/-- The queue of an item (R297). -/
def queueOf (a : Arrival) (d : Device) : Nat :=
  match a.fab with
  | some f => f.queue % 8
  | none => if a.fn = some .mgr then 7 else fieldOf (d.eport a.port).tcMap.toNat (3 * (a.tlp.tc % 8) + 2) (3 * (a.tlp.tc % 8))

/-- A device's item without a partition of its own on this device (R228). -/
def noPartition (i : Item) (d : Device) : Device :=
  let d := fabRaise 0x10 { d with fab := { d.fab with cntNoPart := satAdd 0xFFFFFFFF d.fab.cntNoPart 1 } }
  if i.cls = 1 ∧ i.rma.isNone then answerItem i .ur false d else d

/-- Broadcasts of the root complex go to every DSP of the partition whose link is up, and to those of other devices (R88,
R227). -/
def broadcastPorts (p : Nat) (d : Device) : List Nat :=
  (List.range 96).filter fun n => decide ((d.port n).personality = .dsp) && decide ((d.port n).holder = p) && linkUp n d
def broadcastRoutes (p : Nat) (d : Device) : List Route :=
  ((broadcastPorts p d).map fun n => Route.port n) ++
    ((d.remotes.filter fun r => decide (r.1 / 256 = p)).map fun r => Route.away r.2.1 r.2.2)
/-- A broadcast enters once for each of its routes; the first copy carries the credit of the arrival. -/
def broadcast (i : Item) (d : Device) : Device :=
  ((broadcastRoutes i.part d).foldl (fun (s : Device × Bool) r =>
    let j := { i with id := s.1.nextId, hdrCr := if s.2 then i.hdrCr else 0, dataCr := if s.2 then i.dataCr else 0 }
    (follow j true r s.1, false)) (d, true)).1

/-- A request or message that enters by a USP or DSP, after the fence (R88, R100, R119, R227); a lost window is no target (R444). -/
def lookupLocal (i : Item) (k : Nat) (fromUsp : Bool) (d : Device) : Device :=
  let p := i.part
  let entry := if fromUsp then upstreamKey p else bridgeKey p k
  let d := if i.tlp.poisoned then bridgeError entry 12 d else d
  let b := (d.func (function1 p)).windowBar
  if fromUsp = false ∧ i.tlp.kind = .lockedRead then refuseItem i entry 20 .ur d
  else if isMemory i.tlp.kind ∧ inBar b 0x1000000000 i.tlp.addr = true then
    match windowAt p i.tlp.addr d with
    | some (w, x) => if entryLost (.window w) d then refuseItem i entry 20 .ur d else translate i w x entry d
    | none => if controlArea p i.tlp.addr d then follow i true (.own 100) d else windowMiss i entry d
  else if fromUsp then
    if i.tlp.kind = .msgBroadcast then broadcast i d
    else if i.tlp.kind = .msgLocal ∨ (isConfig i.tlp.kind ∧ ownRid p i.tlp.destId d) then d
    else follow i true (routeDown p i.tlp d) d
  else if i.tlp.kind = .msgLocal then d
  else
    let away := (d.part p).fabric && (uspOf p d).isNone
    let own := i.steer.isNone
    if away then follow { i with steer := none } own (if isConfig i.tlp.kind then .refuse entry else routeUp p entry d) d
    else follow { i with steer := none } own (routeFromBelow p k i.tlp d) d

/-- A steered VF whose bus mastering the receiving host has not enabled, or whose bridge has no secondary bus yet (R100). -/
def steerMuted (x : Steer) (d : Device) : Bool :=
  !x.bme || decide ((d.bridge (bridgeKey x.part x.bridge)).secondary = 0)

/-- Panel lookup of a request or message from a USP or DSP. -/
def lookupPort (a : Arrival) (d : Device) : Device :=
  let n := a.port
  let usp := decide ((d.port n).personality = .usp)
  let st := if usp then none else steerOfRid n a.tlp.reqId d
  let p : Nat := match st with
    | some e => e.2.part
    | none => (d.port n).holder
  let i := { bornItem a p d with queue := queueOf a d }
  let below : Bool := usp && (match routeDown p a.tlp d with
    | .port m => linkUp m d
    | .steer _ => true
    | .away _ _ => true
    | _ => false)
  let held : Bool := match st with
    | some e => e.2.fenced
    | none => false
  match (if d.fenced p || held then fenceItem i below d else none) with
  | some e => e
  | none =>
    match st with
    | none => lookupLocal i (bridgeOfPort n d) usp d
    | some (e, x) =>
      if entryLost (.steer e) d then refuseItem i (bridgeKey p x.bridge) 20 .ur d
      else if steerMuted x d ∧ (isMemory a.tlp.kind || isIo a.tlp.kind) = true then
        let d := if i.cls = 0 then d.setSteer e { x with muted := x.muted + 1 } else d
        refuseItem i (bridgeKey p x.bridge) 20 .ur d
      else
        let j := { i with tlp := { a.tlp with reqId := virtualRid x d, digest := false }, steer := some e, vf := some e }
        lookupLocal j x.bridge false d

/-- Panel lookup of an item of a function of the S96 on P96–P100 (R87, R91). -/
def lookupOwn (a : Arrival) (f : Fn) (d : Device) : Device :=
  let p := fnPart f d
  let i := { bornItem a p d with queue := queueOf a d }
  match (if d.fenced p then fenceItem i false d else none) with
  | some e => e
  | none => follow i true (routeFromOwn p a.tlp d) d

/-- An item that a function has issued waits before panel lookup: behind the earlier ones of its port that it may not pass,
while the function may issue no memory request (R362), for a journal or a slot of it (R237, R238), or for a tag that its FLR
bars (R373). -/
def ownWaits (a : Arrival) (d : Device) : Bool :=
  let cls := arrivalClass a
  let before := (d.issued.takeWhile fun b => decide (b ≠ a)).any fun b =>
    decide (b.port = a.port) && (decide (arrivalClass b = 0) || decide (arrivalClass b = cls))
  before ||
    (match a.fn with
     | none => false
     | some f =>
       let p := fnPart f d
       let i := bornItem a p d
       a.rma.isNone && decide (cls ≠ 2) &&
         ((decide (f ≠ .mgr) && !fnEnabled f d) ||
          (decide (cls = 1) && (d.func f).oldTags.any fun t => decide (t.1 = a.tlp.tag) && decide (d.now < t.2 + 50 * msNs)) ||
          (decide (cls = 0) && ((decide (p ≠ 0) && decide ((d.journal p).entries = 0)) ||
            (needsSlot i d && decide ((d.journal p).portLimit * 64 ≤ sourceHeld p 96 d))))))

/-- An RMA item (R223, R227): to the slice of its destination here, or over the fabric. -/
def lookupRma (a : Arrival) (h : RmaHdr) (d : Device) : Device :=
  let p : Nat := match a.fab with
    | some f => f.part
    | none => match a.fn with
      | some f => fnPart f d
      | none => 0
  let q : Nat := match a.fab with
    | some f => f.queue % 8
    | none => ((d.qps.find? fun e => e.1 = h.srcQpn).map (·.2.queue)).getD 0 % 8
  let i := { bornItem a p d with queue := q }
  if a.port < 96 ∧ (d.port a.port).personality ≠ .pfl then d
  else if a.port < 96 ∧ (d.part p).fabric = false then noPartition i d
  else if h.dstFid = d.glb.fid then follow i true (.own (96 + h.dstQpn % 4)) d
  else
    let f : FabHdr := match a.fab with
      | some f => f
      | none => fabHeader i h.dstFid (96 + h.dstQpn % 4) d
    sendAway i f d

/-- Panel lookup of a request or message that arrives on a PFL port (R87, R92, R227, R228). -/
def lookupFabric (a : Arrival) (f : FabHdr) (d : Device) : Device :=
  let p := f.part
  let i := { bornItem a p d with queue := f.queue % 8 }
  if (d.part p).fabric = false then noPartition i d
  else match (if d.fenced p then fenceItem i true d else none) with
    | some e => e
    | none =>
      if f.dstFid ≠ d.glb.fid then sendAway (takeSlot i false d) f d
      else if f.dstPort ≠ 0x7F then
        match d.steers.find? (fun e => decide (e.2.part = p) && decide (e.2.port = f.dstPort) && (emulatedBar e.2 a.tlp.addr d).isSome) with
        | some e => follow i false (.steer e.1) d
        | none => follow i false (portTarget (upstreamKey p) f.dstPort a.tlp d) d
      else
        let r := match bridgeOfRid p a.tlp.reqId d with
          | some k => routeFromBelow p k a.tlp d
          | none => routeDown p a.tlp d
        follow i false r d

/-- An item that the link layer delivered, or a function issued, leaves its list once it passes panel lookup. -/
def takeDelivered (a : Arrival) (d : Device) : Device :=
  if 96 ≤ a.port then { d with issued := d.issued.erase a }
  else if (d.port a.port).personality = .pfl then
    let x := d.pfl a.port
    d.setPfl a.port { x with delivered := x.delivered.erase a }
  else d

end Sys2Proof.Machine
end

