-- ==== Sys2Proof/Machine/Switch.lean ====
section
/-! DEFINITION. Machine/Switch.lean: arrivals, completions and their trackers, the matcher, the output buffer, locks and the
tally audit (chapter 3; R87, R122–R129, R322). -/

namespace Sys2Proof.Machine

/-- What an arrival's items do not hold of its link credit is free at once: the item left no cell in the ingress memory, or
was cut into pieces that need fewer (R55). -/
def settleArrival (a : Arrival) (before : Device) (d : Device) : Device :=
  let q : Nat := match a.fab with
    | some f => f.queue % 8
    | none => 0
  let cls := arrivalClass a
  let mine := d.items.filter fun i => decide (before.nextId ≤ i.id) && decide (i.ingress = a.port)
  let hdr := natOfBool (decide (a.port < 96)) - (mine.map (·.hdrCr)).foldl (· + ·) 0
  let data := dataCredit a.port a.tlp d - (mine.map (·.dataCr)).foldl (· + ·) 0
  if hdr + data = 0 then d else freeIngress a.port cls q a.tlp hdr data d

/-- Unexpected Completion (R87): discarded and logged. -/
def unexpected (n : Nat) (d : Device) : Device :=
  bridgeError (if (d.port n).personality = .dsp then portKey n d else upstreamKey (d.port n).holder) 16 d

/-- A completion that arrives for a request already answered (R94, R123, R232, R322, R373). What the request holds for its
source stays. -/
def lateCompletion (t : Track) (n : Nat) (d : Device) : Device :=
  let d := if t.held.isEmpty then { d with tracks := d.tracks.filter fun x => decide (x ≠ t) }
    else putTrack { t with port := unsentPort, fid := none } d
  let d := countPort 0x022 n 0 2 t.part 1 d
  match t.fn with
  | some f =>
    let x := d.func f
    d.setFunc f { x with lateCpl := satAdd 0xFF x.lateCpl 1 }
  | none =>
    if (d.port n).personality = .dsp then
      let x := d.pci n
      d.setPci n { x with lateCpl := satAdd 0xFF x.lateCpl 1 }
    else if (d.port n).personality = .pfl then { d with fab := { d.fab with cntLate := satAdd 0xFFFFFFFF d.fab.cntLate 1 } }
    else d

/-- A completion from below a DSP toward a peer goes up instead: Completion Redirect of the port bridge, or of the steering
bridge of the VF that completes (R90). Completions of window requests belong to no peer of one partition. -/
def cplRedirect (t : Track) (n : Nat) (d : Device) : Bool :=
  let key := match t.steer with
    | some e => bridgeKey (d.steer e).part (d.steer e).bridge
    | none => portKey n d
  t.window.isNone && decide (n < 96) && decide ((d.port n).personality = .dsp) && decide (t.nearPort < 96) &&
    decide ((d.port t.nearPort).personality = .dsp) && bitOf (d.bridge key).acs 3

/-- A completion (one of a Translation Request keeps the mark of its address type) enters the queue toward a port, or back to
the function or device that asked (R87, R90, R227). `t` is the track it answers; `hdr` and `data` are the credit of its
arrival that it carries. -/
def sendCpl (t : Track) (c : Tlp) (a : Arrival) (part hdr data : Nat) (d : Device) : Device :=
  let i := { bornItem { a with tlp := { c with addrType := natOfBool (decide (t.kind = .transReq)) } } part d with
    cls := 2, queue := queueOf a d, rma := none, srcRid := c.reqId, srcTag := c.tag, fab := none, fn := t.fn, srcAddr := t.addr,
    inCells := cellsOf c.len, steer := t.steer, vf := t.vf, hdrCr := hdr, dataCr := data }
  match t.nearFab with
  | some f =>
    let h : FabHdr := { f with dstFid := f.srcFid, srcFid := d.glb.fid, cls := 2, dstPort := 0x7F, hops := 0, queue := i.queue,
                               synth := false, flow := flowOf a.port f.srcFid 0x7F i.queue, stamp := d.devTime.toNat % 2 ^ 32 }
    sendAway i h d
  | none =>
    let n : Nat := if cplRedirect t a.port d then (uspOf part d).getD t.nearPort else t.nearPort
    if n < 96 ∧ linkUp n d = false then d
    else enterVoq { i with egress := n, stored := !cutsThrough a.port n d } d

/-- The last completion of a request (R322). -/
def lastCpl (t : Track) (c : Tlp) : Bool :=
  decide (t.kind ≠ .memRead ∧ t.kind ≠ .lockedRead) || decide (c.status ≠ .sc) || decide (t.remaining ≤ c.len)

/-- Bytes of the source port's Max_Payload_Size. -/
def nearMps (t : Track) (d : Device) : Nat :=
  payloadBytes (if t.nearPort < 96 ∧ (d.port t.nearPort).personality = .dsp then d.bridge (portKey t.nearPort d)
    else d.bridge (upstreamKey t.srcPart)).mps

/-- Cut completion data at 64 B boundaries into pieces of at most m bytes (R129). -/
def rcbCut (m : Nat) : Nat → Nat → List Byte → List (Nat × List Byte)
  | 0, _, _ => []
  | fuel + 1, a, bs =>
    let n := m - a % 64
    if bs.length ≤ n then [(a, bs)] else (a, bs.take n) :: rcbCut m fuel (a + n) (bs.drop n)

/-- Return a successful completion of the first piece to the source (R129): only the bytes it asked for, mirrored, re-cut,
with Byte Count computed for the source request. -/
def returnPiece (t : Track) (c : Tlp) (a : Arrival) (hdr dat : Nat) (d : Device) : Device :=
  let base := { c with destId := t.nearRid, reqId := t.nearRid, tag := t.nearTag, digest := false }
  let data := if t.swap = 0 then c.data else mirrorUnits t.swap c.data.length c.data
  if t.kind ≠ .memRead then sendCpl t { base with data := data } a t.srcPart hdr dat d
  else
    let w := wanted t.addr c.len t.wantAddr t.wantLen
    let cut := (data.drop (w.1 - t.addr)).take w.2
    if w.2 = 0 ∧ c.len ≠ 0 then d
    else ((rcbCut (nearMps t d) (cut.length / 64 + 2) w.1 cut).foldl (fun (s : Nat × Nat × Nat × Device) x =>
      (s.1 - x.2.length, 0, 0, sendCpl t { base with data := x.2, len := x.2.length, byteCount := s.1 } a t.srcPart s.2.1 s.2.2.1 s.2.2.2))
      (bytesLeft t d, hdr, dat, d)).2.2.2

/-- Port of a piece whose completions have all returned and are held. -/
def donePort : Nat := 129

/-- Give the source a completion of the first outstanding piece; an error ends the request, and what later pieces return is
discarded (R129). -/
def feedPiece (t : Track) (c : Tlp) (a : Arrival) (hdr data : Nat) (d : Device) : Device :=
  if c.status ≠ .sc then
    let d := endRequest t c.status (t.answered && decide (t.port ≠ donePort)) d
    if t.answered && decide (t.port < unsentPort) then putTrack { t with spent := true, held := [] } d else dropTrack t d
  else
    let d := returnPiece t c a hdr data d
    if lastCpl t c then dropTrack t d else putTrack { t with remaining := t.remaining - c.len, addr := t.addr + c.len } d

/-- Completions held for pieces that have become the first are returned in turn. -/
def flushPieces (a : Arrival) (near : Track) : Nat → Device → Device
  | 0, d => d
  | fuel + 1, d =>
    match d.tracks.find? fun x => decide (requestOf x = requestOf near) && !x.spent && !x.held.isEmpty && isFirstPiece x d with
    | none => d
    | some t =>
      match t.held with
      | [] => d
      | c :: rest =>
        let t := { t with held := rest }
        flushPieces a near fuel (feedPiece t c a 0 0 (putTrack t d))

/-- Completions that the pieces of a request hold. -/
def heldCount (t : Track) (d : Device) : Nat := ((d.tracks.filter fun x => decide (requestOf x = requestOf t)).map (·.held.length)).foldl (· + ·) 0

/-- A completion of a translated request (R122, R124, R129): that of the first piece goes on, that of a later one is held,
one whose request has ended is discarded. -/
def windowCpl (t : Track) (c : Tlp) (a : Arrival) (d : Device) : Device :=
  if t.spent then
    if lastCpl t c then dropTrack t d else putTrack { t with remaining := t.remaining - c.len } d
  else
    let held := { t with held := t.held ++ [c] }
    let bytes := (held.held.map (·.len)).foldl (· + ·) 0
    let ended := lastCpl { t with remaining := t.remaining - (bytes - c.len) } c
    let d := if isFirstPiece t d then feedPiece t c a (natOfBool (decide (a.port < 96))) (dataCredit a.port c d) d
      else putTrack (if ended then { held with answered := true, port := donePort, fid := none } else held) d
    flushPieces a t (heldCount t d + 1) d

/-- A completion answers a tracked request: identity and tag of the near side restored (R99, R122, R310). -/
def answerTrack (t : Track) (c : Tlp) (a : Arrival) (d : Device) : Device :=
  if t.window.isSome then windowCpl t c a d
  else
    let altered := t.steer.isSome
    let r := { c with destId := t.nearRid, reqId := t.nearRid, tag := t.nearTag, digest := c.digest && !altered }
    let d := sendCpl t r a t.part (natOfBool (decide (a.port < 96))) (dataCredit a.port c d) d
    if lastCpl t c then dropTrack t d else putTrack { t with remaining := t.remaining - c.len, addr := t.addr + c.len } d

/-- The track that a completion answers: by the port it went out by, or the device it went to. -/
def matchTrack (a : Arrival) (answered : Bool) (d : Device) : Option Track :=
  d.tracks.find? fun t =>
    decide (t.answered = answered) && decide (t.rid = a.tlp.reqId) && decide (t.tag = a.tlp.tag) &&
      (match a.fab, t.fid with
       | some f, some x => decide (f.srcFid = x)
       | none, none => decide (t.port = a.port)
       | _, _ => false)

/-- A completion that no track names goes to its requester by ID (R87, R227): a function below a DSP of the partition here or on
another device, a steered VF, or the host's side. -/
def cplById (a : Arrival) (p : Nat) (up : Bool) (d : Device) : Device :=
  let t := { a.tlp with kind := .msgId, destId := a.tlp.reqId }
  let i := { bornItem a p d with cls := 2, queue := queueOf a d }
  let r := match claimant p t d with
    | some k => routeBelow p k (upstreamKey p) t d
    | none => if up then routeUp p (upstreamKey p) d else .refuse (upstreamKey p)
  let enter := fun (i : Item) (m : Nat) =>
    if linkUp m d then enterVoq { i with egress := m, stored := !cutsThrough a.port m d } d else d
  match r with
  | .port m => enter i m
  | .steer e => enter { i with tlp := { a.tlp with reqId := (d.steer e).realRid, destId := (d.steer e).realRid,
                                                   digest := false } } (d.steer e).port
  | .away fid port => sendAway i (fabHeader i fid port d) d
  | _ => unexpected a.port d

/-- The function of the S96 that a completion from a USP names (R375). -/
def cplFunction (p rid : Nat) (d : Device) : Option Fn :=
  if rid = fnRid (function1 p) d then some (function1 p)
  else (d.vfPart.find? fun e => decide (e.2 = p) && decide (fnRid (.vf e.1) d = rid)).map fun e => .vf e.1

/-- COMPLETION_ARRIVAL (R87, R227, R228). A completion for a tag that the function it names has not issued is an Unexpected
Completion there (Table 13.6). -/
def completionArrival (a : Arrival) (d : Device) : Device :=
  let n := a.port
  let known := fun (d : Device) => match matchTrack a false d with
    | some t => answerTrack t a.tlp a d
    | none => match matchTrack a true d with
      | some t => lateCompletion t n d
      | none =>
        match a.fn with
        | some f => cplById a (fnPart f d) true d
        | none =>
          if 96 ≤ n then d
          else match (d.port n).personality with
            | .usp =>
              match cplFunction (d.port n).holder a.tlp.reqId d with
              | some f => fnError f 16 false d
              | none => cplById a (d.port n).holder false d
            | .pfl => { d with fab := { d.fab with cntLate := satAdd 0xFFFFFFFF d.fab.cntLate 1 } }
            | _ => unexpected n d
  match a.fab with
  | some f =>
    if (d.part f.part).fabric = false then noPartition { bornItem a f.part d with cls := 2 } d
    else if f.dstFid ≠ d.glb.fid then
      let d := { d with tracks := d.tracks.filter fun t => !(decide (t.rid = a.tlp.reqId) && decide (t.tag = a.tlp.tag) &&
        decide (t.fid = some f.srcFid) && lastCpl t a.tlp) }
      sendAway { bornItem a f.part d with queue := f.queue % 8 } f d
    else known d
  | none => known d

/-- An item from a neighbour that repeats another device's FID, or this one's, with the higher serial number (R217).
(DEDUCED, log entry 66) -/
def fromDuplicate (a : Arrival) (d : Device) : Bool :=
  match a.fab with
  | none => false
  | some f =>
    let x := d.pfl a.port
    let serial : Option (BitVec 64) := if f.srcFid = d.glb.fid then some d.glb.serial
      else (d.fab.adverts.find? fun h => decide (h.adv.fid = f.srcFid)).map (·.adv.serial)
    d.fab.dup.getLsbD f.srcFid && decide (x.partnerFid = f.srcFid) && (match serial with
      | some s => decide (s < x.partnerSerial)
      | none => false)

/-- The port can give an item to panel lookup: an OFF or DIAG port exchanges none (R29). An internal port gives what a
function has issued, in its turn, or a completion of a request to it, when the port's 1,024 cells of core-die memory hold it,
with 64 set aside for each class (R53). -/
def admits (a : Arrival) (cls : Nat) (d : Device) : Bool :=
  if 96 ≤ a.port then
    (d.issued.contains a || (decide (cls = 2) && a.rma.isNone)) && !ownWaits a d &&
    decide (((List.range 3).map fun c =>
      max 64 (ingressCells a.port c d + if c = cls then cellsOf (payloadLen a.tlp) else 0)).foldl (· + ·) 0 ≤ 1024)
  else
    match (d.port a.port).personality with
    | .usp => true
    | .dsp => true
    | .pfl => !fromDuplicate a d
    | _ => false

/-- An arrival is taken: from the PFL port that delivered it, or from the function that issued it, and its credit settled.
One that waits for room in an internal port's memory stays where it is; one that a port may not exchange is discarded. -/
def takeArrival (look : Arrival → Device → Device) (a : Arrival) (d0 : Device) : Device :=
  if admits a (arrivalClass a) d0 then
    let d := takeDelivered a d0
    settleArrival a d (look a d)
  else if 96 ≤ a.port then d0
  else
    let d := takeDelivered a d0
    if (d0.port a.port).personality = .pfl then settleArrival a d d else d0

def execCompletionArrival (a : Arrival) (s : State) : Host.Outcome State Fault Refusal := done s (takeArrival completionArrival a s.dev)

/-- PANEL_LOOKUP. The effects of ROUTE, TOPO and MGMT items, of locked sequences' ends and of requests to the S96's own
functions have rows of their own. (DEDUCED, log entry 21) -/
def panelLookup (a : Arrival) (d : Device) : Device :=
  match a.rma with
  | some h => lookupRma a h d
  | none =>
    if isCpl a.tlp.kind then completionArrival a d
    else match a.tlp.kind with
      | .fabRoute => d
      | .topo => d
      | .mgmt => match a.fab with
        | some f => if f.dstFid = d.glb.fid then d else sendAway { bornItem a f.part d with cls := f.cls, queue := f.queue % 8 } f d
        | none => d
      | _ =>
        match a.fn with
        | some f => if 96 ≤ a.port then lookupOwn a f d else d
        | none =>
          match (d.port a.port).personality with
          | .usp => lookupPort a d
          | .dsp => lookupPort a d
          | .pfl => match a.fab with
            | some f => lookupFabric a f d
            | none => d
          | _ => d

def execPanelLookup (a : Arrival) (s : State) : Host.Outcome State Fault Refusal := done s (takeArrival panelLookup a s.dev)

/-- Free cells of the dynamic pool, F (R59): what items hold, what has leaked, and retired rows are not free. -/
def poolUsed (d : Device) : Nat := (d.items.map (·.poolCells)).foldl (· + ·) 0
def dynFree (d : Device) : Nat :=
  388368 - poolUsed d - (d.xbr.lost.filter fun x => x.panel.isNone).length - 16 * (sparesOf 0 d).out - plannedFree 0 d

/-- Pool cells of a queue, reserve cells of a port and class. -/
def queuePool (n q : Nat) (d : Device) : Nat :=
  ((d.items.filter fun i => decide (i.egress = n) && decide (i.queue = q)).map (·.poolCells)).foldl (· + ·) 0
def classReserve (n cls : Nat) (d : Device) : Nat :=
  ((d.items.filter fun i => decide (i.egress = n) && decide (i.cls = cls)).map (·.rsvCells)).foldl (· + ·) 0

/-- The pool admits a cell of a queue: occupancy below T = α × F (R59, Table 3.2), in sixteenths. -/
def belowThreshold (n q occ free : Nat) (d : Device) : Bool :=
  decide (occ * 16 < free * 2 ^ fieldOf (d.buf n).alpha.toNat (3 * q + 2) (3 * q))

/-- The output withholds its grant (R60): judged on the state at the start of the cell time, the reserve as it stands. -/
def withheld (i : Item) (start d : Device) : Bool :=
  !belowThreshold i.egress i.queue (queuePool i.egress i.queue start) (dynFree start) start && decide (16 ≤ classReserve i.egress i.cls d)

/-- Two items of one stream (R64). -/
def sameStream (i j : Item) : Bool :=
  decide (i.ingress = j.ingress) && decide (i.egress = j.egress) &&
    (if i.rma.isSome || i.fab.isSome then decide (i.queue = j.queue) else decide (i.tlp.tc = j.tlp.tc))

/-- Item j, which arrived earlier, holds item i back (R64–R66). Completions of one request keep their order toward its port
whatever port they came by (R129). -/
def holdsBack (j i : Item) : Bool :=
  decide (j.id < i.id) &&
    (if j.cls = 0 then sameStream i j && (decide (i.cls = 0) || !i.tlp.ro)
     else if j.cls = 1 then sameStream i j && decide (i.cls = 1)
     else decide (i.cls = 2) && decide (i.egress = j.egress) && decide (i.srcRid = j.srcRid) && decide (i.srcTag = j.srcTag))

/-- Lock of a DSP holds an item in its VOQ (Table 3.4, R72). -/
def lockHolds (i : Item) (d : Device) : Bool :=
  decide (i.egress < 96) && decide ((d.port i.egress).personality = .dsp) &&
    (let l := d.lockOf i.egress
     decide (l.state ≠ .unlocked) && decide (i.part = (d.port i.egress).holder) && i.steer.isNone && decide (i.ingress ≠ l.owner))

/-- Non-posted items past their VOQ that their link has not taken yet: what it has taken stands in the tracker. -/
def onTheWay (i : Item) : Bool := decide (i.cls = 1) && i.rma.isNone && decide (i.stage ≠ .voq) && decide (i.stage ≠ .replay)

/-- Requests sent out by a port, or through any PFL port, whose completions have not returned, with those on their way. -/
def tracksOn (n : Nat) (d : Device) : Nat :=
  (d.tracks.filter fun t => decide (t.port = n) && !t.answered).length +
    (d.items.filter fun i => decide (i.egress = n) && onTheWay i).length
def fabricTracks (d : Device) : Nat :=
  (d.tracks.filter fun t => t.fid.isSome && !t.answered).length +
    (d.items.filter fun i => decide ((d.port i.egress).personality = .pfl) && onTheWay i).length

/-- Proxy tags in use: of a target partition (R122), of a DSP with steered VFs (R99). -/
def windowTags (p : Nat) (d : Device) : Nat :=
  (d.tracks.filter fun t => t.window.isSome && decide (t.part = p) && !t.answered).length +
    (d.items.filter fun i => i.window.isSome && decide (i.part = p) && onTheWay i).length
def steerTags (n : Nat) (d : Device) : Nat :=
  (d.tracks.filter fun t => t.steer.isSome && decide (t.port = n) && !t.answered).length +
    (d.items.filter fun i => i.steer.isSome && decide (i.egress = n) && onTheWay i).length

/-- Values a pool of proxy tags offers on a link: 0–1,023 while it is not in FLIT mode and L0 (R308). -/
def proxyPool (i : Item) (d : Device) : Nat :=
  let size := if i.window.isSome then 16384 else 4096
  if 96 ≤ i.egress ∨ (d.port i.egress).personality = .pfl then size
  else if (d.pci i.egress).flit ∧ (d.pci i.egress).lstate = .l0 then size else 1024

/-- A proxy tag is free for a request that needs one (R99, R122). -/
def proxyRoom (i : Item) (d : Device) : Bool :=
  (i.window.isNone || decide (windowTags i.part d < proxyPool i d)) &&
    (i.steer.isNone || decide ((d.port i.egress).personality ≠ .dsp) || decide (steerTags i.egress d < proxyPool i d))

/-- Room for a non-posted request: the tracker (R231, R322) and its proxy tag. -/
def requestRoom (i : Item) (d : Device) : Bool :=
  decide (i.cls ≠ 1) || i.rma.isSome ||
    ((decide (96 ≤ i.egress) || match (d.port i.egress).personality with
      | .pfl => decide (fabricTracks d < 65536)
      | .dsp => decide (tracksOn i.egress d < 8192)
      | _ => true) && proxyRoom i d)

/-- Give waiting items slots that have come free, oldest first (R237): those of internal ports from their source's share. -/
def giveSlots (d : Device) : Device :=
  (d.items.filter fun i => decide (i.stage = .voq) && !i.slot && !i.sharedSlot && needsSlot i d).foldl
    (fun d i => putItem (takeSlot i false d) d) d

/-- An item past its check no cell of which has entered the output buffer: it has just been released, or is an accepted
MRdLk. -/
def unmoved (i : Item) : Bool := decide (i.stage = .crossing) && decide (i.poolCells + i.rsvCells = 0)

/-- Nothing of its VOQ's rules keeps an item from the matcher: its slot, a lock, its tag, the order of its stream (R58, R64,
R69, R237). -/
def unhindered (i : Item) (d : Device) : Bool :=
  decide (i.stage = .voq) && (!needsSlot i d || i.slot || i.sharedSlot) && !lockHolds i d && requestRoom i d &&
    !d.items.any fun j => (decide (j.stage = .voq) || unmoved j) && holdsBack j i && (decide (j.cls = 0) || decide (j.queue = i.queue))

/-- The item may start across the crossbar. An MRdLk waits for its own row. -/
def mayStart (i : Item) (d : Device) : Bool := decide (i.tlp.kind ≠ .lockedRead) && unhindered i d

/-- The item's VOQ: its combination of queue and class. -/
def voqOf (i : Item) : Nat := i.queue * 3 + i.cls

/-- The head of a VOQ: an item part of which has crossed already, else the oldest that waits. -/
def crossingNow (i : Item) : Bool :=
  (decide (i.stage = .crossing) || decide (i.stage = .sending)) && decide (0 < i.inCells + i.holdCells)
def voqHead (n o v : Nat) (d : Device) : Option Item :=
  let mine := d.items.filter fun i => decide (i.ingress = n) && decide (i.egress = o) && decide (voqOf i = v)
  match mine.filter crossingNow with
  | i :: rest => some (rest.foldl (fun a b => if unmoved a && unmoved b && decide (b.order < a.order) then b else a) i)
  | [] => if mine.any (fun i => decide (i.stage = .entry)) then none else mine.find? fun i => decide (i.stage = .voq)

/-- The throttle level withholds N of every 16 cell times of every attachment but P100 (R541, R542). -/
def throttled (n o : Nat) (d : Device) : Bool :=
  decide (n ≠ 100) && decide (o ≠ 100) && decide (d.xbr.cellTime % 16 < d.throttle.level)

/-- A VOQ that input n can present toward output o (R58): `start` is the device at the start of the cell time. -/
def eligible (n o v : Nat) (start d : Device) : Option Item :=
  match voqHead n o v d with
  | none => none
  | some i => if (crossingNow i || mayStart i d) && !withheld i start d then some i else none

/-- The VOQ that input n presents toward output o: a CPL one first, of several the one of the lowest queue, else the next P
or NP one after the last served (R58). (DESIGN CHOICE, log entry 67) -/
def presents (n o : Nat) (start d : Device) : Option Item :=
  match (List.range 8).findSome? (fun q => eligible n o (3 * q + 2) start d) with
  | some i => some i
  | none =>
    let last := tget 0 d.xbr.voqLast (n * 128 + o)
    (List.range 24).findSome? fun k =>
      let v := (last + k) % 24
      if v % 3 = 2 then none else eligible n o v start d

/-- Capacity left in this cell time, by attachment. -/
def capOf (l : List (Nat × Nat)) (n : Nat) : Nat :=
  match l.find? (fun e => e.1 = n) with
  | some e => e.2
  | none => 0
def useCap (l : List (Nat × Nat)) (n : Nat) : List (Nat × Nat) := l.map fun e => if e.1 = n then (e.1, e.2 - 1) else e

/-- Order numbers cyclically from a start. -/
def cyclic (start : Nat) (l : List Nat) : List Nat := (List.range 101).filterMap fun k => l.find? fun x => x = (start + k) % 101

/-- The partition whose segment, if any, governs an item: its own, or its source's on the way to PART0 (R121). -/
def itemSeg (i : Item) : Nat := if i.part = 0 then i.srcPart else i.part

/-- The segment that checks an item (R121, R147, X2): none for an item that is not checked. -/
def checkSegment (i : Item) (d : Device) : Option Nat :=
  if !isMemory i.tlp.kind || i.rma.isSome || (decide (i.ingress < 96) && decide ((d.port i.ingress).personality = .pfl)) then none
  else if itemSeg i = 0 then none else some (itemSeg i)

/-- An earlier item of the partition's stream waits at crossbar entry or in the hold store (R154). -/
def behindHeld (i : Item) (d : Device) : Bool :=
  d.items.any fun j => (decide (j.stage = .held) || decide (j.stage = .entry)) && decide (itemSeg j = itemSeg i) && holdsBack j i

/-- One cell of an item enters the output buffer (R59, R60): into the pool while its queue was below T, else into the class
reserve. -/
def admitCell (start : Device) (i : Item) (d : Device) : Device :=
  let occ := queuePool i.egress i.queue d
  let pool := belowThreshold i.egress i.queue (queuePool i.egress i.queue start) (dynFree start) start
  let first := decide (i.poolCells + i.rsvCells = 0)
  let fromHold := decide (0 < i.holdCells)
  let left := i.inCells + i.holdCells - 1
  let st : Stage := if i.stage = .sending then .sending else if left = 0 then .buffered else .crossing
  let cr := cellCredit i 1 d
  let j := { i with inCells := if fromHold then i.inCells else i.inCells - 1, holdCells := i.holdCells - 1,
                    hdrCr := if fromHold then i.hdrCr else i.hdrCr - cr.1, dataCr := if fromHold then i.dataCr else i.dataCr - cr.2,
                    poolCells := i.poolCells + natOfBool pool, rsvCells := i.rsvCells + natOfBool (!pool), stage := st,
                    order := if first then d.nextId else i.order, admittedAt := if first then d.now else i.admittedAt }
  let d := { putItem j d with nextId := d.nextId + natOfBool first }
  let d := if fromHold then d else leaveIngress 1 i d
  let d := if first then traceStage i.id 5 d else d
  if pool then
    let below := fun (k : Nat) => belowThreshold i.egress i.queue k (dynFree start) start
    let d := if below occ && !below (occ + 1) then countPort 0x011 i.egress i.queue i.cls i.srcPart 1 d else d
    if below occ then d else countPort 0x012 i.egress i.queue i.cls i.srcPart 1 d
  else d

/-- A match moves a cell, or brings an item to crossbar entry (R148, R154). -/
def matchItem (start : Device) (i : Item) (d : Device) : Device :=
  if i.stage = .voq ∧ ((checkSegment i d).isSome || behindHeld i d) = true then putItem { i with stage := .entry } d
  else
    let d := if i.stage = .voq then traceStage i.id 4 d else d
    admitCell start i d

/-- The attachments of a port: one for each of its units, or an internal port's own (R56); and the port of an attachment. -/
def attachments (n : Nat) (d : Device) : List Nat := if 96 ≤ n then [n] else mergeUnits n (d.port n).width
def portOfUnit (u : Nat) (d : Device) : Nat := if 96 ≤ u then u else ownerOf u d

/-- The last of some numbers, going round from a start. -/
def lastRound (start : Nat) (l : List Nat) : Option Nat := (cyclic start l).getLast?

/-- One iteration of request, grant and accept among attachments (R56, R57). Where an output attachment has two matches in
the first iteration, its grant pointer goes past the one that lies last in its round; a served CPL VOQ moves the round of R58
too. (DESIGN CHOICE, log entry 67) -/
def iteration (first : Bool) (start : Device) (s : Device × List (Nat × Nat) × List (Nat × Nat)) :
    Device × List (Nat × Nat) × List (Nat × Nat) :=
  let d := s.1
  let ins := (s.2.1.filter fun e => decide (0 < e.2)).map (·.1)
  let outs := (s.2.2.filter fun e => decide (0 < e.2)).map (·.1)
  let asks := fun (u v : Nat) =>
    let n := portOfUnit u d
    let o := portOfUnit v d
    !throttled n o d && !shaftHolds false n d && !shaftHolds true o d && (presents n o start d).isSome
  let grants : List (Nat × Nat) := (outs.map fun v =>
    ((cyclic (d.buf v).grantPtr (ins.filter fun u => asks u v)).take (capOf s.2.2 v)).map fun u => (u, v)).flatten
  let accepts : List (Nat × Nat) := (ins.map fun u =>
    ((cyclic (d.buf u).acceptPtr ((grants.filter fun g => decide (g.1 = u)).map (·.2))).take (capOf s.2.1 u)).map fun v => (u, v)).flatten
  let r := accepts.foldl (fun (s : (Device × List (Nat × Nat) × List (Nat × Nat)) × List (Nat × Nat)) g =>
    let d := s.1.1
    let n := portOfUnit g.1 d
    let o := portOfUnit g.2 d
    match presents n o start d with
    | none => s
    | some i =>
      let d := matchItem start i d
      let d := { d with xbr := { d.xbr with voqLast := tset 0 d.xbr.voqLast (n * 128 + o) ((voqOf i + 1) % 24) } }
      ((d, useCap s.1.2.1 g.1, useCap s.1.2.2 g.2), g :: s.2)) (s, [])
  if first then
    let moveGrant := fun (e : Device) (v : Nat) =>
      match lastRound (d.buf v).grantPtr ((r.2.filter fun g => decide (g.2 = v)).map (·.1)) with
      | some u => e.setBuf v { e.buf v with grantPtr := (u + 1) % 101 }
      | none => e
    let moveAccept := fun (e : Device) (u : Nat) =>
      match lastRound (d.buf u).acceptPtr ((r.2.filter fun g => decide (g.1 = u)).map (·.2)) with
      | some v => e.setBuf u { e.buf u with acceptPtr := (v + 1) % 101 }
      | none => e
    (ins.foldl moveAccept (outs.foldl moveGrant r.1.1), r.1.2)
  else r.1

/-- VOQs with something to move, for the counts of a cell time. -/
def activeVoqs (d : Device) : List (Nat × Nat × Nat) :=
  ((d.items.filter fun i => decide (i.stage = .voq) || crossingNow i).map fun i => (i.ingress, i.egress, voqOf i)).eraseDups

/-- MATCHER_CELL_TIME (R56–R60). With a parity error on the matcher's control words every grant is withdrawn, and the
requests are repeated at the next cell time (R441). -/
def matcherCellTime (parity : Bool) (d0 : Device) : Device :=
  if parity then { countStructEcc d0 with xbr := { d0.xbr with cellTime := d0.xbr.cellTime + 1 } }
  else if d0.xbr.enabled then
    let d := giveSlots d0
    let live := d.items.filter fun i => decide (i.stage = .voq) || crossingNow i
    let ins := (((live.map (·.ingress)).eraseDups).map fun n => (attachments n d).map fun u => (u, 1)).flatten
    let outs := (((live.map (·.egress)).eraseDups).map fun n => (attachments n d).map fun v => (v, 2)).flatten
    let s := iteration false d (iteration false d (iteration true d (d, ins, outs)))
    let e := s.1
    let held := (activeVoqs d).filter fun v => match voqHead v.1 v.2.1 v.2.2 d with
      | some i => (crossingNow i || mayStart i d) && withheld i d d
      | none => false
    let hs := (held.map fun v => (v.2.1, v.2.2)).eraseDups
    let e := hs.foldl (fun e h => countPort 0x010 h.1 (h.2 / 3) (h.2 % 3) 0x3F 1 e) e
    let waiting := (activeVoqs d).filter fun v => match eligible v.1 v.2.1 v.2.2 d d with
      | some i => match findItem i.id e with
        | some j => decide (j.stage = i.stage) && decide (j.inCells + j.holdCells = i.inCells + i.holdCells)
        | none => false
      | none => false
    let ws := (waiting.map fun v => (v.1, v.2.2 % 3)).eraseDups
    let e := ws.foldl (fun e w => countPort 0x015 w.1 0 w.2 0x3F 1 e) e
    { e with xbr := { e.xbr with cellTime := e.xbr.cellTime + 1 } }
  else d0

def execMatcherCellTime (s : State) (parity : Bool := false) : Host.Outcome State Fault Refusal := done s (matcherCellTime parity s.dev)

/-- SHARED_BLOCK_RETURN (R54, R191): a block unused for 10 µs goes back, and what it backed is withheld from the credit freed
next; raises that wait may be backed now (R79). On a PFL port `cls` names the combination of VL and class, 4 × VL + class. -/
def sharedBlockReturn (n cls : Nat) (d : Device) : Device :=
  if (d.port n).personality = .pfl ∧ cls / 4 < 4 ∧ cls % 4 < 3 then
    let x := d.pfl n
    let c := creditOf x (cls / 4) (cls % 4)
    if d.now < c.blockUsedAt + 10 * usNs then d
    else
      let c := if 16 ≤ c.sharedCells then { c with sharedCells := c.sharedCells - 16, takeBack := c.takeBack + 16 } else c
      let c := if 16 ≤ c.sharedHdr then { c with sharedHdr := c.sharedHdr - 16, takeBackHdr := c.takeBackHdr + 16 } else c
      d.setPfl n (setCredit x (cls / 4) (cls % 4) c)
  else if cls < 3 then
    let b := d.buf n
    let x := d.pci n
    let used := ingressCells n cls d
    if 16 ≤ sharedOf b cls ∧ used + 16 ≤ minOf b cls + sharedOf b cls ∧ b.sharedUsedAt + 10 * usNs ≤ d.now then
      tryRaises ((d.setBuf n (withShared b cls (sharedOf b cls - 16))).setPci n
        { x with takeBack := addClass x.takeBack cls (dataOf 16), takeBackHdr := addClass x.takeBackHdr cls (headersOf 16) })
    else d
  else d

def execSharedBlockReturn (port cls : Nat) (s : State) : Host.Outcome State Fault Refusal := done s (sharedBlockReturn port cls s.dev)

/-- The DSP of a partition that is PENDING or LOCKED (R71). -/
def lockedPort (p : Nat) (d : Device) : Option Nat :=
  (List.range 96).find? fun n => decide ((d.port n).personality = .dsp) && decide ((d.port n).holder = p) &&
    decide ((d.lockOf n).state ≠ .unlocked)

/-- The MRdLk of a VOQ that an arrival names. -/
def queuedLock (a : Arrival) (d : Device) : Option Item :=
  d.items.find? fun i => decide (i.tlp.kind = .lockedRead) && decide (i.stage = .voq) && decide (i.ingress = a.port) &&
    decide (i.srcRid = a.tlp.reqId) && decide (i.srcTag = a.tlp.tag)

/-- MRDLK_ACCEPT (R58, R64, R69, R71): the matcher accepts an MRdLk from a USP, which panel lookup has queued, or meets here,
once the order of its stream and its output let it. A lock keeps the LOCK_TIMEOUT in force when it became PENDING (R80).
(DESIGN CHOICE, log entry 67) -/
def mrdlkAccept (a : Arrival) (d0 : Device) : Device :=
  let d := match queuedLock a d0 with
    | some _ => d0
    | none => takeArrival panelLookup a d0
  match queuedLock a d with
  | none => d
  | some i =>
    let other : Bool := match lockedPort i.part d with
      | some n => decide (n ≠ i.egress)
      | none => false
    if !d.xbr.enabled || !unhindered i d || withheld i d d then d
    else if other then refuseItem i (upstreamKey i.part) 20 .ur (removeItem i.id d)
    else
      let l := d.lockOf i.egress
      let start := decide (l.state = .unlocked)
      let lock : PortLock := { l with state := if start then .pending else l.state, owner := a.port,
                                      since := if start then d.now else l.since,
                                      timeoutMs := if start then d.xbr.lockTimeoutMs else l.timeoutMs }
      let d := if (d.port i.egress).personality = .dsp then d.setLock i.egress lock else d
      putItem { i with stage := if (checkSegment i d).isSome || behindHeld i d then .entry else .crossing } d

def execMrdlkAccept (a : Arrival) (s : State) : Host.Outcome State Fault Refusal :=
  done s (if (s.dev.port a.port).personality = .usp ∧ a.tlp.kind = .lockedRead then mrdlkAccept a s.dev else s.dev)

/-- LOCKED_COMPLETION (Table 3.4): a CplDLk or CplLk from a DSP passes upward. -/
def lockedCompletion (a : Arrival) (d0 : Device) : Device :=
  let d := takeArrival completionArrival a d0
  let l := d.lockOf a.port
  if l.state = .pending then
    if a.tlp.status = .sc ∧ a.tlp.len ≠ 0 then d.setLock a.port { l with state := .locked, since := d.now } else unlockPort a.port d
  else d

def execLockedCompletion (a : Arrival) (s : State) : Host.Outcome State Fault Refusal :=
  done s (if (s.dev.port a.port).personality = .dsp ∧ a.tlp.kind = .lockedCpl then lockedCompletion a s.dev else s.dev)

/-- The Unlock message (code 0x00 of the base specification) to one DSP. -/
def sendUnlock (d : Device) (n : Nat) : Device := emit (.pcieMessage n 0x00) d

/-- UNLOCK_MESSAGE (R70, Table 3.4): the message goes on to every DSP of the partition as a posted item in its stream's
order; a DSP that is LOCKED is unlocked. -/
def unlockMessage (a : Arrival) (d : Device) : Device :=
  let p := (d.port a.port).holder
  let m : Arrival := { a with tlp := { a.tlp with kind := .msgBroadcast } }
  let d := settleArrival m d (broadcast { bornItem m p d with queue := queueOf m d } d)
  (broadcastPorts p d).foldl (fun d n => if (d.lockOf n).state = .locked then unlockPort n d else d) d

def execUnlockMessage (a : Arrival) (s : State) : Host.Outcome State Fault Refusal :=
  done s (if a.port < 96 ∧ (s.dev.port a.port).personality = .usp then unlockMessage a s.dev else s.dev)

/-- LOCK_TIMEOUT (R70). -/
def execLockTimeout (port : Nat) (s : State) : Host.Outcome State Fault Refusal :=
  let d := s.dev
  let l := d.lockOf port
  done s (if l.state = .locked ∧ l.since + l.timeoutMs * msNs ≤ d.now then
      let d := unlockPort port (sendUnlock (d.setLock port { l with timeouts := satAdd 0xFFFF l.timeouts 1 }) port)
      { d with xbr := { d.xbr with intStatus := d.xbr.intStatus ||| 8 } }
    else d)

/-- TALLY_PASS_START (R73): 1 s after the buffer is enabled, then every AUDIT_PERIOD in force since the last pass began
(R80); one due while a pass runs waits. -/
def execTallyPassStart (s : State) : Host.Outcome State Fault Refusal :=
  let d := s.dev
  let x := d.xbr
  let due : Bool := match x.lastStart with
    | none => decide (x.enabledAt + 1000 * msNs ≤ d.now)
    | some t => decide (t + x.passAuditMs * msNs ≤ d.now)
  done s (if x.enabled && due then startPass d else d)

/-- Cells that the pass reclaims (R74): lost for more than the MAXRES of the pass (R80). -/
def leaked (d : Device) : List LostCell := d.xbr.lost.filter fun c => decide (c.allocatedAt + d.xbr.passMaxresMs * msNs < d.now)

/-- The cells that the pass has found on no list and referenced by nothing (R74) are known from now on. -/
def findLeaks (ls : List LeakSeen) (d : Device) : Device :=
  ls.foldl (fun d l =>
    let c : LostCell := { panel := l.panel, record := { cell := l.cell, port := l.port, queue := l.queue, cls := l.cls },
                          allocatedAt := d.now - l.ageNs }
    if d.xbr.lost.any fun x => decide (x.panel = c.panel) && decide (x.record.cell = c.record.cell) then d
    else { d with xbr := { d.xbr with lost := d.xbr.lost ++ [c] } }) d

/-- The reclaims of a pass (R74, R76): counted, the first of each kind captured. -/
def recordReclaims (d : Device) : Device :=
  let x := d.xbr
  let rs := leaked d
  let ob := rs.filter fun c => c.panel.isNone
  let pn := rs.filter fun c => c.panel.isSome
  let x := { x with passes := x.passes + 1, lost := x.lost.filter fun c => !rs.contains c,
                    reclaimedLast := min ob.length 0xFFFF, panelLast := min pn.length 0xFFFF,
                    reclaimedTotal := satAdd 0xFFFFFFFF x.reclaimedTotal rs.length }
  let x := match ob with
    | [] => x
    | c :: _ => if x.intStatus.getLsbD 0 then x
      else { x with first := c.record, firstTime := d.devTime, intStatus := x.intStatus ||| 1 }
  let x := match pn with
    | [] => x
    | c :: _ => if x.intStatus.getLsbD 2 then x else { x with panelFirst := c.panel.getD 0, intStatus := x.intStatus ||| 4 }
  let d := { d with xbr := x }
  if rs.length = 0 then d else countGlobal 0x101 0x3F rs.length d

/-- The end of a pass (R73, R76). Where the cells do not add up a second pass runs at once, and when that one does not add up
either, a device-level error is raised; a pass that is due starts after it. (DESIGN CHOICE, log entry 20) -/
def tallyEnd (ls : List LeakSeen) (addsUp : Bool) (d0 : Device) : Device :=
  let d := recordReclaims (findLeaks ls d0)
  let d := { d with xbr := { d.xbr with running := false, mismatch := !addsUp, rerun := false,
                                        intStatus := if addsUp then d.xbr.intStatus else d.xbr.intStatus ||| 2 } }
  if !addsUp && !d0.xbr.rerun then { d with xbr := { d.xbr with running := true, rerun := true } }
  else
    let d := if addsUp then d else deviceFault 0 (countStructEcc d)
    if d.xbr.passDue then startPass { d with xbr := { d.xbr with passDue := false } } else d

/-- TALLY_PASS_END: the walk has found some lost cells, and the counts add up or not. (DESIGN CHOICE, log entry 20) -/
def execTallyPassEnd (s : State) (leaks : List LeakSeen := []) (addsUp : Bool := true) : Host.Outcome State Fault Refusal :=
  done s (if s.dev.xbr.running then tallyEnd leaks addsUp s.dev else s.dev)

end Sys2Proof.Machine
end

