-- ==== Sys2Proof/Machine/Access.lean ====
section
/-! DEFINITION. Machine/Access.lean: the central access-control table (chapter 6): the check at crossbar entry, the hold store,
draining, the ACT commands and events. -/

namespace Sys2Proof.Machine

/-- An entry of the table that holds nothing yet. -/
def entryOf (g : Seg) (k : Nat) : Option ActEntry := tget none g.entries k

/-- Bit of RIGHTS. -/
def validEntry (e : ActEntry) : Bool := bitOf e.rights 7

/-- The valid entries of a segment in index order. -/
def validEntries (g : Seg) : List (Nat × ActEntry) :=
  g.entries.filterMap fun x => match x.2 with
    | some e => if validEntry e then some (x.1, e) else none
    | none => none

/-- The right a request needs (Table 6.1): bit of RIGHTS. -/
def neededRight (k : Kind) : Nat := if isAtomic k then 2 else if k = .memWrite then 1 else 0

/-- TYPE of Table 6.5. -/
def violType (k : Kind) : Nat :=
  if k = .lockedRead then 3 else if isAtomic k then 2 else if k = .memWrite then 1 else 0

/-- Outcome of a lookup (R148, R163, R165): 0 passes, else REASON; with the two indices of a lookup fault. `bad` is the index
of an entry that the lookup reads with an uncorrectable ECC error. -/
def checkRequest (t : Tlp) (g : Seg) (bad : Option Nat) : Nat × Nat × Nat :=
  let page := t.addr / 4096 * 4096
  let hits := (validEntries g).filter fun e => decide (e.2.base ≤ page) && decide (page ≤ e.2.limit)
  match bad with
  | some k => (4, k, k)
  | none =>
    match hits with
    | [] => (1, 0, 0)
    | [e] =>
      if t.reqId &&& e.2.ridMask ≠ e.2.rid &&& e.2.ridMask then (3, 0, 0)
      else if bitOf e.2.rights (neededRight t.kind) then (0, 0, 0)
      else (2, 0, 0)
    | a :: b :: _ => (4, a.1, b.1)

/-- Set ACT interrupt bits. -/
def actRaise (bits : BitVec 3) (d : Device) : Device := { d with act := { d.act with intStatus := d.act.intStatus ||| bits } }

/-- Log a denial (R162). -/
def logDenial (p reason : Nat) (t : Tlp) (cls : Nat) (d : Device) : Device :=
  let g := d.seg p
  let g' := { g with violCount := satAdd 0xFFFFFFFF g.violCount 1 }
  if g.violValid then d.setSeg p g'
  else
    let g'' := { g' with violAddr := t.addr, violReason := reason, violType := violType t.kind, violPosted := decide (cls = 0),
                         violValid := true, violRid := t.reqId }
    sendVector (function1 p) g.vector (actRaise 1 (d.setSeg p g''))

/-- A segment goes from ENABLED to DISABLED (R153). -/
def disableSeg (p : Nat) (d : Device) : Device :=
  let g := d.seg p
  d.setSeg p { g with state := .disabled, disabledAt := d.now, stallLong := false }

/-- A lookup fault closes the segment, and is fatal for its partition alone (R165). -/
def lookupFault (p a b : Nat) (d : Device) : Device :=
  let g := d.seg p
  partFatal p 4 (actRaise 4 (disableSeg p (d.setSeg p { g with multiA := a, multiB := b })))

/-- A denied request (R160–R162, R165). `p` is the segment that denies it. A locked read's completion ends PENDING (Table
3.4). -/
def denyItem (p reason a b : Nat) (i : Item) (d : Device) : Device :=
  let d := countPort (0x032 + violType i.tlp.kind) i.ingress 0 i.cls i.srcPart 1 (logDenial p reason i.tlp i.cls d)
  let d := traceEnd i 2 (removeItem i.id d)
  let d :=
    if i.cls = 1 then
      let d := if i.tlp.kind = .lockedRead then countLockUr i.egress (lockFails i.egress i.tlp.kind d) else d
      answerItem i .ur false d
    else
      let d := journalWrite p (if p = i.part then slotSource i else 255) (dropEntry i 3 d.glb.fid 0x7F d) d
      let d := windowDrop i 2 d
      match i.fn with
      | some f => placementFails f i.tlp.addr d
      | none => d
  if reason = 4 then lookupFault p a b d else d

/-- Cells of the hold store that a segment's items fill, and that all do (R154). -/
def heldCells (p : Nat) (d : Device) : Nat := ((d.items.filter fun i => decide (itemSeg i = p)).map (·.holdCells)).foldl (· + ·) 0
def holdUsed (d : Device) : Nat := (d.items.map (·.holdCells)).foldl (· + ·) 0

/-- Move an item into the hold store, when there is room; otherwise it stays (R154). -/
def holdItem (i : Item) (d : Device) : Device :=
  if heldCells (itemSeg i) d + i.inCells ≤ 1024 ∧ holdUsed d + i.inCells ≤ 8192 then
    let d := leaveIngress i.inCells i d
    let d := putItem { i with stage := .held, holdCells := i.inCells, inCells := 0, hdrCr := 0, dataCr := 0, order := d.nextId } d
    countPort 0x030 i.ingress 0 i.cls i.srcPart 1 { d with nextId := d.nextId + 1 }
  else d

/-- Check an item under its segment and let it go on, or deny it (R148). -/
def checkItem (p : Nat) (bad : Option Nat) (i : Item) (d : Device) : Device :=
  let c := checkRequest i.tlp (d.seg p) bad
  if c.1 = 0 then
    let d := countPort 0x031 i.ingress 0 i.cls i.srcPart 1 (traceStage i.id 4 d)
    let j := { i with checkedBy := some p, stage := .crossing }
    putItem j d
  else denyItem p c.1 c.2.1 c.2.2 i d

/-- An item at crossbar entry goes on with its first cell, which the matcher has granted. -/
def enterBuffer (id : Nat) (d : Device) : Device :=
  match findItem id d with
  | some i => if i.stage = .crossing then admitCell d i d else d
  | none => d

/-- CROSSBAR_ENTRY (R147–R149, R154): checked, or held while its segment is DISABLED, as are the items R64 orders behind a
held one. An item stays behind one of its stream that waits here, or that has been released and has not moved. -/
def crossbarEntry (id : Nat) (bad : Option Nat) (d : Device) : Device :=
  match findItem id d with
  | none => d
  | some i =>
    let ahead := fun (p : Item → Bool) => d.items.any fun j => p j && decide (itemSeg j = itemSeg i) && holdsBack j i
    if i.stage ≠ .entry then d
    else if ahead (fun j => decide (j.stage = .held)) then holdItem i d
    else if ahead (fun j => decide (j.stage = .entry) || unmoved j) then d
    else match checkSegment i d with
      | none => enterBuffer id (putItem { i with stage := .crossing } (traceStage id 4 d))
      | some p => match (d.seg p).state with
        | .enabled => enterBuffer id (checkItem p bad i d)
        | _ => holdItem i d

def execCrossbarEntry (item : Nat) (s : State) (badEntry : Option Nat := none) : Host.Outcome State Fault Refusal :=
  done s (crossbarEntry item badEntry s.dev)

/-- OLD_INFLIGHT (R158): items checked under a segment that have not left the egress point; a PFL port is the egress point. -/
def oldInflight (p : Nat) (d : Device) : Nat :=
  (d.items.filter fun i => decide (i.checkedBy = some p) && decide (i.stage ≠ .replay)).length

/-- The result of ACT_DISABLE (R166). -/
def disableResult (p since : Nat) (d : Device) : List Byte := natLe 4 (d.seg p).gen ++ natLe 4 (min (d.now - since) 0xFFFFFFFF)

/-- ACT_DISABLE waiting on a partition. -/
def disableExec (p : Nat) (d : Device) : Option Exec :=
  findExec (fun e => decide (e.op = 0x0401) && decide (e.cmd.target.toNat = p) && e.applied) d

/-- ACT_DRAIN_DONE (R159). -/
def execActDrainDone (part : Nat) (s : State) : Host.Outcome State Fault Refusal :=
  let d := s.dev
  done s (match disableExec part d with
    | some e => if oldInflight part d = 0 then finishExec e (ansOk (disableResult part e.since d)) d else d
    | none => d)

/-- ACT_DISABLE_TIMEOUT (R159): 1 ms has passed. -/
def execActDisableTimeout (part : Nat) (s : State) : Host.Outcome State Fault Refusal :=
  let d := s.dev
  done s (match disableExec part d with
    | some e =>
      if oldInflight part d ≠ 0 ∧ e.since + msNs ≤ d.now then
        finishExec e { status := .timeout, detail := min (oldInflight part d) 0xFFFF, result := disableResult part e.since d } d
      else d
    | none => d)

/-- STALL_LONG (R156): once for each disable, after 250 µs DISABLED while ACTIVE. -/
def execStallLong (part : Nat) (s : State) : Host.Outcome State Fault Refusal :=
  let d := s.dev
  let g := d.seg part
  done s (if g.state = .disabled ∧ g.stallLong = false ∧ (d.part part).state = .active ∧
      max g.disabledAt (d.part part).activeSince + 250 * usNs ≤ d.now then
      actRaise 2 (d.setSeg part { g with stallLong := true })
    else d)

/-- Checks that every ACT command begins with; `n` is its length, none when it depends on COUNT. -/
def tenantTarget (c : Cmd) (d : Device) : Option Ans :=
  let p := c.target.toNat
  firstFail
    [ failIf (decide (64 ≤ p)) (ansBad 0xFF08), failIf (decide (p = 0) || decide (48 < p)) (ansBad 0xFF08),
      failIf (decide ((d.part p).state = .free)) (ansBad 0xFF08), failIf (decide (c.param0 ≠ 0)) (ansBad 0xFF0C) ]

/-- The checks of ACT_DISABLE, and the segment's change at its admission (R153, R166). -/
def disableChecks (c : Cmd) (d : Device) : List (Option Ans) := [failIf (decide (c.params.length ≠ 0)) (ansLen 0), tenantTarget c d]
def enterDisabled (p : Nat) (d : Device) : Device := disableSeg p (d.setSeg p { d.seg p with gen := ((d.seg p).gen + 1) % 65536 })
def disableAdmitted (c : Cmd) (d : Device) : Device :=
  if firstFail (disableChecks c d) = none ∧ (d.seg c.target.toNat).state = .enabled then
    markApplied 0x0401 c (enterDisabled c.target.toNat d)
  else d

/-- An entry from its 24 bytes (Table 6.2). -/
def entryBytesOf (p : List Byte) (o : Nat) : ActEntry :=
  { base := u64 p o, limit := u64 p (o + 8), rid := u16 p (o + 16), ridMask := u16 p (o + 18), rights := u8 p (o + 20) }

/-- Step 2 of R167 for one entry. -/
def entryCheck (p : List Byte) (o : Nat) : Option Ans :=
  let e := entryBytesOf p o
  let valid := validEntry e
  firstFail
    [ failIf (valid && (decide (e.base % 4096 ≠ 0) || decide (e.limit < e.base))) (ansBad o),
      failIf (valid && decide (e.limit % 4096 ≠ 4095)) (ansBad (o + 8)),
      failIf (decide (fieldOf e.rights 6 3 ≠ 0)) (ansBad (o + 20)), failIf (!zeros p (o + 21) 3) (ansBad (o + 21)) ]

/-- Checks 2 of R167 on FIRST_INDEX and COUNT. -/
def indexChecks (c : Cmd) (d : Device) : List (Option Ans) :=
  let p := c.params
  let n := u16 p 4
  [ failIf (decide (n = 0) || decide (169 < n)) (ansBad 4), failIf (!zeros p 6 2) (ansBad 6),
    failIf (decide ((d.part c.target.toNat).actEntries < u32 p 0 + n)) (ansBad 0) ]

/-- ACT_WRITE (R167). -/
def actWrite (c : Cmd) (d : Device) : Device × Option Ans :=
  let p := c.params
  let t := c.target.toNat
  let n := u16 p 4
  checked
    ([ failIf (decide (p.length < 8) || decide (p.length ≠ 8 + 24 * n))
         (ansLen (if p.length < 8 ∨ n = 0 ∨ 169 < n then 0xFFFF else 8 + 24 * n)), tenantTarget c d ] ++ indexChecks c d ++
      (List.range n).map (fun k => entryCheck p (8 + 24 * k)) ++
      [failIf (decide ((d.seg t).state ≠ .disabled)) ansNo]) (fun d =>
    let g := d.seg t
    let es := (List.range n).foldl (fun es k => tset none es (u32 p 0 + k) (some (entryBytesOf p (8 + 24 * k)))) g.entries
    let g := { g with entries := es }
    (d.setSeg t g, some (ansOk (natLe 4 (validEntries g).length)))) d

def execActWrite (c : Cmd) (s : State) : Host.Outcome State Fault Refusal := done s (runPacket 0x0402 (actWrite c) c s.dev)

/-- The first overlapping pair of valid entries in index order (R151, R168). -/
def overlapWith (e : Nat × ActEntry) (l : List (Nat × ActEntry)) : Option (Nat × Nat) :=
  (l.find? fun f => decide (e.2.base ≤ f.2.limit) && decide (f.2.base ≤ e.2.limit)).map fun f => (e.1, f.1)
def firstOverlap : List (Nat × ActEntry) → Option (Nat × Nat)
  | [] => none
  | e :: l => match overlapWith e l with
    | some x => some x
    | none => firstOverlap l

/-- Release the held items of a partition in the order they were held (R157): each is checked under the new entries.
(DESIGN CHOICE, log entry 67) -/
def releaseHeld (p : Nat) : Nat → Device → Device
  | 0, d => d
  | fuel + 1, d =>
    let mine := d.items.filter fun i => decide (i.stage = .held) && decide (itemSeg i = p)
    match mine with
    | [] => d
    | i0 :: rest =>
      let i := rest.foldl (fun a b => if b.order < a.order then b else a) i0
      let d := match checkSegment i d with
        | some q => if (d.seg q).state = .enabled then checkItem q none i d else d
        | none => putItem { i with stage := .crossing } d
      releaseHeld p fuel d

/-- An ACT_DISABLE that fails on the hardware leaves the segment as it was before its admission (R25, R446). -/
def reopenSegment (c : Cmd) (d : Device) : Device :=
  let p := c.target.toNat
  let g := d.seg p
  if ((execOf 0x0401 c d).filter (·.applied)).isSome then
    releaseHeld p d.items.length (d.setSeg p { g with state := .enabled, gen := (g.gen + 65535) % 65536 })
  else d

/-- ACT_DISABLE (R159, R166): the segment is DISABLED since the command was admitted; one that was DISABLED before answers at
once. -/
def actDisable (c : Cmd) (d : Device) : Device × Option Ans :=
  let p := c.target.toNat
  checked (disableChecks c d) (fun d =>
    if c.fault ≠ 0 then (reopenSegment c d, some { status := .hwFault, detail := c.fault, result := [] })
    else
      let d := disableAdmitted c d
      match (execOf 0x0401 c d).filter (·.applied) with
      | none => (d, some (ansOk (natLe 4 (d.seg p).gen ++ natLe 4 0)))
      | some e => if oldInflight p d = 0 then (d, some (ansOk (disableResult p e.since d))) else (d, none)) d

def execActDisable (c : Cmd) (s : State) : Host.Outcome State Fault Refusal := done s (runPacket 0x0401 (actDisable c) c s.dev)

/-- ACT_ENABLE (R157, R168). -/
def actEnable (c : Cmd) (d : Device) : Device × Option Ans :=
  let p := c.params
  let t := c.target.toNat
  let g := d.seg t
  let es := validEntries g
  let v := u16 p 0
  checked
    [ failIf (decide (p.length ≠ 4)) (ansLen 4), tenantTarget c d,
      failIf (decide (v ≠ 0xFFFF) && decide (2048 ≤ v)) (ansBad 0), failIf (!zeros p 2 2) (ansBad 2) ] (fun d =>
    if g.state = .enabled then (d.setSeg t { g with vector := v }, some (ansOk (natLe 4 es.length ++ natLe 4 g.gen)))
    else match firstOverlap es with
      | some (a, b) => (d, some { status := .overlap, detail := min a 0xFFFF, result := natLe 4 a ++ natLe 4 b })
      | none =>
        let d := d.setSeg t { g with vector := v, state := .enabled, stallLong := false }
        let a := ansOk (natLe 4 es.length ++ natLe 4 g.gen)
        (releaseHeld t d.items.length d, some a)) d

def execActEnable (c : Cmd) (s : State) : Host.Outcome State Fault Refusal := done s (runPacket 0x0403 (actEnable c) c s.dev)

/-- An entry as stored: one that no ACT_WRITE of this segment has written is VALID 0, and holds what it held before (R152). -/
def storedEntry (p epoch k : Nat) (x : Option ActEntry) : List Byte :=
  match x with
  | some e => natLe 8 e.base ++ natLe 8 e.limit ++ natLe 2 e.rid ++ natLe 2 e.ridMask ++ natLe 1 e.rights ++ natLe 3 0
  | none =>
    let v := Config.staleEntry p epoch k
    natLe 20 v ++ natLe 1 (v / 2 ^ 160 % 8) ++ natLe 3 0

/-- ACT_READ (R169). -/
def actRead (c : Cmd) (d : Device) : Device × Option Ans :=
  let p := c.params
  let g := d.seg c.target.toNat
  checked ([failIf (decide (p.length ≠ 8)) (ansLen 8), tenantTarget c d] ++ indexChecks c d) (fun d =>
    let t := c.target.toNat
    let rows := (List.range (u16 p 4)).map fun k => storedEntry t g.epoch (u32 p 0 + k) (entryOf g (u32 p 0 + k))
    (d, some (ansOk (natLe 4 (u32 p 0) ++ natLe 2 (u16 p 4) ++ natLe 2 0 ++ rows.flatten)))) d

def execActRead (c : Cmd) (s : State) : Host.Outcome State Fault Refusal := done s (runPacket 0x0404 (actRead c) c s.dev)

/-- ACT_VIOL_CLEAR (R164): the manager writes ACT_SEG_VIOL_INFO.CLEAR. -/
def violClear (p : Nat) (d : Device) : Device :=
  let g := d.seg p
  d.setSeg p { g with violCount := 0, violAddr := 0, violReason := 0, violType := 0, violPosted := false, violValid := false,
                      violRid := 0 }

def execActViolClear (part : Nat) (s : State) : Host.Outcome State Fault Refusal :=
  done s (if 1 ≤ part ∧ part ≤ 48 then violClear part s.dev else s.dev)

end Sys2Proof.Machine
end

