-- ==== Sys2Proof/Machine/Egress.lean ====
section
/-! DEFINITION. Machine/Egress.lean: egress scheduling, shaping and sampling (chapter 10), what leaves a port (R63, R99, R122,
R220, R308), link credit, and the consumed counts of rings (R235, R303, R466). -/

namespace Sys2Proof.Machine

/-- Bytes of the carried header of an item (R218): 48 of an RMA item (R267), none of ROUTE, TOPO and MGMT, 12 or 16 of a TLP. -/
def carriedHeader (i : Item) : Nat :=
  if i.rma.isSome then 48
  else if isControl i.tlp.kind then 0
  else if isCpl i.tlp.kind || isConfig i.tlp.kind || isIo i.tlp.kind then 12
  else if byAddress i.tlp.kind && decide (i.tlp.addr < 2 ^ 32) && decide (i.tlp.kind ≠ .msgAddr) then 12
  else 16

/-- KIND of an item (Table 8.2). -/
def kindOf (i : Item) : Nat :=
  if i.rma.isSome then 1
  else match i.tlp.kind with
    | .fabRoute => 2
    | .topo => 3
    | .mgmt => 4
    | _ => 0

/-- The base of the fabric header (Table 8.2), of VERSION 1. -/
def fabBase (f : FabHdr) (kind dataLen hdrLen : Nat) : List Byte :=
  natLe 1 (kind + 16) ++ natLe 1 f.dstFid ++ natLe 1 f.srcFid ++ natLe 1 (f.part % 64 + 64 * f.cls) ++ natLe 1 f.dstPort ++
    natLe 1 (f.queue % 8 + 8 * f.hops) ++ natLe 2 dataLen ++ natLe 1 hdrLen ++ natLe 1 (natOfBool f.synth) ++ natLe 2 f.flow ++
    natLe 4 f.stamp

/-- The carried header of an RMA item (Table 9.5). -/
def rmaBytes (h : RmaHdr) : List Byte :=
  natLe 1 (h.op + 16 * natOfBool h.last + 32 * natOfBool h.retx) ++ natLe 1 h.syndrome ++ natLe 2 0 ++ natLe 4 h.dstQpn ++
    natLe 4 h.srcQpn ++ natLe 4 h.psn ++ natLe 4 h.msgPsn ++ natLe 4 h.msgOffset ++ natLe 8 h.address ++ natLe 4 h.key ++
    natLe 4 h.totalLen ++ natLe 4 h.imm ++ natLe 2 h.laddrLo ++ natLe 2 0

/-- The fabric header with which an item leaves a PFL port: it crosses one more link (R220). -/
def leavingFab (i : Item) : FabHdr :=
  let f : FabHdr := i.fab.getD { dstFid := 0, srcFid := 0, part := 0, cls := 0, dstPort := 0, queue := 0, hops := 0, synth := false,
                                 flow := 0, stamp := 0 }
  { f with hops := f.hops + 1, queue := i.queue }

/-- An item's record on a PFL link (R174, R218): base, carried header, data, filled up to a multiple of 4 B. -/
def recordBytes (i : Item) : List Byte :=
  let n := payloadLen i.tlp
  let head := match i.rma with
    | some h => rmaBytes h
    | none => (List.range (carriedHeader i)).map (Config.tlpHeader i.tlp)
  let b := fabBase (leavingFab i) (kindOf i) n (carriedHeader i / 4) ++ head ++ padTo n (i.tlp.data.take n)
  padTo (ceilDiv b.length 4 * 4) b

/-- Link credit for an item's class (R189, R287, R309). An internal port has no link. -/
def hasCredit (n : Nat) (i : Item) (d : Device) : Bool :=
  if 96 ≤ n then true
  else if (d.port n).personality = .pfl then
    let x := d.pfl n
    let c := creditOf x (itemVl i.tlp i.queue d) i.cls
    decide (x.state = .active) && decide (1 ≤ creditLeft c.grantHdr c.hdrFreedRx c.hdrUsed) &&
      decide (cellsOf (payloadLen i.tlp) ≤ creditLeft c.grantData c.dataFreedRx c.dataUsed)
  else
    let x := d.pci n
    lstateUp x.lstate && decide (1 ≤ x.txHdr.getD i.cls 0) && decide (ceilDiv (payloadLen i.tlp) 16 ≤ x.txData.getD i.cls 0)

/-- Take the credit of an item that leaves. -/
def useCredit (n : Nat) (i : Item) (d : Device) : Device :=
  if 96 ≤ n then d
  else if (d.port n).personality = .pfl then
    let x := d.pfl n
    let vl := itemVl i.tlp i.queue d
    let c := creditOf x vl i.cls
    let c := { c with hdrUsed := (c.hdrUsed + 1) % 2 ^ 32, dataUsed := (c.dataUsed + cellsOf (payloadLen i.tlp)) % 2 ^ 32 }
    d.setPfl n { setCredit x vl i.cls c with 
                                            stream := x.stream ++ [{ item := i.id, vl := vl, bytes := recordBytes i, begun := false }] }
  else
    let x := d.pci n
    d.setPci n { x with lstate := if x.lstate = .l1 ∨ x.lstate = .l0s then .l0 else x.lstate,
                        txHdr := x.txHdr.set i.cls (x.txHdr.getD i.cls 0 - 1),
                        txData := x.txData.set i.cls (x.txData.getD i.cls 0 - ceilDiv (payloadLen i.tlp) 16) }

/-- The item may start at egress (R67, R68) and the guard of its bucket is over (R222). -/
def mayLeave (i : Item) (d : Device) : Bool :=
  (decide (i.stage = .buffered) || (decide (i.stage = .crossing) && !i.stored && decide (0 < i.poolCells + i.rsvCells))) &&
    (match i.fab with
     | some f => i.rma.isSome || decide (kindOf i = 2) || decide (kindOf i = 3) || !bucketGuarded f.dstFid f.flow d
     | none => true)

/-- No item of its stream that has not been selected yet holds the item back (R64). -/
def inOrder (i : Item) (d : Device) : Bool :=
  !d.items.any fun j => decide (j.stage ≠ .sending) && decide (j.stage ≠ .replay) && holdsBack j i

/-- The oldest item of a list, in order of admission. -/
def oldestItem : List Item → Option Item
  | [] => none
  | i :: rest => some (rest.foldl (fun a b => if b.order < a.order then b else a) i)

/-- Items of a queue that may go but for link credit, and its candidate (R287): the oldest that has credit as well. -/
def offered (n q : Nat) (d : Device) : List Item :=
  d.items.filter fun i => decide (i.egress = n) && decide (i.queue = q) && mayLeave i d && inOrder i d
def candidate (n q : Nat) (d : Device) : Option Item := oldestItem ((offered n q d).filter fun i => hasCredit n i d)

/-- A shaped queue is eligible (R288). -/
def queueEligible (e : EQueue) : Bool := !e.cfg.shaped || (decide (0 < e.p) && (decide (0 < e.c) || decide (0 < e.s)))

/-- The queue that sends among those with a candidate (R289), and whether the second step chose it. -/
def chooseAmong (n : Nat) (cs : List (Nat × Item)) (d : Device) : Option (Nat × Item × Bool) :=
  match cs.reverse.find? (fun x => queueEligible (d.equeue n x.1)) with
  | some x => some (x.1, x.2, false)
  | none =>
    let ps := cs.filter fun x => decide (0 < (d.equeue n x.1).p)
    match ps with
    | [] => none
    | x :: rest =>
      let y := rest.foldl (fun a b => if (d.equeue n a.1).s ≤ (d.equeue n b.1).s then b else a) x
      some (y.1, y.2, true)

/-- The candidates of a port's queues, and the queue that sends. -/
def candidates (n : Nat) (d : Device) : List (Nat × Item) := (List.range 8).filterMap fun q => (candidate n q d).map fun i => (q, i)
def chooseQueue (n : Nat) (d : Device) : Option (Nat × Item × Bool) := chooseAmong n (candidates n d) d

/-- Debit a shaped queue (R290), in 1/64 B. -/
def debit (charge : Nat) (e : EQueue) : EQueue :=
  let k : Int := 64 * (charge : Int)
  let smax : Int := 16384 * (e.cfg.smax : Int)
  if 0 < e.c then { e with p := e.p - k, c := e.c - k } else { e with p := e.p - k, s := max (-smax) (e.s - k) }

/-- A proxy tag (R99, R122): any value of the pool that no outstanding request of the pool holds. -/
def usedTags (i : Item) (d : Device) : List Nat :=
  (d.tracks.filter fun t => !t.answered &&
    (if i.window.isSome then t.window.isSome && decide (t.part = i.part) else t.steer.isSome && decide (t.port = i.egress))).map (·.tag) ++
    (d.items.filter fun j => decide (j.stage = .sending) && decide (j.cls = 1) &&
      (if i.window.isSome then j.window.isSome && decide (j.part = i.part) else j.steer.isSome &&
        decide (j.egress = i.egress))).map (·.tlp.tag)
def proxyTag (i : Item) (d : Device) : Nat × Device :=
  let size := proxyPool i d
  let v := d.fresh size
  let used := usedTags i d
  let t := ((List.range size).map fun k => (v.1 + k) % size).find? fun t => !used.contains t
  (t.getD v.1, v.2)

/-- The request takes a proxy tag: it is translated, or goes to a steered VF. -/
def proxied (i : Item) (d : Device) : Bool :=
  decide (i.cls = 1) && (i.window.isSome || (i.steer.isSome && decide (i.egress < 96) && decide ((d.port i.egress).personality = .dsp)))

/-- DPC triggers at a DSP (R321, R328): link Disabled, its items handled as on link loss, the bridge and PRT told. -/
def dpcTrigger (n reason : Nat) (d : Device) : Device :=
  if (d.port n).personality = .dsp ∧ (d.pci n).dpc = false then
    let d := d.setPci n { d.pci n with dpc := true, dpcReason := reason }
    portRaise n 8 (pcieDown n .dpc d)
  else if (d.port n).personality = .dsp then d
  else strayEvent n d

/-- Check of a tag at selection (R308). -/
def tagRefused (n : Nat) (i : Item) (d : Device) : Bool :=
  decide (n < 96) && decide ((d.port n).personality ≠ .pfl) && decide (i.cls = 1) && !(d.pci n).flit && decide (1023 < i.tlp.tag)

/-- The bridge where an item entered. -/
def entryKey (i : Item) (d : Device) : Nat :=
  if i.ingress < 96 ∧ (d.port i.ingress).personality = .dsp then portKey i.ingress d else upstreamKey i.part

/-- EGRESS_SELECTION (R287–R290). -/
def egressSelection (n : Nat) (d : Device) : Device :=
  if (d.eport n).sending.isSome then d
  else match chooseQueue n d with
    | none => d
    | some (q, i0, idle) =>
      let tag := if proxied i0 d then proxyTag i0 d else (i0.tlp.tag, d)
      let i := { i0 with tlp := { i0.tlp with tag := tag.1 } }
      let d := tag.2
      if tagRefused n i d then
        let x := d.pci n
        let d := removeItem i.id (d.setPci n { x with tagUr := satAdd 0xFF x.tagUr 1 })
        refuseItem i (entryKey i d) 20 .ur (traceEnd i 5 d)
      else if i.tlp.poisoned ∧ n < 96 ∧ (d.port n).personality = .dsp ∧ bitOf (d.bridge (portKey n d)).dpcControl 5 then
        dpcTrigger n 0 d
      else
        let e := d.equeue n q
        let charge := payloadLen i.tlp + (d.eport n).overhead
        let committed := decide (0 < e.c)
        let d := if e.cfg.shaped then d.setEqueue n q (debit charge e) else d
        let d := d.setEport n { d.eport n with sending := some i.id, lastQ := q }
        let count := fun (ev : Nat) (d : Device) =>
          countEvent { ev := ev, port := n, q := q, cls := i.cls, part := i.srcPart, count := 1 } (some i.id) d
        let d := count 0x050 d
        let d := if e.cfg.shaped then count (if committed then 0x051 else 0x052) d else d
        let d := if idle then count 0x053 d else d
        traceStage i.id 6 (useCredit n i (putItem { i with stage := .sending } d))

def execEgressSelection (port : Nat) (s : State) : Host.Outcome State Fault Refusal := done s (egressSelection port s.dev)

/-- The last cell of the item that a port sends has left the egress point (R63). A request that enters the tracker keeps its
proxy tag there, also one for the target partition's own functions (R122). (DEDUCED, log entry 21) -/
def itemEgress (id : Nat) (d : Device) : Device :=
  match findItem id d with
  | none => d
  | some i =>
    if i.stage = .sending ∧ i.inCells + i.holdCells = 0 then
      let n := i.egress
      let pfl := decide (n < 96) && decide ((d.port n).personality = .pfl)
      let d := d.setEport n { d.eport n with sending := none }
      let fab := if pfl then i.fab.map fun _ => leavingFab i else none
      let d := if n < 96 then emit (.item n i.tlp fab) d else d
      let d := if i.cls = 1 ∧ i.rma.isNone ∧ (n < 96 ∨ i.window.isSome) then { d with tracks := d.tracks ++ [trackOf i d] } else d
      let o : Occurrence := { ev := 0x001, port := n, q := i.queue, cls := i.cls, part := i.srcPart, count := 1 }
      let d := countEvent { o with ev := if i.stored then 0x014 else 0x013 } (some id)
        (countEvent { o with ev := 0x002, count := cellsOf (payloadLen i.tlp) } (some id) (countEvent o (some id) d))
      let d := countFixed n 1 (payloadLen i.tlp) (countFixed n 0 1 d)
      let d := traceEnd i (if i.tlp.poisoned then 4 else 0) (traceStage id 7 d)
      match fab with
      | some f =>
        let d := if i.rma.isSome ∨ kindOf i = 2 ∨ kindOf i = 3 then d else bucketSent f.dstFid f.flow n d
        let d := if i.cls = 0 ∧ kindOf i = 0 then
            let recent := d.fab.sentPosted.filter fun e => decide (d.now < e.2.2 + msNs)
            { d with fab := { d.fab with sentPosted := (f.dstFid, i.part, d.now) :: recent } }
          else d
        putItem { i with stage := .replay, poolCells := 0, rsvCells := 0, slot := false, sharedSlot := false } d
      | none => giveSlots (removeItem id d)
    else d

/-- UPDATEFC: the partner returns credit (R287). -/
def execUpdatefc (port : Nat) (cls : Nat) (hdr : Nat) (data : Nat) (s : State) : Host.Outcome State Fault Refusal :=
  let d := s.dev
  let x := d.pci port
  done s (if cls < 3 ∧ lstateUp x.lstate then
      d.setPci port { x with txHdr := addClass x.txHdr cls hdr, txData := addClass x.txData cls data }
    else d)

/-- Posted headers a port may still advertise within its PORT_LIMIT (R237). -/
def postedRoom (n owed : Nat) (d : Device) : Nat :=
  let p := (d.port n).holder
  let j := d.journal p
  if p = 0 ∧ j.entries = 0 then owed else min owed (j.portLimit * 64 - sourceHeld p n d)

/-- UPDATEFC_REFRESH (R309): the S96 sends an UpdateFC with the credit freed since the last one; a shaft that holds the die's
traffic back withholds it (R14). -/
def execUpdatefcRefresh (port : Nat) (cls : Nat) (s : State) : Host.Outcome State Fault Refusal :=
  let d := s.dev
  let x := d.pci port
  let hdr := if cls = 0 then postedRoom port (x.owedHdr.getD 0 0) d else x.owedHdr.getD cls 0
  done s (if cls < 3 ∧ lstateUp x.lstate ∧ shaftHolds false port d = false then
      let y := { x with owed := x.owed.set cls 0, owedHdr := x.owedHdr.set cls (x.owedHdr.getD cls 0 - hdr),
                        fcSentAt := x.fcSentAt.set cls d.now, fcSent := x.fcSent + 1 }
      emit (.updateFc port cls hdr (x.owed.getD cls 0)) (d.setPci port y)
    else d)

/-- Bounds of a shape's levels, in 1/64 B. -/
def levelBound (units : Nat) : Int := 16384 * (units : Int)

/-- Levels of an unshaped queue (R293). -/
def unshapedLevels (e : EQueue) : EQueue := { e with c := levelBound e.cfg.cbs, p := levelBound e.cfg.pbs, s := 0 }

/-- New settings come into force at a refill (R295). -/
def applyShape (e : EQueue) : EQueue :=
  match e.next with
  | none => e
  | some g =>
    let x := { e with cfg := g, next := none }
    if g.shaped = false then unshapedLevels x
    else if e.cfg.shaped = false then { x with c := if g.cir = 0 then 0 else levelBound g.cbs, p := levelBound g.pbs, s := 0 }
    else { x with c := min e.c (levelBound g.cbs), p := min e.p (levelBound g.pbs),
                  s := max (-(levelBound g.smax)) (min e.s (levelBound g.smax)) }

/-- One refill (Table 10.1). A rate of R Mb/s adds R units of 1/64 B. -/
def refill (backlogged : Bool) (e0 : EQueue) : EQueue :=
  let e := applyShape e0
  let g := e.cfg
  if g.shaped = false then unshapedLevels e
  else
    let c := if g.cir = 0 then 0 else min (levelBound g.cbs) (e.c + (g.cir : Int))
    let p := if g.pir = 0 then levelBound g.pbs else min (levelBound g.pbs) (e.p + (g.pir : Int))
    let s : Int := if backlogged then min (levelBound g.smax) (e.s + (g.steep : Int))
      else if 0 ≤ e.s then 0 else min 0 (e.s + (g.steep : Int))
    { e with c := c, p := p, s := s }

/-- SHP_SET commands that take effect at this refill are answered with its device time (R295, R299). -/
def answerShapes (d : Device) : Device :=
  (d.kme.execs.filter fun e => decide (e.op = 0x0801) && e.applied).foldl
    (fun d e => finishExec e (ansOk (natLe 8 d.devTime.toNat)) d) d

/-- SHAPER_REFILL (R291, R292): the next boundary of 125 ns, once it has passed. -/
def shaperRefill (d : Device) : Device :=
  if (d.shp.refills + 1) * 125 ≤ d.now then
    let d0 := d
    let qs := d.equeues.map fun e => (e.1, refill ((candidate (e.1 / 8) (e.1 % 8) d0).isSome) e.2)
    let es := d.eports.map fun e => match e.2.nextMap with
      | some m => (e.1, { e.2 with overhead := m.1, tcMap := m.2, nextMap := none })
      | none => e
    let d := { d with equeues := qs.filter fun e => decide (e.2 ≠ equeueReset), eports := es.filter fun e => decide (e.2 ≠ eportReset),
                      shp := { d.shp with refills := d.shp.refills + 1 } }
    answerShapes d
  else d

def execShaperRefill (s : State) : Host.Outcome State Fault Refusal := done s (shaperRefill s.dev)

/-- Settings that SHP_SET names (Table 10.4). -/
def shapeAsked (p : List Byte) : Shape :=
  { shaped := bitOf (u8 p 2) 0, cir := u32 p 4, pir := u32 p 8, steep := u32 p 12, cbs := u16 p 16, pbs := u16 p 18, smax := u16 p 20 }

/-- SHP_SET (R295, R299, R300). (DEDUCED, log entry 17) -/
def shpSet (c : Cmd) (d : Device) : Device × Option Ans :=
  let p := c.params
  let t := c.target.toNat
  let kind := u8 p 0
  let map := bitOf (u8 p 2) 1
  let size := fun (v : Nat) => decide (1 ≤ v) && decide (v ≤ 16384)
  let x := d.port t
  let busy := decide (kind = 0) && map && (decide (x.personality = .usp) || decide (x.personality = .dsp)) && linkUp t d &&
    decide ((d.part x.holder).state ≠ .quiesced)
  checked
    [ failIf (decide (p.length ≠ 32)) (ansLen 32),
      failIf (decide (kind = 0) && !(portExists t d || (decide (96 ≤ t) && decide (t ≤ 100)))) (ansBad 0xFF08),
      failIf (decide (kind = 1) && !(d.qps.any fun e => decide (e.1 = t))) (ansBad 0xFF08),
      failIf (decide (c.param0 ≠ 0)) (ansBad 0xFF0C), failIf (decide (1 < kind) || (decide (kind = 1) && map)) (ansBad 0),
      failIf (if kind = 0 then decide (u8 p 1 = 0) else decide (u8 p 1 ≠ 0)) (ansBad 1), failIf (decide (4 ≤ u8 p 2)) (ansBad 2),
      failIf (decide (2048000 < u32 p 4) || (decide (u32 p 8 ≠ 0) && decide (u32 p 8 < u32 p 4))) (ansBad 4),
      failIf (decide (2048000 < u32 p 8)) (ansBad 8),
      failIf (decide (2048000 < u32 p 12)) (ansBad 12),
      failIf (!size (u16 p 16)) (ansBad 16), failIf (!size (u16 p 18)) (ansBad 18), failIf (!size (u16 p 20)) (ansBad 20),
      failIf (!zeros p 22 2) (ansBad 22), failIf (decide (2 ^ 24 ≤ u32 p 24)) (ansBad 24), failIf (!zeros p 28 4) (ansBad 28),
      failIf busy ansNo ] (fun d =>
    let g := shapeAsked p
    if kind = 1 then
      match d.qps.find? fun e => e.1 = t with
      | some e => ({ d with qps := tinsert t { e.2 with shape := { e.2.shape with next := some g } } d.qps },
                   some (ansOk (natLe 8 d.devTime.toNat)))
      | none => (d, some (ansBad 0xFF08))
    else
      let d := (List.range 8).foldl (fun d q =>
        if bitOf (u8 p 1) q then d.setEqueue t q { d.equeue t q with next := some g } else d) d
      let d := if map then d.setEport t { d.eport t with nextMap := some (u8 p 3, BitVec.ofNat 24 (u32 p 24)) } else d
      (markApplied 0x0801 c d, none)) d

def execShpSet (c : Cmd) (s : State) : Host.Outcome State Fault Refusal := done s (runPacket 0x0801 (shpSet c) c s.dev)

/-- The ports that sampling takes: those of the mask that no merge has absorbed. -/
def sampledPorts (mask : Nat) (d : Device) : List Nat :=
  (List.range 101).filter fun n => bitOf mask n && (decide (96 ≤ n) || portExists n d)

/-- SHP_SAMPLE_SET (R302). -/
def shpSampleSet (c : Cmd) (d : Device) : Device × Option Ans :=
  let p := c.params
  let reg := bitOf (u8 p 42) 0
  let ports := sampledPorts (maskOf p 24) d
  checked
    [ failIf (decide (p.length ≠ 48)) (ansLen 48), headerZero c,
      failIf (!reg && decide (u64 p 0 % 4096 ≠ 0)) (ansBad 0), failIf (!reg && decide (u64 p 8 % 4 ≠ 0)) (ansBad 8),
      failIf (!reg && !ringSize (u32 p 16) 256 1048576) (ansBad 16),
      failIf (decide (u32 p 20 = 0) || decide (1000000 < u32 p 20)) (ansBad 20),
      failIf (decide (2 ^ 101 ≤ maskOf p 24)) (ansBad 24), failIf (!reg && !mgrVector (u16 p 40)) (ansBad 40),
      failIf (decide (2 ≤ u8 p 42)) (ansBad 42), failIf (!zeros p 43 5) (ansBad 43),
      failIf (decide (u32 p 20 < ceilDiv ports.length 16)) (ansBad 20) ] (fun d =>
    let on := reg || decide (u32 p 16 ≠ 0)
    let r : Ring := { on := on, base := if reg then 0 else u64 p 0, consAddr := if reg then 0 else u64 p 8,
                      entries := if reg then 0 else u32 p 16, intervalUs := u32 p 20, vector := if reg then 0xFFFF else u16 p 40,
                      index := 0, prod := 0, cons := 0, lost := d.shp.ring.lost, first := true,
                      lastMultiple := d.devTime.toNat / (u32 p 20 * usNs) }
    ({ d with shp := { d.shp with ring := r, portMask := maskOf p 24, regOnly := reg } },
      some (ansOk (natLe 4 (if reg then 0 else ports.length))))) d

def execShpSampleSet (c : Cmd) (s : State) : Host.Outcome State Fault Refusal :=
  done s (runPacket 0x0802 (shpSampleSet c) c s.dev)

/-- DEPTH and HEAD_DELAY of a queue (R301). -/
def queueDepth (n q : Nat) (d : Device) : Nat :=
  ((d.items.filter fun i => decide (i.egress = n) && decide (i.queue = q)).map fun i => i.poolCells + i.rsvCells).foldl (· + ·) 0
def headDelay (n q : Nat) (d : Device) : Nat :=
  let mine := d.items.filter fun i => decide (i.egress = n) && decide (i.queue = q) && decide (0 < i.poolCells + i.rsvCells)
  match mine with
  | [] => 0
  | i :: rest =>
    let t := rest.foldl (fun a j => min a j.admittedAt) i.admittedAt
    min ((d.now - t) / 8) 0xFFFFFF

/-- A sample record (Table 10.6). -/
def sampleRecord (n phase : Nat) (d : Device) : List Byte :=
  natLe 8 d.devTime.toNat ++ natLe 1 n ++ natLe 1 (phase + 2 * natOfBool d.shp.ring.first) ++ natLe 6 0 ++
    ((List.range 8).map fun q => natLe 3 (queueDepth n q d) ++ natLe 3 (headDelay n q d)).flatten

/-- Take a sample (R301, R303): into the registers, and unless REG_ONLY into the ring, or it is skipped as a whole. -/
def takeSample (d : Device) : Device :=
  let ports := sampledPorts d.shp.portMask d
  let d0 := d
  let d := ports.foldl (fun d n => (List.range 8).foldl (fun d q =>
    d.setEqueue n q { d.equeue n q with depth := queueDepth n q d0, delay := headDelay n q d0 }) d) d
  let r := { d.shp.ring with lastMultiple := d.devTime.toNat / (d.shp.ring.intervalUs * usNs) }
  if d.shp.regOnly then { d with shp := { d.shp with ring := r } }
  else if ringRoom r ports.length then
    let recs := (List.range ports.length).map fun i => sampleRecord (ports.getD i 0) (ringPhase r i) d0
    let w := ringWrite r 64 recs d
    { w.2 with shp := { w.2.shp with ring := w.1 } }
  else
    { d with shp := { d.shp with ring := { r with lost := satAdd 0xFFFFFFFF r.lost 1 }, intStatus := 1 } }

/-- SHP_SAMPLE (R301): at a device time that is a multiple of INTERVAL_US, once. -/
def execShpSample (s : State) : Host.Outcome State Fault Refusal :=
  let d := s.dev
  let r := d.shp.ring
  done s (if r.on ∧ r.lastMultiple < d.devTime.toNat / (r.intervalUs * usNs) then takeSample d else d)

/-- A consumed count is taken when it lies from the last value read to PROD (R235). (DESIGN CHOICE, log entry 22) -/
def takesCons (old prod v : W32) : Bool := decide ((v - old).toNat ≤ (prod - old).toNat)

/-- A ring's consumed count after a read. (DESIGN CHOICE, log entry 22) -/
def ringCons (r : Ring) (v : W32) : Ring := if takesCons r.cons r.prod v then { r with cons := v } else r

/-- A source of the partition is blocked (R237): it holds all its PORT_LIMIT slots, or an item waits for a shared one. -/
def slotBlocked (p : Nat) (d : Device) : Bool :=
  let full := fun src => decide ((d.journal p).portLimit * 64 ≤ sourceHeld p src d)
  (d.items.any fun i => decide (i.part = p) && decide (i.stage = .voq) && needsSlot i d && !i.slot && !i.sharedSlot) ||
    full 96 || (portsOf p d).any full

/-- A ring's consumed count is read every 100 µs while unconsumed entries exist (R235, R303, R466).
(DESIGN CHOICE, log entry 22; DESIGN CHOICE, log entry 72) -/
def pollDue (ring : Nat) (prod cons : W32) (d : Device) : Bool :=
  decide (prod ≠ cons) && isDue (.consPoll ring) (100 * usNs) d

/-- CONS_ADDR_POLL of a journal (R235, R239): every 100 µs, and at once when a source is blocked.
(DESIGN CHOICE, log entry 22) -/
def journalPoll (p : Nat) (value : Option W32) (d : Device) : Device :=
  let j := d.journal p
  match journalPort p j d with
  | none => d
  | some u =>
    if j.entries ≠ 0 ∧ linkUp u d = true ∧ (pollDue p j.prod j.cons d || slotBlocked p d) = true then
      let d := ranNow (.consPoll p) (emit (.hostRead u j.consAddr 4) d)
      match value with
      | none => d
      | some v =>
        if takesCons j.cons j.prod v then
          giveSlots (d.setJournal p { j with cons := v, owed := j.owed.drop (v - j.cons).toNat })
        else d
    else d

/-- CONS_ADDR_POLL of a ring of the manager's memory (R303, R466). (DESIGN CHOICE, log entry 22) -/
def ringPoll (ring : Nat) (r : Ring) (value : Option W32) (d : Device) : Ring × Device :=
  let mgr := (uspOf 0 d).getD 0x7F
  if r.entries ≠ 0 ∧ linkUp mgr d = true ∧ pollDue ring r.prod r.cons d = true then
    (ringCons r (value.getD r.cons), ranNow (.consPoll ring) (emit (.hostRead mgr r.consAddr 4) d))
  else (r, d)

/-- CONS_ADDR_POLL (R235, R239, R303, R466): the S96 reads a ring's consumed count. Rings 0–48 are the journals, 64 queue
sampling, 65 the dump, 66 the trace. A read that cannot be delivered leaves the count. (DESIGN CHOICE, log entry 22) -/
def consPoll (ring : Nat) (value : Option W32) (d : Device) : Device :=
  if ring ≤ 48 then journalPoll ring value d
  else if ring = 64 then
    let r := ringPoll 64 d.shp.ring value d
    { r.2 with shp := { r.2.shp with ring := r.1 } }
  else if ring = 65 then
    let r := ringPoll 65 d.cnt.dump value d
    { r.2 with cnt := { r.2.cnt with dump := r.1 } }
  else if ring = 66 then
    let r := ringPoll 66 d.cnt.tag value d
    { r.2 with cnt := { r.2.cnt with tag := r.1 } }
  else d

def execConsAddrPoll (ring : Nat) (value : Option W32) (s : State) : Host.Outcome State Fault Refusal :=
  done s (consPoll ring value s.dev)

end Sys2Proof.Machine
end

