-- ==== Sys2Proof/Machine/RmaOps.lean ====
section
/-! DEFINITION. Machine/RmaOps.lean: the parts of the RMA engine that its meanings share (chapter 9): contexts, keys, host
memory through translations, completions, the entry to ERROR, the backing store. -/

namespace Sys2Proof.Machine

/-- The engine runs a QP (Table 9.7). -/
def qpRuns (q : Qp) (d : Device) : Bool := decide (q.state = .rts) && fnEnabled q.fn d

/-- The 4 KiB pages of a range. -/
def pagesOf (a len : Nat) : List Nat := (List.range (ceilDiv (a % 4096 + max len 1) 4096)).map fun k => a / 4096 + k

/-- Whether an access may go: 0 yes, 1 a translation is missing, 2 the translation grants no permission (R365–R367). -/
def atsVerdict (f : Fn) (write : Bool) (a len : Nat) (d : Device) : Nat :=
  if (d.func f).atsEnable = false then 0
  else
    let es := (pagesOf a len).map fun g => atsFind f (g * 4096) d
    if es.any (fun e => match e with
      | some x => !(if write then x.write else x.read)
      | none => false) then 2
    else if es.any (·.isNone) then 1 else 0

/-- A memory request of the RMA engine for a function (R23): it carries the translated address where the cache has one
(R365). -/
def engineTlp (k : Kind) (f : Fn) (a : Nat) (len : Nat) (data : List Byte) (d : Device) : Tlp :=
  { requestTlp k f (hostAddr f a d) len data d with addrType := if (d.func f).atsEnable && (atsFind f a d).isSome then 2 else 0 }

/-- A tag of a function that no read of it holds and no FLR bars (R373). -/
def engineTag (f : Fn) (d : Device) : Nat × Device :=
  let used := ((d.issued.filter fun a => decide (a.fn = some f)).map (·.tlp.tag)) ++
    ((d.items.filter fun i => decide (i.fn = some f)).map (·.srcTag)) ++
    ((d.tracks.filter fun t => decide (t.fn = some f)).map (·.nearTag)) ++
    (((d.func f).oldTags.filter fun t => decide (d.now < t.2 + 50 * msNs)).map (·.1))
  let v := d.fresh 16384
  let t := ((List.range (used.length + 1)).map fun k => (v.1 + k) % 16384).find? fun t => !used.contains t
  (t.getD v.1, v.2)

/-- The cache replaces its least recently used entries: the list is in order of use, newest first (R366). -/
def atsUse (f : Fn) (a : Nat) (d : Device) : Device :=
  match (if (d.func f).atsEnable then atsFind f a d else none) with
  | some e => { d with ats := e :: d.ats.erase e }
  | none => d

/-- Write host memory for a function from the slice of context n (R23). -/
def fnWrite (n : Nat) (f : Fn) (a : Nat) (data : List Byte) (d : Device) : Device :=
  issue (slicePort n) (some f) (engineTlp .memWrite f a data.length data d) none (atsUse f a d)

/-- A read of a function leaves with a tag that none of its reads holds. -/
def issueRead (n : Nat) (f : Fn) (t : Tlp) (d : Device) : Device :=
  let v := engineTag f d
  issue (slicePort n) (some f) { t with tag := v.1 } none v.2

/-- Read host memory for a function, cut at 4 KiB boundaries. -/
def fnRead (n : Nat) (f : Fn) (a len : Nat) (d : Device) : Device :=
  (cutRange 4096 (len / 4096 + 3) a len).foldl (fun d c => issueRead n f (engineTlp .memRead f c.1 c.2 [] d) (atsUse f c.1 d)) d

/-- A request of a function to a range of its memory, or the completion of one, is still inside the device or unanswered. -/
def accessOut (f : Fn) (a len : Nat) (d : Device) : Bool :=
  let at_ := fun (x : Nat) => coversAddr f a len x d
  d.issued.any (fun x => decide (x.fn = some f) && x.rma.isNone && at_ x.tlp.addr) ||
    d.items.any (fun i => decide (i.fn = some f) && i.rma.isNone && decide (i.stage ≠ .replay) && at_ i.srcAddr) ||
    d.tracks.any fun t => decide (t.fn = some f) && !t.answered && at_ t.addr

/-- Ask for the translations that an access lacks; a page that is asked for already is not asked for again (R365). The
Translation Request passes through the device as the function's reads do (R366). -/
def atsHold (f : Fn) (qpn use a len : Nat) (held : Option RmaHdr) (d : Device) : Device :=
  ((pagesOf a len).filter fun g => (atsFind f (g * 4096) d).isNone).foldl (fun d g =>
    let x : AtsAsk := { fn := f, page := g, qpn := qpn, use := use, held := held }
    let d := if d.atsAsks.any (fun y => decide (y.fn = f) && decide (y.page = g)) then d
      else issueRead qpn f (engineTlp .transReq f (g * 4096) 8 [] d) d
    if d.atsAsks.contains x then d else countGlobal 0x104 0x3F 1 { d with atsAsks := d.atsAsks ++ [x] }) d
def atsAsk (f : Fn) (qpn use a len : Nat) (d : Device) : Device := atsHold f qpn use a len none d

/-- Rights of a region (R257). -/
def localWrite : Nat := 0
def remoteRead : Nat := 1
def remoteWrite : Nat := 2
def remoteAtomic : Nat := 3

/-- A key admits an access of a QP (R259). -/
def keyAdmits (q : Qp) (key : Nat) (right : Option Nat) (a len : Nat) (d : Device) : Bool :=
  let x := d.region (key / 256)
  let allowed : Bool := match right with
    | none => true
    | some b => bitOf x.rights b
  x.inUse && decide (x.variant = key % 256) && decide (x.fn = q.fn) && decide (x.pd = q.pd) && allowed && decide (x.base ≤ a) &&
    decide (a + len ≤ x.base + x.length)

/-- The pieces of a message cut at 4 KiB boundaries (R266): address and bytes; one empty piece when LENGTH is 0. -/
def messageCuts (a len : Nat) : List (Nat × Nat) := cutRange 4096 (len / 4096 + 3) a len

/-- A send queue entry as its 64 bytes lie in host memory (R7, Table 9.1). -/
def wqeOf (b : List Byte) : Wqe :=
  { op := u8 b 0, flags := u8 b 1, length := u32 b 4, wrId := u64 b 8, localAddr := u64 b 16, localKey := u32 b 24, remoteKey := u32 b 28,
    remoteAddr := u64 b 32, imm := u32 b 40, operand1 := u64 b 48, operand2 := u64 b 56 }

/-- PSNs that a work request takes (R266). -/
def psnsOf (w : Wqe) : Nat :=
  if isAtomicOp w.op then 1
  else max 1 (ceilDiv ((if isWriteOp w.op then w.remoteAddr else w.localAddr) % 4096 + w.length) 4096)

/-- Items that a request sends: its segments, or the one request. -/
def itemsOf (r : WorkReq) : Nat := if isWriteOp r.wqe.op then r.psns else 1

/-- Send an ACK or NAK_MISSING: it covers every completion so far (R275). -/
def sendAck (n syndrome psn : Nat) (d : Device) : Device :=
  match d.qp n with
  | none => d
  | some q =>
    let d := sendRma n (ackHdr n syndrome psn q d) d
    d.putQp n { q with sinceAck := 0, uncoveredAt := none }

/-- The bytes of a request that have moved: placed by responses, or acknowledged. -/
def movedBytes (q : Qp) (r : WorkReq) : Nat :=
  let w := r.wqe
  if isWriteOp w.op then
    let open_ := (q.unacked.filter fun s => decide (s.hdr.msgPsn = r.firstPsn)).map fun s => s.hdr.msgOffset
    let cuts := (messageCuts w.remoteAddr w.length).take r.sent
    ((cuts.filter fun c => !open_.contains (c.1 - w.remoteAddr)).map (·.2)).foldl (· + ·) 0
  else if isAtomicOp w.op then (if r.placed = [] then 0 else 8)
  else
    let cuts := messageCuts w.localAddr w.length
    ((List.range cuts.length).filterMap fun i =>
      if r.placed.contains (psnAdd r.firstPsn i) then (cuts[i]?).map (·.2) else none).foldl (· + ·) 0

/-- A completion queue entry (Table 9.2). -/
def cqeBytes (wrId qpn op len imm status flags psn : Nat) : List Byte :=
  natLe 8 wrId ++ natLe 4 (qpn + op * 2 ^ 24) ++ natLe 4 len ++ natLe 4 imm ++ natLe 2 status ++ natLe 1 flags ++ natLe 1 0 ++
    natLe 4 psn ++ natLe 4 0

/-- Whether the next entry of a CQ can be written: 0 yes, 1 not yet, 2 its translation fails (R362, R367). -/
def cqVerdict (cqn : Nat) (d : Device) : Nat :=
  match d.cq cqn with
  | none => 1
  | some c => if fnEnabled c.fn d then atsVerdict c.fn true (c.base + (c.prod % c.depth) * 32) 32 d else 1

/-- Ask for the translation that the next entry of a CQ lacks. -/
def cqAsk (n cqn : Nat) (d : Device) : Device :=
  match d.cq cqn with
  | none => d
  | some c => if fnEnabled c.fn d then atsAsk c.fn n 4 (c.base + (c.prod % c.depth) * 32) 32 d else d

/-- Write the next entry of a CQ: one posted write, with PHASE 1 on even laps; ARM sends the vector once (R263). `notice` is 1 +
the QP of a responder entry, 0 for a requester entry. -/
def writeCqe (n part cqn notice : Nat) (entry : Nat → List Byte) (d : Device) : Device :=
  match d.cq cqn with
  | none => d
  | some c =>
    let phase := natOfBool (decide (c.prod / c.depth % 2 = 0))
    let d := fnWrite n c.fn (c.base + (c.prod % c.depth) * 32) (entry phase) d
    let d := d.putCq cqn { c with prod := wrapAdd 32 c.prod 1, noticeOf := c.noticeOf ++ [notice], armed := false }
    let d := countPort 0x062 (slicePort n) 0 0 part 1 d
    if c.armed then sendVectorAt (slicePort n) c.fn c.vector d else d

/-- The head request of a QP ends with a status: its completion is written when it is signaled or fails (R269).
(DEDUCED, log entry 37) -/
def retire (n : Nat) (q : Qp) (r : WorkReq) (rest : List WorkReq) (status : Nat) (d : Device) : Device :=
  let w := r.wqe
  let written := decide (status ≠ 0) || bitOf w.flags 0
  let c := wrapAdd 32 q.completed 1
  let d := d.putQp n { q with reqs := rest, completed := c, freed := if written then c else q.freed }
  if written then
    let d := writeCqe n q.part q.cqn 0 (fun ph =>
      cqeBytes w.wrId n w.op (if status = 0 then w.length else movedBytes q r) 0 status ph r.firstPsn) d
    countPort 0x063 (slicePort n) 0 0 q.part (d.now - r.fetchedAt) d
  else d

/-- All PSNs of a request are acknowledged (R269). -/
def reqDone (q : Qp) (r : WorkReq) : Bool :=
  if isWriteOp r.wqe.op then decide (r.sent = r.psns) && !q.unacked.any (fun s => decide (s.hdr.msgPsn = r.firstPsn))
  else decide (r.placed.length = r.psns)

/-- What the responses of a request place has left the device, too (R269). -/
def reqEnded (q : Qp) (r : WorkReq) (d : Device) : Bool :=
  reqDone q r && (isWriteOp r.wqe.op || !accessOut q.fn r.wqe.localAddr (if isAtomicOp r.wqe.op then 8 else r.wqe.length) d)

/-- Completions in SQ order, as far as they have come (R269). -/
def completeHeads (n : Nat) : Nat → Device → Device
  | 0, d => d
  | fuel + 1, d =>
    match d.qp n with
    | none => d
    | some q =>
      match q.reqs with
      | [] => d
      | r :: rest =>
        if decide (q.state = .rts) && reqEnded q r d then
          let v := if bitOf r.wqe.flags 0 then cqVerdict q.cqn d else 0
          if v = 0 then completeHeads n fuel (retire n q r rest 0 d)
          else if v = 1 then cqAsk n q.cqn d
          else toError n 0 none d
        else d

/-- Levels of a QP's shaper, brought up to the boundaries that have passed since its last evaluation (R292, R296). -/
def refillBy (k : Nat) (backlogged : Bool) (e : EQueue) : EQueue :=
  if k = 0 then e
  else
    let x := refill backlogged e
    let g := x.cfg
    let j : Int := ((k - 1 : Nat) : Int)
    if g.shaped = false then x
    else
      let c := if g.cir = 0 then 0 else min (levelBound g.cbs) (x.c + j * (g.cir : Int))
      let p := if g.pir = 0 then levelBound g.pbs else min (levelBound g.pbs) (x.p + j * (g.pir : Int))
      let s : Int := if backlogged then min (levelBound g.smax) (x.s + j * (g.steep : Int))
        else if 0 ≤ x.s then 0 else min 0 (x.s + j * (g.steep : Int))
      { x with c := c, p := p, s := s }

/-- The PSN of the next item that the QP has not sent yet. -/
def nextToSend (q : Qp) : Nat :=
  match q.reqs.find? fun r => decide (r.sent < itemsOf r) with
  | some r => psnAdd r.firstPsn r.sent
  | none => q.nextPsn

/-- The oldest PSN not yet acknowledged (R268). -/
def oldestPsn (q : Qp) : Nat :=
  match q.unacked with
  | [] => nextToSend q
  | s :: _ =>
    match q.reqs.find? fun r => decide (r.firstPsn = s.hdr.msgPsn) with
    | none => s.hdr.psn
    | some r =>
      if isWriteOp r.wqe.op then s.hdr.psn
      else ((List.range r.psns).map fun k => psnAdd r.firstPsn k).find? (fun p => !r.placed.contains p) |>.getD s.hdr.psn

/-- The local buffer that the next item of a request uses, and the right it needs (R259). -/
def localPart (r : WorkReq) : Nat × Nat × Option Nat :=
  let w := r.wqe
  if isWriteOp w.op then
    let c := ((messageCuts w.remoteAddr w.length)[r.sent]?).getD (w.remoteAddr, 0)
    (w.localAddr + (c.1 - w.remoteAddr), c.2, none)
  else (w.localAddr, w.length, some localWrite)

/-- A request may start its next item: FENCE, one atomic at a time, and the PSN window (Table 9.1, R268). -/
def mayStartItem (q : Qp) (r : WorkReq) (d : Device) : Bool :=
  let earlier := q.reqs.takeWhile fun x => decide (x.firstPsn ≠ r.firstPsn)
  let open_ := earlier.filter fun x => !isWriteOp x.wqe.op && !reqEnded q x d
  !(bitOf r.wqe.flags 1 && !open_.isEmpty) && !(isAtomicOp r.wqe.op && open_.any fun x => isAtomicOp x.wqe.op) &&
    decide (psnFrom (psnAdd r.firstPsn r.sent) (oldestPsn q) < 256)

/-- The first due retransmission. -/
def firstDue (q : Qp) (now : Nat) : Option SentSeg :=
  q.unacked.find? fun s => match s.dueAt with
    | some t => decide (t ≤ now)
    | none => false

/-- The next item of a request reads its source data first (R268). -/
def needsRead (r : WorkReq) : Bool := isWriteOp r.wqe.op && decide ((localPart r).2.1 ≠ 0)

/-- The source data of the next item of a request have been read. -/
def sourceRead (q : Qp) (r : WorkReq) (d : Device) : Bool :=
  let l := localPart r
  !needsRead r || (decide (q.reading = some (l.1, l.2.1)) && !accessOut q.fn l.1 l.2.1 d)

/-- The QP has a segment ready (R296): a retransmission is due, or its next item may start and its data have been read.
(DEDUCED, log entry 36) -/
def segmentReady (q : Qp) (d : Device) : Bool :=
  qpRuns q d && ((firstDue q d.now).isSome ||
    match q.reqs.find? fun r => decide (r.sent < itemsOf r) with
    | some r => mayStartItem q r d && sourceRead q r d
    | none => false)

/-- A QP's shaper as its evaluation finds it (R296). -/
def shapeNow (q : Qp) (d : Device) : EQueue := refillBy (d.now / 125 - q.evalAt / 125) (segmentReady q d) q.shape

def evalShape (n : Nat) (d : Device) : Device :=
  match d.qp n with
  | none => d
  | some q => d.putQp n { q with shape := shapeNow q d, evalAt := d.now }

/-- The QPs of a slice from which it chooses (R288, R289): those whose queue is eligible, of the highest QUEUE; else those with P
above 0 and the highest S, ties to the higher QUEUE. (DEDUCED, log entry 36) -/
def sliceBest (slice : Nat) (d : Device) : List (Nat × Qp) :=
  let ready := (d.qps.filter fun e => decide (e.1 % 4 = slice) && segmentReady e.2 d).map fun e => (e.1, { e.2 with shape := shapeNow e.2 d })
  let first := ready.filter fun e => queueEligible e.2.shape
  if first ≠ [] then first.filter fun e => first.all fun x => decide (x.2.queue ≤ e.2.queue)
  else
    let second := ready.filter fun e => decide (0 < e.2.shape.p)
    second.filter fun e => second.all fun x =>
      decide (x.2.shape.s < e.2.shape.s) || (decide (x.2.shape.s = e.2.shape.s) && decide (x.2.queue ≤ e.2.queue))

/-- The slice chooses this QP for its next segment (R296): QPs of equal QUEUE take turns, in the order of their numbers after the
one served last. -/
def sliceChooses (n : Nat) (q : Qp) (d : Device) : Bool :=
  let best := sliceBest (n % 4) d
  let turn := fun (m : Nat) => (m + 2 ^ 24 - 1 - tget (2 ^ 24 - 1) d.rma.lastServed (8 * (n % 4) + q.queue)) % 2 ^ 24
  best.any (fun e => decide (e.1 = n)) && best.all fun e => decide (turn n ≤ turn e.1)

/-- The slice has served a QP. -/
def served (n : Nat) (q : Qp) (d : Device) : Device :=
  { d with rma := { d.rma with lastServed := tinsert (8 * (n % 4) + q.queue) n d.rma.lastServed } }

/-- What an item is charged (R296). -/
def rmaCharge (h : RmaHdr) : Nat := if isWriteOp h.op then h.data.length + 64 else if isAtomicOp h.op then 80 else 64

/-- Debit a shaped QP. -/
def chargeQp (h : RmaHdr) (q : Qp) : Qp :=
  if q.shape.cfg.shaped then { q with shape := debit (rmaCharge h) q.shape } else q

/-- The peer's device can be reached. -/
def peerReachable (q : Qp) (d : Device) : Bool := decide (q.dstFid = d.glb.fid) || hasLivePath q.dstFid d

/-- Send the retransmissions that are due, as far as the shaper lets them (R270, R271). (DEDUCED, log entry 36) -/
def resendDue (n : Nat) : Nat → Device → Device
  | 0, d => d
  | fuel + 1, d =>
    match d.qp n with
    | none => d
    | some q =>
      match firstDue q d.now with
      | none => d
      | some s =>
        if qpRuns q d = false then d
        else if peerReachable q d = false then toError n 6 (some s.hdr.msgPsn) d
        else if sliceChooses n q d = false then d
        else
          let h := { s.hdr with retx := true }
          let s' : SentSeg := { hdr := h, lastSent := d.now, accepted := s.accepted, dueAt := none }
          let q := chargeQp h { q with unacked := q.unacked.map fun x => if x.hdr.psn = h.psn then s' else x }
          let d := countPort 0x061 (slicePort n) 0 0 q.part 1 (served n q (d.putQp n q))
          resendDue n fuel (sendRma n h d)

/-- Mark unacknowledged segments for retransmission, then send them. -/
def retransmit (n : Nat) (p : SentSeg → Bool) (d : Device) : Device :=
  match d.qp n with
  | none => d
  | some q =>
    let d := d.putQp n { q with unacked := q.unacked.map fun s => if p s then { s with dueAt := some d.now } else s }
    resendDue n q.unacked.length (evalShape n d)

/-- Resident slots (R253): 1,048,576 contexts and 524,288 region entries, less 32 or 64 for each caddy row without a spare
(R450, Table 16.7). They hold the most recently used entries (R255). (DEDUCED, log entry 38) -/
def residentSlots (region : Bool) (d : Device) : Nat :=
  let lost := (List.range (tget sparesReset d.can.spares 9).out).filter fun k => decide (Config.caddyRow k = !region)
  if region then 524288 - 64 * lost.length else 1048576 - 32 * lost.length
def backed (region : Bool) (d : Device) : Bool := if region then decide (d.rma.regCount ≠ 0) else decide (d.rma.ctxCount ≠ 0)
def usesOf (region : Bool) (d : Device) : List (Nat × Nat) :=
  if region then (d.regions.filter fun e => e.2.inUse).map fun e => (e.1, e.2.lastUse)
  else (d.qps.map fun e => (e.1, e.2.lastUse)) ++ d.cqs.map fun e => (e.1, e.2.lastUse)
def isResident (region : Bool) (n : Nat) (d : Device) : Bool :=
  !backed region d ||
    (let us := usesOf region d
     match us.find? fun e => decide (e.1 = n) with
     | none => true
     | some e => decide ((us.filter fun x => decide (e.2 < x.2)).length < residentSlots region d))

/-- Count a use of a context or region entry. (DEDUCED, log entry 38) -/
def touch (region : Bool) (n : Nat) (d : Device) : Device :=
  if backed region d = false then d
  else
    let u := d.rma.uses + 1
    let d := { d with rma := { d.rma with uses := u } }
    if region then
      if (d.region n).inUse then d.setRegion n { d.region n with lastUse := u } else d
    else match d.qp n with
      | some q => d.putQp n { q with lastUse := u }
      | none => match d.cq n with
        | some c => d.putCq n { c with lastUse := u }
        | none => d

/-- Address of a home slot (R253). -/
def homeSlot (region : Bool) (n : Nat) (d : Device) : Nat := if region then d.rma.regBase + n * 64 else d.rma.ctxBase + n * 128

/-- An item waits for an entry to be fetched; the first one starts the fetch (R255). (DEDUCED, log entry 38) -/
def startFetch (region : Bool) (n : Nat) (h : RmaHdr) (part : Nat) (d : Device) : Device :=
  let going := d.missWait.any fun m => decide (m.region = region) && decide (m.number = n)
  let m : MissWait := { region := region, number := n, since := d.now, hdr := h, part := part }
  let d := if going ∧ h.op = 0 then d else { d with missWait := d.missWait ++ [m] }
  if going then d
  else emit (.backing false region n (homeSlot region n d)) { d with rma := { d.rma with cntMiss := satAdd 0xFFFFFFFF d.rma.cntMiss 1 } }

/-- The entry that an item for QP `n` with key `key` lacks, if any. -/
def lacking (n : Nat) (key : Option Nat) (d : Device) : Option (Bool × Nat) :=
  if isResident false n d = false then some (false, n)
  else match key with
    | some k => if isResident true (k / 256) d = false then some (true, k / 256) else none
    | none => none

end Sys2Proof.Machine
end

