-- ==== Sys2Proof/Machine/Rma.lean ====
section
/-! DEFINITION. Machine/Rma.lean: the requester and the responder of the RMA engine (R262–R281), and the backing store's events. -/

namespace Sys2Proof.Machine

/-- A send queue entry that could not be read: its WR_ID is unknown. -/
def blankWqe (id : Nat) : Wqe :=
  { op := 0, flags := 0, length := 0, wrId := id, localAddr := 0, localKey := 0, remoteKey := 0, remoteAddr := 0, imm := 0,
    operand1 := 0, operand2 := 0 }

/-- OP and LENGTH of an entry are valid (Table 9.1, Table 9.3). -/
def wqeValid (w : Wqe) : Bool :=
  (decide (w.op = 1) || decide (w.op = 2) || decide (w.op = 3) || (isAtomicOp w.op && decide (w.length = 8))) &&
    decide (w.length ≤ 2 ^ 31)

/-- An entry is taken over: it gets its PSNs (R266). -/
def takeEntry (n : Nat) (q : Qp) (w : Wqe) (d : Device) : Device :=
  let k := psnsOf w
  let r : WorkReq := { wqe := w, firstPsn := q.nextPsn, psns := k, sent := 0, placed := [], fetchedAt := d.now }
  d.putQp n { q with reqs := q.reqs ++ [r], fetched := wrapAdd 32 q.fetched 1, nextPsn := psnAdd q.nextPsn k }

/-- The engine's read of a range for a QP: first the requests leave, then, once they have been answered, what they have read
is there. `true` when it is (R268). (DESIGN CHOICE, log entry 68) -/
def readReady (n : Nat) (q : Qp) (a len : Nat) (d : Device) : Device × Bool :=
  if q.reading = some (a, len) then
    if accessOut q.fn a len d then (d, false) else (d.putQp n { q with reading := none }, true)
  else (fnRead n q.fn a len (d.putQp n { q with reading := some (a, len) }), false)

/-- Fetch the next entry (R262, R268): `entry` holds its bytes, none after an error status. (DEDUCED, log entry 36) -/
def fetchEntry (n : Nat) (q : Qp) (entry : Option (List Byte)) (d : Device) : Device :=
  let a := q.sqBase + (q.fetched % q.sqDepth) * 64
  let fail := fun (q : Qp) (d : Device) =>
    let v := d.fresh (2 ^ 64)
    toError n 7 (some q.nextPsn) (takeEntry n q (blankWqe v.1) v.2)
  match atsVerdict q.fn false a 64 d with
  | 1 => atsAsk q.fn n 0 a 64 d
  | 2 => fail q d
  | _ =>
    let r := readReady n q a 64 d
    let q := { q with reading := none }
    if r.2 = false then r.1
    else match entry with
      | some b =>
        let e := takeEntry n q (wqeOf b) r.1
        if wqeValid (wqeOf b) then e else toError n 2 (some q.nextPsn) e
      | none => fail q r.1

/-- The header and data of item k of a request. -/
def itemHdr (n : Nat) (q : Qp) (r : WorkReq) (data : List Byte) (d : Device) : RmaHdr :=
  let w := r.wqe
  let h := { baseHdr n q w.op (psnAdd r.firstPsn r.sent) d with msgPsn := r.firstPsn, key := w.remoteKey }
  if isWriteOp w.op then
    let c := ((messageCuts w.remoteAddr w.length)[r.sent]?).getD (w.remoteAddr, 0)
    let last := decide (r.sent + 1 = r.psns)
    { h with address := c.1, msgOffset := c.1 - w.remoteAddr, last := last, totalLen := if last then w.length else 0,
             imm := if last ∧ w.op = 2 then w.imm else 0, data := data.take c.2 }
  else if isAtomicOp w.op then { h with address := w.remoteAddr, data := natLe 8 w.operand1 ++ natLe 8 w.operand2 }
  else { h with address := w.remoteAddr, totalLen := w.length, laddrLo := w.localAddr % 4096 }

/-- Send the next item of a request (R268), once its source data have been read and the slice chooses the QP (R296); `data` is
what the source read returned. -/
def sendNext (n : Nat) (q : Qp) (r : WorkReq) (data : List Byte) (d : Device) : Device :=
  let l := localPart r
  if mayStartItem q r d = false then d
  else if keyAdmits q r.wqe.localKey l.2.2 l.1 l.2.1 d = false then toError n 2 (some r.firstPsn) d
  else
    match (if needsRead r then atsVerdict q.fn false l.1 l.2.1 d else 0) with
    | 1 => atsAsk q.fn n 0 l.1 l.2.1 d
    | 2 => toError n 7 (some r.firstPsn) d
    | _ =>
      if sourceRead q r d = false then (readReady n q l.1 l.2.1 d).1
      else if sliceChooses n q d = false then d
      else if needsRead r = true ∧ data.length < l.2.1 then toError n 7 (some r.firstPsn) d
      else
        let h := itemHdr n q r data d
        let seg : SentSeg := { hdr := h, lastSent := d.now, accepted := false, dueAt := none }
        let q' := chargeQp h { q with
          reading := none, unacked := q.unacked ++ [seg], progressAt := if q.unacked = [] then d.now else q.progressAt,
          reqs := q.reqs.map fun x => if x.firstPsn = r.firstPsn then { x with sent := x.sent + 1 } else x }
        sendRma n h (served n q (d.putQp n q'))

/-- RMA_SEGMENT_SEND (R262, R268, R271). While the partition's fence holds, no further entry is fetched. -/
def segmentSend (n : Nat) (entry : Option (List Byte)) (data : List Byte) (d : Device) : Device :=
  match d.qp n with
  | none => d
  | some q0 =>
    if qpRuns q0 d = false then d
    else
      let next := fun (q : Qp) => q.reqs.find? fun r => decide (r.sent < itemsOf r)
      match lacking n ((next q0).map fun r => r.wqe.localKey) d with
      | some x => startFetch x.1 x.2 { baseHdr n q0 0 0 d with data := [] } q0.part d
      | none =>
        let d := completeHeads n q0.reqs.length (touch false n (evalShape n d))
        let d := resendDue n q0.unacked.length d
        match d.qp n with
        | none => d
        | some q =>
          if qpRuns q d = false then d
          else
            match next q with
            | some r => if peerReachable q d then sendNext n q r data d else toError n 6 (some r.firstPsn) d
            | none =>
              if q.fetched = q.sqPi ∨ d.fenced q.part = true then d
              else
                let d := fetchEntry n q entry d
                match d.qp n with
                | none => d
                | some q' =>
                  match (if q'.state = .rts then next q' else none) with
                  | some r => if peerReachable q' d then sendNext n q' r data d else toError n 6 (some r.firstPsn) d
                  | none => d

def execRmaSegmentSend (qpn : Nat) (wqe : Option (List Byte)) (data : List Byte) (s : State) : Host.Outcome State Fault Refusal :=
  done s (segmentSend qpn wqe data s.dev)

/-- An item comes from the QP's connected peer. -/
def fromPeer (q : Qp) (h : RmaHdr) : Bool := decide (q.dstFid = h.srcFid) && decide (q.dstQpn = h.srcQpn)

/-- The EPSN and bitmap that an ACK or NAK_MISSING carries (R269). An EPSN beyond what was sent is a PROTOCOL error. -/
def applyAck (n epsn : Nat) (map : Option Nat) (d : Device) : Device :=
  match d.qp n with
  | none => d
  | some q =>
    let old := oldestPsn q
    if 2 ^ 23 < psnFrom epsn old then d
    else if psnFrom (nextToSend q) old < psnFrom epsn old then toError n 9 (q.reqs.head?.map (·.firstPsn)) d
    else
      let below := fun (s : SentSeg) => decide (s.hdr.psn ≠ epsn) && decide (psnFrom epsn s.hdr.psn ≤ 2 ^ 23)
      let flag := fun (s : SentSeg) => match map with
        | none => s
        | some m => { s with accepted := !below s && decide (psnFrom s.hdr.psn epsn < 256) && bitOf m (psnFrom s.hdr.psn epsn) }
      let q' := { q with unacked := (q.unacked.filter fun s => !(isWriteOp s.hdr.op && below s)).map flag }
      let q' := if oldestPsn q' = old then q' else { q' with progressAt := d.now }
      completeHeads n q'.reqs.length (d.putQp n q')

/-- One retry more (R270): past the limit the QP enters ERROR with RETRY_EXCEEDED. -/
def countRetry (n : Nat) (d : Device) : Device :=
  match d.qp n with
  | none => d
  | some q =>
    let d := d.putQp n { q with retries := q.retries + 1, progressAt := d.now }
    if q.retryLimit < q.retries + 1 then toError n 5 (q.unacked.head?.map (·.hdr.msgPsn)) d else d

/-- RMA_ACK, SYNDROME 0 (R269). -/
def rmaAck (h : RmaHdr) (map : Nat) (d : Device) : Device :=
  match d.qp h.dstQpn with
  | none => d
  | some q =>
    if q.state = .rts ∧ fromPeer q h = true then
      match lacking h.dstQpn none d with
      | some x => startFetch x.1 x.2 { h with data := natLe 32 map } q.part d
      | none => applyAck h.dstQpn h.psn (some map) (touch false h.dstQpn d)
    else d

def execRmaAck (hdr : RmaHdr) (bitmap : Nat) (s : State) : Host.Outcome State Fault Refusal := done s (rmaAck hdr bitmap s.dev)

/-- A NAK is counted by syndrome (event 0x060). -/
def countNak (n syndrome : Nat) (q : Qp) (d : Device) : Device := countPort 0x060 (slicePort n) syndrome 0 q.part 1 d

/-- NAK_MISSING (R270): what the bitmap shows missing below the highest accepted PSN is sent again. -/
def nakMissing (h : RmaHdr) (map : Nat) (d : Device) : Device :=
  let n := h.dstQpn
  match d.qp n with
  | none => d
  | some q =>
    if q.state = .rts ∧ fromPeer q h = true then
      match lacking n none d with
      | some x => startFetch x.1 x.2 { h with data := natLe 32 map } q.part d
      | none =>
        let d := applyAck n h.psn (some map) (countNak n 1 q (touch false n d))
        let d := countRetry n d
        let top := map.log2
        let recent := fun (s : SentSeg) => s.hdr.retx && decide (d.now < s.lastSent + q.ackTimeout * 10 * usNs / 2)
        retransmit n (fun s => !s.accepted && decide (psnFrom s.hdr.psn h.psn ≤ top) && decide (map ≠ 0) && !recent s) d
    else d

def execNakMissing (hdr : RmaHdr) (bitmap : Nat) (s : State) : Host.Outcome State Fault Refusal := done s (nakMissing hdr bitmap s.dev)

/-- NAK_RNR (R270): the named segment is due after RNR_DELAY. -/
def nakRnr (h : RmaHdr) (d : Device) : Device :=
  let n := h.dstQpn
  match d.qp n with
  | none => d
  | some q0 =>
    if q0.state = .rts ∧ fromPeer q0 h = true then
      match lacking n none d with
      | some x => startFetch x.1 x.2 h q0.part d
      | none =>
        let d := applyAck n h.psn none (countNak n 2 q0 (touch false n d))
        match d.qp n with
        | none => d
        | some q =>
          if q.rnrLimit ≠ 0 ∧ q.rnrLimit < q.rnrRetries + 1 then
            let hit := (q.unacked.find? fun s => decide (s.hdr.psn = h.msgPsn)).map fun s => s.hdr.msgPsn
            toError n 5 hit (d.putQp n { q with rnrRetries := q.rnrRetries + 1 })
          else
            let due := some (d.now + q.rnrDelayUs * usNs)
            d.putQp n { q with rnrRetries := q.rnrRetries + 1,
                               unacked := q.unacked.map fun s => if s.hdr.psn = h.msgPsn then { s with dueAt := due } else s }
    else d

def execNakRnr (hdr : RmaHdr) (s : State) : Host.Outcome State Fault Refusal := done s (nakRnr hdr s.dev)

/-- RNR_DELAY_EXPIRY (R270). -/
def execRnrDelayExpiry (qpn : Nat) (s : State) : Host.Outcome State Fault Refusal :=
  let d := s.dev
  done s (match d.qp qpn with
    | some q => if (firstDue q d.now).isSome then resendDue qpn q.unacked.length (evalShape qpn d) else d
    | none => d)

/-- NAK_ACCESS, NAK_OP and NAK_FAULT (Table 9.3): the QP enters ERROR; the request is the one that the named PSN belongs to. -/
def nakAccess (h : RmaHdr) (d : Device) : Device :=
  let n := h.dstQpn
  match d.qp n with
  | none => d
  | some q0 =>
    if q0.state = .rts ∧ fromPeer q0 h = true then
      match lacking n none d with
      | some x => startFetch x.1 x.2 h q0.part d
      | none =>
        let status := if h.syndrome = 3 then 3 else if h.syndrome = 4 then 4 else 8
        let d := applyAck n h.psn none (countNak n h.syndrome q0 (touch false n d))
        match d.qp n with
        | none => d
        | some q =>
          let hit := q.reqs.find? fun r => decide (psnFrom h.msgPsn r.firstPsn < r.psns)
          toError n status (((hit.orElse fun _ => q.reqs.head?).map (·.firstPsn))) d
    else d

def execNakAccess (hdr : RmaHdr) (s : State) : Host.Outcome State Fault Refusal := done s (nakAccess hdr s.dev)

/-- RMA_ACK_TIMEOUT (R270): every unacknowledged segment that the last bitmap does not show accepted is sent again. -/
def ackTimeout (n : Nat) (d : Device) : Device :=
  match d.qp n with
  | none => d
  | some q =>
    if q.state = .rts ∧ q.unacked ≠ [] ∧ q.progressAt + q.ackTimeout * 10 * usNs ≤ d.now then
      retransmit n (fun s => !s.accepted) (countRetry n d)
    else d

def execRmaAckTimeout (qpn : Nat) (s : State) : Host.Outcome State Fault Refusal := done s (ackTimeout qpn s.dev)

/-- READ_RESP and ATOMIC_RESP (R259, R269): placed at LOCAL_ADDR + MSG_OFFSET, once. A length that the request does not have is
a PROTOCOL error. -/
def readResp (h : RmaHdr) (d : Device) : Device :=
  let n := h.dstQpn
  match d.qp n with
  | none => d
  | some q =>
    if q.state = .rts ∧ fromPeer q h = true then
      match q.reqs.find? (fun r => decide (psnFrom h.psn r.firstPsn < r.psns) && !isWriteOp r.wqe.op && decide (0 < r.sent)) with
      | none => d
      | some r =>
        if r.placed.contains h.psn then d
        else match lacking n (some r.wqe.localKey) d with
          | some x => startFetch x.1 x.2 h q.part d
          | none =>
            let d := touch true (r.wqe.localKey / 256) (touch false n d)
            let cuts := if isAtomicOp r.wqe.op then [(r.wqe.localAddr, 8)] else messageCuts r.wqe.localAddr r.wqe.length
            let c := (cuts[psnFrom h.psn r.firstPsn]?).getD (0, 0)
            let a := r.wqe.localAddr + h.msgOffset
            if a ≠ c.1 ∨ h.data.length ≠ c.2 ∨ (h.last = true ∧ isAtomicOp r.wqe.op = false ∧ h.totalLen ≠ r.wqe.length) then
              toError n 9 (some r.firstPsn) d
            else if keyAdmits q r.wqe.localKey (some localWrite) a c.2 d = false then toError n 2 (some r.firstPsn) d
            else match (if c.2 = 0 then 0 else atsVerdict q.fn true a c.2 d) with
              | 1 => atsHold q.fn n 1 a c.2 (some h) d
              | 2 => toError n 7 (some r.firstPsn) d
              | _ =>
                if fnEnabled q.fn d = false then d
                else
                  let w := if c.2 = 0 then d else fnWrite n q.fn a h.data d
                  let placed := h.psn :: r.placed
                  let full := decide (placed.length = r.psns)
                  let old := oldestPsn q
                  let q' := { q with
                    reqs := q.reqs.map fun x => if x.firstPsn = r.firstPsn then { x with placed := placed } else x,
                    unacked := q.unacked.filter fun s => !(full && decide (s.hdr.msgPsn = r.firstPsn)) }
                  let q' := if oldestPsn q' = old then q' else { q' with progressAt := d.now }
                  completeHeads n q'.reqs.length (w.putQp n q')
    else d

def execReadResp (hdr : RmaHdr) (s : State) : Host.Outcome State Fault Refusal := done s (readResp hdr s.dev)

/-- Counters of Table 9.6. -/
def countStray (d : Device) : Device := { d with rma := { d.rma with cntStray := satAdd 0xFFFFFFFF d.rma.cntStray 1 } }
def countBeyond (d : Device) : Device := { d with rma := { d.rma with cntBeyond := satAdd 0xFFFFFFFF d.rma.cntBeyond 1 } }
def countDup (d : Device) : Device := { d with rma := { d.rma with cntDup := satAdd 0xFFFFFFFF d.rma.cntDup 1 } }

/-- PSNs a READ_REQ occupies (R266, R274). -/
def arrivalPsns (h : RmaHdr) : Nat := if h.op = 3 then max 1 (ceilDiv (h.laddrLo + h.totalLen) 4096) else 1

/-- Right that an arriving operation needs (R259, Table 9.11). -/
def remoteRight (h : RmaHdr) : Nat := if isWriteOp h.op then remoteWrite else if h.op = 3 then remoteRead else remoteAtomic

/-- The answer to an atomic: the original value. -/
def atomicResp (n : Nat) (q : Qp) (psn : Nat) (v : Nat) (d : Device) : Device :=
  sendRma n { baseHdr n q 7 psn d with last := true, data := natLe 8 v } d

/-- The placement or read that an accepted item begins at once (R272): its translations, then the requests. A denial is
R277's. -/
def beginAccess (n : Nat) (q : Qp) (h : RmaHdr) (d : Device) : Device × Bool :=
  let write := isWriteOp h.op
  let len := remoteLen h
  if len = 0 then (d, true)
  else match atsVerdict q.fn write h.address len d with
    | 1 => (atsAsk q.fn n (if write then 2 else 3) h.address len d, true)
    | 2 => (d, false)
    | _ => (if write then fnWrite n q.fn h.address h.data d else fnRead n q.fn h.address len d, true)

/-- A duplicate (R273): counted and acknowledged at once; the last atomic is answered again, a READ_REQ is read again. -/
def duplicate (n : Nat) (q : Qp) (h : RmaHdr) (d : Device) : Device :=
  let d := sendAck n 0 q.epsn (countDup d)
  if isAtomicOp h.op ∧ q.lastAtomicPsn = some h.psn then atomicResp n q h.psn q.lastAtomicValue d
  else if h.op = 3 then
    match d.qp n with
    | none => d
    | some x =>
      if keyAdmits x h.key (some remoteRead) h.address h.totalLen d then
        let x' := { x with rereads := x.rereads ++ [h] }
        let r := beginAccess n x' h (d.putQp n x')
        if r.2 then r.1 else placementFault n r.1
      else d
  else d

/-- Notices promised by accepted WRITE_IMM segments that have not been written yet: with the unconsumed ones they stay within
IMM_DEPTH, so that no CQ overflows (R264, Table 9.6). -/
def noticesOpen (q : Qp) : Nat :=
  (q.notices - q.noticesUsed) + (q.rx.filter fun x => decide (x.hdr.op = 2) && x.hdr.last).length

/-- RESPONDER_ARRIVAL: the checks of Table 9.6 in order. -/
def responderArrival (h : RmaHdr) (d : Device) : Device :=
  let n := h.dstQpn
  match d.qp n with
  | none => countStray d
  | some q =>
    if !(decide (q.state = .rts) && fromPeer q h && decide ((d.func q.fn).flr = .idle)) then countStray d
    else if d.fenced q.part then countStray d
    else match lacking n (some h.key) d with
      | some x => startFetch x.1 x.2 h q.part d
      | none =>
        let d := touch true (h.key / 256) (touch false n d)
        match d.qp n with
        | none => d
        | some q =>
          let behind := psnFrom q.epsn h.psn
          let nak := fun (syn : Nat) (d : Device) => sendRma n (ackHdr n syn h.psn q d) d
          if (1 ≤ behind ∧ behind ≤ 2 ^ 23) ∨ (q.rx.any fun x => decide (psnFrom h.psn x.hdr.psn < x.psns)) = true then
            duplicate n q h d
          else if 256 ≤ psnFrom h.psn q.epsn then sendAck n 0 q.epsn (countBeyond d)
          else if keyAdmits q h.key (some (remoteRight h)) h.address (remoteLen h) d = false then toError n 0 none (nak 3 d)
          else if isAtomicOp h.op ∧ (h.address % 8 ≠ 0 ∨ q.atomicBusy = true) then toError n 0 none (nak 4 d)
          else if h.op = 2 ∧ h.last = true ∧ q.immDepth ≤ noticesOpen q then nak 2 d
          else
            let q' := { q with rx := q.rx ++ [{ hdr := h, psns := arrivalPsns h, complete := false }],
                               atomicBusy := q.atomicBusy || isAtomicOp h.op }
            let a := beginAccess n q' h (d.putQp n q')
            if a.2 then a.1 else placementFault n a.1

def execResponderArrival (hdr : RmaHdr) (s : State) : Host.Outcome State Fault Refusal := done s (responderArrival hdr s.dev)

/-- READ_RESP segments, cut at the 4 KiB boundaries of the requester's address (R266). -/
def sendReadResps (n : Nat) (q : Qp) (h : RmaHdr) (data : List Byte) (d : Device) : Device :=
  let cuts := messageCuts h.laddrLo h.totalLen
  (List.range cuts.length).foldl (fun d i =>
    let c := (cuts[i]?).getD (0, 0)
    let off := c.1 - h.laddrLo
    let last := decide (i + 1 = cuts.length)
    sendRma n { baseHdr n q 4 (psnAdd h.psn i) d with
      msgPsn := h.psn, msgOffset := off, last := last, totalLen := if last then h.totalLen else 0,
      data := (data.drop off).take c.2 } d) d

/-- The value an atomic leaves in memory, if it changes it. -/
def atomicResult (h : RmaHdr) (old : Nat) : Option Nat :=
  let a := leNat (h.data.take 8)
  let b := leNat (h.data.drop 8)
  if h.op = 5 then some ((old + a) % 2 ^ 64) else if old = a then some b else none

/-- What completing an accepted item sends and writes (R273, R274). -/
def concludeItem (n : Nat) (q : Qp) (h : RmaHdr) (data : List Byte) (d : Device) : Device :=
  if h.op = 3 then sendReadResps n q h data d
  else if isAtomicOp h.op then
    let old := leNat (data.take 8)
    let d := match atomicResult h old with
      | some v => fnWrite n q.fn h.address (natLe 8 v) d
      | none => d
    let q' := { q with lastAtomicPsn := some h.psn, lastAtomicValue := old, atomicBusy := false }
    atomicResp n q' h.psn old (d.putQp n q')
  else d

/-- The notice of a WRITE_IMM (Table 9.2). -/
def writeNotice (n : Nat) (q : Qp) (h : RmaHdr) (d : Device) : Device :=
  writeCqe n q.part q.rspCqn (n + 1) (fun ph => cqeBytes 0 n 2 h.totalLen h.imm 0 (ph + 2) h.msgPsn) d

/-- EPSN advances over complete PSNs (R274): notices, the length check; `true` when a LAST segment was passed. -/
def advanceEpsn (n : Nat) : Nat → Bool → Device → Device × Bool
  | 0, acked, d => (d, acked)
  | fuel + 1, acked, d =>
    match d.qp n with
    | none => (d, acked)
    | some q =>
      match q.rx.find? fun x => decide (x.hdr.psn = q.epsn) && x.complete with
      | none => (d, acked)
      | some x =>
        let h := x.hdr
        let notice := decide (h.op = 2) && h.last
        let v := if notice then cqVerdict q.rspCqn d else 0
        if v = 1 then (cqAsk n q.rspCqn d, acked)
        else
          let bytes := if isWriteOp h.op then q.msgBytes + h.data.length else 0
          let bad := isWriteOp h.op && h.last && decide (bytes ≠ h.totalLen)
          let q' := { q with epsn := psnAdd q.epsn x.psns, epsnAt := d.now, nakAt := none,
                             rx := q.rx.filter fun y => decide (y.hdr.psn ≠ h.psn), msgBytes := if h.last then 0 else bytes,
                             notices := if notice ∧ bad = false then q.notices + 1 else q.notices }
          let d := d.putQp n q'
          if bad ∨ v = 2 then (toError n 0 none d, acked)
          else
            let d := if notice then writeNotice n q' h d else d
            advanceEpsn n fuel (acked || h.last) d

/-- A placement, read or atomic checked against a region is still inside (R261): a responder's, or one of a requester's own
buffer. -/
def regionBusy (i : Nat) (d : Device) : Bool :=
  d.qps.any fun e =>
    e.2.rx.any (fun x => decide (x.hdr.key / 256 = i) && !x.complete) || e.2.rereads.any (fun h => decide (h.key / 256 = i)) ||
      e.2.reqs.any fun r => decide (r.wqe.localKey / 256 = i) &&
        accessOut e.2.fn r.wqe.localAddr (if isAtomicOp r.wqe.op then 8 else r.wqe.length) d

/-- REG_DEREGISTER commands whose last access has left are answered (R261). -/
def answerDeregister (d : Device) : Device :=
  (d.kme.execs.filter fun e => decide (e.op = 0x7107) && e.applied).foldl (fun d e =>
    if regionBusy (u32 e.cmd.params 0 / 256) d then d else finishExec e (ansOk []) d) d

/-- A translation that a QP's responder waits for is still missing. -/
def responderWaits (n : Nat) (d : Device) : Bool := d.atsAsks.any fun x => decide (x.qpn = n) && (decide (x.use = 2) || decide (x.use = 3))

/-- SEGMENT_COMPLETE (R273–R275): the placement has left the egress point; `data` is what a read or an atomic found in
memory. -/
def segmentComplete (n psn : Nat) (data : List Byte) (d : Device) : Device :=
  match d.qp n with
  | none => d
  | some q =>
    match q.rx.find? fun x => decide (x.hdr.psn = psn) && !x.complete with
    | none =>
      match q.rereads.find? fun h => decide (h.psn = psn) with
      | none => d
      | some h =>
        if q.state = .rts ∧ accessOut q.fn h.address (remoteLen h) d = true then d
        else
        let d := d.putQp n { q with rereads := q.rereads.erase h }
        answerDeregister (if q.state = .rts then sendReadResps n q h data d else d)
    | some x =>
      if q.state ≠ .rts then
        answerDeregister (d.putQp n { q with rx := q.rx.filter fun y => decide (y.hdr.psn ≠ psn) })
      else if fnEnabled q.fn d = false ∨ responderWaits n d = true ∨ accessOut q.fn x.hdr.address (remoteLen x.hdr) d = true then d
      else
        let q' := { q with rx := q.rx.map (fun y => if y.hdr.psn = psn then { y with complete := true } else y),
                           sinceAck := q.sinceAck + x.psns, uncoveredAt := some (q.uncoveredAt.getD d.now) }
        let a := advanceEpsn n 256 false (concludeItem n q' x.hdr data (d.putQp n q'))
        let e := match a.1.qp n with
          | some z => if decide (z.state = .rts) && (a.2 || decide (64 ≤ z.sinceAck)) then sendAck n 0 z.epsn a.1 else a.1
          | none => a.1
        answerDeregister e

def execSegmentComplete (qpn psn : Nat) (data : List Byte) (s : State) : Host.Outcome State Fault Refusal :=
  done s (segmentComplete qpn psn data s.dev)

/-- RMA_ACK_SEND (R275): 1 µs after the first completion that no ACK has covered. -/
def execRmaAckSend (qpn : Nat) (s : State) : Host.Outcome State Fault Refusal :=
  let d := s.dev
  done s (match d.qp qpn with
    | some q =>
      match q.uncoveredAt with
      | some t => if q.state = .rts ∧ t + usNs ≤ d.now then sendAck qpn 0 q.epsn d else d
      | none => d
    | none => d)

/-- REASM_TIMEOUT (R276): a PSN beyond EPSN is accepted, and EPSN has not advanced. -/
def reasmTimeout (n : Nat) (d : Device) : Device :=
  match d.qp n with
  | none => d
  | some q =>
    let hole := q.rx.any fun x => decide (x.hdr.psn ≠ q.epsn)
    if q.state = .rts ∧ hole = true ∧ max q.epsnAt (q.nakAt.getD 0) + q.reasmTimeout * 10 * usNs ≤ d.now then
      sendAck n 1 q.epsn (d.putQp n { q with nakAt := some d.now })
    else d

def execReasmTimeout (qpn : Nat) (s : State) : Host.Outcome State Fault Refusal := done s (reasmTimeout qpn s.dev)

/-- PLACEMENT_FAULT (R277). The journal entry is that of the dropped write. -/
def execPlacementFault (qpn : Nat) (s : State) : Host.Outcome State Fault Refusal :=
  let d := s.dev
  done s (match d.qp qpn with
    | some q => if q.state = .rts then placementFault qpn d else d
    | none => d)

/-- One flush entry (R279, R367): written in SQ order whether signaled or not, or counted lost when its translation fails. -/
def flushOne (n : Nat) (r : WorkReq) (d : Device) : Device :=
  match d.qp n with
  | none => d
  | some q =>
    let status := if q.errorPsn = some r.firstPsn ∧ q.errorStatus ≠ 0 ∧ r.psns ≠ 0 then q.errorStatus else 1
    let rest := q.reqs.filter fun x => decide (x ≠ r)
    let c := wrapAdd 32 q.completed 1
    if cqVerdict q.cqn d = 2 then
      let d := d.putQp n { q with reqs := rest, completed := c, freed := c }
      match d.cq q.cqn with
      | some x =>
        let f := d.func x.fn
        d.setFunc x.fn { f with cqLost := satAdd 0xFF f.cqLost 1 }
      | none => d
    else retire n q r rest status d

/-- Flush the requests of a list, while their entries can be written. -/
def flushList (n cqn : Nat) : List WorkReq → Device → Device
  | [], d => d
  | r :: rs, d => if cqVerdict cqn d = 1 then cqAsk n cqn d else flushList n cqn rs (flushOne n r d)

/-- The flush of a QP is complete. -/
def flushed (q : Qp) : Bool := decide (q.state ≠ .error) || decide (q.completed = q.sqPi)

/-- A QP is released with its context (R256, R284). -/
def releaseQp (n : Nat) (d : Device) : Device := { d with qps := terase n d.qps }

/-- QP_DESTROY commands whose QP has been flushed are answered, and the context is released (R284). -/
def answerDestroys (d : Device) : Device :=
  (d.kme.execs.filter fun e => decide (e.op = 0x7103) && e.applied).foldl (fun d e =>
    let n := u32 e.cmd.params 0
    match d.qp n with
    | some q => if flushed q then finishExec e (ansOk []) (releaseQp n d) else d
    | none => finishExec e (ansOk []) d) d

/-- QP_FLUSH (R279): the fetched requests, then the posted ones, whose entries `posted` holds as they are read. -/
def qpFlush (n : Nat) (posted : List (List Byte)) (d : Device) : Device :=
  match d.qp n with
  | none => d
  | some q =>
    if q.state ≠ .error then d
    else
      let d := flushList n q.cqn q.reqs d
      match d.qp n with
      | none => d
      | some q1 =>
        if q1.reqs ≠ [] then d
        else
          let ws := (posted.take (ahead q1.sqPi q1.completed)).map wqeOf
          let blank : Wqe → WorkReq := fun w =>
            { wqe := w, firstPsn := q1.nextPsn, psns := 0, sent := 0, placed := [], fetchedAt := d.now }
          let d := d.putQp n { q1 with unacked := [], fetched := q1.completed }
          let d := flushList n q1.cqn (ws.map blank) d
          let d := match d.qp n with
            | some q2 => d.putQp n { q2 with fetched := q2.completed }
            | none => d
          answerDestroys d

def execQpFlush (qpn : Nat) (posted : List (List Byte)) (s : State) : Host.Outcome State Fault Refusal := done s (qpFlush qpn posted s.dev)

/-- An item goes on after its fetch. -/
def resumeItem (m : MissWait) (d : Device) : Device :=
  let h := m.hdr
  let map := leNat h.data
  if h.op = 0 then d
  else if h.op = 8 then
    (if h.syndrome = 0 then rmaAck h map d else if h.syndrome = 1 then nakMissing h map d
     else if h.syndrome = 2 then nakRnr h d else nakAccess h d)
  else if h.op = 4 ∨ h.op = 7 then readResp h d
  else responderArrival h d

/-- BACKING_FETCH (R255): the least recently used resident entry makes room, the waiting items go on. -/
def backingFetch (region : Bool) (n : Nat) (d : Device) : Device :=
  let mine := fun (m : MissWait) => decide (m.region = region) && decide (m.number = n)
  let ms := d.missWait.filter mine
  if ms.isEmpty then d
  else
    let us := (usesOf region d).filter fun e => isResident region e.1 d
    let full := decide (residentSlots region d ≤ us.length)
    let d := match us with
      | e :: rest =>
        if full then
          let v := rest.foldl (fun (a b : Nat × Nat) => if b.2 < a.2 then b else a) e
          emit (.backing true region v.1 (homeSlot region v.1 d))
            { d with rma := { d.rma with cntEvict := satAdd 0xFFFFFFFF d.rma.cntEvict 1 } }
        else d
      | [] => d
    let d := countGlobal 0x103 0x3F 1 (touch region n { d with missWait := d.missWait.filter fun m => !mine m })
    ms.foldl (fun d m => resumeItem m d) d

def execBackingFetch (region : Bool) (number : Nat) (s : State) : Host.Outcome State Fault Refusal :=
  done s (backingFetch region number s.dev)

/-- BACKING_STALL (R255): 1 ms without completion; the item keeps waiting. -/
def execBackingStall (region : Bool) (number : Nat) (s : State) : Host.Outcome State Fault Refusal :=
  let d := s.dev
  let late := fun (m : MissWait) => decide (m.region = region) && decide (m.number = number) && decide (m.since + msNs ≤ d.now)
  done s (if d.missWait.any late then { d with rma := { d.rma with intStatus := d.rma.intStatus ||| 1 } } else d)

/-- The function reports Uncorrectable Internal Error, and its partition takes a fatal fault (R435, R440).
(DEDUCED, log entry 55) -/
def internalError (f : Fn) (d : Device) : Device :=
  partFatal (fnPart f d) 22 (fnError f 22 false d)

/-- CONTEXT_ECC_ERROR (R440): of a context, its QP ends in ERROR (a CQ's context: the QPs that use it); of a region entry, the
access that reads it fails: a local one first, else a remote one; an entry of the translation cache goes, and the next access asks
for the translation again. (DEDUCED, log entry 55) -/
def contextEcc (store : EccStore) (n : Nat) (d : Device) : Device :=
  let headPsn := fun (q : Qp) => q.reqs.head?.map (·.firstPsn)
  match store with
  | .translation => match d.ats[n]? with
    | none => d
    | some e => internalError e.fn (countStructEcc { d with ats := d.ats.eraseIdx n })
  | .memoryRegion =>
    if (d.region n).inUse = false then d
    else
      let d := countStructEcc d
      let local_ := d.qps.find? fun e => decide (e.2.state = .rts) && e.2.reqs.any fun r => decide (r.wqe.localKey / 256 = n)
      let remote := d.qps.find? fun e => decide (e.2.state = .rts) && e.2.rx.any fun x => decide (x.hdr.key / 256 = n) && !x.complete
      let d := match local_, remote with
        | some e, _ => toError e.1 7 ((e.2.reqs.find? fun r => decide (r.wqe.localKey / 256 = n)).map (·.firstPsn)) d
        | none, some e => placementFault e.1 d
        | none, none => d
      internalError (d.region n).fn d
  | .context => match d.qp n with
    | some q => internalError q.fn (toError n 7 (headPsn q) (countStructEcc d))
    | none => match d.cq n with
      | some c =>
        let users := d.qps.filter fun e => decide (e.2.cqn = n) || decide (e.2.rspCqn = n)
        internalError c.fn (users.foldl (fun d e => toError e.1 7 (headPsn e.2) d) (countStructEcc d))
      | none => d

def execContextEccError (store : EccStore) (number : Nat) (s : State) : Host.Outcome State Fault Refusal :=
  done s (contextEcc store number s.dev)

end Sys2Proof.Machine
end

