-- ==== Sys2Proof/Machine/RmaCmd.lean ====
section
/-! DEFINITION. Machine/RmaCmd.lean: the tenant and manager commands of the RMA engine (R251–R265, R278–R285) and its
doorbells. -/

namespace Sys2Proof.Machine

/-- The function that a tenant command acts on: the mailbox's own, or the one the manager names (chapter 9, Tenant commands). -/
def tenantFn (c : Cmd) : Fn :=
  match sourceFn c.source with
  | some .mgr => if bitOf c.target.toNat 12 then .vf (c.target.toNat % 4096) else .pf (c.target.toNat % 4096)
  | some f => f
  | none => if bitOf c.target.toNat 12 then .vf (c.target.toNat % 4096) else .pf (c.target.toNat % 4096)

/-- A function exists: the PF of a partition that is not FREE, a VF instance. -/
def fnExists (f : Fn) (d : Device) : Bool :=
  match f with
  | .mgr => true
  | .pf p => decide (1 ≤ p) && decide (p ≤ 48) && decide ((d.part p).state ≠ .free)
  | .vf v => d.vfPart.any fun e => decide (e.1 = v)

/-- TARGET and PARAM0 of a tenant command. -/
def tenantHeader (c : Cmd) (d : Device) : Option Ans :=
  let tenant := decide (c.source.transport = 1) || decide (c.source.transport = 2)
  if tenant then headerZero c
  else firstFail [failIf (decide (8192 ≤ c.target.toNat) || !fnExists (tenantFn c) d) (ansBad 0xFF08),
                  failIf (decide (c.param0 ≠ 0)) (ansBad 0xFF0C)]

/-- Partition of a function's objects, contexts and regions in use (R254, Table 9.12). -/
def contextUsed (n : Nat) (d : Device) : Bool := d.qps.any (fun e => decide (e.1 = n)) || d.cqs.any (fun e => decide (e.1 = n))
def contextsOf (p : Nat) (d : Device) : Nat :=
  (d.qps.filter fun e => decide (fnPart e.2.fn d = p)).length + (d.cqs.filter fun e => decide (fnPart e.2.fn d = p)).length
def regionsIn (d : Device) : List (Nat × Region) := d.regions.filter fun e => e.2.inUse
def regionsOf (p : Nat) (d : Device) : List (Nat × Region) := (regionsIn d).filter fun e => decide (fnPart e.2.fn d = p)

/-- Pages that a region touches (R260). -/
def regionPages (x : Region) : Nat := ceilDiv (x.base % 4096 + x.length) 4096
def pageSum (l : List (Nat × Region)) : Nat := (l.map fun e => regionPages e.2).foldl (· + ·) 0

/-- The number space of contexts and regions (R253). -/
def contextSpace (d : Device) : Nat := if d.rma.ctxCount = 0 then 1048576 else d.rma.ctxCount
def regionSpace (d : Device) : Nat := if d.rma.regCount = 0 then 524288 else d.rma.regCount
def poolOf (p : Nat) (d : Device) : RmaPool := tget poolReset d.pools p

/-- Without a backing store every entry in use takes a resident slot, so the slots can run out first (R253, R450).
(DEDUCED, log entry 38) -/
def slotLeft (region : Bool) (d : Device) : Bool :=
  backed region d ||
    decide ((if region then (regionsIn d).length else d.qps.length + d.cqs.length) < residentSlots region d)

/-- The lowest free context number of a partition that its limit and the slots allow (R254). -/
def freeContext (p : Nat) (d : Device) : Option Nat :=
  if contextsOf p d < (poolOf p d).ctxLimit ∧ slotLeft false d = true then lowest (fun n => !contextUsed n d) 0 (contextSpace d) else none
/-- The lowest free region index that the slots allow (R254). -/
def freeRegion (d : Device) : Option Nat :=
  if slotLeft true d = true then lowest (fun i => !(d.region i).inUse) 0 (regionSpace d) else none
def ansNoContext : Ans := { status := .noContext, detail := 0, result := [] }

/-- A doorbell page of a function is handed out. -/
def pageKey (f : Fn) (page : Nat) : Nat := 4096 * fnKey f + page
def pageHeld (f : Fn) (page : Nat) (d : Device) : Bool := decide (tget 0 d.dbPages (pageKey f page) = 1)
def pageCount (f : Fn) : Nat :=
  match f with
  | .vf _ => 256
  | _ => 4096

/-- Depth that the QPs of a CQ commit (R264). -/
def cqCommitted (n : Nat) (d : Device) : Nat :=
  (d.qps.map fun e => (if e.2.cqn = n then e.2.sqDepth else 0) + (if e.2.rspCqn = n then e.2.immDepth else 0)).foldl (· + ·) 0

/-- A power of two within bounds. -/
def powerIn (n lo hi : Nat) : Bool := decide (lo ≤ n) && decide (n ≤ hi) && decide (2 ^ n.log2 = n)

/-- The queue pair that QP_CREATE makes (R282, Tables 9.7, 9.9). -/
def newQp (f : Fn) (p : List Byte) (d : Device) : Qp :=
  { fn := f, part := fnPart f d, cqn := u32 p 0, rspCqn := u32 p 4, sqBase := u64 p 8, sqDepth := u32 p 16, immDepth := u16 p 20,
    dbPage := u16 p 22, pd := u16 p 24, queue := u8 p 26, state := .init, dstFid := 0, dstQpn := 0, retryLimit := 7, rnrLimit := 0,
    ackTimeout := 60, rnrDelayUs := 20, reasmTimeout := 50, nextPsn := 0, sqPi := 0, fetched := 0, completed := 0, freed := 0,
    reqs := [], unacked := [], retries := 0, rnrRetries := 0, progressAt := d.now, epsn := 0, rx := [], msgBytes := 0,
    lastAtomicPsn := none, lastAtomicValue := 0, atomicBusy := false, sinceAck := 0, uncoveredAt := none, epsnAt := d.now,
    nakAt := none, rereads := [], notices := 0, noticesUsed := 0, faultSent := false, errorStatus := 0, errorPsn := none,
    shape := equeueReset, evalAt := d.now, lastUse := 0 }

/-- QP_CREATE (R282, R254, R264). -/
def qpCreate (c : Cmd) (d : Device) : Device × Option Ans :=
  let p := c.params
  let f := tenantFn c
  let part := fnPart f d
  let cqFn := fun (n : Nat) => (d.cq n).map (·.fn)
  let above := fun (n own : Nat) => match d.cq n with
    | some x => decide (x.depth < cqCommitted n d + own)
    | none => true
  let same := decide (u32 p 0 = u32 p 4)
  checked
    [ failIf (decide (p.length ≠ 32)) (ansLen 32), tenantHeader c d,
      failIf (cqFn (u32 p 0)).isNone (ansBad 0), failIf (cqFn (u32 p 4)).isNone (ansBad 4),
      failIf (decide (u64 p 8 % 4096 ≠ 0)) (ansBad 8), failIf (!powerIn (u32 p 16) 64 65536) (ansBad 16),
      failIf (!pageHeld f (u16 p 22) d) (ansBad 22), failIf (decide (8 ≤ u8 p 26)) (ansBad 26), failIf (!zeros p 27 5) (ansBad 27),
      failIf (decide (cqFn (u32 p 0) ≠ some f) || decide (cqFn (u32 p 4) ≠ some f)) ansNo,
      failIf (freeContext part d).isNone ansNoContext,
      failIf (above (u32 p 0) (u32 p 16 + (if same then u16 p 20 else 0)) || (!same && above (u32 p 4) (u16 p 20))) (ansPool 11) ]
    (fun d =>
      let n := (freeContext part d).getD 0
      (touch false n (d.putQp n (newQp f p d)), some (ansOk (natLe 4 n)))) d

def execQpCreate (c : Cmd) (s : State) : Host.Outcome State Fault Refusal := done s (runPacket 0x7101 (qpCreate c) c s.dev)

/-- INIT to RTS with the settings of Table 9.10. -/
def qpToRts (p : List Byte) (q : Qp) (now : Nat) : Qp :=
  { q with state := .rts, dstFid := u8 p 5, dstQpn := u32 p 8, retryLimit := kept (u8 p 6) q.retryLimit, rnrLimit := u8 p 7,
           nextPsn := u32 p 12, epsn := u32 p 16, ackTimeout := kept (u16 p 20) q.ackTimeout,
           rnrDelayUs := kept (u16 p 22) q.rnrDelayUs, reasmTimeout := kept (u16 p 24) q.reasmTimeout, progressAt := now,
           epsnAt := now, retries := 0, rnrRetries := 0 }

/-- ERROR to RESET: PSN state and SQ indices at 0, CQ bindings kept (Table 9.7). -/
def qpToReset (q : Qp) : Qp :=
  { q with state := .reset, nextPsn := 0, sqPi := 0, fetched := 0, completed := 0, freed := 0, reqs := [], unacked := [], retries := 0,
           rnrRetries := 0, epsn := 0, rx := [], msgBytes := 0, lastAtomicPsn := none, lastAtomicValue := 0, atomicBusy := false,
           sinceAck := 0, uncoveredAt := none, nakAt := none, rereads := [], faultSent := false, errorStatus := 0, errorPsn := none }

/-- QP_MODIFY (R283). Whether the partition exists on another device is not known here; only FABRIC is judged. -/
def qpModify (c : Cmd) (d : Device) : Device × Option Ans :=
  let p := c.params
  let f := tenantFn c
  let n := u32 p 0
  let q := (d.qp n).getD (newQp f [] d)
  let ns := u8 p 4
  let away := decide (u8 p 5 ≠ d.glb.fid) && !(d.part q.part).fabric
  let allowed : Bool := match q.state with
    | .init => (decide (ns = 2) && !away) || decide (ns = 3)
    | .rts => decide (ns = 3)
    | .error => decide (ns = 3) || (decide (ns = 0) && flushed q)
    | .reset => decide (ns = 1) || decide (ns = 3)
  checked
    [ failIf (decide (p.length ≠ 28)) (ansLen 28), tenantHeader c d, failIf (d.qp n).isNone (ansBad 0),
      failIf (decide (3 < ns)) (ansBad 4), failIf (decide (32 ≤ u8 p 5)) (ansBad 5), failIf (decide (15 < u8 p 6)) (ansBad 6),
      failIf (decide (15 < u8 p 7)) (ansBad 7), failIf (decide (2 ^ 24 ≤ u32 p 8)) (ansBad 8),
      failIf (decide (2 ^ 24 ≤ u32 p 12)) (ansBad 12), failIf (decide (2 ^ 24 ≤ u32 p 16)) (ansBad 16),
      failIf (!keepRange (u16 p 20) 5 6000 1) (ansBad 20), failIf (!keepRange (u16 p 22) 1 1000 1) (ansBad 22),
      failIf (!keepRange (u16 p 24) 1 6000 1) (ansBad 24), failIf (!zeros p 26 2) (ansBad 26),
      failIf (decide (q.fn ≠ f)) ansNo, failIf (!allowed) ansNo ] (fun d =>
    let d := touch false n d
    let q := (d.qp n).getD q
    let d := if ns = 3 then toError n 0 none d
      else if ns = 2 then d.putQp n (qpToRts p q d.now)
      else if ns = 1 then d.putQp n { q with state := .init }
      else d.putQp n (qpToReset q)
    (d, some (ansOk []))) d

def execQpModify (c : Cmd) (s : State) : Host.Outcome State Fault Refusal := done s (runPacket 0x7102 (qpModify c) c s.dev)

/-- QP_DESTROY (R284): the QP goes to ERROR; the reply comes once the flush is written. -/
def qpDestroy (c : Cmd) (d : Device) : Device × Option Ans :=
  let p := c.params
  let f := tenantFn c
  let n := u32 p 0
  checked
    [ failIf (decide (p.length ≠ 4)) (ansLen 4), tenantHeader c d, failIf (d.qp n).isNone (ansBad 0),
      failIf (decide ((d.qp n).map (·.fn) ≠ some f)) ansNo ] (fun d =>
    let d := markApplied 0x7103 c (toError n 0 none d)
    match d.qp n with
    | some q => if flushed q then (releaseQp n d, some (ansOk [])) else (d, none)
    | none => (d, some (ansOk []))) d

def execQpDestroy (c : Cmd) (s : State) : Host.Outcome State Fault Refusal := done s (runPacket 0x7103 (qpDestroy c) c s.dev)

/-- CQ_CREATE (R263, R284). -/
def cqCreate (c : Cmd) (d : Device) : Device × Option Ans :=
  let p := c.params
  let f := tenantFn c
  let part := fnPart f d
  checked
    [ failIf (decide (p.length ≠ 16)) (ansLen 16), tenantHeader c d, failIf (decide (u64 p 0 % 4096 ≠ 0)) (ansBad 0),
      failIf (!powerIn (u32 p 8) 256 4194304) (ansBad 8),
      failIf (decide (u16 p 12 ≠ 0xFFFF) && decide (vectorCount f ≤ u16 p 12)) (ansBad 12),
      failIf (!pageHeld f (u16 p 14) d) (ansBad 14), failIf (freeContext part d).isNone ansNoContext ] (fun d =>
    let n := (freeContext part d).getD 0
    let x : Cq := { fn := f, base := u64 p 0, depth := u32 p 8, vector := u16 p 12, dbPage := u16 p 14, prod := 0, ci := 0,
                    armed := false, noticeOf := [], lastUse := 0 }
    (touch false n (d.putCq n x), some (ansOk (natLe 4 n)))) d

def execCqCreate (c : Cmd) (s : State) : Host.Outcome State Fault Refusal := done s (runPacket 0x7104 (cqCreate c) c s.dev)

/-- CQ_DESTROY (R284). -/
def cqDestroy (c : Cmd) (d : Device) : Device × Option Ans :=
  let p := c.params
  let n := u32 p 0
  checked
    [ failIf (decide (p.length ≠ 4)) (ansLen 4), tenantHeader c d, failIf (d.cq n).isNone (ansBad 0),
      failIf (decide ((d.cq n).map (·.fn) ≠ some (tenantFn c))) ansNo,
      failIf (d.qps.any fun e => decide (e.2.cqn = n) || decide (e.2.rspCqn = n)) ansNo ] (fun d =>
    ({ d with cqs := terase n d.cqs }, some (ansOk []))) d

def execCqDestroy (c : Cmd) (s : State) : Host.Outcome State Fault Refusal := done s (runPacket 0x7105 (cqDestroy c) c s.dev)

/-- The region that REG_REGISTER asks for; its index carries on with the next variant (R257). -/
def newRegion (f : Fn) (p : List Byte) (old : Region) : Region :=
  { inUse := true, used := true, fn := f, base := u64 p 0, length := u64 p 8, pd := u16 p 16, rights := u8 p 18,
    variant := if old.used then (old.variant + 1) % 256 else 0, lastUse := old.lastUse }

/-- REG_REGISTER (R254, R257, R260, R284). -/
def regRegister (c : Cmd) (d : Device) : Device × Option Ans :=
  let p := c.params
  let f := tenantFn c
  let part := fnPart f d
  let pages := ceilDiv (u64 p 0 % 4096 + u64 p 8) 4096
  let pool := poolOf part d
  let slot := freeRegion d
  checked
    [ failIf (decide (p.length ≠ 24)) (ansLen 24), tenantHeader c d,
      failIf (decide (u64 p 8 = 0) || decide (2 ^ 42 < u64 p 8)) (ansBad 8), failIf (decide (16 ≤ u8 p 18)) (ansBad 18),
      failIf (!zeros p 19 5) (ansBad 19),
      failIf (slot.isNone || decide (pool.regLimit ≤ (regionsOf part d).length) ||
        decide (pool.pageLimit < pageSum (regionsOf part d) + pages) || decide (2 ^ 30 < pageSum (regionsIn d) + pages)) (ansPool 10) ]
    (fun d =>
      let i := slot.getD 0
      let x := newRegion f p (d.region i)
      (touch true i (d.setRegion i x), some (ansOk (natLe 4 (i * 256 + x.variant))))) d

def execRegRegister (c : Cmd) (s : State) : Host.Outcome State Fault Refusal := done s (runPacket 0x7106 (regRegister c) c s.dev)

/-- REG_DEREGISTER (R261): invalid at once, answered when no access checked against the region remains. -/
def regDeregister (c : Cmd) (d : Device) : Device × Option Ans :=
  let p := c.params
  let key := u32 p 0
  let i := key / 256
  let x := d.region i
  checked
    [ failIf (decide (p.length ≠ 4)) (ansLen 4), tenantHeader c d,
      failIf (!x.inUse || decide (x.variant ≠ key % 256)) (ansBad 0), failIf (decide (x.fn ≠ tenantFn c)) ansNo ] (fun d =>
    let d := markApplied 0x7107 c (d.setRegion i { x with inUse := false })
    (d, if regionBusy i d then none else some (ansOk []))) d

def execRegDeregister (c : Cmd) (s : State) : Host.Outcome State Fault Refusal := done s (runPacket 0x7107 (regDeregister c) c s.dev)

/-- A QP or CQ is bound to a doorbell page. -/
def pageBound (f : Fn) (page : Nat) (d : Device) : Bool :=
  d.qps.any (fun e => decide (e.2.fn = f) && decide (e.2.dbPage = page)) ||
    d.cqs.any fun e => decide (e.2.fn = f) && decide (e.2.dbPage = page)

/-- DB_ALLOC (R265, R284). -/
def dbAlloc (c : Cmd) (d : Device) : Device × Option Ans :=
  let p := c.params
  let f := tenantFn c
  let free := bitOf (u8 p 2) 0
  let slot := lowest (fun g => !pageHeld f g d) 0 (pageCount f)
  checked
    [ failIf (decide (p.length ≠ 4)) (ansLen 4), tenantHeader c d, failIf (free && !pageHeld f (u16 p 0) d) (ansBad 0),
      failIf (decide (2 ≤ u8 p 2)) (ansBad 2), failIf (decide (u8 p 3 ≠ 0)) (ansBad 3),
      failIf (free && pageBound f (u16 p 0) d) ansNo, failIf (!free && slot.isNone) (ansPool 9) ] (fun d =>
    let g := if free then u16 p 0 else slot.getD 0
    ({ d with dbPages := tset 0 d.dbPages (pageKey f g) (natOfBool !free) }, some (ansOk (natLe 2 g ++ natLe 2 0)))) d

def execDbAlloc (c : Cmd) (s : State) : Host.Outcome State Fault Refusal := done s (runPacket 0x7108 (dbAlloc c) c s.dev)

/-- End a function's mailbox command at its FLR or destruction (R389). (DEDUCED, log entry 16) -/
def endMailbox (f : Fn) (d : Device) : Device :=
  let m := d.mailbox f
  let d := if m.state = .submitted then mbxRaise f 0x01 (d.setMailbox f { m with state := .idle }) else d
  (d.kme.execs.filter fun e => decide (e.cmd.source = fnSource f)).foldl (fun d e =>
    finishExec e { status := .aborted, detail := natOfBool e.applied, result := [] } d) d

/-- A mailbox ceases to exist; its payload stays (R107, R455). -/
def closeMailbox (f : Fn) (d : Device) : Device :=
  let d := endMailbox f d
  d.setMailbox f { mbxReset with mem := (d.mailbox f).mem }

/-- Release the objects of a function: QPs, CQs, regions, doorbell pages, translations, MSI-X entries (Table 13.4), and the
memory requests it has issued that no queue has taken. -/
def releaseFn (f : Fn) (d : Device) : Device :=
  let k := fnKey f
  { d with
    qps := d.qps.filter fun e => decide (e.2.fn ≠ f), cqs := d.cqs.filter fun e => decide (e.2.fn ≠ f),
    regions := d.regions.map fun e => if e.2.fn = f ∧ e.2.inUse = true then (e.1, { e.2 with inUse := false }) else e,
    dbPages := d.dbPages.filter fun e => decide (e.1 / 4096 ≠ k), ats := d.ats.filter fun e => decide (e.fn ≠ f),
    atsAsks := d.atsAsks.filter fun e => decide (e.fn ≠ f), issued := d.issued.filter fun a => decide (a.fn ≠ some f) ||
      a.rma.isSome, msix := d.msix.filter fun e => decide (e.1 / 2048 ≠ k) }

/-- FREE_VFS of the device, and the VFs of a PF. -/
def freeVfs (d : Device) : Nat := 4096 - d.vfPart.length
def vfsOf (p : Nat) (d : Device) : List Nat := (d.vfPart.filter fun e => decide (e.2 = p)).map (·.1)

/-- A TARGET that names a tenant partition in [5:0]. -/
def partTarget (c : Cmd) (d : Device) : Option Ans :=
  let p := c.target.toNat
  firstFail
    [ failIf (decide (p = 0) || decide (48 < p) || decide ((d.part p).state = .free)) (ansBad 0xFF08),
      failIf (decide (c.param0 ≠ 0)) (ansBad 0xFF0C) ]

/-- RMA_VF_CREATE (R251, R285); during an FLR of the PF it waits for its end (Table 13.5). -/
def rmaVfCreate (c : Cmd) (d : Device) : Device × Option Ans :=
  let p := c.target.toNat
  if c.params.length = 0 ∧ partTarget c d = none ∧ (d.func (.pf p)).flr ≠ .idle then (d, none)
  else checked
    [ failIf (decide (c.params.length ≠ 0)) (ansLen 0), partTarget c d, failIf (d.func (.pf p)).vfEnable ansNo,
      failIf (decide (256 ≤ (vfsOf p d).length) || decide (freeVfs d = 0)) (ansPool 5) ] (fun d =>
    let i := (vfsOf p d).length
    let v := (lowest (fun v => !d.vfPart.any fun e => decide (e.1 = v)) 0 4096).getD 0
    let d := { d with vfPart := tinsert v p d.vfPart, vfIndex := tset 0 d.vfIndex v i, funcs := terase (fnKey (.vf v)) d.funcs }
    (d, some (ansOk (natLe 2 v ++ natLe 2 i ++ natLe 2 (freeVfs d) ++ natLe 2 0)))) d

def execRmaVfCreate (c : Cmd) (s : State) : Host.Outcome State Fault Refusal := done s (runPacket 0x0701 (rmaVfCreate c) c s.dev)

/-- A VF goes back to the pool with its objects released. -/
def dropVf (v : Nat) (d : Device) : Device :=
  let d := releaseFn (.vf v) (closeMailbox (.vf v) d)
  { d with vfPart := terase v d.vfPart, vfIndex := terase v d.vfIndex, funcs := terase (fnKey (.vf v)) d.funcs }

/-- RMA_VF_DESTROY (R285). -/
def rmaVfDestroy (c : Cmd) (d : Device) : Device × Option Ans :=
  let v := c.target.toNat
  let p := tget 0 d.vfPart v
  let top := decide (tget 0 d.vfIndex v + 1 = (vfsOf p d).length)
  checked
    [ failIf (decide (c.params.length ≠ 0)) (ansLen 0), failIf (!fnExists (.vf v) d) (ansBad 0xFF08),
      failIf (decide (c.param0 ≠ 0)) (ansBad 0xFF0C), failIf (!top || (d.func (.pf p)).vfEnable) ansNo ]
    (fun d => (dropVf v d, some (ansOk []))) d

def execRmaVfDestroy (c : Cmd) (s : State) : Host.Outcome State Fault Refusal := done s (runPacket 0x0702 (rmaVfDestroy c) c s.dev)

/-- RMA_POOL_SET (R285). -/
def rmaPoolSet (c : Cmd) (d : Device) : Device × Option Ans :=
  let p := c.params
  let t := c.target.toNat
  let used := [contextsOf t d, (regionsOf t d).length, pageSum (regionsOf t d)]
  checked
    [ failIf (decide (p.length ≠ 12)) (ansLen 12), partTarget c d, failIf (decide (16777216 < u32 p 0)) (ansBad 0),
      failIf (decide (16777216 < u32 p 4)) (ansBad 4), failIf (decide (2 ^ 30 < u32 p 8)) (ansBad 8),
      failIf (decide (u32 p 0 < used.getD 0 0) || decide (u32 p 4 < used.getD 1 0) || decide (u32 p 8 < used.getD 2 0)) ansNo ]
    (fun d =>
      let x : RmaPool := { ctxLimit := u32 p 0, regLimit := u32 p 4, pageLimit := u32 p 8 }
      ({ d with pools := tset poolReset d.pools t x }, some (ansOk (used.map (natLe 4)).flatten))) d

def execRmaPoolSet (c : Cmd) (s : State) : Host.Outcome State Fault Refusal := done s (runPacket 0x0703 (rmaPoolSet c) c s.dev)

/-- RMA_BK_CFG (Table 9.13). -/
def backingWord (d : Device) : Nat := d.rma.ctxCount / 65536 + 65536 * (d.rma.regCount / 65536)

/-- RMA_BACKING_SET (R253, R285). -/
def rmaBackingSet (c : Cmd) (d : Device) : Device × Option Ans :=
  let p := c.params
  let count := fun (v lo : Nat) => decide (v = 0) || (decide (lo ≤ v) && decide (v ≤ 16777216) && decide (v % 65536 = 0))
  checked
    [ failIf (decide (p.length ≠ 32)) (ansLen 32), headerZero c, failIf (decide (u64 p 0 % 4096 ≠ 0)) (ansBad 0),
      failIf (decide (u64 p 8 % 4096 ≠ 0)) (ansBad 8), failIf (!count (u32 p 16) 1048576) (ansBad 16),
      failIf (!count (u32 p 20) 524288) (ansBad 20), failIf (!zeros p 24 8) (ansBad 24),
      failIf (!d.qps.isEmpty || !d.cqs.isEmpty || !(regionsIn d).isEmpty) ansNo ] (fun d =>
    let g := { d.rma with ctxBase := u64 p 0, regBase := u64 p 8, ctxCount := u32 p 16, regCount := u32 p 20 }
    let d := { d with rma := g }
    (d, some (ansOk (natLe 4 (backingWord d))))) d

def execRmaBackingSet (c : Cmd) (s : State) : Host.Outcome State Fault Refusal := done s (runPacket 0x0704 (rmaBackingSet c) c s.dev)

/-- Entries in use in the range of a CTX_ZERO, and its result. -/
def zeroSkipped (p : List Byte) (d : Device) : Nat :=
  let within := fun (n : Nat) => decide (u32 p 4 ≤ n) && decide (n < u32 p 4 + u32 p 8)
  if u8 p 0 = 1 then ((regionsIn d).filter fun e => within e.1).length
  else (d.qps.filter fun e => within e.1).length + (d.cqs.filter fun e => within e.1).length
def zeroAnswer (p : List Byte) (d : Device) : Ans := ansOk (natLe 4 (u32 p 8 - zeroSkipped p d) ++ natLe 4 (zeroSkipped p d))
def zeroEffect (p : List Byte) (d : Device) : Device := emit (.zeroSlots (decide (u8 p 0 = 1)) (u32 p 4) (u32 p 8)) d

/-- CTX_ZERO (R285): LONG above 65,536 entries. -/
def ctxZero (c : Cmd) (d : Device) : Device × Option Ans :=
  let p := c.params
  let space := if u8 p 0 = 1 then regionSpace d else contextSpace d
  checked
    [ failIf (decide (p.length ≠ 12)) (ansLen 12), headerZero c, failIf (decide (1 < u8 p 0)) (ansBad 0), failIf (!zeros p 1 3) (ansBad 1),
      failIf (decide (space < u32 p 4 + u32 p 8)) (ansBad 4) ] (fun d =>
    if 65536 < u32 p 8 then (acceptLong 0x0705 c (markApplied 0x0705 c d), none)
    else (zeroEffect p d, some (zeroAnswer p d))) d

def execCtxZero (c : Cmd) (s : State) : Host.Outcome State Fault Refusal := done s (runPacket 0x0705 (ctxZero c) c s.dev)

/-- A doorbell write that is ignored and counted (R265). -/
def badDoorbell (d : Device) : Device := { d with rma := { d.rma with cntBadDb := satAdd 0xFFFFFFFF d.rma.cntBadDb 1 } }

/-- A doorbell write that reaches its function's queue BAR: none during an FLR, in D3hot or with Memory Space Enable 0, and
nothing that the fence has discarded; a wrong size or place is refused (R262–R265, R362, Table 13.6). -/
def doorbellWrite (f : Fn) (addr off : Nat) (data : List Byte) (act : Nat → Nat → Nat → Device → Device) (d : Device) : Device :=
  let x := d.func f
  if x.flr ≠ .idle ∨ d.fenced (fnPart f d) = true then d
  else if x.mse = false ∨ x.d3hot = true then fnError f 20 true d
  else if data.length ≠ 8 ∨ addr % 4096 ≠ off then fnError f 15 false (badDoorbell d)
  else act (addr / 4096) (leNat (data.take 4)) (leNat (data.drop 4)) d

/-- SQ_DOORBELL (R262, R265). A QP in RESET keeps its indices at 0. (DEDUCED, log entry 36) -/
def sqDoorbell (f : Fn) (page lo pi : Nat) (d : Device) : Device :=
  let n := lo % 2 ^ 24
  match d.qp n with
  | none => badDoorbell d
  | some q =>
    if q.fn ≠ f ∨ q.dbPage ≠ page then badDoorbell d
    else if q.sqDepth < ahead pi q.freed ∨ ahead pi q.freed < ahead q.sqPi q.freed then badDoorbell d
    else if q.state = .reset then d
    else d.putQp n { q with sqPi := pi }

def execSqDoorbell (f : Fn) (addr : Nat) (data : List Byte) (s : State) : Host.Outcome State Fault Refusal :=
  done s (doorbellWrite f addr 0 data (sqDoorbell f) s.dev)

/-- CQ_DOORBELL (R263, R265): the entries consumed free the notices of their QPs. -/
def cqDoorbell (f : Fn) (page lo ci : Nat) (d : Device) : Device :=
  let n := lo % 2 ^ 24
  match d.cq n with
  | none => badDoorbell d
  | some c =>
    let k := ahead ci c.ci
    if c.fn ≠ f ∨ c.dbPage ≠ page ∨ ahead c.prod c.ci < k then badDoorbell d
    else
      let d := (c.noticeOf.take k).foldl (fun d x => match (if x = 0 then none else d.qp (x - 1)) with
        | some q => d.putQp (x - 1) { q with noticesUsed := q.noticesUsed + 1 }
        | none => d) d
      d.putCq n { c with ci := ci, noticeOf := c.noticeOf.drop k, armed := c.armed || bitOf lo 24 }

def execCqDoorbell (f : Fn) (addr : Nat) (data : List Byte) (s : State) : Host.Outcome State Fault Refusal :=
  done s (doorbellWrite f addr 8 data (cqDoorbell f) s.dev)

end Sys2Proof.Machine
end

