-- ==== Sys2Proof/Machine/Endpoint.lean ====
section
/-! DEFINITION. Machine/Endpoint.lean: the S96's own functions (chapter 13): function-level reset, the translation cache,
completion timeouts, vectors that a host unmasks. -/

namespace Sys2Proof.Machine

/-- The functions that an FLR resets (R371): an RMA PF with its VFs, or one VF. -/
def flrGroup (f : Fn) (d : Device) : List Fn :=
  match f with
  | .mgr => []
  | .pf p => .pf p :: (vfsOf p d).map .vf
  | .vf v => [.vf v]

/-- Step 1 of Table 13.4 for one function: its requests of before t0 are marked, with their tags (R373); its mailbox command
ends. -/
def silenceStart (d : Device) (f : Fn) : Device :=
  let mine := fun (t : Track) => decide (t.fn = some f)
  let tags := (d.tracks.filter mine).map fun t => (t.tag, d.now)
  let d := { d with tracks := d.tracks.map fun t => if mine t then { t with answered := true } else t }
  let x := d.func f
  let recent := x.oldTags.filter fun t => decide (d.now < t.2 + 50 * msNs)
  endMailbox f (d.setFunc f { x with flr := .silencing, flrEnded := 0, oldTags := recent ++ tags })

/-- An FLR begins (R371): of a PF it clears VF Enable and covers every VF of the PF. (DEDUCED, log entry 23) -/
def startFlr (f : Fn) (d : Device) : Device :=
  if fnExists f d = true ∧ f ≠ .mgr then
    let d := (flrGroup f d).foldl silenceStart d
    let x := d.func f
    d.setFunc f { x with vfEnable := false }
  else d

def execInitiateFunctionLevelReset (f : Fn) (s : State) : Host.Outcome State Fault Refusal :=
  done s (if (s.dev.func f).flr = .idle then startFlr f s.dev else s.dev)

/-- What an FLR or a reset reports counts for a PART_QUIESCE of the partition that waits (R96, Table 13.5). -/
def addReported (p k : Nat) (d : Device) : Device :=
  { d with kme := { d.kme with execs := d.kme.execs.map fun e =>
      if e.op = 0x0303 ∧ e.cmd.target.toNat = p ∧ e.applied = true then { e with reported := e.reported + k } else e } }

/-- Steps 2 and 3 of Table 13.4 for one function: its RMA items go, each QP in RTS sends NAK_FAULT once, and its memory
requests still inside are dropped, a posted one with a RESET entry. (DEDUCED, log entry 23) -/
def silence (d : Device) (f : Fn) : Device :=
  if (d.func f).flr ≠ .silencing then d
  else
    let inside := d.items.filter fun i => decide (i.fn = some f) && decide (i.stage ≠ .replay) && decide (i.cls ≠ 2)
    let waiting := (d.issued.filter fun a => decide (a.fn = some f)).map fun a => bornItem a (fnPart f d) d
    let mine := waiting ++ inside
    let d := addReported (fnPart f d) mine.length { d with issued := d.issued.filter fun a => decide (a.fn ≠ some f) }
    let d := inside.foldl (fun d i => removeItem i.id d) d
    let d := mine.foldl (fun d i =>
      if i.rma.isSome || decide (i.cls = 1) then traceEnd i 5 d
      else journalWrite i.part (slotSource i) (dropEntry i 4 d.glb.fid 0x7F d) (traceEnd i 5 d)) d
    d.qps.foldl (fun d e =>
      if e.2.fn = f ∧ e.2.state = .rts ∧ e.2.faultSent = false then
        sendRma e.1 (ackHdr e.1 5 e.2.epsn e.2 d) (d.putQp e.1 { e.2 with faultSent := true })
      else d) d

def execFlrSilence (f : Fn) (s : State) : Host.Outcome State Fault Refusal :=
  done s ((flrGroup f s.dev).foldl silence s.dev)

/-- Work requests of a function that its FLR ends without a completion entry. -/
def endedWork (f : Fn) (d : Device) : Nat :=
  ((d.qps.filter fun e => decide (e.2.fn = f)).map fun e => e.2.reqs.length).foldl (· + ·) 0

/-- Step 4 of Table 13.4: one journal entry of reason RESET for the run, with COUNT and the requests it ended.
(DEDUCED, log entry 23) -/
def flrEntry (f : Fn) (d : Device) : Device :=
  if (d.func f).flr ≠ .silencing then d
  else
    let g := flrGroup f d
    let d := g.foldl silence d
    let n := (g.map fun h => endedWork h d).foldl (· + ·) 0
    let e : JournalEntry := { address := 0, reqId := fnRid f d, tag := 0, length := n, reason := 4, count := true,
                              srcFid := d.glb.fid, port := 0x7F, lossFid := d.glb.fid, lossPort := 0x7F }
    let d := addReported (fnPart f d) n (journalWrite (fnPart f d) 255 e d)
    g.foldl (fun d h => d.setFunc h { d.func h with flr := .releasing, flrEnded := endedWork h d }) d

def execFlrResetEntry (f : Fn) (s : State) : Host.Outcome State Fault Refusal := done s (flrEntry f s.dev)

/-- Steps 5 and 6 of Table 13.4 for one function: objects released, configuration space at reset values; LATE_CPL stays until
cold reset, and the tags of before t0 stay barred (R373). -/
def flrEnd (d : Device) (f : Fn) : Device :=
  let x := d.func f
  let d := releaseFn f d
  d.setFunc f { funcReset with lateCpl := x.lateCpl, oldTags := x.oldTags, flrEnded := x.flrEnded }

/-- RMA_VF_CREATE commands that waited for the end of an FLR are executed (Table 13.5). -/
def runVfCreates (p : Nat) (d : Device) : Device :=
  (d.kme.execs.filter fun e => decide (e.op = 0x0701) && decide (e.cmd.target.toNat = p)).foldl (fun d e =>
    match rmaVfCreate e.cmd d with
    | (d', some a) => finishExec e a d'
    | (d', none) => d') d

/-- The FLR ends: commands on the released objects are answered, waiting ones go on. (DEDUCED, log entry 23) -/
def flrRelease (f : Fn) (d : Device) : Device :=
  if (d.func f).flr ≠ .releasing then d
  else
    let d := answerDeregister (answerDestroys ((flrGroup f d).foldl flrEnd d))
    match f with
    | .pf p => runVfCreates p d
    | _ => d

def execFlrRelease (f : Fn) (s : State) : Host.Outcome State Fault Refusal := done s (flrRelease f s.dev)

/-- A whole FLR run at once: what a partition reset owes at its end (Table 4.3). -/
def flrWhole (f : Fn) (d : Device) : Device :=
  let d := if (d.func f).flr = .idle then startFlr f d else d
  flrRelease f (flrEntry f d)

/-- A range of pages overlaps an entry. -/
def overlapsPages (a n b m : Nat) : Bool := decide (a < b + m) && decide (b < a + n)

/-- ATS Enable goes from 1 to 0 (R369): the function's entries go, its later requests are untranslated. -/
def atsOff (f : Fn) (d : Device) : Device :=
  d.setFunc f { d.func f with atsEnable := false } |> fun d =>
    { d with ats := d.ats.filter (fun e => decide (e.fn ≠ f)), atsAsks := d.atsAsks.filter fun a => decide (a.fn ≠ f) }

def execAtsEnableClear (f : Fn) (s : State) : Host.Outcome State Fault Refusal :=
  done s (if (s.dev.func f).atsEnable then atsOff f s.dev else s.dev)

/-- Requests issued under removed entries that are still inside, or, for a read, unanswered (R368). -/
def underEntries (f : Fn) (es : List AtsEntry) (d : Device) : List Nat :=
  let hit := fun (a : Nat) => es.any fun e => decide (e.target ≤ a / 4096) && decide (a / 4096 < e.target + e.pages)
  ((d.issued.filter fun a => decide (a.fn = some f) && a.rma.isNone && hit a.tlp.addr).map fun _ => d.nextId) ++
  ((d.items.filter fun i => decide (i.fn = some f) && decide (i.stage ≠ .replay) && i.rma.isNone && hit i.tlp.addr).map (·.id)) ++
    ((d.tracks.filter fun t => decide (t.fn = some f) && !t.answered && hit t.addr).map (·.id))

/-- INVALIDATE_REQUEST (R368): the entries go at once; during an FLR the completion is sent at once (Table 13.5). A 33rd
waits. (DEDUCED, log entry 33) -/
def invalidateRequest (f : Fn) (page pages tag : Nat) (d : Device) : Device :=
  if f = .mgr then d
  else if 32 ≤ d.invals.length ∧ (d.func f).flr = .idle then { d with invalWaits := d.invalWaits ++ [(f, page, pages, tag)] }
  else
    let gone := d.ats.filter fun e => decide (e.fn = f) && overlapsPages e.page e.pages page pages
    let d := { d with ats := d.ats.filter fun e => !gone.contains e }
    if (d.func f).flr ≠ .idle then emit (.ats f 1 page tag) d
    else
      { d with invals := d.invals ++
        [{ fn := f, page := page, pages := pages, tag := tag, waitFor := underEntries f gone d, gone := gone }] }

def execInvalidateRequest (f : Fn) (page : Nat) (pages : Nat) (tag : Nat) (s : State) : Host.Outcome State Fault Refusal :=
  done s (invalidateRequest f page pages tag s.dev)

/-- A request that an invalidation waits for is still inside or unanswered. -/
def stillOut (d : Device) (id : Nat) : Bool :=
  d.items.any (fun i => decide (i.id = id) && decide (i.stage ≠ .replay)) || d.tracks.any fun t => decide (t.id = id) && !t.answered

/-- The invalidation that has waited longest is handled (R368). (DEDUCED, log entry 33) -/
def nextInvalidation (d : Device) : Device :=
  match d.invalWaits with
  | [] => d
  | (f, page, pages, tag) :: rest => invalidateRequest f page pages tag { d with invalWaits := rest }

/-- INVALIDATE_COMPLETION (R368). -/
def invalidateCompletion (f : Fn) (tag : Nat) (d : Device) : Device :=
  match d.invals.find? fun v => decide (v.fn = f) && decide (v.tag = tag) with
  | none => d
  | some v => if v.waitFor.any (stillOut d) || !(underEntries f v.gone d).isEmpty then d
    else nextInvalidation (emit (.ats f 1 v.page tag) { d with invals := d.invals.erase v })

def execInvalidateCompletion (f : Fn) (tag : Nat) (s : State) : Host.Outcome State Fault Refusal :=
  done s (invalidateCompletion f tag s.dev)

/-- The responder's accesses that waited for the pages begin now (R272, R367). -/
def beginWaiting (n page pages : Nat) (d : Device) : Device :=
  match d.qp n with
  | none => d
  | some q =>
    let touches := fun (h : RmaHdr) =>
      decide (h.op = 3 ∨ isWriteOp h.op = true ∨ isAtomicOp h.op = true) &&
        (pagesOf h.address (remoteLen h)).any fun g => decide (page ≤ g) && decide (g < page + pages)
    let hs := ((q.rx.filter fun x => !x.complete && touches x.hdr).map (·.hdr)) ++ q.rereads.filter touches
    hs.foldl (fun d h => match d.qp n with
      | some q =>
        if q.state = .rts then
          let r := beginAccess n q h d
          if r.2 then r.1 else placementFault n r.1
        else d
      | none => d) d

/-- What waited for a translation goes on: fetches and source reads with the next RMA_SEGMENT_SEND, responses and completion
entries here. -/
def resumeAsk (page pages : Nat) (d : Device) (a : AtsAsk) : Device :=
  if a.use = 1 then
    match a.held with
    | some h => readResp h d
    | none => d
  else if a.use = 2 ∨ a.use = 3 then beginWaiting a.qpn page pages d
  else if a.use = 4 then
    match d.qp a.qpn with
    | none => d
    | some q =>
      let d := completeHeads a.qpn q.reqs.length d
      let r := advanceEpsn a.qpn 256 false d
      match r.1.qp a.qpn with
      | some z => if decide (z.state = .rts) && r.2 then sendAck a.qpn 0 z.epsn r.1 else r.1
      | none => r.1
  else d

/-- TRANSLATION_COMPLETION (R366–R369). -/
def translationCompletion (f : Fn) (e : AtsEntry) (d : Device) : Device :=
  let asks := d.atsAsks.filter fun a => decide (a.fn = f) && decide (e.page ≤ a.page) && decide (a.page < e.page + e.pages)
  let answered := fun (d : Device) =>
    { d with tracks := d.tracks.filter fun t => !(decide (t.fn = some f) && decide (t.kind = .transReq) &&
      asks.any fun a => decide (a.page = t.addr / 4096)) }
  if (d.func f).atsEnable = false ∨ (d.func f).flr ≠ .idle then d
  else if asks.isEmpty then fnError f 16 false d
  else if d.invals.any (fun v => decide (v.fn = f) && overlapsPages v.page v.pages e.page e.pages) then
    ((asks.map fun a => (a.page, a.qpn)).eraseDups).foldl (fun d g =>
      issueRead g.2 f (engineTlp .transReq f (g.1 * 4096) 8 [] d) d) (answered d)
  else
    let rest := d.ats.filter fun x => !(decide (x.fn = f) && overlapsPages x.page x.pages e.page e.pages)
    let d := { answered d with ats := (e :: rest).take 65536, atsAsks := d.atsAsks.filter fun a => !asks.contains a }
    (asks.map fun a => { a with page := 0 }).eraseDups.foldl (resumeAsk e.page e.pages) d

def execTranslationCompletion (f : Fn) (page : Nat) (pages : Nat) (target : Nat) (read : Bool) (write : Bool) (s : State) :
    Host.Outcome State Fault Refusal :=
  done s (translationCompletion f { fn := f, page := page, pages := pages, target := target, read := read, write := write } s.dev)

/-- The request of a function whose local buffer or queue entry lies at an address fails with LOCAL_DMA (R376). -/
def localDma (f : Fn) (a : Nat) (d : Device) : Device :=
  let at_ := fun (b len : Nat) => decide (hostAddr f b d ≤ a) && decide (a < hostAddr f b d + max len 1)
  let fetching := fun (q : Qp) => decide (q.fetched ≠ q.sqPi) && at_ (q.sqBase + (q.fetched % q.sqDepth) * 64) 64
  let user := fun (r : WorkReq) => isWriteOp r.wqe.op && at_ r.wqe.localAddr r.wqe.length
  match d.qps.find? fun e => decide (e.2.fn = f) && decide (e.2.state = .rts) && (fetching e.2 || e.2.reqs.any user) with
  | none => placementFails f a d
  | some (n, q) =>
    if fetching q then
      let v := d.fresh (2 ^ 64)
      toError n 7 (some q.nextPsn) (takeEntry n q (blankWqe v.1) v.2)
    else toError n 7 ((q.reqs.find? user).map (·.firstPsn)) d

/-- A Translation Request of a function fails: what waits for the page fails with it (R366, R367). -/
def askFails (f : Fn) (page : Nat) (d : Device) : Device :=
  let asks := d.atsAsks.filter fun a => decide (a.fn = f) && decide (a.page = page)
  asks.foldl (fun d a =>
    match d.qp a.qpn with
    | none => d
    | some q =>
      if q.state ≠ .rts then d
      else if a.use = 0 then
        match q.reqs.find? fun r => decide (r.sent < itemsOf r) with
        | some r => toError a.qpn 7 (some r.firstPsn) d
        | none =>
          let v := d.fresh (2 ^ 64)
          toError a.qpn 7 (some q.nextPsn) (takeEntry a.qpn q (blankWqe v.1) v.2)
      else if a.use = 1 then
        let psn : Nat := (a.held.map (·.psn)).getD 0
        toError a.qpn 7 ((q.reqs.find? fun r => decide (psnFrom psn r.firstPsn < r.psns)).map (·.firstPsn)) d
      else placementFault a.qpn d) { d with atsAsks := d.atsAsks.filter fun a => !asks.contains a }

/-- What a function's request that has left, or been answered, means for its engine: an error status or poisoned data fails the
access (R367, R375, R376, Table 9.3); a placement that has left may end a request (R269). -/
def engineEgress (i : Item) (d : Device) : Device :=
  match i.fn with
  | none => d
  | some f =>
    if i.rma.isSome then d
    else if i.cls = 2 then
      if (i.tlp.status = .sc ∧ i.tlp.poisoned = false) ∨ i.egress < 96 then d
      else
        let d := if i.tlp.status = .sc then fnError f 12 true d else d
        if i.tlp.addrType = 1 then askFails f (i.srcAddr / 4096) d else localDma f i.srcAddr d
    else if i.cls = 0 then
      (d.qps.filter fun e => decide (e.2.fn = f)).foldl (fun d e => completeHeads e.1 e.2.reqs.length d) d
    else d

/-- FUNCTION_COMPLETION_TIMEOUT (R376). -/
def functionTimeout (id : Nat) (d : Device) : Device :=
  match d.tracks.find? fun t => decide (t.id = id) && t.fn.isSome && !t.answered with
  | none => d
  | some t =>
    match t.fn with
    | none => d
    | some f =>
      if d.now < t.sentAt + (d.func f).cplTimeoutNs then d
      else
        let d := { d with tracks := d.tracks.map fun x => if x.id = id then { x with answered := true } else x }
        let d := fnError f 14 false d
        if t.kind = .transReq then askFails f (t.addr / 4096) d else localDma f t.addr d

def execFunctionCompletionTimeout (track : Nat) (s : State) : Host.Outcome State Fault Refusal :=
  done s (functionTimeout track s.dev)

/-- A vector is unmasked (R364): a pending event leaves as one message. -/
def unmaskVector (f : Fn) (v : Nat) (d : Device) : Device :=
  if vectorCount f ≤ v then d
  else
    let k := fnKey f * 2048 + v
    let e := tget msixReset d.msix k
    let d := { d with msix := tset msixReset d.msix k { e with masked := false, pending := false } }
    if e.pending then sendVector f v d else d

/-- VECTOR_UNMASK. -/
def execVectorUnmask (f : Fn) (vector : Nat) (s : State) : Host.Outcome State Fault Refusal := done s (unmaskVector f vector s.dev)

end Sys2Proof.Machine
end

