-- ==== Sys2Proof/Machine/Lanes.lean ====
section
/-! DEFINITION. Machine/Lanes.lean: LANE_TEST, CHAN_MEASURE, the PFL staircase, equalization records and lock events
(chapter 12). -/

namespace Sys2Proof.Machine

/-- Lanes of a port that a mask names. -/
def namedLanes (n mask : Nat) (d : Device) : List Nat := (portLanes n d).filter fun k => bitOf mask (k - 4 * n)

/-- Every counter of a lane's checker at 0. -/
def laneCleared (x : Lane) : Lane := { x with bits := 0, errors := 0, lockLosses := 0 }

/-- START on one lane (R353, R355). -/
def laneStart (p : List Byte) (d : Device) (k : Nat) : Device :=
  let x := laneCleared (d.lane k)
  let loop := u8 p 5
  let x := { x with rate := u8 p 1, pattern := u8 p 4, userPattern := BitVec.ofNat 64 (u64 p 8), loopback := loop,
                    genOn := !bitOf (u8 p 7) 0 && decide (loop ≠ 3), chkOn := !bitOf (u8 p 7) 1 && decide (u8 p 4 ≠ 8),
                    noGray := bitOf (u8 p 7) 2, inTest := true, locked := false, eyeBusy := false, inject := 0,
                    txIdle := decide (loop = 1) || decide (loop = 2) }
  setPreset k (u8 p 6) (d.setLane k x)

/-- INJECT on one lane: its errors are counted by the lane's own checker when the pattern comes back to it, locked
(R355, Table 12.15). -/
def laneInject (count : Nat) (x : Lane) : Lane :=
  let counted := x.locked && (decide (x.loopback = 1) || decide (x.loopback = 2))
  { x with inject := count, errors := if counted then min (2 ^ 48 - 1) (x.errors + count) else x.errors }

/-- One lane of a READ result (Table 12.14). -/
def laneRead (x : Lane) : List Byte :=
  natLe 6 x.bits ++ natLe 6 x.errors ++
    natLe 1 (natOfBool x.locked + 2 * natOfBool x.inTest + 4 * natOfBool x.eyeDone) ++ natLe 1 x.lockLosses ++ natLe 2 0 ++
    natLe 4 x.eye.toNat

/-- ARG of Table 12.13 by OP. -/
def argOk (p : List Byte) : Bool :=
  let a := u64 p 8
  let op := u8 p 0
  if op = 1 then decide (u8 p 4 = 7) || decide (a = 0)
  else if op = 4 then decide (1 ≤ a) && decide (a ≤ 65535)
  else if op = 5 then decide (6 ≤ a) && decide (a ≤ 9)
  else decide (a = 0)

/-- LANE_TEST (R352–R355). -/
def laneTest (c : Cmd) (d : Device) : Device × Option Ans :=
  let n := c.target.toNat
  let p := c.params
  let op := u8 p 0
  let ks := namedLanes n (u16 p 2) d
  checked
    [ failIf (decide (p.length ≠ 16)) (ansLen 16), portHeader c d,
      failIf (decide (5 < op)) (ansBad 0),
      failIf (decide (7 < u8 p 1) || (decide (op = 1) && decide (u8 p 1 = 0))) (ansBad 1),
      failIf (decide (2 ^ (d.port n).width ≤ u16 p 2)) (ansBad 2),
      failIf (decide (8 < u8 p 4)) (ansBad 4), failIf (decide (3 < u8 p 5)) (ansBad 5),
      failIf (decide (10 < u8 p 6) && !(decide (16 ≤ u8 p 6) && decide (u8 p 6 ≤ 23))) (ansBad 6),
      failIf (decide (8 ≤ u8 p 7)) (ansBad 7), failIf (!argOk p) (ansBad 8),
      failIf (decide (op = 1) && (decide (u8 p 4 = 5) || decide (u8 p 4 = 6)) && decide (u8 p 1 < 6)) (ansBad 1),
      failIf (decide ((d.port n).personality ≠ .diag)) ansNo,
      failIf (decide (op = 4) && ks.any fun k => !(d.lane k).genOn) ansNo ] (fun d =>
    let all := fun (f : Lane → Lane) => ks.foldl (fun d k => d.setLane k (f (d.lane k))) d
    if op = 0 then (ks.foldl (fun d k => laneStop k d) d, some (ansOk []))
    else if op = 1 then (ks.foldl (laneStart p) d, some (ansOk []))
    else if op = 2 then
      (d, some (ansOk (natLe 8 d.devTime.toNat ++ ((portLanes n d).map fun k => laneRead (d.lane k)).flatten)))
    else if op = 3 then (all laneCleared, some (ansOk []))
    else if op = 4 then (all (laneInject (u16 p 8)), some (ansOk []))
    else (all (fun x => { x with eyeBusy := true, eyeDone := false, eyeTarget := u8 p 8 }), some (ansOk []))) d

def execLaneTest (c : Cmd) (s : State) : Host.Outcome State Fault Refusal := done s (runPacket 0x0205 (laneTest c) c s.dev)

/-- The port a lane belongs to, if its width uses the lane (R30). -/
def lanePort (k : Nat) (d : Device) : Option Nat :=
  let n := ownerOf (k / 4) d
  if k - 4 * n < (d.port n).width then some n else none

/-- STATUS of a lane's measurement (Table 12.11). -/
def chanStatus (k : Nat) (d : Device) : Nat :=
  if d.clk.parked.getLsbD (k / 96) then 3
  else match lanePort k d with
    | none => 1
    | some n =>
      match (d.port n).personality with
      | .pfl =>
        match (d.pfl n).state with
        | .active => 0
        | .train => 2
        | .step => 2
        | .retrain => 2
        | _ => 1
      | .off => 1
      | .diag => 1
      | _ => if (d.pci n).lstate = .recovery then 2 else if lstateUp (d.pci n).lstate then 0 else 1

/-- One lane of a CHAN_MEASURE result (Table 12.11), as STATUS stood before. (DEDUCED, log entry 42) -/
def chanRow (st : Nat) (x : Lane) : List Byte :=
  natLe 2 x.il ++ natLe 2 x.lengthMm ++ natLe 1 x.measRate ++ natLe 1 st ++ natLe 2 0

/-- Measure one lane for CHAN_MEASURE. -/
def chanLane (cls : Nat) (keep : Bool) (d : Device) (k : Nat) : Device :=
  let d := if chanStatus k d = 0 then measureLane cls d k else d
  if keep then d.setLane k { d.lane k with cls := cls } else d

/-- Record how much a LONG command has done. -/
def setReported (op : Nat) (c : Cmd) (k : Nat) (d : Device) : Device :=
  { d with kme := { d.kme with
    execs := d.kme.execs.map (fun e => if sameCommand op c e then { e with reported := k } else e) } }

/-- CHAN_MEASURE (R351): above 16 lanes it is LONG, and its notice carries MEASURED and NOT_MEASURED. -/
def chanMeasure (c : Cmd) (d : Device) : Device × Option Ans :=
  let p := c.params
  let first := u16 p 0
  let count := u16 p 2
  let ks := (List.range count).map (first + ·)
  checked
    [ failIf (decide (p.length ≠ 8)) (ansLen 8), headerZero c, failIf (decide (383 < first)) (ansBad 0),
      failIf (decide (count = 0) || decide (384 < count)) (ansBad 2), failIf (decide (3 < u8 p 4)) (ansBad 4),
      failIf (decide (4 ≤ u8 p 5)) (ansBad 5), failIf (!zeros p 6 2) (ansBad 6),
      failIf (decide (384 < first + count)) (ansBad 0) ] (fun d =>
    let sts := ks.map fun k => (k, chanStatus k d)
    let owners := ks.filterMap fun k => lanePort k d
    let e := ks.foldl (chanLane (u8 p 4) (bitOf (u8 p 5) 0)) d
    let e := if bitOf (u8 p 5) 1 then { e with eqRecords := e.eqRecords.filter fun r => !owners.contains r.port } else e
    if count ≤ 16 then (e, some (ansOk ((sts.map fun x => chanRow x.2 (e.lane x.1)).flatten)))
    else (setReported 0x0206 c (sts.filter fun x => x.2 = 0).length (acceptLong 0x0206 c e), none)) d

def execChanMeasure (c : Cmd) (s : State) : Host.Outcome State Fault Refusal := done s (runPacket 0x0206 (chanMeasure c) c s.dev)

/-- What the completion notice of a LONG CHAN_MEASURE carries. -/
def chanNotice (e : Exec) : Ans := ansOk (natLe 2 e.reported ++ natLe 2 (u16 e.cmd.params 2 - e.reported))

/-- TRAIN_LOCK (R195, R338, R339, R344): the lanes lock at 32 Gb/s on CKR; skew, polarity and the first loss estimate
are what the receiver finds. (DEDUCED, log entry 42) -/
def trainLane (d : Device) (k : Nat) : Device :=
  let v := d.fresh 2048
  let w := v.2.fresh 2
  let l := w.2.fresh 256
  let skew : Int := (v.1 : Int) - 1024
  let warn := decide (500 < skew.natAbs)
  let x := l.2.lane k
  l.2.setLane k { x with rxLock := true, rate := 5, skew := skew, skewWarn := warn, polInv := decide (w.1 = 1), il := l.1,
                         measRate := 5, measValid := false, intStatus := if warn then x.intStatus ||| 4 else x.intStatus }

def trainLock (n : Nat) (d : Device) : Device :=
  let x := d.pfl n
  if x.state = .train ∧ d.clk.holdover = false then
    let d := (halfStopes n d).foldl lockPair d
    let d := (portLanes n d).foldl trainLane d
    let d := d.setPfl n { x with state := .cap, enteredAt := d.now, gotAck := false, gotCap := false }
    { d with fab := { d.fab with advDue := true } }
  else d

def execTrainLock (port : Nat) (s : State) : Host.Outcome State Fault Refusal := done s (trainLock port s.dev)

/-- Send the eight GO sets on a lane (Table 12.4). -/
def sendGo (n : Nat) (d : Device) (k : Nat) : Device :=
  let x := d.lane k
  emit (.pts k (ptsBytes (d.pfl n).rate 2 (k - 4 * n) x.preset 0xFF x.il (d.pfl n).fromRecord)) d

/-- A good training set on a lane of a port in STEP (Table 12.4): the partner's preset, its one PRESET_REQ of the rung,
the run of READY and GO sets. -/
def ptsLane (b : List Byte) (k : Nat) (d : Device) : Device :=
  let x := d.lane k
  let st := u8 b 2
  let req := u8 b 5
  let x := { x with partnerPreset := u8 b 4, readyRun := if st = 0 then 0 else x.readyRun + 1,
                    goRun := if st = 2 then x.goRun + 1 else 0 }
  if 16 ≤ req ∧ req ≤ 23 ∧ x.asked = false then setPreset k req (d.setLane k { x with asked := true }) else d.setLane k x

/-- PTS_RECEIVE (R341–R343). -/
def ptsReceive (k : Nat) (b : List Byte) (d : Device) : Device :=
  match lanePort k d with
  | none => d
  | some n =>
    let good := decide (b.length = 16) && decide (u8 b 0 = 0xB5) && decide (crc16 (b.take 14) = BitVec.ofNat 16 (u16 b 14))
    let x := d.pfl n
    if good ∧ (d.port n).personality = .pfl ∧ x.state = .step ∧ u8 b 1 = x.rate ∧ u8 b 3 = k - 4 * n then
      let d := ptsLane b k d
      if x.goSent = 0 ∧ (portLanes n d).all (fun j => decide (8 ≤ (d.lane j).readyRun)) then
        let d := d.setPfl n { x with goSent := 8 }
        (List.range 8).foldl (fun d _ => (portLanes n d).foldl (sendGo n) d) d
      else d
    else d

def execPtsReceive (lane : Nat) (pts : Pts) (s : State) : Host.Outcome State Fault Refusal := done s (ptsReceive lane pts.bytes s.dev)

/-- A port enters ACTIVE from STEP (Table 7.4). -/
def pflActive (n : Nat) (d : Device) : Device :=
  let x := d.pfl n
  let d := d.setPfl n { x with state := .active, enteredAt := d.now, lastGood := d.now, quietSince := d.now, refreshAt := d.now,
                               intStatus := x.intStatus ||| 1 }
  let d := eachLane n (fun l => { l with adapt := 2 }) { d with upAt := tinsert n d.now d.upAt }
  let d := (List.range 32).foldl (fun d f => announce f d) { d with fab := { d.fab with advDue := true } }
  retrainReply n d

/-- RUNG_COMPLETE (R341, R345, R350): every lane is measured at the rung just finished; then the next rung, or ACTIVE at
the agreed rate (R197). A record goes to the agreed rate at once. -/
def rungComplete (n : Nat) (d : Device) : Device :=
  let x := d.pfl n
  let ks := portLanes n d
  if x.state = .step ∧ x.goSent = 8 ∧ ks.all (fun k => decide (8 ≤ (d.lane k).goRun)) then
    let agreed := min (d.port n).maxRate x.partnerRate
    let d := ks.foldl (fun d k => measureLane (d.lane k).cls d k) d
    if agreed ≤ x.rate then pflActive n d
    else
      let next := if x.fromRecord then agreed else x.rate + 1
      let d := d.setPfl n { x with rate := next, goSent := 0 }
      ks.foldl (fun d k =>
        let l := d.lane k
        let p := if x.fromRecord then recordPreset n k d else pflPreset (extrapolate l.il l.cls x.rate next)
        setPreset k p (d.setLane k { l with rate := next, readyRun := 0, goRun := 0, asked := false })) d
  else d

def execRungComplete (port : Nat) (s : State) : Host.Outcome State Fault Refusal := done s (rungComplete port s.dev)

/-- A rung starts again (Table 12.15). -/
def rungRestart (n : Nat) (d : Device) : Device :=
  if (d.pfl n).state = .step then
    eachLane n (fun l => { l with readyRun := 0, goRun := 0, asked := false }) (d.setPfl n { d.pfl n with goSent := 0 })
  else d

/-- PFL ports of a half-stope. -/
def halfPorts (h : Nat) (d : Device) : List Nat :=
  ([ownerOf (2 * h) d, ownerOf (2 * h + 1) d].eraseDups).filter fun n => (d.port n).personality = .pfl

/-- LOCK_LOSS (R200, R337, Table 12.16): a lane's receiver, or a CKR pair, loses lock. While the partner's direction is
idle the retrain waits for it to wake (R207). (DEDUCED, log entry 39) -/
def lockLoss (ckr : Bool) (n : Nat) (d : Device) : Device :=
  let hit := fun (p : Nat) (d : Device) =>
    if (d.pfl p).state = .active then
      (if (d.pfl p).rxIdle then d.setPfl p { d.pfl p with lostInIdle := true } else startRetrain p 3 true d)
    else d
  if ckr then
    let x := d.pair n
    if n < 48 ∧ x.ckrLock then
      let d := d.setPair n { x with ckrLock := false, ckrLosses := satAdd 0xFFFF x.ckrLosses 1 }
      (halfPorts n d).foldl (fun d p => hit p (rungRestart p d)) d
    else d
  else
    let x := d.lane n
    if x.rxLock then
      match lanePort n d with
      | none => d
      | some p =>
        let y := { x with rxLock := false }
        match (d.port p).personality with
        | .pfl => hit p (d.setLane n { y with rxLosses := satAdd 0xFFFF x.rxLosses 1, intStatus := x.intStatus ||| 1 })
        | .diag => d.setLane n y
        | .off => d
        | _ => pcieRecovery p (d.setLane n { y with rxLosses := satAdd 0xFFFF x.rxLosses 1, intStatus := x.intStatus ||| 1 })
    else d

def execLockLoss (ckr : Bool) (n : Nat) (s : State) : Host.Outcome State Fault Refusal := done s (lockLoss ckr n s.dev)

/-- CKR_LOCK (R337, Table 12.15). -/
def execCkrLock (pair : Nat) (s : State) : Host.Outcome State Fault Refusal :=
  let d := s.dev
  done s (if pair < 48 ∧ (d.pair pair).ckrLock = false ∧ halfPorts pair d ≠ [] then
      (halfPorts pair d).foldl (fun d p => rungRestart p d) (lockPair d pair)
    else d)

/-- EYE_DONE (R355): the margins are what the scan finds. (DEDUCED, log entry 42) -/
def execEyeDone (lane : Nat) (s : State) : Host.Outcome State Fault Refusal :=
  let d := s.dev
  let v := d.fresh (2 ^ 32)
  let x := d.lane lane
  done s (if x.eyeBusy then
      v.2.setLane lane { x with eyeBusy := false, eyeDone := true, eye := BitVec.ofNat 32 v.1, intStatus := x.intStatus ||| 2 }
    else d)

/-- CHECKER_LOCK (R353). -/
def execCheckerLock (lane : Nat) (s : State) : Host.Outcome State Fault Refusal :=
  let d := s.dev
  let x := d.lane lane
  done s (if x.inTest ∧ x.chkOn ∧ x.locked = false then d.setLane lane { x with locked := true, rxLock := true } else d)

/-- CHECKER_LOCK_LOSS (R353). -/
def execCheckerLockLoss (lane : Nat) (s : State) : Host.Outcome State Fault Refusal :=
  let d := s.dev
  let x := d.lane lane
  done s (if x.locked then
      d.setLane lane { x with locked := false, lockLosses := satAdd 0xFF x.lockLosses 1, intStatus := x.intStatus ||| 8 }
    else d)

/-- PARTNER_ID of a port (R347). -/
def partnerId (n : Nat) (d : Device) : Nat :=
  match (d.port n).personality with
  | .pfl => (d.pfl n).partnerSerial.toNat
  | .dsp => ((d.pci n).dsn).getD 0
  | _ => 0

/-- The least recently used of a port's records makes room for a fifth (R347). -/
def makeRoom (n : Nat) (rs : List EqRecord) : List EqRecord :=
  let mine := rs.filter fun r => r.port = n
  match mine with
  | [] => rs
  | r0 :: _ =>
    if mine.length < 4 then rs
    else
      let oldest := mine.foldl (fun a r => min a r.usedAt) r0.usedAt
      rs.filter fun r => !(decide (r.port = n) && decide (r.usedAt = oldest))

/-- The bring-up calls for a record (R348): none was used on it, or the settings of a lane have moved beyond what the record allows,
which is what the receiver finds. (DEDUCED, log entry 42) -/
def recordDue (n : Nat) (d : Device) : Bool × Device :=
  if (portLanes n d).any fun k => (d.lane k).fromRecord then
    let v := d.fresh 2
    (decide (v.1 = 1), v.2)
  else (true, d)

/-- EQ_RECORD_WRITE (R347, R348): the bring-up ended 1 s ago and the link is up, and no record of the port was written within 60 s.
One record stands for each partner, width and rate. (DEDUCED, log entry 42) -/
def eqRecordWrite (n : Nat) (d0 : Device) : Device :=
  let recent := d0.eqRecords.any fun r => decide (r.port = n) && decide (d0.now < r.writtenAt + 60 * secNs)
  let settled := match d0.upAt.find? fun e => decide (e.1 = n) with
    | some e => decide (e.2 + secNs ≤ d0.now)
    | none => false
  let due := recordDue n d0
  if (linkUp n d0 && settled && !recent) = false then d0
  else if due.1 = false then due.2
  else
    let d := due.2
    let rate := match (d.port n).personality with
      | .pfl => (d.pfl n).rate
      | _ => (d.pci n).curRate
    let id := partnerId n d
    let width := (d.port n).width
    let rows := (portLanes n d).map fun k => ((d.lane k).preset, (d.lane k).il, (d.lane k).ctle, (d.lane k).vga, (d.lane k).dfe1)
    let r : EqRecord := { port := n, partner := id, width := width, rate := rate, cls := (d.lane (4 * n)).cls, writtenAt := d.now,
                          usedAt := d.now, lanes := rows }
    let others := d.eqRecords.filter fun x => !(decide (x.port = n) && decide (x.partner = id) && decide (x.width = width))
    { d with eqRecords := makeRoom n others ++ [r] }

def execEqRecordWrite (port : Nat) (s : State) : Host.Outcome State Fault Refusal := done s (eqRecordWrite port s.dev)

/-- DSN_READ (R347): what the S96 reads below a DSP; a failed read or an absent capability is 0. -/
def execDsnRead (port : Nat) (serial : Option Nat) (s : State) : Host.Outcome State Fault Refusal :=
  let d := s.dev
  done s (if (d.port port).personality = .dsp ∧ lstateUp (d.pci port).lstate then
      d.setPci port { d.pci port with dsn := some ((serial.getD 0) % 2 ^ 64) }
    else d)

/-- Bits compared in one nanosecond, at an elapsed time: 2.5, 5, 8, … 128 (Table 12.2). -/
def bitsPerNs (rate now : Nat) : Nat :=
  let r10 := [0, 25, 50, 80, 160, 320, 640, 1280].getD rate 0
  (now + 1) * r10 / 10 - now * r10 / 10

/-- A nanosecond of pattern checking (R353). -/
def lanesTick (d : Device) : Device :=
  { d with lanes := d.lanes.map fun e =>
      if e.2.locked then (e.1, { e.2 with bits := min (2 ^ 48 - 1) (e.2.bits + bitsPerNs e.2.rate d.now) }) else e }

/-- LN_STATUS.MODE (R333, Table 12.1). -/
def laneMode (k : Nat) (d : Device) : Nat :=
  if d.clk.parked.getLsbD (k / 96) then 4
  else match lanePort k d with
    | none => 0
    | some n =>
      match (d.port n).personality with
      | .off => 0
      | .pfl => 2
      | .diag => 3
      | _ => 1

end Sys2Proof.Machine
end

