-- ==== Sys2Proof/Machine/Partition.lean ====
section
/-! DEFINITION. Machine/Partition.lean: partitions and shared endpoints (chapter 4): creation, quiescing, reset, binding of ports
and VFs, and how requests that cannot be answered any more are completed. -/

namespace Sys2Proof.Machine

/-- The synthetic completion of a tracked request: Completer Abort for its remaining bytes (R94, R123, R231, R322). -/
def synthTlp (t : Track) : Tlp :=
  { kind := if t.kind = .lockedRead then .lockedCpl else .cpl, addr := 0, destId := t.nearRid, reqId := t.nearRid, tag := t.nearTag,
    tc := 0, ro := false, len := 0, data := [], poisoned := false, digest := false, status := .ca, byteCount := t.remaining }

/-- Answer a tracked request with a synthetic completion; a real one is late from now on. A request of one of the S96's own
functions ends its work request (R367, R376); a piece through a window keeps the order of R129; a lock it asked for fails
(Table 3.4). -/
def synthTrack (lossFid lossPort : Nat) (t : Track) (d : Device) : Device :=
  let mark := fun (d : Device) =>
    { d with tracks := d.tracks.map fun x => if x.id = t.id then { x with answered := true, held := [] } else x }
  match t.fn with
  | some f => if t.kind = .transReq then askFails f t.addr (mark d) else localDma f t.addr (mark d)
  | none =>
    let d := lockFails t.port t.kind (logSynth t.nearRid lossFid lossPort t.part d)
    if t.window.isSome then failPiece t .ca true d
    else
      match t.nearFab with
      | some f => emitAway (ownFab f f.srcFid t.port true d) (synthTlp t) (mark d)
      | none => emit (.item t.nearPort (synthTlp t) none) (mark d)

/-- An item or a request counts for a partition (R93, R125); a request that the tracker holds counts there. -/
def itemOf (p : Nat) (d : Device) (i : Item) : Bool :=
  (decide (i.part = p) || (decide (i.cls = 1) && decide (i.srcPart = p))) && !isTracked i d
def trackFor (p : Nat) (t : Track) : Bool := !t.answered && (decide (t.part = p) || decide (t.srcPart = p))

/-- Work requests of a partition in flight (R280). -/
def workInFlight (p : Nat) (d : Device) : Nat :=
  ((d.qps.filter fun e => decide (e.2.part = p)).map fun e => e.2.reqs.length).foldl (· + ·) 0

/-- GLB_PART_DRAIN.IN_FLIGHT (R93). -/
def inFlight (p : Nat) (d : Device) : Nat :=
  (d.items.filter (itemOf p d)).length + (d.tracks.filter (trackFor p)).length + workInFlight p d

/-- Report requests and items that remain (R94, Table 4.3): synthetic completions, journal entries of the reason. A
completion on its way to a request that has just been answered goes with it, and so does the copy of a request in a replay
buffer. The count is what was reported. -/
def reportItems (ts : List Track) (is : List Item) (reason : Nat) (d : Device) : Device × Nat :=
  let own := d.glb.fid
  let copy := fun (i : Item) => decide (i.cls = 1) && ts.any fun t => decide (t.id = i.id)
  let d := (d.items.filter copy).foldl (fun d i => removeItem i.id d) d
  let d := ts.foldl (fun d t =>
    if d.tracks.any (fun x => decide (x.id = t.id) && !x.answered) then synthTrack own 0x7F t d else d) d
  let twin := fun (i : Item) => decide (i.cls = 2) && ts.any fun t => decide (t.nearRid = i.srcRid) && decide (t.nearTag = i.srcTag)
  let d := is.foldl (fun d i =>
    if twin i then removeItem i.id d
    else windowDrop i (if reason = 2 then 3 else 4) (dropItem reason own 0x7F i d)) d
  (d, ts.length + (is.filter fun i => !twin i).length)

def reportPart (p reason : Nat) (d : Device) : Device × Nat :=
  reportItems (d.tracks.filter (trackFor p)) (d.items.filter (itemOf p d)) reason d

/-- QPs of a partition with requests in flight go to ERROR at a quiesce timeout (R94, R280). -/
def flushPart (p : Nat) (d : Device) : Device :=
  d.qps.foldl (fun d e => if e.2.part = p ∧ e.2.reqs ≠ [] then toError e.1 0 none d else d) d

/-- Presence Detect Changed at a downstream bridge (R86). (DEDUCED, log entry 32) -/
def presenceAt (key : Nat) (d : Device) : Device :=
  let b := d.bridge key
  d.setBridge key { b with slotStatus := b.slotStatus ||| 8 }

/-- VFs are steered out of a DSP. -/
def steersOut (n : Nat) (d : Device) : Bool := d.steers.any fun e => decide (e.2.port = n)

/-- The tailings journal's limits hold with a number of sources (R236, R238). -/
def journalFits (j : Journal) (sources : Nat) : Bool := decide (sources * j.portLimit * 64 + j.sharedLimit * 64 ≤ j.entries)
def journalSources (p : Nat) (d : Device) : Nat := (portsOf p d).length + (if p = 0 then 0 else 1)

/-- Access-table entries not allocated (Table 4.10), partitions and steering entries that are free. -/
def freeAct (d : Device) : Nat := 65536 - (d.parts.map fun e => e.2.actEntries).foldl (· + ·) 0
def freeSteers (d : Device) : Nat := 2048 - d.steers.length
def partIsFree (p : Nat) (d : Device) : Bool := decide (1 ≤ p) && decide (p ≤ 48) && decide ((d.part p).state = .free)

/-- PART_CREATE (R84, R105, R108, R109, R152, R491, R555). (DESIGN CHOICE, log entry 7) -/
def partCreate (c : Cmd) (d : Device) : Device × Option Ans :=
  let p := c.params
  let n := if u8 p 0 = 0 then lowest (fun p => partIsFree p d) 1 48 else some (u8 p 0)
  checked
    [ failIf (decide (p.length ≠ 8)) (ansLen 8), headerZero c, failIf (decide (48 < u8 p 0)) (ansBad 0),
      failIf (decide (8 ≤ u8 p 1)) (ansBad 1), failIf (decide (u8 p 2 = 0) || decide (96 < u8 p 2)) (ansBad 2),
      failIf (decide (u8 p 3 ≠ 0)) (ansBad 3), failIf (decide (65536 < u32 p 4) || decide (u32 p 4 % 256 ≠ 0)) (ansBad 4),
      failIf (decide (u8 p 0 ≠ 0) && !partIsFree (u8 p 0) d) (ansBad 0), failIf n.isNone (ansPool 1),
      failIf (decide (freeAct d < u32 p 4)) (ansPool 2) ] (fun d =>
    let k := n.getD 1
    let replay := decide (c.source.transport = 7)
    let x : Part := { partFree with
      state := if replay then .quiesced else .active, quiesceReq := replay, fabric := bitOf (u8 p 1) 0,
      vfSteered := bitOf (u8 p 1) 1, rmaP2p := bitOf (u8 p 1) 2, dsbCount := u8 p 2, actEntries := u32 p 4, activeSince := d.now }
    let d := (d.setPart k x).setSeg k { segReset with state := .disabled, epoch := (d.seg k).epoch + 1, disabledAt := d.now }
    let d := { d with pools := terase k d.pools, bridges := d.bridges.filter fun e => decide (e.1 / 256 ≠ k) }
    (d, some (ansOk (natLe 1 k ++ natLe 1 (u8 p 1) ++ natLe 1 (u8 p 2) ++ natLe 1 0 ++ natLe 4 (freeAct d))))) d

def execPartCreate (c : Cmd) (s : State) : Host.Outcome State Fault Refusal := done s (runPacket 0x0301 (partCreate c) c s.dev)

/-- DPC ends at a port that leaves its partition (R554). -/
def endDpc (n : Nat) (d : Device) : Device :=
  if (d.pci n).dpc then pcieStart n (d.setPci n { d.pci n with dpc := false, dpcReason := 0 }) else d

/-- A port comes back to PART0 (R40, R110): a DSP to the bridge of its own number, a USP with its link disabled. -/
def returnPart0 (n : Nat) (d : Device) : Device :=
  let x := d.port n
  if x.holder = 0 then d
  else
    let d := if x.personality = .usp then pcieDown n .disabled d else presenceAt (portKey n d) d
    let d := unlockPort n (endDpc n (d.setPort n { x with holder := 0, bridge := none }))
    if x.personality = .dsp then presenceAt (bridgeKey 0 n) d else d

/-- A steering entry is given back: FLR to the real VF, presence cleared (R104). -/
def dropSteer (e : Nat) (x : Steer) (d : Device) : Device :=
  let d := emit (.config x.port x.realRid .devControlFlr (some 1)) d
  presenceAt (bridgeKey x.part x.bridge) { d with steers := terase e d.steers }

/-- NTW_CLEAR of one window (R136, R137): a free window's log and doorbell state are 0. (DEDUCED, log entry 30) -/
def clearWindow (w : Nat) (d : Device) : Device :=
  { d with windows := terase w d.windows, dbWaits := d.dbWaits.filter fun x => decide (x.window ≠ w) }

/-- PART_DESTROY may act: QUIESCED, or ACTIVE with no port, steered VF or RMA VF (R95). -/
def mayDestroy (p : Nat) (d : Device) : Bool :=
  decide ((d.part p).state = .quiesced) ||
    (decide ((d.part p).state = .active) && (portsOf p d).isEmpty && !d.steers.any (fun e => decide (e.2.part = p)) &&
      (vfsOf p d).isEmpty)

/-- What PART_DESTROY gives back (R107, R110, R138, R153). -/
def freePart (p : Nat) (d : Device) : Device :=
  let d := (portsOf p d).foldl (fun d n => returnPart0 n d) d
  let d := (d.steers.filter fun e => decide (e.2.part = p)).foldl (fun d e => dropSteer e.1 e.2 d) d
  let d := (vfsOf p d).foldl (fun d v => dropVf v d) d
  let d := releaseFn (.pf p) (closeMailbox (.pf p) d)
  let d := (d.windows.filter fun e => decide (e.2.srcPart = p) || decide (e.2.dstPart = p)).foldl (fun d e => clearWindow e.1 d) d
  let d := d.setSeg p { segReset with epoch := (d.seg p).epoch }
  { d with parts := terase p d.parts, journals := terase p d.journals, pools := terase p d.pools, funcs := terase (fnKey (.pf p)) d.funcs,
           bridges := d.bridges.filter (fun e => decide (e.1 / 256 ≠ p)), remotes := d.remotes.filter (fun r => decide (r.1 / 256 ≠ p)),
           homeSteers := d.homeSteers.filter fun e => decide (e.2.part ≠ p) }

/-- NOT_QUIESCED names the partition. -/
def ansNotQuiesced (p : Nat) : Ans := { status := .notQuiesced, detail := p, result := [] }

/-- PART_DESTROY (R95, R110). -/
def partDestroy (c : Cmd) (d : Device) : Device × Option Ans :=
  let t := c.target.toNat
  checked
    [ failIf (decide (c.params.length ≠ 0)) (ansLen 0), partTarget c d, failIf (!mayDestroy t d) (ansNotQuiesced t) ] (fun d =>
    let ports := (portsOf t d).length
    let vfs := (d.steers.filter fun e => decide (e.2.part = t)).length
    (freePart t d, some (ansOk (natLe 2 ports ++ natLe 2 vfs)))) d

def execPartDestroy (c : Cmd) (s : State) : Host.Outcome State Fault Refusal := done s (runPacket 0x0302 (partDestroy c) c s.dev)

/-- The answer of a PART_QUIESCE that has ended (R111). -/
def quiesceAns (reported since now : Nat) : Ans :=
  { status := if reported = 0 then .ok else .doneDegraded, detail := 0,
    result := natLe 4 (min reported 0xFFFFFFFF) ++ natLe 4 (min ((now - since) / 1000) 0xFFFFFFFF) }

/-- PART_QUIESCE that waits for a partition. -/
def quiesceExec (p : Nat) (d : Device) : Option Exec :=
  findExec (fun e => decide (e.op = 0x0303) && decide (e.cmd.target.toNat = p)) d

/-- A partition that a drain need not wait for. -/
def partDrained (x : Part) : Bool := decide (x.state = .free) || decide (x.state = .quiesced)

/-- SYS_RESET is answered, and its reset begins 10 µs later (R500). -/
def resetReply (e : Exec) (d : Device) : Device :=
  let plan : ResetPlan := { cold := decide (u8 e.cmd.params 0 = 1), at_ := d.now + 10 * usNs }
  finishExec e (ansOk (natLe 8 (d.devTime.toNat + 10 * usNs))) { d with clk := { d.clk with resetPlan := some plan } }

/-- SYS_RESET with a drain is answered once every tenant partition is QUIESCED (R495). -/
def resetDrained (d : Device) : Device :=
  match findExec (fun e => decide (e.op = 0x0102) && e.applied) d with
  | some e => if d.parts.all fun x => decide (x.1 = 0) || partDrained x.2 then resetReply e d else d
  | none => d

/-- A partition becomes QUIESCED: its PART_QUIESCE is answered (R93, R94). -/
def enterQuiesced (p : Nat) (d : Device) : Device :=
  let d := d.setPart p { d.part p with state := .quiesced }
  let d := match quiesceExec p d with
    | some e => finishExec e (quiesceAns e.reported e.since d.now) d
    | none => d
  resetDrained d

/-- PART_QUIESCE (R92–R96, R111): one that meets a reset counts nothing of what the reset reports. (DEDUCED, log entry 24) -/
def partQuiesce (c : Cmd) (d : Device) : Device × Option Ans :=
  let p := c.params
  let t := c.target.toNat
  let x := d.part t
  let resume := bitOf (u8 p 2) 0
  checked
    [ failIf (decide (p.length ≠ 4)) (ansLen 4), partTarget c d, failIf (decide (1000 < u16 p 0)) (ansBad 0),
      failIf (decide (2 ≤ u8 p 2)) (ansBad 2), failIf (decide (u8 p 3 ≠ 0)) (ansBad 3),
      failIf (resume && decide (x.state ≠ .quiesced)) (ansBad 2),
      failIf (resume && !journalFits (d.journal t) (journalSources t d)) (ansPool 8) ] (fun d =>
    if resume then
      (d.setPart t { x with state := .active, quiesceReq := false, activeSince := d.now }, some (quiesceAns 0 d.now d.now))
    else match x.state with
      | .active =>
        let d := markApplied 0x0303 c (d.setPart t { x with state := .quiescing, quiesceReq := true, quiesceSince := d.now,
                                                            quiesceTimeoutMs := if u16 p 0 = 0 then 10 else u16 p 0 })
        if inFlight t d = 0 then (d.setPart t { d.part t with state := .quiesced }, some (quiesceAns 0 d.now d.now)) else (d, none)
      | .resetting => (d.setPart t { x with quiesceReq := true }, none)
      | _ => (d, some (quiesceAns 0 d.now d.now))) d

def execPartQuiesce (c : Cmd) (s : State) : Host.Outcome State Fault Refusal := done s (runPacket 0x0303 (partQuiesce c) c s.dev)

/-- PARTITION_DRAINED (R93). -/
def execPartitionDrained (part : Nat) (s : State) : Host.Outcome State Fault Refusal :=
  let d := s.dev
  done s (if (d.part part).state = .quiescing ∧ inFlight part d = 0 then enterQuiesced part d else d)

/-- QUIESCE_TIMEOUT (R94). -/
def quiesceTimeout (p : Nat) (d : Device) : Device :=
  let x := d.part p
  if x.state = .quiescing ∧ x.quiesceSince + x.quiesceTimeoutMs * msNs ≤ d.now ∧ inFlight p d ≠ 0 then
    let k := workInFlight p d
    let r := reportPart p 2 (flushPart p d)
    enterQuiesced p (addReported p (r.2 + k) r.1)
  else d

def execQuiesceTimeout (part : Nat) (s : State) : Host.Outcome State Fault Refusal := done s (quiesceTimeout part s.dev)

/-- Effect of a partition reset on the DSPs of port bridges: hot reset, except with VFs steered out or in DPC (Table 4.3,
R321). -/
def hotResetDsps (p : Nat) (d : Device) : Device :=
  (portsOf p d).foldl (fun d n =>
    if (d.port n).personality = .dsp then
      let d := unlockPort n d
      if lstateUp (d.pci n).lstate && !steersOut n d && !(d.pci n).dpc then pcieDown n .hotReset d else d
    else d) d

/-- VFs steered into the partition, here and from other devices: FLR to each real VF, emulated configuration at reset values,
100 ms of retries (Table 4.3). -/
def resetSteers (p : Nat) (d : Device) : Device :=
  let clear := fun (x : Steer) =>
    { x with mse := false, bme := false, bars := List.replicate 6 0, retryUntil := d.now + 100 * msNs }
  let mine := d.steers.filter fun e => decide (e.2.part = p)
  let d := mine.foldl (fun d e =>
    emit (.config e.2.port e.2.realRid .devControlFlr (some 1)) (d.setSteer e.1 (clear e.2))) d
  let away := d.homeSteers.filter fun e => decide (e.2.part = p)
  let d := away.foldl (fun d e => emit (.configAway e.1 p e.2.port e.2.realRid .devControlFlr (some 1)) d) d
  { d with homeSteers := d.homeSteers.map fun e => if e.2.part = p then (e.1, clear e.2) else e }

/-- A partition-scope reset begins (R97, Table 4.3); with `reason` the items inside are reported, and their number is given. -/
def startReset (p : Nat) (reason : Option Nat) (d : Device) : Device × Nat :=
  let d := d.setPart p { d.part p with state := .resetting }
  let r := match reason with
    | some k => reportPart p k d
    | none => (d, 0)
  let d := resetSteers p (hotResetDsps p (resetBridges p r.1))
  let d := if (d.func (.pf p)).flr = .idle then startFlr (.pf p) d else d
  (d, r.2)

/-- PART_RESET (R95, R97, R112). -/
def partReset (c : Cmd) (d : Device) : Device × Option Ans :=
  let p := c.params
  let t := c.target.toNat
  let force := bitOf (u8 p 0) 0
  checked
    [ failIf (decide (p.length ≠ 4)) (ansLen 4), partTarget c d, failIf (decide (2 ≤ u8 p 0)) (ansBad 0),
      failIf (!zeros p 1 3) (ansBad 1),
      failIf (!force && decide ((d.part t).state ≠ .quiesced)) (ansNotQuiesced t) ] (fun d =>
    let d := markApplied 0x0306 c d
    if (d.part t).state = .resetting then (d, none)
    else
      let r := startReset t (if force then some 4 else none) d
      (setReported 0x0306 c r.2 r.1, none)) d

def execPartReset (c : Cmd) (s : State) : Host.Outcome State Fault Refusal := done s (runPacket 0x0306 (partReset c) c s.dev)

/-- A reset from the partition's host (R96, R97, R112): one that arrives while the partition is RESETTING starts nothing. Work
requests are reported by the FLR of their function (R372). -/
def hostReset (p : Nat) (d : Device) : Device :=
  match (d.part p).state with
  | .resetting => d
  | .free => d
  | .quiescing =>
    let r := startReset p (some 2) d
    addReported p r.2 r.1
  | _ => (startReset p (some 4) d).1

/-- HOT_RESET (R97, R497): received at a USP. -/
def hotReset (n : Nat) (d : Device) : Device :=
  let p := (d.port n).holder
  if (d.port n).personality ≠ .usp then d
  else if p = 0 then (if n = d.glb.mgrPort then pcieDown n .hotReset (managerReset d) else d)
  else pcieDown n .hotReset (hostReset p d)

def execHotReset (port : Nat) (s : State) : Host.Outcome State Fault Refusal := done s (hotReset port s.dev)

/-- PARTITION_RESET_DONE (R83, R96, R111, R112): the FLRs have ended. -/
def resetDone (p : Nat) (d : Device) : Device :=
  let x := d.part p
  if x.state = .resetting ∧ (d.func (.pf p)).flr = .idle ∧ (vfsOf p d).all (fun v => decide ((d.func (.vf v)).flr = .idle)) = true then
    let d := if x.quiesceReq then enterQuiesced p d else d.setPart p { x with state := .active, activeSince := d.now }
    (d.kme.execs.filter fun e => decide (e.op = 0x0306) && decide (e.cmd.target.toNat = p) && e.applied).foldl (fun d e =>
      finishExec e { status := if e.reported = 0 then .ok else .doneDegraded, detail := 0,
                     result := natLe 4 (min e.reported 0xFFFFFFFF) } d) d
  else d

def execPartitionResetDone (part : Nat) (s : State) : Host.Outcome State Fault Refusal := done s (resetDone part s.dev)

/-- STEERED_VF_RETRY_END (Table 4.3): 100 ms after the FLR. -/
def execSteeredVfRetryEnd (entry : Nat) (s : State) : Host.Outcome State Fault Refusal :=
  let d := s.dev
  let x := d.steer entry
  done s (if x.retryUntil ≠ 0 ∧ x.retryUntil ≤ d.now then d.setSteer entry { x with retryUntil := 0 } else d)

/-- A command packet (Table 14.1). -/
def packetBytes (op : Nat) (c : Cmd) : List Byte :=
  natLe 2 op ++ [c.flags, c.seq] ++ natLe 2 c.params.length ++ natLe 2 0 ++ natLe 4 c.target.toNat ++ natLe 4 c.param0.toNat ++ c.params

/-- Send a command to the device that its FID names (R226). -/
def relayCommand (op fid : Nat) (c : Cmd) (d : Device) : Device :=
  let d := emit (.relay fid op c.packet) (sendMgmt 0 fid (packetBytes op c) d)
  { d with fab := { d.fab with relays := d.fab.relays ++ [{ fid := fid, op := op, cmd := c.packet, sentAt := d.now }] } }

/-- Another device of the domain holds a USP of a partition: a relayed bind of this device has placed it there, or the packet
says so (R45, R556). -/
def uspAway (p : Nat) (c : Cmd) (d : Device) : Option Nat :=
  match (d.part p).remoteUsp with
  | some x => some x.1
  | none => c.uspAt

/-- This device is the home device of a partition, or acts as it while the partition holds no USP anywhere (R226, R556). -/
def isHome (p : Nat) (c : Cmd) (d : Device) : Bool := (uspOf p d).isSome || (uspAway p c d).isNone

/-- The home device as a relayed bind shows it: the one that holds the USP, or the one that acts for it. -/
def homeShown (p : Nat) (c : Cmd) (d : Device) : Option Nat :=
  match uspAway p c d with
  | some x => some x
  | none => some (c.source.inst % 32)

/-- A relayed bind shows a partition's home device (R226). (DEDUCED, log entry 27) -/
def learnHome (p : Nat) (c : Cmd) (d : Device) : Device :=
  if p ≠ 0 ∧ c.source.transport = 6 ∧ (uspOf p d).isNone then d.setPart p { d.part p with home := homeShown p c d } else d

/-- Downstream bridge k of a partition carries steered VFs (R86). -/
def steeringBridge (p k : Nat) (d : Device) : Bool :=
  d.steers.any (fun e => decide (e.2.part = p) && decide (e.2.bridge = k)) ||
    d.homeSteers.any fun e => decide (e.2.part = p) && decide (e.2.bridge = k)

/-- Header checks of the binds: TARGET is 0–48, PARAM0 0. -/
def bindHeader (c : Cmd) (d : Device) : Option Ans :=
  let t := c.target.toNat
  firstFail [failIf (decide (48 < t) || decide ((d.part t).state = .free)) (ansBad 0xFF08), failIf (decide (c.param0 ≠ 0)) (ansBad 0xFF0C)]

/-- The checks of Table 4.8 for a port of this device. A relayed command has had the home device's share (R556). -/
def bindChecks (c : Cmd) (d : Device) : List (Option Ans) :=
  let p := c.params
  let t := c.target.toNat
  let n := u8 p 0
  let x := d.port n
  let relayed := decide (c.source.transport = 6)
  let dsp := decide (x.personality = .dsp)
  let toTenant := decide (t ≠ 0)
  [ failIf (!portExists n d || (!dsp && decide (x.personality ≠ .usp))) (ansBad 0),
    failIf (decide (32 ≤ u8 p 1)) (ansBad 1),
    failIf (if toTenant && dsp then decide ((if relayed then 96 else (d.part t).dsbCount) ≤ u8 p 2) || portBridge t (u8 p 2) d ||
      steeringBridge t (u8 p 2) d else decide (u8 p 2 ≠ 0xFF)) (ansBad 2),
    failIf (decide (u8 p 3 ≠ 0)) (ansBad 3),
    failIf (toTenant && decide (x.holder ≠ 0)) ansNo,
    failIf (relayed && !(d.part t).fabric && toTenant) ansNo,
    failIf (decide (n = d.glb.mgrPort)) ansNo,
    failIf (dsp && steersOut n d) ansNo,
    failIf (!toTenant && decide (x.holder ≠ 0) && decide ((d.part x.holder).state ≠ .quiesced)) (ansNotQuiesced x.holder),
    failIf (toTenant && !dsp && !relayed && ((uspOf t d).isSome || (uspAway t c d).isSome)) (ansPool 7),
    failIf (decide (c.source.transport ≠ 7) && decide (x.holder ≠ t) && (toTenant || decide ((d.journal 0).entries ≠ 0)) &&
      !journalFits (d.journal t) (journalSources t d + 1)) (ansPool 8) ]

/-- Bind a port to a tenant partition: DPC ends, a USP's link may train (R40, R86, R554). -/
def bindPort (n t dsb : Nat) (d : Device) : Device :=
  let x := d.port n
  let dsp := decide (x.personality = .dsp)
  let d := if dsp then presenceAt (bridgeKey 0 n) d else d
  let d := endDpc n (d.setPort n { x with holder := t, bridge := if dsp then some dsb else none })
  if dsp then presenceAt (bridgeKey t dsb) d else pcieStart n d

/-- PART_BIND_PORT (R113, R226, R556). (DEDUCED, log entry 24; DEDUCED, log entry 27) -/
def partBindPort (c : Cmd) (d : Device) : Device × Option Ans :=
  let p := c.params
  let t := c.target.toNat
  let n := u8 p 0
  let away := decide (u8 p 1 < 32) && decide (u8 p 1 ≠ d.glb.fid)
  if away && decide (c.source.transport ≠ 6) then
    checked
      [ failIf (decide (p.length ≠ 4)) (ansLen 4), bindHeader c d,
        failIf (decide (t ≠ 0) && decide (u8 p 2 ≠ 0xFF) && decide ((d.part t).dsbCount ≤ u8 p 2)) (ansBad 2),
        failIf (decide (u8 p 3 ≠ 0)) (ansBad 3),
        failIf (decide (t ≠ 0) && (!isHome t c d || !(d.part t).fabric)) ansNo,
        failIf (decide (t ≠ 0) && decide (u8 p 2 = 0xFF) && ((uspOf t d).isSome || (uspAway t c d).isSome)) (ansPool 7) ]
      (fun d => (relayCommand 0x0304 (u8 p 1) c d, none)) d
  else
    checked ([failIf (decide (p.length ≠ 4)) (ansLen 4), bindHeader c d] ++ bindChecks c d) (fun d =>
      let d := if t = 0 then returnPart0 n d else if (d.port n).holder = t then d else bindPort n t (u8 p 2) d
      let d := learnHome t c d
      (d, some (ansOk (natLe 4 (prtMode n d))))) d

def execPartBindPort (c : Cmd) (s : State) : Host.Outcome State Fault Refusal := done s (runPacket 0x0304 (partBindPort c) c s.dev)

/-- The steering entry of a VF (R114). -/
def steerNamed (port pfRid vf : Nat) (d : Device) : Option (Nat × Steer) :=
  d.steers.find? fun e => decide (e.2.port = port) && decide (e.2.pfRid = pfRid) && decide (e.2.vfIndex = vf)

/-- The entry of a VF that has been lost, which its command rewrites (R444). (DEDUCED, log entry 55) -/
def lostSteer (port pfRid vf : Nat) (d : Device) : Option (Nat × Steer) :=
  (steerNamed port pfRid vf d).filter fun e => entryLost (.steer e.1) d

/-- FUNC is free on a steering bridge, or held by a lost entry. -/
def funcFree (t dsb f : Nat) (d : Device) : Bool :=
  !(d.steers.any (fun e => decide (e.2.part = t) && decide (e.2.bridge = dsb) && decide (e.2.func = f) &&
      !entryLost (.steer e.1) d) ||
    d.homeSteers.any fun e => decide (e.2.part = t) && decide (e.2.bridge = dsb) && decide (e.2.func = f))

/-- The result of PART_BIND_VF (R114). -/
def steerResult (e rid : Nat) (d : Device) : List Byte := natLe 2 e ++ natLe 2 rid ++ natLe 4 (freeSteers d)

/-- Checks 2 of a bind that concern PORT, PF_RID and VF_INDEX, made where the DSP lies. -/
def vfChecks (p : List Byte) (d : Device) : List (Option Ans) :=
  let x := d.sriovOf (u8 p 0) (u16 p 2)
  [ failIf (!portExists (u8 p 0) d || decide ((d.port (u8 p 0)).personality ≠ .dsp)) (ansBad 0), failIf (!x.vfEnable) (ansBad 0),
    failIf (decide (x.numVfs ≤ u16 p 4) || ((steerNamed (u8 p 0) (u16 p 2) (u16 p 4) d).isSome &&
      (lostSteer (u8 p 0) (u16 p 2) (u16 p 4) d).isNone)) (ansBad 0) ]

/-- Checks 2 that concern DSB, FUNC and reserved fields, made in the receiving partition's hierarchy. -/
def steerChecks (t : Nat) (p : List Byte) (d : Device) : List (Option Ans) :=
  [ failIf (decide ((d.part t).dsbCount ≤ u8 p 1) || portBridge t (u8 p 1) d) (ansBad 1),
    failIf (!funcFree t (u8 p 1) (u8 p 6) d) (ansBad 1) ]
def vfReserved (p : List Byte) : List (Option Ans) :=
  [ failIf (decide (32 ≤ u8 p 7)) (ansBad 7), failIf (decide (1000 < u16 p 8)) (ansBad 8), failIf (!zeros p 10 2) (ansBad 10) ]

/-- R46: a local partition takes VFs of this device; a fabric-spanning one from a device where it holds a port. -/
def reachesVf (t : Nat) (relayed : Bool) (d : Device) : Bool :=
  if (d.part t).fabric then !(portsOf t d).isEmpty else !relayed

/-- The steering entry of a bind takes effect (R99, R114). -/
def bindVf (t : Nat) (p : List Byte) (d : Device) : Device × Option Ans :=
  let x := d.sriovOf (u8 p 0) (u16 p 2)
  let rid := u16 p 2 + x.firstOffset + u16 p 4 * x.stride
  let e : Nat := match lostSteer (u8 p 0) (u16 p 2) (u16 p 4) d with
    | some v => v.1
    | none => (lowest (fun e => !d.steers.any fun y => decide (y.1 = e)) 0 2048).getD 0
  let s : Steer := { steerFree with port := u8 p 0, bridge := u8 p 1, pfRid := u16 p 2, vfIndex := u16 p 4, func := u8 p 6, part := t,
                                    realRid := rid, bars := List.replicate 6 0 }
  let d := presenceAt (bridgeKey t (u8 p 1)) (entryRewritten (.steer e) (d.setSteer e s))
  (d, some (ansOk (steerResult e rid d)))

/-- Items and requests that go to a steered VF, and those that came from it (R104). -/
def steerTracks (e : Nat) (d : Device) : List Track :=
  d.tracks.filter fun t => (decide (t.steer = some e) || decide (t.vf = some e)) && !t.answered
def steerItems (e : Nat) (d : Device) : List Item :=
  d.items.filter fun i => (decide (i.steer = some e) || decide (i.vf = some e)) && !isTracked i d
def steerDrained (e : Nat) (d : Device) : Bool := (steerTracks e d).isEmpty && (steerItems e d).isEmpty

/-- PART_BIND_VF (R104, R114, R226). (DEDUCED, log entry 17; DEDUCED, log entry 27) -/
def partBindVf (c : Cmd) (d : Device) : Device × Option Ans :=
  let p := c.params
  let t := c.target.toNat
  let relayed := decide (c.source.transport = 6)
  let away := decide (u8 p 7 < 32) && decide (u8 p 7 ≠ d.glb.fid) && !relayed
  let head := [ failIf (decide (p.length ≠ 12)) (ansLen 12), failIf (decide (64 ≤ t)) (ansBad 0xFF08),
                failIf (decide (c.param0 ≠ 0)) (ansBad 0xFF0C) ]
  if t = 0 then
    if away then checked (head ++ [failIf (decide (1000 < u16 p 8)) (ansBad 8)]) (fun d => (relayCommand 0x0305 (u8 p 7) c d, none)) d
    else
      let v := steerNamed (u8 p 0) (u16 p 2) (u16 p 4) d
      checked (head ++ [failIf v.isNone (ansBad 0), failIf (decide (32 ≤ u8 p 7)) (ansBad 7), failIf (decide (1000 < u16 p 8)) (ansBad 8)])
        (fun d => match v with
          | none => (d, some (ansBad 0))
          | some (e, x) =>
            let x' := { x with fenced := true, fencedAt := d.now, timeoutMs := if u16 p 8 = 0 then 10 else u16 p 8 }
            let d := markApplied 0x0305 c (d.setSteer e x')
            if steerDrained e d then
              let d := dropSteer e x' d
              (d, some (ansOk (steerResult e x.realRid d)))
            else (d, none)) d
  else if away then
    checked (head ++ steerChecks t p d ++ vfReserved p ++
      [failIf (decide (48 < t) || decide ((d.part t).state = .free) || !(d.part t).vfSteered || !(d.part t).fabric || !isHome t c d) ansNo])
      (fun d => (relayCommand 0x0305 (u8 p 7) c d, none)) d
  else
    checked (head ++ vfChecks p d ++ (if relayed then [] else steerChecks t p d ++ vfReserved p) ++
      [ failIf (decide (48 < t) || decide ((d.part t).state = .free) || (!relayed && !(d.part t).vfSteered) ||
          decide ((d.port (u8 p 0)).holder = t) || !reachesVf t relayed d) ansNo,
        failIf (decide (freeSteers d = 0) && (lostSteer (u8 p 0) (u16 p 2) (u16 p 4) d).isNone) (ansPool 3) ])
      (fun d =>
        bindVf t p (learnHome t c d)) d

def execPartBindVf (c : Cmd) (s : State) : Host.Outcome State Fault Refusal := done s (runPacket 0x0305 (partBindVf c) c s.dev)

/-- VF_UNBIND_DRAINED (R104): drained, or its timeout has passed and what remains is reported as in R94. -/
def vfUnbindDrained (e : Nat) (d : Device) : Device :=
  let x := d.steer e
  if x.fenced = false then d
  else if steerDrained e d = false ∧ d.now < x.fencedAt + x.timeoutMs * msNs then d
  else
    let d := dropSteer e x (reportItems (steerTracks e d) (steerItems e d) 2 d).1
    match findExec (fun y => decide (y.op = 0x0305) && decide (y.cmd.target = 0) && y.applied && decide (u8 y.cmd.params 0 = x.port) &&
        decide (u16 y.cmd.params 2 = x.pfRid) && decide (u16 y.cmd.params 4 = x.vfIndex)) d with
    | some y => finishExec y (ansOk (steerResult e x.realRid d)) d
    | none => d

def execVfUnbindDrained (entry : Nat) (s : State) : Host.Outcome State Fault Refusal := done s (vfUnbindDrained entry s.dev)

/-- Per-partition registers (Table 4.11). -/
def partStateCode : PartState → Nat
  | .free => 0
  | .active => 1
  | .quiescing => 2
  | .quiesced => 3
  | .resetting => 4
def bridgesUsed (p : Nat) (d : Device) : Nat :=
  ((List.range (d.part p).dsbCount).filter fun k => portBridge p k d || steeringBridge p k d).length
def partStateWord (p : Nat) (d : Device) : Nat :=
  let x := d.part p
  let usp := if p = 0 then d.glb.mgrPort else (uspOf p d).getD 0x7F
  partStateCode x.state + 8 * natOfBool x.fabric + 16 * natOfBool x.vfSteered + 32 * natOfBool x.rmaP2p + 64 * natOfBool x.quiesceReq +
    256 * usp + 65536 * x.dsbCount + 2 ^ 24 * bridgesUsed p d
def partSteerWord (p : Nat) (d : Device) : Nat :=
  (d.steers.filter fun e => decide (e.2.part = p)).length + (d.homeSteers.filter fun e => decide (e.2.part = p)).length +
    65536 * (d.part p).blockedCfg
def partPoolWord (d : Device) : Nat := ((List.range 48).filter fun k => partIsFree (k + 1) d).length + 256 * freeSteers d

end Sys2Proof.Machine
end

