-- ==== Sys2Proof/Machine/Windows.lean ====
section
/-! DEFINITION. Machine/Windows.lean: non-transparent windows (chapter 5): the window commands, their error log, doorbells, the
time-out of translated requests and the NTW registers. -/

namespace Sys2Proof.Machine

/-- NTW_POOL.FREE_WINDOWS. -/
def freeWindows (d : Device) : Nat := 512 - d.windows.length

/-- The entry that NTW_SET asks for (Table 5.3), over the log and doorbell state of `old` (R136). -/
def windowAsked (p : List Byte) (old : Window) : Window :=
  { old with
    valid := true, srcPart := u8 p 2, dstPart := u8 p 3, srcOffset := u64 p 4, size := u64 p 12, dstBase := u64 p 20,
    mode := u8 p 28 % 4, unit := u8 p 28 / 4 % 4, read := bitOf (u8 p 29) 0, write := bitOf (u8 p 29) 1,
    doorbell := bitOf (u8 p 29) 2, maxPayload := u8 p 30, errVector := u16 p 32, dbVector := u16 p 34,
    cplTimeoutMs := if u16 p 36 = 0 then 50 else u16 p 36 }

/-- Check 2 of R135: fields in their order; a relation names its lowest field (R402). -/
def windowFields (p : List Byte) : List (Option Ans) :=
  let src := u8 p 2
  let dst := u8 p 3
  let off := u64 p 4
  let size := u64 p 12
  let mode := u8 p 28
  [ failIf (decide (511 < u16 p 0) && decide (u16 p 0 ≠ 0xFFFF)) (ansBad 0),
    failIf (decide (48 < src) || decide (dst = src)) (ansBad 2),
    failIf (decide (u16 p 32 < 2048) && decide (vectorCount (function1 src) ≤ u16 p 32)) (ansBad 2),
    failIf (decide (48 < dst)) (ansBad 3),
    failIf (decide (u16 p 34 < 2048) && decide (vectorCount (function1 dst) ≤ u16 p 34)) (ansBad 3),
    failIf (decide (off % 4096 ≠ 0) || decide (0xFFFFFC000 < off + size)) (ansBad 4),
    failIf (decide (size % 4096 ≠ 0) || decide (size < 4096) || decide (0xFFFFFC000 < size)) (ansBad 12),
    failIf (decide (u64 p 20 % 4096 ≠ 0)) (ansBad 20),
    failIf (decide (16 ≤ mode) || decide (2 ≤ mode % 4) || (decide (mode % 4 = 1) && decide (mode / 4 = 3))) (ansBad 28),
    failIf (decide (8 ≤ u8 p 29)) (ansBad 29), failIf (decide (6 < u8 p 30)) (ansBad 30), failIf (decide (u8 p 31 ≠ 0)) (ansBad 31),
    failIf (decide (2048 ≤ u16 p 32)) (ansBad 32), failIf (decide (2048 ≤ u16 p 34)) (ansBad 34),
    failIf (decide (1000 < u16 p 36)) (ansBad 36), failIf (!zeros p 38 10) (ansBad 38) ]

/-- The lowest-numbered other window of a source partition whose range overlaps (check 5 of R135). -/
def windowOverlap (w src off size : Nat) (d : Device) : Option Nat :=
  (d.windows.find? fun e => decide (e.1 ≠ w) && decide (e.2.srcPart = src) && decide (e.2.srcOffset < off + size) &&
    decide (off < e.2.srcOffset + e.2.size)).map (·.1)

/-- NTW_SET (R134–R136). (DEDUCED, log entry 17) -/
def ntwSet (c : Cmd) (d : Device) : Device × Option Ans :=
  let p := c.params
  let src := u8 p 2
  let dst := u8 p 3
  let named := u16 p 0
  let old := d.window named
  let w := if named = 0xFFFF then lowest (fun w => !(d.window w).valid) 0 512 else some named
  let clash := windowOverlap named src (u64 p 4) (u64 p 12) d
  checked
    ([failIf (decide (p.length ≠ 48)) (ansLen 48), headerZero c] ++ windowFields p ++
      [ failIf (decide ((d.part src).state = .free)) (ansBad 2), failIf (decide ((d.part dst).state = .free)) (ansBad 3),
        failIf (decide (named ≠ 0xFFFF) && old.valid && (decide (old.srcPart ≠ src) || decide (old.dstPart ≠ dst))) ansNo,
        failIf clash.isSome { status := .overlap, detail := clash.getD 0, result := [] },
        failIf w.isNone (ansPool 4) ]) (fun d =>
    let k := w.getD 0
    let d := entryRewritten (.window k) (d.setWindow k (windowAsked p (d.window k)))
    (d, some (ansOk (natLe 2 k ++ natLe 2 (freeWindows d))))) d

def execNtwSet (c : Cmd) (s : State) : Host.Outcome State Fault Refusal := done s (runPacket 0x0501 (ntwSet c) c s.dev)

/-- TARGET names a window in use (R137, R139). -/
def windowTarget (c : Cmd) (d : Device) : Option Ans :=
  orElse (failIf (decide (512 ≤ c.target.toNat) || !(d.window c.target.toNat).valid) (ansBad 0xFF08))
    (failIf (decide (c.param0 ≠ 0)) (ansBad 0xFF0C))

/-- NTW_CLEAR (R137). -/
def ntwClear (c : Cmd) (d : Device) : Device × Option Ans :=
  let w := c.target.toNat
  checked [failIf (decide (c.params.length ≠ 0)) (ansLen 0), windowTarget c d] (fun d =>
    (clearWindow w d, some (ansOk (natLe 4 (d.window w).errCount)))) d

def execNtwClear (c : Cmd) (s : State) : Host.Outcome State Fault Refusal := done s (runPacket 0x0502 (ntwClear c) c s.dev)

/-- NTW_W_CFG, NTW_W_ERR_INFO and NTW_W_TRAFFIC (Table 5.4). -/
def windowCfgWord (x : Window) : Nat :=
  natOfBool x.valid + 2 * natOfBool x.read + 4 * natOfBool x.write + 8 * natOfBool x.doorbell + 16 * x.mode + 64 * x.unit +
    256 * x.srcPart + 2 ^ 14 * x.dstPart + 2 ^ 20 * x.maxPayload
def windowInfoWord (x : Window) : Nat := x.errReason + 16 * natOfBool x.errValid + 65536 * x.errRid

/-- NTW_W_TRAFFIC.PROXY_OUT: proxy tags of a window in use, those of pieces sent and of a piece that is being sent. -/
def proxyOut (w : Nat) (d : Device) : Nat :=
  (d.tracks.filter fun t => decide (t.window = some w) && !t.answered).length +
    (d.items.filter fun i => decide (i.window = some w) && decide (i.cls = 1) && decide (i.stage = .sending) && !isTracked i d).length
def windowTrafficWord (w : Nat) (d : Device) : Nat := min (proxyOut w d) 0x7FFF + 65536 * (d.window w).cplTimeouts

/-- CLEAR of R131: COUNT, VALID and REASON become 0. -/
def clearLog (w : Nat) (d : Device) : Device :=
  d.setWindow w { d.window w with errCount := 0, errValid := false, errReason := 0 }

/-- NTW_STATUS (R139). -/
def ntwStatus (c : Cmd) (d : Device) : Device × Option Ans :=
  let p := c.params
  let w := c.target.toNat
  checked
    [ failIf (decide (p.length ≠ 4)) (ansLen 4), windowTarget c d, failIf (decide (2 ≤ u8 p 0)) (ansBad 0),
      failIf (!zeros p 1 3) (ansBad 1) ] (fun d =>
    let x := d.window w
    let r := natLe 4 (windowCfgWord x) ++ natLe 4 x.errCount ++ natLe 8 x.srcOffset ++ natLe 8 x.size ++ natLe 8 x.dstBase ++
      natLe 8 x.errAddr ++ natLe 4 (windowInfoWord x) ++ natLe 4 (windowTrafficWord w d)
    (if bitOf (u8 p 0) 0 then clearLog w d else d, some (ansOk r))) d

def execNtwStatus (c : Cmd) (s : State) : Host.Outcome State Fault Refusal := done s (runPacket 0x0503 (ntwStatus c) c s.dev)

/-- WINDOW_LOG_CLEAR: the source host writes CLEAR (R131); from another partition the write is ignored (R118). -/
def execWindowLogClear (window : Nat) (requesterPart : Nat) (s : State) : Host.Outcome State Fault Refusal :=
  let d := s.dev
  let x := d.window window
  done s (if x.valid ∧ x.srcPart = requesterPart then clearLog window d else d)

/-- Posted items that arrived earlier through a window from an ingress port and have not left or failed (R133). -/
def postedBehind (w port : Nat) (d : Device) : List Nat :=
  (d.items.filter fun i => decide (i.window = some w) && decide (i.ingress = port) && decide (i.cls = 0) &&
    decide (i.stage ≠ .replay)).map (·.id)

/-- OUTBOUND_DOORBELL_WRITE (R118, R120, R132, R133). (DEDUCED, log entry 30) -/
def outboundDoorbell (w p port : Nat) (bits : W32) (d : Device) : Device :=
  let x := d.window w
  if x.valid = false ∨ x.srcPart ≠ p then d
  else if x.doorbell = false then
    bridgeError (if port < 96 ∧ (d.port port).personality = .dsp then portKey port d else upstreamKey p) 20
      { d with ntw := { d.ntw with misses := satAdd 0xFFFFFFFF d.ntw.misses 1, intStatus := d.ntw.intStatus ||| 2 } }
  else { d with dbWaits := d.dbWaits ++ [{ window := w, bits := bits, behind := postedBehind w port d }] }

def execOutboundDoorbellWrite (window : Nat) (part : Nat) (port : Nat) (bits : W32) (s : State) : Host.Outcome State Fault Refusal :=
  done s (outboundDoorbell window part port bits s.dev)

/-- A doorbell's wait is over: what it waits behind has left the egress point or has failed. -/
def doorbellDue (d : Device) (x : DoorbellWait) : Bool :=
  x.behind.all fun id => !d.items.any fun i => decide (i.id = id) && decide (i.stage ≠ .replay)

/-- DB_STATUS takes bits; DB_VECTOR for one that is unmasked and was 0 (R132). -/
def ringDoorbell (w : Nat) (bits : W32) (d : Device) : Device :=
  let x := d.window w
  let d := d.setWindow w { x with dbStatus := x.dbStatus ||| bits }
  if bits &&& ~~~ x.dbStatus &&& ~~~ x.dbMask = 0 then d else sendVector (function1 x.dstPart) x.dbVector d

/-- INBOUND_DOORBELL_SET (R133): the first doorbell write of the window that need wait no longer. (DEDUCED, log entry 30) -/
def inboundDoorbell (w : Nat) (d : Device) : Device :=
  match d.dbWaits.find? fun x => decide (x.window = w) && doorbellDue d x with
  | none => d
  | some x => ringDoorbell w x.bits { d with dbWaits := d.dbWaits.erase x }

def execInboundDoorbellSet (window : Nat) (s : State) : Host.Outcome State Fault Refusal := done s (inboundDoorbell window s.dev)

/-- A write of the target host into the inbound entry (R118, R132): DB_STATUS is W1C, DB_MASK is RW. -/
def windowDbWrite (w p : Nat) (mask : Bool) (v : W32) (d : Device) : Device :=
  let x := d.window w
  if x.valid = false ∨ x.dstPart ≠ p then d
  else d.setWindow w (if mask then { x with dbMask := v } else { x with dbStatus := x.dbStatus &&& ~~~ v })

/-- WINDOW_CPL_TIMEOUT (R123): the tag is free, its event counted, and the source has Completer Abort for the rest of its
request, in its turn (R129). A tag of a window that has been removed has 50 ms. (DEDUCED, log entry 30) -/
def windowCplTimeout (id : Nat) (d : Device) : Device :=
  match d.tracks.find? fun t => decide (t.id = id) && t.window.isSome && !t.answered with
  | none => d
  | some t =>
    let w := t.window.getD 0
    let x := d.window w
    let ms := if x.cplTimeoutMs = 0 then 50 else x.cplTimeoutMs
    if d.now < t.sentAt + ms * msNs then d
    else
      let d := if x.valid then d.setWindow w { x with cplTimeouts := satAdd 0xFFFF x.cplTimeouts 1 } else d
      synthTrack d.glb.fid t.port t { d with ntw := { d.ntw with intStatus := d.ntw.intStatus ||| 4 } }

def execWindowCplTimeout (track : Nat) (s : State) : Host.Outcome State Fault Refusal := done s (windowCplTimeout track s.dev)

/-- The NTW registers by offset in the block (Table 5.4); none where no register lies. -/
def ntwRead (off : Nat) (d : Device) : Option Nat :=
  if off = 0 then some (freeWindows d)
  else if off = 0x10 then some d.ntw.intStatus.toNat
  else if off = 0x14 then some d.ntw.intMask.toNat
  else if off = 0x18 then some d.ntw.misses
  else if off < 0x1000 ∨ 0x5000 ≤ off then none
  else
    let w := (off - 0x1000) / 0x20
    let x := d.window w
    let r := off % 0x20
    if r = 0 then some (windowCfgWord x)
    else if r = 4 then some x.errCount
    else if r = 8 then some (x.errAddr % 2 ^ 32)
    else if r = 0xC then some (x.errAddr / 2 ^ 32)
    else if r = 0x10 then some (windowInfoWord x)
    else if r = 0x14 then some (windowTrafficWord w d)
    else none

end Sys2Proof.Machine
end

