-- ==== Sys2Proof/Machine/Telemetry.lean ====
section
/-! DEFINITION. Machine/Telemetry.lean: the telemetry signal mapper (R141–R146). -/

namespace Sys2Proof.Machine

def Device.tlmEntry (d : Device) (e : Nat) : TlmEntry := tget tlmReset d.tlm e
def Device.setTlm (d : Device) (e : Nat) (x : TlmEntry) : Device := { d with tlm := tset tlmReset d.tlm e x }

/-- A number kept to 32 bits and read as signed. -/
def int32 (n : Int) : Int := signedOf 32 (n % 2 ^ 32).toNat

/-- The internal reading IDs of Table 5.5. -/
def readingExists (id : Nat) : Bool :=
  (decide (id < 0x400) && decide (id % 256 < 48)) || (decide (0x400 ≤ id) && decide (id ≤ 0x408)) ||
    (decide (0x500 ≤ id) && decide (id ≤ 0x505)) || decide (id = 0x600) || decide (id = 0x601)

/-- An internal reading (R141), none while it is invalid: a channel that is not FITTED reads 0, with no valid power (R426).
Rail voltages but VGATE and the die temperatures come from sensors: free values. (DEDUCED, log entry 31) -/
def reading (id : Nat) (d : Device) : Option Int × Device :=
  let x := d.channel (id % 256)
  match id / 256 with
  | 0 => (some (if x.fitted then int32 x.iMa else 0), d)
  | 1 => (some (if x.fitted then (x.vout : Int) else 0), d)
  | 2 => (if x.fitted ∧ x.pValid then some (int32 x.pAvg) else none, d)
  | 3 => (some (if x.fitted then int32 (x.energy / 100000000000) else 0), d)
  | 4 =>
    if id = 0x408 then (some (d.feeds.vgate : Int), d)
    else
      let v := d.fresh (2 ^ 16)
      (some (v.1 : Int), v.2)
  | 5 =>
    let v := d.fresh (2 ^ 32)
    (some (signedOf 32 v.1), v.2)
  | _ => (some ((if id = 0x600 then d.feeds.vinA else d.feeds.vinB : Nat) : Int), d)

/-- round(n / 2^k), halves away from zero. -/
def roundShift (n : Int) (k : Nat) : Int :=
  let m := (2 * n.natAbs + 2 ^ k) / 2 ^ (k + 1)
  if n < 0 then -(m : Int) else (m : Int)

/-- The range of a DST_SIZE (Table 5.6). -/
def sizeRange (s : Nat) : Int × Int :=
  match s with
  | 0 => (0, 255)
  | 1 => (-128, 127)
  | 2 => (0, 65535)
  | 3 => (-32768, 32767)
  | 4 => (0, 4294967295)
  | _ => (-2147483648, 2147483647)
def sizeBytes (s : Nat) : Nat := if s < 2 then 1 else if s < 4 then 2 else 4

/-- One evaluation (R143); an invalid source leaves VALUE as it was. (DEDUCED, log entry 31) -/
def evaluate (x : TlmEntry) (v : Option Int) (now : Nat) : TlmEntry :=
  let x := { x with evals := wrapAdd 24 x.evals 1, evalAt := some now }
  match v with
  | none => { x with srcValid := false }
  | some n =>
    let y := roundShift (n * x.m) x.shift + x.b
    let r := sizeRange x.dstSize
    { x with srcValid := true, value := max r.1 (min r.2 y), saturated := decide (y < r.1) || decide (r.2 < y) }

/-- An entry with an internal source is due: 1 ms after its last evaluation, or not evaluated yet (R143). -/
def tlmDue (x : TlmEntry) (now : Nat) : Bool :=
  x.enable && !x.srcIpmb && (match x.evalAt with
    | none => true
    | some t => decide (t + msNs ≤ now))

/-- TLM_EVALUATION: every enabled entry with an internal source that is due (R143). -/
def execTlmEvaluation (s : State) : Host.Outcome State Fault Refusal :=
  done s (s.dev.tlm.foldl (fun d e =>
    if tlmDue e.2 d.now then
      let r := reading e.2.srcId d
      r.2.setTlm e.1 (evaluate e.2 r.1 d.now)
    else d) s.dev)

/-- The field of an IPMB message (R142), none where the message is too short. -/
def ipmbField (x : TlmEntry) (bytes : List Byte) : Option Int :=
  let n := ceilDiv (x.fieldLsb + x.fieldWidth) 8
  if bytes.length < x.fieldByte + n then none
  else
    let f := (bytes.drop x.fieldByte).take n
    let v := leNat (if x.srcBe then f.reverse else f) / 2 ^ x.fieldLsb % 2 ^ x.fieldWidth
    some (if x.signed then signedOf x.fieldWidth v else (v : Int))

/-- A message is the source that an entry names. -/
def ipmbMatches (x : TlmEntry) (sa netfn cmd : Nat) (bytes : List Byte) : Bool :=
  x.enable && x.srcIpmb && decide (x.ipmbSa = sa) && decide (x.ipmbNetfn = netfn) && decide (x.ipmbCmd = cmd) &&
    (decide (x.matchOffset = 0xFF) || (decide (x.matchOffset < bytes.length) && decide (u8 bytes x.matchOffset = x.matchValue)))

/-- IPMB_MESSAGE (R142, R143). -/
def execIpmbMessage (sa : Nat) (netfn : Nat) (cmd : Nat) (bytes : List Byte) (s : State) : Host.Outcome State Fault Refusal :=
  done s (s.dev.tlm.foldl (fun d e =>
    if ipmbMatches e.2 sa netfn cmd bytes then
      match ipmbField e.2 bytes with
      | some v => d.setTlm e.1 (evaluate e.2 (some v) d.now)
      | none => d
    else d) s.dev)

/-- The destination is unavailable (R144). -/
def tlmUnavailable (x : TlmEntry) (now : Nat) : Bool :=
  match x.evalAt with
  | none => true
  | some t => !x.srcValid || (decide (x.maxAgeMs ≠ 0) && decide (t + x.maxAgeMs * msNs < now))

/-- An integer as bytes, little-endian, two's complement. -/
def intLe (k : Nat) (n : Int) : List Byte := natLe k (n % 2 ^ (8 * k)).toNat

/-- GET_SENSOR_READING of a PLDM sensor or an IPMB sensor (R144): a message with no bytes where the sensor does not exist; else
1 for unavailable, or 0 and the value. (DEDUCED, log entry 31) -/
def sensorAnswer (id : Nat) (ipmb : Bool) (d : Device) : Device :=
  let dest : Source := { transport := if ipmb then 3 else 4, inst := 0 }
  let kind := if ipmb then 6 else 5
  match d.tlm.find? fun e => e.2.enable && decide (e.2.dstIpmb = ipmb) && decide (e.2.dstId = id) with
  | none => emit (.message dest kind []) d
  | some (_, x) =>
    emit (.message dest kind (if tlmUnavailable x d.now then [1] else 0 :: intLe (sizeBytes x.dstSize) x.value)) d

def execGetSensorReading (id : Nat) (ipmb : Bool) (s : State) : Host.Outcome State Fault Refusal := done s (sensorAnswer id ipmb s.dev)

/-- The entry of Table 5.6 as TLM_MAP_SET writes it: not yet evaluated. (DEDUCED, log entry 31) -/
def tlmAsked (p : List Byte) : TlmEntry :=
  let f := u8 p 0
  { enable := bitOf f 0, srcIpmb := bitOf f 1, dstIpmb := bitOf f 2, signed := bitOf f 3, srcBe := bitOf f 4, shift := u8 p 1,
    srcId := u16 p 2, ipmbSa := u8 p 4, ipmbNetfn := u8 p 5, ipmbCmd := u8 p 6, matchOffset := u8 p 7, matchValue := u8 p 8,
    fieldByte := u8 p 9, fieldLsb := u8 p 10, fieldWidth := u8 p 11, m := signedOf 32 (u32 p 12), b := signedOf 32 (u32 p 16),
    dstId := u16 p 20, dstSize := u8 p 22, maxAgeMs := u32 p 24, value := 0, srcValid := false, saturated := false, evals := 0,
    evalAt := none }

/-- Check 2 of R145, each failure with the offset that R402 gives it. (DEDUCED, log entry 17) -/
def tlmFields (p : List Byte) : List (Option Ans) :=
  let ipmb := bitOf (u8 p 0) 1
  let toIpmb := bitOf (u8 p 0) 2
  let id := u16 p 20
  [ failIf (decide (32 ≤ u8 p 0)) (ansBad 0),
    failIf (ipmb && decide (u16 p 2 ≠ 0) && readingExists (u16 p 2)) (ansBad 0),
    failIf (if toIpmb then decide (0xFF ≤ id) && decide (id ≠ 0xFFFF) else decide (id = 0)) (ansBad 0),
    failIf (toIpmb && decide (2 ≤ u8 p 22) && decide (u8 p 22 ≤ 5)) (ansBad 0),
    failIf (decide (31 < u8 p 1)) (ansBad 1), failIf (!readingExists (u16 p 2)) (ansBad 2),
    failIf (ipmb && decide (0x3F < u8 p 5)) (ansBad 5),
    failIf (ipmb && decide (31 < u8 p 7) && decide (u8 p 7 ≠ 0xFF)) (ansBad 7),
    failIf (ipmb && decide (31 < u8 p 9)) (ansBad 9), failIf (ipmb && decide (7 < u8 p 10)) (ansBad 10),
    failIf (ipmb && (decide (u8 p 11 = 0) || decide (32 < u8 p 11))) (ansBad 11),
    failIf (decide (id = 0xFFFF)) (ansBad 20), failIf (decide (5 < u8 p 22)) (ansBad 22), failIf (decide (u8 p 23 ≠ 0)) (ansBad 23),
    failIf (decide (60000 < u32 p 24)) (ansBad 24), failIf (!zeros p 28 4) (ansBad 28) ]

/-- Enabled entries. -/
def tlmEnabled (d : Device) : Nat := (d.tlm.filter fun e => e.2.enable).length

/-- Another enabled entry has the destination. -/
def tlmClash (e : Nat) (x : TlmEntry) (d : Device) : Bool :=
  x.enable && d.tlm.any fun y => decide (y.1 ≠ e) && y.2.enable && decide (y.2.dstIpmb = x.dstIpmb) && decide (y.2.dstId = x.dstId)

/-- TLM_MAP_SET (R145). DETAIL of OVERLAP is not stated: a free value. (DEDUCED, log entry 31) -/
def tlmMapSet (c : Cmd) (d : Device) : Device × Option Ans :=
  let p := c.params
  let e := c.target.toNat
  let x := tlmAsked p
  match firstFail ([failIf (decide (p.length ≠ 32)) (ansLen 32), headerBits 8 c] ++ tlmFields p) with
  | some a => (d, some a)
  | none =>
    if tlmClash e x d then
      let v := d.fresh (2 ^ 16)
      (v.2, some { status := .overlap, detail := v.1, result := [] })
    else
      let d := d.setTlm e (if x.enable then x else tlmReset)
      (d, some (ansOk (natLe 4 (tlmEnabled d))))

def execTlmMapSet (c : Cmd) (s : State) : Host.Outcome State Fault Refusal := done s (runPacket 0x0504 (tlmMapSet c) c s.dev)

/-- The TLM registers (Table 5.7). -/
def tlmRead (off : Nat) (d : Device) : Option Nat :=
  if off = 0 then some (tlmEnabled d)
  else if off < 0x1000 ∨ 0x1800 ≤ off then none
  else
    let x := d.tlmEntry ((off - 0x1000) / 8)
    if off % 8 = 0 then some (x.value % 2 ^ 32).toNat
    else if off % 8 = 4 then
      some (natOfBool (x.enable && !tlmUnavailable x d.now) + 2 * natOfBool x.saturated + 256 * x.evals)
    else none

end Sys2Proof.Machine
end

