-- ==== Sys2Proof/Machine/Pcie.lean ====
section
/-! DEFINITION. Machine/Pcie.lean: PCI Express links, slots and sideband events (chapter 11, R229). -/

namespace Sys2Proof.Machine

/-- The port's personality is USP or DSP. -/
def pciePort (n : Nat) (d : Device) : Bool :=
  decide (n < 96) && (decide ((d.port n).personality = .usp) || decide ((d.port n).personality = .dsp))

/-- Presence of a HOTPLUG DSP: PRSNT_N_IN, or in-band (R315). -/
def slotPresent (n : Nat) (d : Device) : Bool :=
  ((d.pci n).prsnt && (pinOf n 6 d).isSome) || lstateUp (d.pci n).lstate

/-- Presence Detect Changed when a change moved the presence. -/
def markPresence (n : Nat) (before d : Device) : Device :=
  if slotPresent n before = slotPresent n d then d else d.setPci n { d.pci n with presenceChanged := true }

/-- Preset of a PCI Express lane for its loss, in 0.25 dB (Table 12.7). -/
def pciePreset (il : Nat) : Nat :=
  if il ≤ 32 then 4 else if il ≤ 64 then 1 else if il ≤ 96 then 0 else if il ≤ 120 then 8 else 7

/-- A stored record of the port's width and rate; whether the partner's FS and LF match it is what training finds (R347). -/
def pcieRecord (n rate : Nat) (d : Device) : Option EqRecord × Device :=
  match d.eqRecords.find? fun r => decide (r.port = n) && decide (r.width = (d.port n).width) && decide (r.rate = rate) with
  | none => (none, d)
  | some r =>
    let v := d.fresh 2
    (if v.1 = 1 then some r else none, v.2)

/-- A trained lane (R344, R346, R347, R350). -/
def pcieLane (n rate : Nat) (rec : Option EqRecord) (d : Device) (k : Nat) : Device :=
  let x := d.lane k
  let d := d.setLane k { x with rate := rate, rxLock := true, txIdle := false, rxIdle := false, adapt := 2, fromRecord := rec.isSome }
  let d := measureLane x.cls d k
  if rate < 3 then d
  else match rec with
    | some r => setPreset k (r.lanes.getD (k - 4 * n) (4, 0, 0, 0, 0)).1 d
    | none => setPreset k (pciePreset (d.lane k).il) d

/-- The highest rate that both ends support and the port may use (R307). -/
def rateCap (n partnerRate : Nat) (flit : Bool) (d : Device) : Nat :=
  let target := (d.pci n).targetRate
  let own := if target = 0 then (d.port n).maxRate else min target (d.port n).maxRate
  min (min own partnerRate) (if flit then 7 else 5)

/-- The link may train: not disabled, not in DPC, no reset held on the slot or by the host's PERST_N, and the SerDes PLLs run
(R479). -/
def mayTrain (n : Nat) (d : Device) : Bool :=
  let x := d.pci n
  !d.clk.holdover && (match x.lstate with
   | .disabled => false
   | .dpc => false
   | .loopback => false
   | .l0 => false
   | _ => true) &&
    (if (d.port n).personality = .dsp then !x.perstOut && !bitOf (d.bridge (portKey n d)).bridgeControl 6
      else !(x.perstIn && (pinOf n 2 d).isSome))

/-- Width and rate that training can reach (R307, Table 11.1). -/
def trainedOk (n width rate partnerWidth partnerRate : Nat) (flit : Bool) (d : Device) : Bool :=
  widthAllowed .dsp width && decide (width ≤ (d.port n).width) && decide (width ≤ partnerWidth) && decide (1 ≤ rate) &&
    decide (rate ≤ rateCap n partnerRate flit d)

/-- The credit of the link that starts (R55): for each class what its cells set aside back, but for what items inside still
hold. -/
def startCredit (n : Nat) (d : Device) : Device :=
  let held := fun (cls : Nat) (f : Item → Nat) =>
    ((d.items.filter fun i => decide (i.ingress = n) && decide (i.cls = cls)).map f).foldl (· + ·) 0
  let cells := fun (cls : Nat) => minOf (d.buf n) cls + sharedOf (d.buf n) cls
  d.setPci n { d.pci n with owed := (List.range 3).map fun c => dataOf (cells c) - held c (·.dataCr),
                            owedHdr := (List.range 3).map fun c => headersOf (cells c) - held c (·.hdrCr),
                            takeBack := [0, 0, 0], takeBackHdr := [0, 0, 0] }

/-- A PCI Express link reaches L0 (R307, R319, R330). -/
def linkComesUp (n width rate partnerWidth partnerRate : Nat) (flit reversed : Bool) (d0 : Device) : Device :=
  let x := d0.pci n
  let was := lstateUp x.lstate
  let low := decide (width < min (d0.port n).width partnerWidth) || decide (rate < rateCap n partnerRate flit d0)
  let x := { x with lstate := .l0, negWidth := width, curRate := rate, partnerRate := partnerRate, flit := flit, reversed := reversed,
                    downtrained := low, dlChanged := x.dlChanged || !was, pmeOff := false, pmeAck := false,
                    dsn := if was then x.dsn else none,
                    intStatus := x.intStatus ||| (if was then 0 else 1) ||| (if low then 2 else 0) }
  let d := if was then d0.setPci n x else startCredit n { d0.setPci n x with upAt := tinsert n d0.now d0.upAt }
  let r := if was then (none, d) else pcieRecord n rate d
  let d := if was then eachLane n (fun l => if l.rxLock then { l with rate := rate } else l) r.2
    else ((portLanes n d).take width).foldl (pcieLane n rate r.1) r.2
  let d := match r.1 with
    | some e => { d with eqRecords := d.eqRecords.map fun y => if y = e then { y with usedAt := d.now } else y }
    | none => d
  let d := if low ∧ (d.port n).personality = .dsp then
      d.setBridge (portKey n d) { d.bridge (portKey n d) with bandwidthNotice := true }
    else d
  let d := if (d.port n).personality = .usp then
      let p := (d.port n).holder
      let d := (portsOf p d).foldl (fun d m =>
        if (d.port m).personality = .dsp then d.setPci m { d.pci m with wakeIn := false, pmePending := false } else d) d
      d.setPci n { d.pci n with wakeOut := false }
    else markPresence n d0 d
  retrainReply n d

/-- LINK_UP. (DEDUCED, log entry 32) -/
def execLinkUp (port : Nat) (width : Nat) (rate : Nat) (partnerWidth : Nat) (partnerRate : Nat) (flit : Bool) (reversed : Bool)
    (s : State) : Host.Outcome State Fault Refusal :=
  let d := s.dev
  done s (if pciePort port d && mayTrain port d && trainedOk port width rate partnerWidth partnerRate flit d then
      linkComesUp port width rate partnerWidth partnerRate flit reversed d
    else d)

/-- LINK_LOSS (R229): a PCI Express link that is up goes down and trains again; what is queued toward a port whose link is down
is dropped and reported. -/
def linkLoss (n : Nat) (d : Device) : Device :=
  if 96 ≤ n then d
  else if pciePort n d then (if lstateUp (d.pci n).lstate then pcieDown n .detect d else lossItems n d)
  else if (d.port n).personality = .pfl ∧ pflLive n d = false then lossItems n d
  else d

def execLinkLoss (port : Nat) (s : State) : Host.Outcome State Fault Refusal := done s (linkLoss port s.dev)

/-- A request that went out through a DSP, be the port one still or not (R38). -/
def dspTrack (t : Track) (d : Device) : Bool :=
  decide ((d.port t.port).personality = .dsp) || (t.fn.isNone && t.window.isNone && t.fid.isNone)

/-- CPL_TIMEOUT of a request forwarded through a DSP (R322). (DEDUCED, log entry 30) -/
def cplTimeout (id : Nat) (d : Device) : Device :=
  match d.tracks.find? fun t => decide (t.id = id) && !t.answered with
  | none => d
  | some t =>
    let x := d.pci t.port
    if 96 ≤ t.port ∨ dspTrack t d = false ∨ d.now < t.sentAt + x.cplTimeoutMs * msNs then d
    else
      let d := d.setPci t.port { x with cplTimeouts := satAdd 0xFFFF x.cplTimeouts 1, intStatus := x.intStatus ||| 4 }
      synthTrack d.glb.fid t.port t d

def execCplTimeout (track : Nat) (s : State) : Host.Outcome State Fault Refusal := done s (cplTimeout track s.dev)

/-- The pin level of a sideband function, as last sampled. -/
def setLevel (n f : Nat) (level : Bool) (d : Device) : Device :=
  match pinOf n f d with
  | none => d
  | some k =>
    let x := d.pci n
    let bit := BitVec.ofNat 12 (2 ^ k)
    d.setPci n { x with sbLevel := if level then x.sbLevel ||| bit else x.sbLevel &&& ~~~ bit }

/-- PRESENCE_CHANGE: PRSNT_N_IN has held a level for 10 ms; low is present (R315). -/
def execPresenceChange (port : Nat) (level : Bool) (s : State) : Host.Outcome State Fault Refusal :=
  let d := s.dev
  done s (if (d.port port).personality = .dsp ∧ (pinOf port 6 d).isSome = true then
      let e := setLevel port 6 level d
      markPresence port d (e.setPci port { e.pci port with prsnt := !level })
    else if (d.port port).personality = .dsp then d
    else strayEvent port d)

/-- ATTENTION_BUTTON (R315). -/
def execAttentionButton (port : Nat) (s : State) : Host.Outcome State Fault Refusal :=
  let d := s.dev
  done s (if (d.port port).personality = .dsp ∧ (pinOf port 9 d).isSome = true then
      d.setPci port { d.pci port with buttonPressed := true }
    else d)

/-- WAKE_N_IN (R319). (DEDUCED, log entry 32) -/
def execWakeNIn (port : Nat) (s : State) : Host.Outcome State Fault Refusal :=
  let d := s.dev
  done s (if (d.port port).personality = .dsp ∧ (pinOf port 4 d).isSome = true then
      updateWake (d.port port).holder (setLevel port 4 false (d.setPci port { d.pci port with wakeIn := true }))
    else d)

/-- CLKREQ_N_CHANGE (R326). -/
def execClkreqNChange (port : Nat) (asserted : Bool) (s : State) : Host.Outcome State Fault Refusal :=
  let d := s.dev
  done s (if pciePort port d ∧ (pinOf port 3 d).isSome = true then d.setPci port { d.pci port with clkreq := asserted } else d)

/-- PERST_DELAY_EXPIRY (Table 11.5): PERST_N_OUT is deasserted and the link leaves Detect.Quiet. -/
def perstExpires (n : Nat) (d : Device) : Device :=
  let x := d.pci n
  let g := gangOf n d
  match x.pgAt with
  | none => d
  | some t =>
    if (d.port n).personality = .dsp ∧ x.perstOut ∧ t + x.perstDelayMs * msNs ≤ d.now ∧ g.all (fun c => (d.channel c).pg) = true then
      pcieStart n (d.setPci n { x with perstOut := false })
    else d

def execPerstDelayExpiry (port : Nat) (s : State) : Host.Outcome State Fault Refusal := done s (perstExpires port s.dev)

/-- PME_TURN_OFF (R324): PME_Turn_Off (message code 0x19) goes to every DSP of the partition whose link is up; when each has
acknowledged, PME_TO_Ack (0x1B) goes upward, and the links are in L2/L3 Ready. -/
def pmeTurnOff (p : Nat) (d : Device) : Device :=
  match uspOf p d with
  | none => d
  | some u =>
    if linkUp u d then
      let d := (broadcastPorts p d).foldl (fun d n =>
        let d := pcieDown n .l2 (emit (.pcieMessage n 0x19) d)
        d.setPci n { d.pci n with pmeOff := true, pmeAck := true }) d
      let d := pcieDown u .l2 (emit (.pcieMessage u 0x1B) d)
      updateWake p (d.setPci u { d.pci u with pmeOff := true, pmeAck := true })
    else d

def execPmeTurnOff (part : Nat) (s : State) : Host.Outcome State Fault Refusal := done s (pmeTurnOff part s.dev)

/-- PTM_DIALOG (R325), every 1 ms. (DESIGN CHOICE, log entry 72) -/
def execPtmDialog (port : Nat) (offset : BitVec 64) (s : State) : Host.Outcome State Fault Refusal :=
  let d := s.dev
  let x := d.pci port
  done s (if (d.port port).personality = .usp ∧ x.ptmEnable ∧ linkUp port d = true ∧ isDue (.ptmDialog port) msNs d = true then
    ranNow (.ptmDialog port) (d.setPci port { x with ptmOfs := offset }) else d)

/-- A link that lets its USP rest (R324): in L1, down or disabled. -/
def resting (n : Nat) (d : Device) : Bool := decide ((d.pci n).lstate = .l1) || !lstateUp (d.pci n).lstate

/-- ASPM_L1_ENTRY (R324): every DSP link of the partition rests, and no item of it has been inside for 10 µs. -/
def aspmL1 (u : Nat) (d : Device) : Device :=
  let p := (d.port u).holder
  let dsps := (portsOf p d).filter fun n => decide ((d.port n).personality = .dsp)
  if (d.port u).personality = .usp ∧ (d.pci u).lstate = .l0 ∧ bitOf (d.bridge (upstreamKey p)).linkControl 1 = true ∧
      dsps.all (fun n => resting n d) = true ∧ d.items.any (fun i => decide (i.part = p)) = false ∧
      tget 0 d.insideAt p + 10 * usNs ≤ d.now then
    d.setPci u { d.pci u with lstate := .l1 }
  else d

def execAspmL1Entry (port : Nat) (s : State) : Host.Outcome State Fault Refusal := done s (aspmL1 port s.dev)

/-- A write that R102 blocks is counted for the holder. -/
def countBlocked (p : Nat) (d : Device) : Device :=
  d.setPart p { d.part p with blockedCfg := satAdd 0xFFFF (d.part p).blockedCfg 1 }

/-- SECONDARY_BUS_RESET at a port bridge (R102, R312, R316, R328). -/
def secondaryReset (n : Nat) (d : Device) : Device :=
  if (d.port n).personality ≠ .dsp then d
  else if steersOut n d then countBlocked (d.port n).holder d
  else
    let k := portKey n d
    let d := d.setBridge k { d.bridge k with bridgeControl := (d.bridge k).bridgeControl ||| 0x40 }
    if (d.pci n).dpc then d
    else if lstateUp (d.pci n).lstate then pcieDown n .hotReset d else d

def execSecondaryBusReset (port : Nat) (s : State) : Host.Outcome State Fault Refusal := done s (secondaryReset port s.dev)

/-- LINK_DISABLE at a port bridge (R102, R312). (DEDUCED, log entry 32) -/
def linkDisable (n : Nat) (on : Bool) (d : Device) : Device :=
  if (d.port n).personality ≠ .dsp then d
  else
    let k := portKey n d
    let b := d.bridge k
    if bitOf b.linkControl 4 = on then d
    else if steersOut n d then countBlocked (d.port n).holder d
    else if on then
      let d := d.setBridge k { b with linkControl := b.linkControl + 16 }
      if (d.pci n).dpc then d else pcieDown n .disabled d
    else pcieStart n (d.setBridge k { b with linkControl := b.linkControl - 16 })

def execLinkDisable (port : Nat) (on : Bool) (s : State) : Host.Outcome State Fault Refusal := done s (linkDisable port on s.dev)

/-- RETRAIN_LINK at a port bridge (R312). -/
def execRetrainLink (port : Nat) (s : State) : Host.Outcome State Fault Refusal :=
  done s (if (s.dev.port port).personality = .dsp then pcieRecovery port s.dev else s.dev)

/-- POWER_CONTROLLER_CONTROL at a HOTPLUG port bridge with a power controller (R315). -/
def powerControl (n : Nat) (off : Bool) (d : Device) : Device :=
  let g := gangOf n d
  if (d.port n).personality ≠ .dsp ∨ (d.port n).hotplug = false ∨ g.isEmpty = true then d
  else if off then g.foldl (fun d c => shutChannel c d) d
  else if canSwitchOn g d then g.foldl (fun d c => switchOn c d) d
  else portRaise n 0x10 (d.setPci n { d.pci n with powerFault := true })

def execPowerControllerControl (port : Nat) (off : Bool) (s : State) : Host.Outcome State Fault Refusal :=
  done s (powerControl port off s.dev)

/-- DPC_TRIGGER (R321). -/
def execDpcTrigger (port : Nat) (reason : Nat) (s : State) : Host.Outcome State Fault Refusal :=
  done s (if port < 96 then dpcTrigger port reason s.dev else s.dev)

/-- DPC_TRIGGER_STATUS_CLEAR (R554): the link trains again unless something else keeps it down. -/
def execDpcTriggerStatusClear (port : Nat) (s : State) : Host.Outcome State Fault Refusal :=
  done s (if (s.dev.port port).personality = .dsp then endDpc port s.dev else s.dev)

/-- Units of a half-stope. -/
def halfUnits (h : Nat) : List Nat := [2 * h, 2 * h + 1]

/-- DSPs whose lowest unit lies in a half-stope and that have CLKOUT set. -/
def clockDsps (h : Nat) (d : Device) : List Nat :=
  (halfUnits h).filter fun n => decide ((d.port n).personality = .dsp) && (d.port n).clkout

/-- The channels of a DSP have power-good, or it has no channel fitted (R316, R326). -/
def clockPowered (n : Nat) (d : Device) : Bool := (gangOf n d).all fun c => (d.channel c).pg

/-- A holder of a reference clock (R326): L1 PM Substates disabled, or CLKREQ_N asserted by either end; the S96 asserts it while
the link is not in L1. -/
def holdsClock (n : Nat) (d : Device) : Bool :=
  !(d.pci n).l1ss || (d.pci n).clkreq || decide ((d.pci n).lstate ≠ .l1)

/-- CKP_STATUS of half-stope h (Table 11.9). -/
def clockHasPfl (h : Nat) (d : Device) : Bool :=
  (halfUnits h).any fun u => decide ((d.port (ownerOf u d)).personality = .pfl)
/-- The forwarded clock runs while a PFL port of the half-stope is not DISABLED (Table 7.4). -/
def pflClockRuns (h : Nat) (d : Device) : Bool :=
  (halfUnits h).any fun u => decide ((d.port (ownerOf u d)).personality = .pfl) && decide ((d.pfl (ownerOf u d)).state ≠ .disabled)
def ckpWord (h : Nat) (d : Device) : Nat :=
  let ready := (clockDsps h d).filter fun n => clockPowered n d
  let pfl := clockHasPfl h d
  let run := if pfl then pflClockRuns h d else ready.any fun n => holdsClock n d
  let mode := if pfl then 2 else if (clockDsps h d).isEmpty then 0 else 1
  mode + 4 * natOfBool run + 8 * natOfBool (!pfl && !ready.isEmpty && !run) +
    16 * (if pfl then 0x7F else (clockDsps h d).head?.getD 0x7F)

end Sys2Proof.Machine
end

