-- ==== Sys2Proof/Machine/ConfigSpace.lean ====
section
/-! DEFINITION. Machine/ConfigSpace.lean: configuration accesses of hosts: virtual bridges, the S96's functions, functions below a
DSP, steered VFs (R85–R90, R98, R102, R311–R315, R361, R362, R371, R555). Addresses in base and limit fields are whole byte
addresses, the limit's the last byte; a 64-bit BAR n is the n-th of Table 13.2. -/

namespace Sys2Proof.Machine

/-- Number of a raw field: its offset, or one above every offset for a named field that no rule uses. -/
def rawKey : CfgField → Nat
  | .other o => o
  | .aerControl => 0x1001
  | .l1ssControl => 0x1002
  | .sriovVfBarSize b => 0x2000 + b
  | .sriovOffset => 0x1003
  | .sriovStride => 0x1004
  | .sriovVfDevice => 0x1005
  | .maxPayload => 0x1006
  | .maxReadRequest => 0x1007
  | .aerSeverity => 0x1008
  | .aerCorStatus => 0x1040
  | .aerCorMask => 0x1041
  | .deviceControl => 0x1042
  | .linkControl => 0x1009
  | .targetLinkSpeed => 0x100A
  | .powerState => 0x100B
  | .atsControl => 0x100C
  | .completionTimeout => 0x100D
  | .slotControl => 0x100E
  | .slotStatus => 0x100F
  | .linkStatus => 0x1010
  | .dpcControl => 0x1011
  | .dpcStatus => 0x1012
  | .dpcCompletion => 0x1013
  | .ptmControl => 0x1014
  | .devControlFlr => 0x1015
  | .sriovControl => 0x1016
  | .sriovNumVfs => 0x1017
  | .sriovVfBar b => 0x2100 + b
  | .bar b => 0x2200 + b
  | .msixAddr v => 0x10000 + 4 * v
  | .msixData v => 0x10001 + 4 * v
  | .msixControl v => 0x10002 + 4 * v
  | .command => 0x1018
  | .primaryBus => 0x1019
  | .secondaryBus => 0x101A
  | .subordinateBus => 0x101B
  | .memBase => 0x101C
  | .memLimit => 0x101D
  | .prefBase => 0x101E
  | .prefLimit => 0x101F
  | .ioBase => 0x1020
  | .ioLimit => 0x1021
  | .acsControl => 0x1022
  | .egressVector => 0x1023
  | .bridgeControl => 0x1024
  | .vendorId => 0x1025
  | .aerStatus => 0x1026
  | .aerMask => 0x1027
  | .sriovVfBarType b => 0x2300 + b
  | .sriovTotalVfs => 0x1028
  | .deviceId => 0x1029
  | .revisionId => 0x102A
  | .headerType => 0x102B
  | .interruptPin => 0x102C
  | .slotCapabilities => 0x102D
  | .atsCapability => 0x102E
  | .serialNumber => 0x102F
  | .capability o => 0x3000 + o
  | .pcieType => 0x1030
  | .deviceCapabilities => 0x1031
  | .deviceCapabilities2 => 0x1032
  | .deviceCapabilities3 => 0x1033
  | .deviceStatus => 0x1034
  | .linkCapabilities => 0x1035
  | .acsCapability => 0x1036
  | .dpcCapability => 0x1037
  | .ptmCapability => 0x1038
  | .sriovCapabilities => 0x1039
  | .sriovPageSizes => 0x103A

/-- A field that no rule names: what was written last, else a value the base specification gives, a free one.
(PRESUMED, log entry 28) -/
def rawRead (t : Tbl Nat) (f : CfgField) (d : Device) : Nat × Device :=
  match t.find? fun e => decide (e.1 = rawKey f) with
  | some e => (e.2, d)
  | none => d.fresh (2 ^ 32)

/-- ECRC Generation Capable and ECRC Check Capable read 0 (R310): bits 5 and 7 of the base specification.
(PRESUMED, log entry 64) -/
def noEcrc (r : Nat × Device) : Nat × Device :=
  (r.1 - (if bitOf r.1 5 then 32 else 0) - (if bitOf r.1 7 then 128 else 0), r.2)

/-- Attention and power indicator codes of Slot Control as PRT_HP shows them, and back. -/
def indicatorOf (code : Nat) : Nat := if code = 1 then 1 else if code = 2 then 2 else 0
def indicatorCode (v : Nat) : Nat := if v = 1 then 1 else if v = 2 then 2 else 3

/-- Slot Control of a port bridge: indicators and the state of the channels (R315); Slot Status. -/
def slotControlWord (n key : Nat) (d : Device) : Nat :=
  let x := d.pci n
  let g := gangOf n d
  let off := decide (!g.isEmpty) && !g.all fun c => spwActive (d.channel c).state
  let kept := (d.bridge key).slotControl
  if (d.port n).hotplug then
    kept % 64 + 64 * indicatorCode x.attn + 256 * indicatorCode x.pwr + 1024 * natOfBool off + kept / 4096 * 4096
  else kept % 64 + kept / 4096 * 4096
def slotStatusWord (n : Option Nat) (p k : Nat) (d : Device) : Nat :=
  let base := (d.bridge (bridgeKey p k)).slotStatus
  let bound := portBridge p k d || steeringBridge p k d
  match n with
  | none => base + 64 * natOfBool bound
  | some n =>
    let x := d.pci n
    if (d.port n).hotplug then
      natOfBool x.buttonPressed + 2 * natOfBool x.powerFault + 8 * natOfBool (x.presenceChanged || bitOf base 3) +
        64 * natOfBool (slotPresent n d) + 256 * natOfBool x.dlChanged
    else base + 64 * natOfBool bound + 256 * natOfBool x.dlChanged

/-- Link Status of a physical port: rate, width, Data Link Layer Link Active, Link Bandwidth Management Status. -/
def linkStatusWord (n key : Nat) (d : Device) : Nat :=
  let x := d.pci n
  curRate n d + 16 * x.negWidth + 2 ^ 13 * natOfBool (lstateUp x.lstate) + 2 ^ 14 * natOfBool (d.bridge key).bandwidthNotice

/-- The port whose link a bridge reports: its USP or DSP, or for a steering bridge the real DSP (R312, R313). -/
def reportedPort (p k : Nat) (d : Device) : Option Nat :=
  if k = 100 then uspOf p d
  else match hostsPort p k d with
    | some n => some n
    | none => (d.steers.find? fun e => decide (e.2.part = p) && decide (e.2.bridge = k)).map (·.2.port)

/-- Slot Capabilities of downstream virtual bridge k (R314, Table 11.4), in the bits of the base specification; those of the
slot's power limit, which no rule states, are free. (PRESUMED, log entry 64) -/
def slotCapabilities (p k : Nat) (d : Device) : Nat × Device :=
  let number : Nat := match hostsPort p k d with
    | some n => if (d.port n).hotplug then n else 128 + k
    | none => 128 + k
  let parts : Nat := match hostsPort p k d with
    | some n =>
      if (d.port n).hotplug then
        natOfBool (pinOf n 9 d).isSome + 2 * natOfBool (!(gangOf n d).isEmpty) + 8 * natOfBool (pinOf n 7 d).isSome +
          16 * natOfBool (pinOf n 8 d).isSome
      else 0
    | none => 0
  let v := d.fresh (2 ^ 10)
  (parts + 64 + 2 ^ 7 * v.1 + 2 ^ 18 + 2 ^ 19 * number, v.2)

/-- A read-only register of which rules fix the bits of a mask; what the base specification gives the others is free.
(PRESUMED, log entry 64) -/
def fixedBits (mask bits : Nat) (d : Device) : Nat × Device :=
  let v := d.fresh (2 ^ 32)
  (v.1 - Nat.land v.1 mask + bits, v.2)

/-- The capability at an offset, as its identifier in the base specification, 8 bits below 0x100 and 16 above: its header's other
bits are free. (PRESUMED, log entry 64) -/
def capabilityHeader (caps : List (Nat × Nat)) (o : Nat) (raw : Nat × Device) (d : Device) : Nat × Device :=
  match caps.find? fun e => decide (e.1 = o) with
  | some e => fixedBits (if o < 256 then 0xFF else 0xFFFF) e.2 d
  | none => raw

/-- The capabilities of a virtual bridge (Table 11.3); that of 128.0 GT/s at 0x230 has an identifier the model does not take.
(PRESUMED, log entry 64) -/
def bridgeCaps (p k : Nat) (d : Device) : List (Nat × Nat) :=
  let all := [(0x40, 0x01), (0x50, 0x05), (0x70, 0x10), (0x100, 0x01), (0x2B0, 0x0B)]
  let linked := [(0x160, 0x19), (0x190, 0x25), (0x1A0, 0x26), (0x1D0, 0x2A), (0x200, 0x31), (0x260, 0x2F), (0x270, 0x1E)]
  if k = 100 then all ++ linked ++ [(0x2A0, 0x1F)]
  else if 96 ≤ k then all
  else if portBridge p k d then all ++ linked ++ [(0x148, 0x0D), (0x280, 0x1D)]
  else if steeringBridge p k d then all ++ [(0x148, 0x0D), (0x260, 0x2F)]
  else []

/-- The capabilities of a function of the S96 (Table 13.1). (PRESUMED, log entry 64) -/
def functionCaps (fn : Fn) : List (Nat × Nat) :=
  let all := [(0x50, 0x11), (0x70, 0x10), (0x100, 0x01), (0x2B0, 0x0B)]
  if fn = .mgr then all ++ [(0x40, 0x01), (0x148, 0x03)]
  else if fnKey fn < 64 then all ++ [(0x40, 0x01), (0x148, 0x03), (0x158, 0x0F), (0x160, 0x10), (0x1A0, 0x0E)]
  else all ++ [(0x158, 0x0F), (0x1A0, 0x0E)]

/-- Link Capabilities of a physical port (R305, R312, R324): Max Link Speed, Maximum Link Width, ASPM support (L0s in non-FLIT mode
only), L0s exit latency 512 ns–1 µs and L1 exit latency 2–4 µs. (PRESUMED, log entry 64) -/
def linkCapabilities (n : Nat) (d : Device) : Nat × Device :=
  let x := d.port n
  fixedBits 0x3FFFF (x.maxRate + 16 * x.width + 1024 * natOfBool (!(d.pci n).flit) + 2048 + 4096 * 4 + 32768 * 2) d

/-- The read-only capability registers of bridge k: its place in the switch (Table 11.3); Max_Payload_Size up to 4 KiB, ACS and DPC
as Table 11.1 lists them; 14-bit tags in FLIT mode only (R308); PTM Requester (R325). (PRESUMED, log entry 64) -/
def bridgeCapability (p k : Nat) (f : CfgField) (raw : Nat × Device) (d : Device) : Nat × Device :=
  let port := if k = 100 then uspOf p d else hostsPort p k d
  match f with
  | .capability o => capabilityHeader (bridgeCaps p k d) o raw d
  | .pcieType => (if k = 100 then 5 else 6, d)
  | .deviceCapabilities => fixedBits 7 5 d
  | .deviceCapabilities3 =>
    match port with
    | some n => if k = 100 then raw else fixedBits 6 (if (d.pci n).flit ∧ linkUp n d = true then 6 else 0) d
    | none => raw
  | .linkCapabilities =>
    match port with
    | some n => linkCapabilities n d
    | none => raw
  | .acsCapability => if portBridge p k d ∨ steeringBridge p k d then fixedBits 0xFF7F (0x7F + 256 * (d.part p).dsbCount) d else raw
  | .dpcCapability => if portBridge p k d then fixedBits 0x10E0 0x10C0 d else raw
  | .ptmCapability => if k = 100 then fixedBits 7 1 d else raw
  | _ => raw

/-- The function has requests outstanding (Transactions Pending); silence ends them (Table 13.4). -/
def transactionsPending (fn : Fn) (d : Device) : Bool :=
  decide ((d.func fn).flr = .idle) &&
    ((d.issued.any fun a => decide (a.fn = some fn) && a.rma.isNone && decide (a.tlp.kind ≠ .memWrite)) ||
      (d.items.any fun i => decide (i.fn = some fn) && decide (i.cls = 1) && i.rma.isNone && decide (i.stage ≠ .replay)) ||
      d.tracks.any fun t => decide (t.fn = some fn) && !t.answered)

/-- The read-only capability registers of a function (R359, R361, R370, R376): FLR capable but for the management function, completion
timeout ranges A–D without Disable, 4 KiB pages only and no VF migration. (PRESUMED, log entry 64) -/
def functionCapability (fn : Fn) (f : CfgField) (raw : Nat × Device) (d : Device) : Nat × Device :=
  let pf := decide (fn ≠ .mgr) && decide (fnKey fn < 64)
  match f with
  | .capability o => capabilityHeader (functionCaps fn) o raw d
  | .pcieType => (0, d)
  | .deviceCapabilities => fixedBits (2 ^ 28) (if fn = .mgr then 0 else 2 ^ 28) d
  | .deviceCapabilities2 => fixedBits 0x1F 0xF d
  | .deviceStatus => fixedBits 0x20 (32 * natOfBool (transactionsPending fn d)) d
  | .sriovCapabilities => if pf then fixedBits 1 0 d else raw
  | .sriovPageSizes => (natOfBool pf, d)
  | _ => raw

/-- Device ID of a virtual bridge (Table 11.3); of an unbound downstream bridge, which no rule states, a free value.
(DESIGN CHOICE, log entry 1) -/
def bridgeDevice (p k : Nat) (d : Device) : Nat × Device :=
  if k = 100 then (0x5960, d)
  else if 96 ≤ k then (0x5961, d)
  else if portBridge p k d then (0x5963, d)
  else if steeringBridge p k d then (0x5964, d)
  else d.fresh (2 ^ 16)

/-- The vendor-specific word of a bridge (Table 11.3): FID, partition, physical port. -/
def bridgeVendorWord (p k : Nat) (d : Device) : Nat :=
  d.glb.fid + 256 * p + 65536 * ((if k = 100 then uspOf p d else hostsPort p k d).getD 0x7F)

/-- Read a field of virtual bridge k of a partition: 100 the upstream bridge, 96–98 the intermediate ones. -/
def bridgeRead (p k : Nat) (f : CfgField) (d : Device) : Nat × Device :=
  let key := bridgeKey p k
  let b := d.bridge key
  let port := if k = 100 then uspOf p d else hostsPort p k d
  match f with
  | .command => (natOfBool b.iose + 2 * natOfBool b.mse + 4 * natOfBool b.bme, d)
  | .primaryBus => (b.primary, d)
  | .secondaryBus => (b.secondary, d)
  | .subordinateBus => (b.subordinate, d)
  | .memBase => (b.memBase, d)
  | .memLimit => (b.memLimit, d)
  | .prefBase => (b.prefBase, d)
  | .prefLimit => (b.prefLimit, d)
  | .ioBase => (b.ioBase, d)
  | .ioLimit => (b.ioLimit, d)
  | .acsControl => (b.acs, d)
  | .egressVector => (b.egressVector, d)
  | .bridgeControl => (b.bridgeControl, d)
  | .maxPayload => (b.mps, d)
  | .maxReadRequest => (b.mrrs, d)
  | .linkControl => (b.linkControl, d)
  | .targetLinkSpeed => (b.linkControl2, d)
  | .linkStatus =>
    match reportedPort p k d with
    | some n => (linkStatusWord n key d, d)
    | none => (0, d)
  | .slotControl =>
    match port with
    | some n => (slotControlWord n key d, d)
    | none => (b.slotControl, d)
  | .slotStatus => (slotStatusWord port p k d, d)
  | .dpcControl => (b.dpcControl, d)
  | .dpcCompletion => (natOfBool (bitOf b.dpcControl 2), d)
  | .dpcStatus =>
    match reportedPort p k d with
    | some n => (natOfBool (d.pci n).dpc + 2 * (d.pci n).dpcReason, d)
    | none => (0, d)
  | .ptmControl =>
    match port with
    | some n => (natOfBool (d.pci n).ptmEnable, d)
    | none => (0, d)
  | .l1ssControl =>
    match port with
    | some n => (natOfBool (d.pci n).l1ss, d)
    | none => rawRead b.raw f d
  | .vendorId => (Config.vendorId, d)
  | .deviceId => bridgeDevice p k d
  | .revisionId => (0, d)
  | .slotCapabilities => if k < 96 then slotCapabilities p k d else (0, d)
  | .aerStatus => (b.aerUncor, d)
  | .aerMask => (b.aerMask, d)
  | .aerControl => noEcrc (rawRead b.raw f d)
  | .other o => if o = 0x2B8 then (bridgeVendorWord p k d, d) else rawRead b.raw f d
  | _ => bridgeCapability p k f (rawRead b.raw f d) d

/-- A BAR as it reads: its base with the type bits of a 64-bit BAR, 12 where it is prefetchable, else 4 (R117, R360); a VF
has none of its own. (PRESUMED, log entry 64) -/
def barWord (fn : Fn) (type base : Nat) : Nat := if 64 ≤ fnKey fn then 0 else base + type

/-- A function of the S96 answers with this value; its requests to MSI-X entries are those of its table (R360, R364). -/
def funcRead (fn : Fn) (f : CfgField) (d : Device) : Nat × Device :=
  let x := d.func fn
  let v := fun (n : Nat) => tget msixReset d.msix (fnKey fn * 2048 + n)
  let pf := decide (fn ≠ .mgr) && decide (fnKey fn < 64)
  match f with
  | .command => (2 * natOfBool x.mse + 4 * natOfBool x.bme, d)
  | .powerState => (if x.d3hot then 3 else 0, d)
  | .bar 0 => (barWord fn 4 (if fn = .mgr then x.queueBar else x.mailboxBar), d)
  | .bar 1 => (barWord fn 4 (if fn = .mgr then x.mailboxBar else x.queueBar), d)
  | .bar 2 => (barWord fn 12 x.windowBar, d)
  | .deviceId => (if fn = .mgr then 0x5968 else if pf then 0x5969 else 0x596A, d)
  | .revisionId => (0, d)
  | .headerType => (0, d)
  | .interruptPin => (0, d)
  | .serialNumber => (if fn = .mgr ∨ pf = true then d.glb.serial.toNat else 0, d)
  | .atsCapability => (if fn = .mgr then 0 else 32, d)
  | .sriovTotalVfs => (if pf then (vfsOf (fnKey fn) d).length else 0, d)
  | .aerControl => noEcrc (rawRead x.raw f d)
  | .atsControl => (32768 * natOfBool x.atsEnable, d)
  | .sriovControl => (if pf then natOfBool x.vfEnable + 8 * natOfBool ((vfsOf (fnKey fn) d).any fun w => (d.func (.vf w)).mse) else 0, d)
  | .sriovNumVfs => (x.numVfs, d)
  | .sriovVfBar 0 => (if pf then x.vfMailboxBar + 4 else 0, d)
  | .sriovVfBar 1 => (if pf then x.vfQueueBar + 4 else 0, d)
  | .sriovOffset => (if pf then 1 else 0, d)
  | .sriovStride => (if pf then 1 else 0, d)
  | .sriovVfDevice => (if pf then 0x596A else 0, d)
  | .vendorId => (Config.vendorId, d)
  | .devControlFlr => (0, d)
  | .completionTimeout => (x.cplTimeoutNs, d)
  | .aerStatus => (x.aerUncor, d)
  | .aerMask => (x.aerUncorMask, d)
  | .aerSeverity => (severityOf fn d, d)
  | .aerCorStatus => (x.aerCor, d)
  | .aerCorMask => (x.aerCorMask, d)
  | .msixAddr n => ((v n).addr, d)
  | .msixData n => ((v n).data.toNat, d)
  | .msixControl n => (natOfBool (v n).masked, d)
  | .other o =>
    if o = 0x2B8 then
      let inst : Nat := match fn with
        | .mgr => 0
        | .pf p => p
        | .vf w => w
      let kind : Nat := match fn with
        | .mgr => 0
        | .pf _ => 1
        | .vf _ => 2
      (d.glb.fid + 256 * fnPart fn d + 65536 * inst + 2 ^ 28 * kind, d)
    else if o = 0x2BC then
      let st : Nat := match x.flr with
        | .idle => 0
        | .silencing => 1
        | .releasing => 2
      (st + 65536 * x.lateCpl + 2 ^ 24 * x.cqLost, d)
    else rawRead x.raw f d
  | _ => functionCapability fn f (rawRead x.raw f d) d

/-- Answer a configuration request of a partition's host. -/
def cfgReply (p : Nat) (st : CplStatus) (v : Nat) (d : Device) : Device := emit (.configReply p st v) d

/-- Virtual bridge k exists in a partition. -/
def bridgeExists (p k : Nat) (d : Device) : Bool :=
  decide ((d.part p).state ≠ .free) && (decide (k = 100) || decide (k < (d.part p).dsbCount))
def intermediateExists (p n : Nat) (d : Device) : Bool :=
  decide ((d.part p).state ≠ .free) && decide (32 < (d.part p).dsbCount) && decide (n < ceilDiv (d.part p).dsbCount 32)

/-- A function that answers configuration requests: a VF only while its PF's VF Enable is 1 and its index below NumVFs. -/
def vfAnswers (p v : Nat) (d : Device) : Bool :=
  (vfsOf p d).contains v && (d.func (.pf p)).vfEnable && decide (tget 0 d.vfIndex v < (d.func (.pf p)).numVfs)

/-- VBRIDGE_CONFIG_READ (R85, R92, R371): an FLR and a fence answer with Request Retry Status. -/
def cfgRead (p : Nat) (t : CfgTarget) (f : CfgField) (d : Device) : Device :=
  let function := fun (fn : Fn) =>
    if (d.func fn).flr ≠ .idle then cfgReply p .crs 0 d
    else
      let r := funcRead fn f d
      cfgReply p .sc r.1 r.2
  let bridge := fun (k : Nat) =>
    let r := bridgeRead p k f d
    cfgReply p .sc r.1 r.2
  match t with
  | .upstream => if bridgeExists p 100 d then bridge 100 else cfgReply p .ur 0 d
  | .function1 => if bridgeExists p 100 d then function (function1 p) else cfgReply p .ur 0 d
  | .vf v => if vfAnswers p v d then function (.vf v) else cfgReply p .ur 0 d
  | .intermediate n => if intermediateExists p n d then bridge (96 + n) else cfgReply p .ur 0 d
  | .downstream k => if k ≠ 100 ∧ bridgeExists p k d = true then bridge k else cfgReply p .ur 0 d
  | .endpoint n rid =>
    if (d.port n).personality ≠ .dsp ∨ (d.port n).holder ≠ p then cfgReply p .ur 0 d
    else if linkUp n d = false then cfgReply p .ur 0 d
    else if d.fenced p then cfgReply p .crs 0 d
    else emit (.config n rid f none) d

def execVbridgeConfigRead (part : Nat) (target : CfgTarget) (field : CfgField) (s : State) : Host.Outcome State Fault Refusal :=
  done s (cfgRead part target field s.dev)

/-- Link Control of a bridge (R312, R313): of a port bridge it acts on the DSP, of the upstream bridge its ASPM Control on the
USP; elsewhere it is held. Retrain Link reads 0. -/
def writeLinkControl (key : Nat) (port : Option Nat) (v : Nat) (d : Device) : Device :=
  let old := (d.bridge key).linkControl
  let v' := v % 65536 - (if bitOf v 5 then 32 else 0)
  match port with
  | some n =>
    if (d.port n).personality = .dsp then
      let same := if bitOf v' 4 = bitOf old 4 then v' else if bitOf v' 4 then v' - 16 else v' + 16
      let d := d.setBridge key { d.bridge key with linkControl := same }
      let d := linkDisable n (bitOf v' 4) d
      if bitOf v 5 then pcieRecovery n d else d
    else d.setBridge key { d.bridge key with linkControl := v' }
  | none => d.setBridge key { d.bridge key with linkControl := v' }

/-- Slot Control of a HOTPLUG port bridge (R315). -/
def writeSlotControl (key : Nat) (port : Option Nat) (v : Nat) (d : Device) : Device :=
  let d := d.setBridge key { d.bridge key with slotControl := v % 65536 }
  match port with
  | some n =>
    if (d.port n).personality = .dsp ∧ (d.port n).hotplug then
      let d := d.setPci n { d.pci n with attn := indicatorOf (fieldOf v 7 6), pwr := indicatorOf (fieldOf v 9 8) }
      let now := bitOf (slotControlWord n key d) 10
      if bitOf v 10 = now then d else powerControl n (bitOf v 10) d
    else d
  | none => d

/-- Slot Status is W1C. -/
def writeSlotStatus (key : Nat) (port : Option Nat) (v : Nat) (d : Device) : Device :=
  let b := d.bridge key
  let d := if bitOf v 3 then d.setBridge key { b with slotStatus := if bitOf b.slotStatus 3 then b.slotStatus - 8 else b.slotStatus } else d
  match port with
  | some n =>
    let x := d.pci n
    d.setPci n { x with buttonPressed := x.buttonPressed && !bitOf v 0, powerFault := x.powerFault && !bitOf v 1,
                        presenceChanged := x.presenceChanged && !bitOf v 3, dlChanged := x.dlChanged && !bitOf v 8 }
  | none => d

/-- A bus number of a port bridge above steered VFs keeps its value (R102). (DEDUCED, log entry 32) -/
def guardedBus (p : Nat) (port : Option Nat) (change : Bool) (set : Device → Device) (d : Device) : Device :=
  let held : Bool := match port with
    | some n => decide ((d.port n).personality = .dsp) && steersOut n d
    | none => false
  if held then (if change then countBlocked p d else d) else set d

/-- Bridge Control: Secondary Bus Reset of a port bridge resets its DSP; of the upstream or an intermediate bridge, every DSP
below it, as the base specification has it (R312). -/
def writeBridgeControl (p k : Nat) (port : Option Nat) (v : Nat) (d : Device) : Device :=
  let key := bridgeKey p k
  let old := (d.bridge key).bridgeControl
  let rises := bitOf v 6 && !bitOf old 6
  let keep := if bitOf v 6 then v % 65536 - 64 else v % 65536
  match port with
  | some n =>
    if (d.port n).personality = .dsp then
      if steersOut n d then
        let d := d.setBridge key { d.bridge key with bridgeControl := keep }
        if bitOf v 6 then countBlocked p d else d
      else
        let d := d.setBridge key { d.bridge key with bridgeControl := v % 65536 }
        if rises then secondaryReset n d else d
    else
      let d := d.setBridge key { d.bridge key with bridgeControl := v % 65536 }
      if rises then hotResetDsps p d else d
  | none =>
    let d := d.setBridge key { d.bridge key with bridgeControl := v % 65536 }
    if rises ∧ 96 ≤ k ∧ k < 100 then
      ((List.range 32).map fun j => (k - 96) * 32 + j).foldl (fun d j => match hostsPort p j d with
        | some n => secondaryReset n d
        | none => d) d
    else d

/-- DPC Control: software triggering acts while DPC is enabled (Table 11.1, R321). -/
def writeDpcControl (key : Nat) (port : Option Nat) (v : Nat) (d : Device) : Device :=
  let kept := v % 65536 - (if bitOf v 6 then 64 else 0)
  let d := d.setBridge key { d.bridge key with dpcControl := kept }
  match port with
  | some n => if bitOf v 6 ∧ fieldOf v 1 0 ≠ 0 then dpcTrigger n 3 d else d
  | none => d

/-- Write a field of virtual bridge k of a partition (R89, R102, R312–R315): in force when the write is answered. -/
def bridgeWrite (p k : Nat) (f : CfgField) (v : Nat) (d : Device) : Device :=
  let key := bridgeKey p k
  let b := d.bridge key
  let port := if k = 100 then uspOf p d else hostsPort p k d
  match f with
  | .command => d.setBridge key { b with iose := bitOf v 0, mse := bitOf v 1, bme := bitOf v 2 }
  | .primaryBus => d.setBridge key { b with primary := v % 256 }
  | .secondaryBus => guardedBus p port (decide (b.secondary ≠ v % 256)) (fun d => d.setBridge key { b with secondary := v % 256 }) d
  | .subordinateBus =>
    guardedBus p port (decide (b.subordinate ≠ v % 256)) (fun d => d.setBridge key { b with subordinate := v % 256 }) d
  | .memBase => d.setBridge key { b with memBase := v % 2 ^ 32 }
  | .memLimit => d.setBridge key { b with memLimit := v % 2 ^ 32 }
  | .prefBase => d.setBridge key { b with prefBase := v % 2 ^ 64 }
  | .prefLimit => d.setBridge key { b with prefLimit := v % 2 ^ 64 }
  | .ioBase => d.setBridge key { b with ioBase := v % 2 ^ 32 }
  | .ioLimit => d.setBridge key { b with ioLimit := v % 2 ^ 32 }
  | .acsControl => if 96 ≤ k then d else d.setBridge key { b with acs := v % 128 }
  | .egressVector => if 96 ≤ k then d else d.setBridge key { b with egressVector := v % 2 ^ (d.part p).dsbCount }
  | .bridgeControl => writeBridgeControl p k port v d
  | .maxPayload => d.setBridge key { b with mps := v % 8 }
  | .maxReadRequest => d.setBridge key { b with mrrs := v % 8 }
  | .linkControl => writeLinkControl key port v d
  | .targetLinkSpeed =>
    let d := d.setBridge key { b with linkControl2 := v % 16 }
    match port with
    | some n => if (d.port n).personality = .dsp then d.setPci n { d.pci n with targetRate := v % 16 } else d
    | none => d
  | .slotControl => writeSlotControl key port v d
  | .slotStatus => writeSlotStatus key port v d
  | .linkStatus => d.setBridge key { b with bandwidthNotice := b.bandwidthNotice && !bitOf v 14 }
  | .dpcControl => writeDpcControl key port v d
  | .dpcCompletion => d.setBridge key { b with dpcControl := b.dpcControl - (if bitOf b.dpcControl 2 then 4 else 0) + 4 * (v % 2) }
  | .dpcStatus =>
    match port with
    | some n => if bitOf v 0 ∧ (d.port n).personality = .dsp then endDpc n d else d
    | none => d
  | .ptmControl =>
    match port with
    | some n => if (d.port n).personality = .usp then d.setPci n { d.pci n with ptmEnable := bitOf v 0 } else d
    | none => d
  | .l1ssControl =>
    match port with
    | some n => d.setPci n { d.pci n with l1ss := decide (v % 16 ≠ 0) }
    | none => d.setBridge key { b with raw := tinsert (rawKey f) v b.raw }
  | .aerStatus => d.setBridge key { b with aerUncor := BitVec.toNat (BitVec.ofNat 32 b.aerUncor &&& ~~~ (BitVec.ofNat 32 v)) }
  | .aerMask => d.setBridge key { b with aerMask := v % 2 ^ 32 }
  | .vendorId => d
  | .deviceId => d
  | .revisionId => d
  | .capability _ => d
  | .pcieType => d
  | .deviceCapabilities => d
  | .deviceCapabilities2 => d
  | .deviceCapabilities3 => d
  | .linkCapabilities => d
  | .acsCapability => d
  | .dpcCapability => d
  | .ptmCapability => d
  | .sriovCapabilities => d
  | .sriovPageSizes => d
  | .slotCapabilities => d
  | .other o => if o = 0x2B8 then d else d.setBridge key { b with raw := tinsert o v b.raw }
  | _ => d.setBridge key { b with raw := tinsert (rawKey f) v b.raw }

/-- A BAR keeps the address bits above its size. -/
def barBase (size v : Nat) : Nat := v % 2 ^ 64 / size * size

/-- Sizes of the BARs of a function (Table 13.2). -/
def queueBarSize (fn : Fn) : Nat := if fn = .mgr then 0x4000000 else 0x2000000

/-- VF Enable and VF Memory Space Enable of an RMA PF. -/
def writeSriov (p : Nat) (v : Nat) (d : Device) : Device :=
  let d := d.setFunc (.pf p) { d.func (.pf p) with vfEnable := bitOf v 0 }
  (vfsOf p d).foldl (fun d w => d.setFunc (.vf w) { d.func (.vf w) with mse := bitOf v 3 }) d

/-- Write a field of a function of the S96 (R360–R362, R364, R365, R370, R371). -/
def funcWrite (fn : Fn) (f : CfgField) (v : Nat) (d : Device) : Device :=
  let x := d.func fn
  let pf := decide (fn ≠ .mgr) && decide (fnKey fn < 64)
  let vf := decide (64 ≤ fnKey fn)
  let vec := fun (n : Nat) (g : MsixVec → MsixVec) =>
    if n < vectorCount fn then
      { d with msix := tmod msixReset d.msix (fnKey fn * 2048 + n) g }
    else d
  match f with
  | .command => d.setFunc fn { x with mse := if vf then x.mse else bitOf v 1, bme := bitOf v 2 }
  | .powerState => if vf then d else if v = 3 then d.setFunc fn { x with d3hot := true } else if v = 0 then
    d.setFunc fn { x with d3hot := false } else d
  | .bar 0 =>
    if vf then d
    else if fn = .mgr then d.setFunc fn { x with queueBar := barBase (queueBarSize fn) v }
    else d.setFunc fn { x with mailboxBar := barBase 0x4000 v }
  | .bar 1 =>
    if vf then d
    else if fn = .mgr then d.setFunc fn { x with mailboxBar := barBase 0x4000 v }
    else d.setFunc fn { x with queueBar := barBase (queueBarSize fn) v }
  | .bar 2 => if vf then d else d.setFunc fn { x with windowBar := barBase 0x1000000000 v }
  | .atsControl =>
    if fn = .mgr then d
    else if bitOf v 15 then d.setFunc fn { x with atsEnable := true }
    else if x.atsEnable then atsOff fn d else d
  | .sriovControl => if pf then writeSriov (fnKey fn) v d else d
  | .sriovNumVfs => if pf ∧ x.vfEnable = false then d.setFunc fn { x with numVfs := min v (vfsOf (fnKey fn) d).length } else d
  | .sriovVfBar 0 => if pf then d.setFunc fn { x with vfMailboxBar := barBase 0x4000 v } else d
  | .sriovVfBar 1 => if pf then d.setFunc fn { x with vfQueueBar := barBase 0x200000 v } else d
  | .devControlFlr => if bitOf v 0 then startFlr fn d else d
  | .completionTimeout => d.setFunc fn { x with cplTimeoutNs := v }
  | .aerStatus => d.setFunc fn { x with aerUncor := BitVec.toNat (BitVec.ofNat 32 x.aerUncor &&& ~~~ (BitVec.ofNat 32 v)) }
  | .aerMask => d.setFunc fn { x with aerUncorMask := v % 2 ^ 32 }
  | .aerSeverity => if vf then d else d.setFunc fn { x with aerSeverity := v % 2 ^ 32 }
  | .aerCorStatus => d.setFunc fn { x with aerCor := BitVec.toNat (BitVec.ofNat 32 x.aerCor &&& ~~~ (BitVec.ofNat 32 v)) }
  | .aerCorMask => d.setFunc fn { x with aerCorMask := v % 2 ^ 32 }
  | .deviceControl => d.setFunc fn { x with devControl := v % 16, raw := tinsert (rawKey f) v x.raw }
  | .msixAddr n => vec n fun e => { e with addr := v % 2 ^ 64 }
  | .msixData n => vec n fun e => { e with data := BitVec.ofNat 32 v }
  | .msixControl n => if bitOf v 0 then vec n fun e => { e with masked := true } else unmaskVector fn n d
  | .vendorId => d
  | .deviceId => d
  | .revisionId => d
  | .headerType => d
  | .interruptPin => d
  | .serialNumber => d
  | .atsCapability => d
  | .capability _ => d
  | .pcieType => d
  | .deviceCapabilities => d
  | .deviceCapabilities2 => d
  | .deviceCapabilities3 => d
  | .linkCapabilities => d
  | .acsCapability => d
  | .dpcCapability => d
  | .ptmCapability => d
  | .sriovCapabilities => d
  | .sriovPageSizes => d
  | .sriovTotalVfs => d
  | .sriovVfBarType _ => d
  | .sriovOffset => d
  | .sriovStride => d
  | .sriovVfDevice => d
  | .sriovVfBar _ => d
  | .bar _ => d
  | .other o => if o = 0x2B8 ∨ o = 0x2BC then d else d.setFunc fn { x with raw := tinsert o v x.raw }
  | _ => d.setFunc fn { x with raw := tinsert (rawKey f) v x.raw }

/-- SR-IOV settings of a PF below a DSP, as a write that reaches it leaves them; a write of a read-only field stands for what
the S96 reads there (R98, R99). -/
def learnSriov (f : CfgField) (v : Nat) (x : Sriov) : Sriov :=
  let bar := fun (j : Nat) (g : Nat × Nat → Nat × Nat) =>
    (List.range 6).map fun i => if i = j then g (x.vfBars.getD i (0, 0)) else x.vfBars.getD i (0, 0)
  match f with
  | .sriovControl => { x with vfEnable := bitOf v 0, vfMse := bitOf v 3, ariCapable := bitOf v 4 }
  | .sriovNumVfs => { x with numVfs := v }
  | .sriovVfBar j => { x with vfBars := bar j fun b => (v, b.2) }
  | .sriovVfBarSize j => { x with vfBars := bar j fun b => (b.1, v) }
  | .sriovVfBarType j => { x with vfTypes := (List.range 6).map fun i => if i = j then v % 16 else x.vfTypes.getD i 0 }
  | .sriovOffset => { x with firstOffset := v }
  | .sriovStride => { x with stride := v }
  | .sriovVfDevice => { x with vfDevice := v }
  | .vendorId => { x with vendor := v }
  | _ => x

/-- A write that R102 does not let through while VFs of the PF are steered out. -/
def protectedWrite (n rid : Nat) (f : CfgField) (v : Nat) (d : Device) : Bool :=
  let x := d.sriovOf n rid
  d.steers.any (fun e => decide (e.2.port = n) && decide (e.2.pfRid = rid)) &&
    (match f with
     | .sriovControl => decide (learnSriov f v x ≠ x)
     | .sriovNumVfs => decide (learnSriov f v x ≠ x)
     | .sriovVfBar _ => decide (learnSriov f v x ≠ x)
     | .devControlFlr => bitOf v 0
     | _ => false)

/-- A configuration write to a function below a DSP. -/
def endpointWrite (p n rid : Nat) (f : CfgField) (v : Nat) (d : Device) : Device :=
  if (d.port n).personality ≠ .dsp ∨ (d.port n).holder ≠ p then cfgReply p .ur 0 d
  else if linkUp n d = false then cfgReply p .ur 0 d
  else if d.fenced p then cfgReply p .crs 0 d
  else if protectedWrite n rid f v d then cfgReply p .ca 0 (countBlocked p d)
  else
    let x := d.sriovOf n rid
    emit (.config n rid f (some v)) { d with sriov := tset sriovNone d.sriov (sriovKey n rid) (learnSriov f v x) }

/-- VBRIDGE_CONFIG_WRITE (R85, R89, R102). The upstream device captures the bus number of each Type 0 write that it claims. -/
def cfgWrite (p bus : Nat) (t : CfgTarget) (f : CfgField) (v : Nat) (d : Device) : Device :=
  let capture := fun (d : Device) => d.setPart p { d.part p with capturedBus := bus % 256 }
  let function := fun (fn : Fn) (d : Device) =>
    if (d.func fn).flr ≠ .idle then cfgReply p .crs 0 d else cfgReply p .sc 0 (funcWrite fn f v d)
  match t with
  | .upstream => if bridgeExists p 100 d then cfgReply p .sc 0 (bridgeWrite p 100 f v (capture d)) else cfgReply p .ur 0 d
  | .function1 => if bridgeExists p 100 d then function (function1 p) (capture d) else cfgReply p .ur 0 d
  | .vf w => if vfAnswers p w d then function (.vf w) d else cfgReply p .ur 0 d
  | .intermediate n => if intermediateExists p n d then cfgReply p .sc 0 (bridgeWrite p (96 + n) f v d) else cfgReply p .ur 0 d
  | .downstream k =>
    if k ≠ 100 ∧ bridgeExists p k d = true then cfgReply p .sc 0 (bridgeWrite p k f v d) else cfgReply p .ur 0 d
  | .endpoint n rid => endpointWrite p n rid f v d

def execVbridgeConfigWrite (part : Nat) (bus : Nat) (target : CfgTarget) (field : CfgField) (value : Nat) (s : State) :
    Host.Outcome State Fault Refusal :=
  done s (cfgWrite part bus target field value s.dev)

/-- An emulated field of a steered VF (Table 4.4): its value, none where the access passes through. A BAR that the PF lacks
reads 0. -/
def steeredField (x : Steer) (f : CfgField) (d : Device) : Option Nat :=
  let pf := pfOf x d
  match f with
  | .vendorId => some pf.vendor
  | .deviceId => some pf.vfDevice
  | .headerType => some 0
  | .interruptPin => some 0
  | .command => some (2 * natOfBool x.mse + 4 * natOfBool x.bme)
  | .bar j => if j < 6 then some (if (realBar x j d).2 = 0 then 0 else x.bars.getD j 0 + pf.vfTypes.getD j 0) else none
  | _ => none

/-- A write of an emulated field: identities are read-only. -/
def steeredWrite (x : Steer) (f : CfgField) (v : Nat) (d : Device) : Steer :=
  match f with
  | .command => { x with mse := bitOf v 1, bme := bitOf v 2 }
  | .bar j =>
    let size := (realBar x j d).2
    { x with bars := (List.range 6).map fun i => if i = j then (if size = 0 then 0 else barBase size v) else x.bars.getD i 0 }
  | _ => x

/-- An access to a steered VF: retried under a fence and after an FLR, answered here where its field is emulated, else sent
to the real VF. `put` keeps the entry, `send` is the way to the VF. -/
def accessVf (p : Nat) (x : Steer) (f : CfgField) (w : Option Nat) (put : Steer → Device → Device) (send : Device → Device)
    (d : Device) : Device :=
  if d.fenced p ∨ x.fenced ∨ d.now < x.retryUntil then cfgReply p .crs 0 d
  else match steeredField x f d with
    | some v =>
      match w with
      | none => cfgReply p .sc v d
      | some n => cfgReply p .sc 0 (put (steeredWrite x f n d) d)
    | none => send d

/-- STEERED_VF_CONFIG_ACCESS (R92, R98, R114, Table 4.3): a VF of this device, or one of another device whose steering bridge
lies in a hierarchy that this device emulates. -/
def steeredAccess (p k func : Nat) (f : CfgField) (w : Option Nat) (d : Device) : Device :=
  let named := fun (x : Steer) => decide (x.part = p) && decide (x.bridge = k) && decide (x.func = func)
  match d.steers.find? fun e => named e.2 with
  | some (e, x) =>
    if entryLost (.steer e) d then cfgReply p .ur 0 d
    else accessVf p x f w (fun y d => d.setSteer e y)
      (fun d => if linkUp x.port d then emit (.config x.port x.realRid f w) d else cfgReply p .ur 0 d) d
  | none =>
    match d.homeSteers.find? fun e => named e.2 with
    | some (fid, x) =>
      accessVf p x f w (fun y d => { d with homeSteers := d.homeSteers.map fun e => if e = (fid, x) then (fid, y) else e })
        (fun d => if hasLivePath fid d then emit (.configAway fid p x.port x.realRid f w) d else cfgReply p .ur 0 d) d
    | none => cfgReply p .ur 0 d

def execSteeredVfConfigAccess (part : Nat) (bridge : Nat) (func : Nat) (field : CfgField) (write : Option Nat) (s : State) :
    Host.Outcome State Fault Refusal :=
  done s (steeredAccess part bridge func field write s.dev)

end Sys2Proof.Machine
end

