-- ==== Sys2Proof/Machine/Fabric.lean ====
section
/-! DEFINITION. Machine/Fabric.lean: fabric mode (chapter 8): adverts, reachability, routes and paths, lost devices, journals'
setting, fabric time. -/

namespace Sys2Proof.Machine

/-- PFL ports, and those in ACTIVE. -/
def pflPorts (d : Device) : List Nat := (d.ports.filter fun e => decide (e.2.personality = .pfl)).map (·.1)
def activePfl (d : Device) : List Nat := (pflPorts d).filter fun n => decide ((d.pfl n).state = .active)

/-- R215: an advert less than 300 µs old is held, and a live route exists. -/
def isReachable (fid : Nat) (d : Device) : Bool :=
  hasLivePath fid d && d.fab.adverts.any fun a => decide (a.adv.fid = fid) && decide (d.now < a.heldAt + 300 * usNs)

/-- Posted items of a partition sent toward a FID in the last 1 ms (R233). -/
def postedToward (fid p : Nat) (d : Device) : Nat :=
  (d.fab.sentPosted.filter fun e => decide (e.1 = fid) && decide (e.2.1 = p) && decide (d.now < e.2.2 + msNs)).length

/-- One DEVICE_LOST entry of a partition (R233). A partition that has no journal, and sent nothing, has nothing to report. -/
def lostEntry (fid : Nat) (d : Device) (p : Nat) : Device :=
  let n := postedToward fid p d
  if (d.journal p).entries = 0 ∧ n = 0 then d
  else
    journalWrite p 255 { address := 0, reqId := 0, tag := 0, length := n, reason := 8, count := true, srcFid := d.glb.fid, port := 0x7F,
                         lossFid := fid, lossPort := 0x7F } d

/-- A FID has stopped being reachable (R231, R233). (DEDUCED, log entry 34) -/
def deviceLost (fid : Nat) (d : Device) : Device :=
  let d := (d.tracks.filter fun t => decide (t.fid = some fid) && !t.answered).foldl (fun d t =>
    if d.tracks.any (fun x => decide (x.id = t.id) && !x.answered) then synthTrack fid 0x7F t d else d) d
  ((d.parts.filter fun e => decide (e.2.state ≠ .free)).map (·.1)).foldl (lostEntry fid) d

/-- Bring FAB_REACH up to date for a FID. -/
def checkReach (fid : Nat) (d : Device) : Device :=
  let bit := BitVec.ofNat 32 (2 ^ fid)
  let was := d.fab.reach.getLsbD fid
  let is := isReachable fid d
  if was = is then d
  else if is then fabRaise 2 { d with fab := { d.fab with reach := d.fab.reach ||| bit } }
  else deviceLost fid (fabRaise 1 { d with fab := { d.fab with reach := d.fab.reach &&& ~~~ bit } })

/-- FIDs within k links of a FID, by the links that adverts report ACTIVE or in RETRAIN. -/
def liveLinks (a : Advert) : List Nat := (a.links.filter fun l => decide (l.2.2.2 = 4) || decide (l.2.2.2 = 5)).map (·.2.1)
def withinLinks (root : Nat) (advs : List Advert) : Nat → List Nat
  | 0 => [root]
  | k + 1 =>
    let near := withinLinks root advs k
    near ++ (advs.filter fun a => !near.contains a.fid && (liveLinks a).any fun f => near.contains f).map (·.fid)

/-- Links from a FID to the root, at most 4. -/
def linksTo (root fid : Nat) (advs : List Advert) : Option Nat :=
  (List.range 5).find? fun k => (withinLinks root advs k).contains fid

/-- Adverts that count: younger than 300 µs. -/
def freshAdverts (d : Device) : List Advert :=
  (d.fab.adverts.filter fun a => decide (d.now < a.heldAt + 300 * usNs)).map (·.adv)

/-- The lower of two (PRIORITY, FID). -/
def lowerOf (a b : Nat × Nat) : Nat × Nat := if b.1 < a.1 ∨ (b.1 = a.1 ∧ b.2 < a.2) then b else a

/-- The domain time master (R240): this device and the reachable ones compete. -/
def chooseMaster (d : Device) : Option Nat :=
  let own := if d.fab.priority < 255 then [(d.fab.priority, d.glb.fid)] else []
  let others := ((freshAdverts d).filter fun a => decide (a.priority < 255) && d.fab.reach.getLsbD a.fid).map fun a => (a.priority, a.fid)
  match own ++ others with
  | [] => none
  | c :: cs => some (cs.foldl lowerOf c).2

/-- The parent (R240): a neighbour on a shortest path to the master, ties to the lower (FID, port); with the hops to the
master. -/
def chooseParent (master : Nat) (d : Device) : Option (Nat × Nat) :=
  let advs := freshAdverts d
  let cs := (pflPorts d).filterMap fun n =>
    if pflLive n d then (linksTo master (d.pfl n).partnerFid advs).map fun k => (k, (d.pfl n).partnerFid, n) else none
  match cs with
  | [] => none
  | c :: rest =>
    let best := rest.foldl (fun a b =>
      if b.1 < a.1 ∨ (b.1 = a.1 ∧ (b.2.1 < a.2.1 ∨ (b.2.1 = a.2.1 ∧ b.2.2 < a.2.2))) then b else a) c
    some (best.2.2, best.1 + 1)

/-- TIME_LOCKED changes; its fall sets LOCK_LOST (R242). -/
def setLocked (on : Bool) (d : Device) : Device :=
  let was := d.fab.timeLocked
  let d := { d with fab := { d.fab with timeLocked := on } }
  if was && !on then fabRaise 0x40 d else d

/-- Choose the master and the parent again (R240, R243): the master keeps its own time and always reports LOCKED; a device
that has lost its parent is in holdover. (DEDUCED, log entry 34) -/
def electMaster (d : Device) : Device :=
  let f := d.fab
  let without := fun (f : Fab) =>
    let had := decide (f.parentPort ≠ 0x7F)
    { f with parentPort := 0x7F, hops := 0, holdover := f.holdover || had, holdoverAt := if had then d.now else f.holdoverAt,
             parentLost := f.parentLost || had, goodOffsets := 0, badOffsets := 0, parentLocked := false }
  match chooseMaster d with
  | none => { d with fab := { without f with masterValid := false, masterFid := 0 } }
  | some m =>
    if m = d.glb.fid then
      setLocked true { d with fab := { f with masterValid := true, masterFid := m, parentPort := 0x7F, hops := 0, holdover := false,
                                              parentLost := false, slew := 0, parentLocked := false } }
    else match chooseParent m d with
      | none => { d with fab := { without f with masterValid := true, masterFid := m } }
      | some (n, hops) =>
        let same := decide (f.parentPort = n)
        { d with fab := { f with masterValid := true, masterFid := m, parentPort := n, hops := hops, holdover := false, parentLost := false,
                                 goodOffsets := if same then f.goodOffsets else 0, badOffsets := if same then f.badOffsets else 0,
                                 parentLocked := same && f.parentLocked } }

/-- An advert's data (R216). -/
def advertBytes (a : Advert) : List Byte :=
  natLe 1 a.fid ++ natLe 1 a.priority ++ natLe 2 a.seq ++ natLe 8 a.serial.toNat ++ natLe 1 a.links.length ++ natLe 3 0 ++
    (a.links.map fun l => natLe 1 l.1 ++ natLe 1 l.2.1 ++ natLe 1 l.2.2.1 ++ natLe 1 l.2.2.2).flatten

/-- This device's advert. -/
def ownAdvert (d : Device) : Advert :=
  { fid := d.glb.fid, priority := d.fab.priority, seq := d.fab.advSeq, serial := d.glb.serial, hops := 1,
    links := (pflPorts d).map fun n => (n, (d.pfl n).partnerFid, (d.pfl n).partnerPort, pflCode (d.pfl n).state) }

/-- TOPO_SEND (R215): every 100 µs, and after a change of a link state. -/
def topoSend (d : Device) : Device :=
  if d.fab.advDue ∨ d.fab.advSentAt + 100 * usNs ≤ d.now then
    let d := { d with fab := { d.fab with advSeq := wrapAdd 16 d.fab.advSeq 1, advSentAt := d.now, advDue := false } }
    electMaster ((activePfl d).foldl (fun d n =>
      sendControl n .topo 0 (d.pfl n).partnerFid d.glb.fid 0 (advertBytes (ownAdvert d)) d) d)
  else d

def execTopoSend (s : State) : Host.Outcome State Fault Refusal := done s (topoSend s.dev)

/-- A PFL port is held in CONFLICT with CAUSE_C 1 (R217). -/
def holdConflict (d : Device) (n : Nat) : Device :=
  let x := d.pfl n
  if x.state = .disabled then d
  else if x.state = .conflict then d.setPfl n { x with causeC := 1, dupHeld := true }
  else
    let d := lossItems n d
    let x := d.pfl n
    d.setPfl n { pflCleared x with state := .conflict, causeC := 1, dupHeld := true, enteredAt := d.now, intStatus := x.intStatus ||| 8 }

/-- A duplicate FID is seen (R217). -/
def markDup (fid : Nat) (d : Device) : Device :=
  fabRaise 8 { d with fab := { d.fab with dup := d.fab.dup ||| BitVec.ofNat 32 (2 ^ fid) } }

/-- ADV_SEQ is newer, as a wrapping count of 16 bits. -/
def newerSeq (old new : Nat) : Bool := decide (0 < (new + 65536 - old) % 65536) && decide ((new + 65536 - old) % 65536 < 32768)

/-- Hold an advert, forward it on the other PFL ports while its HOPS is below 4, and bring what follows from it up to date. -/
def holdAdvert (n : Nat) (a : Advert) (d : Device) : Device :=
  let rest := d.fab.adverts.filter fun h => decide (h.adv.fid ≠ a.fid)
  let d := { d with fab := { d.fab with adverts := rest ++ [{ adv := a, port := n, heldAt := d.now }] } }
  let d := if 4 ≤ a.hops then d
    else ((activePfl d).filter (· ≠ n)).foldl (fun d m =>
      sendControl m .topo 0 (d.pfl m).partnerFid a.fid a.hops (advertBytes a) d) d
  electMaster (checkReach a.fid d)

/-- TOPO (R215, R217). -/
def topoArrives (n : Nat) (a : Advert) (d : Device) : Device :=
  if pflLive n d = false ∨ 32 ≤ a.fid then d
  else if a.fid = d.glb.fid then
    if a.serial = d.glb.serial then d
    else
      let d := markDup a.fid d
      if a.serial < d.glb.serial then
        electMaster { (pflPorts d).foldl holdConflict d with fab := { ((pflPorts d).foldl holdConflict d).fab with advDue := true } }
      else d
  else match d.fab.adverts.find? fun h => decide (h.adv.fid = a.fid) with
    | none => holdAdvert n a d
    | some h =>
      if h.adv.serial = a.serial then (if newerSeq h.adv.seq a.seq then holdAdvert n a d else d)
      else
        let d := markDup a.fid d
        if a.serial < h.adv.serial then holdAdvert n a d else d

def execTopo (port : Nat) (advert : Advert) (s : State) : Host.Outcome State Fault Refusal := done s (topoArrives port advert s.dev)

/-- ADVERT_EXPIRY (R215): 300 µs without a newer advert. -/
def execAdvertExpiry (fid : Nat) (s : State) : Host.Outcome State Fault Refusal :=
  let d := s.dev
  let old := fun (h : HeldAdvert) => decide (h.adv.fid = fid) && decide (h.heldAt + 300 * usNs ≤ d.now)
  done s (if fid < 32 ∧ d.fab.adverts.any old = true then
      electMaster (checkReach fid { d with fab := { d.fab with adverts := d.fab.adverts.filter fun h => !old h } })
    else d)

/-- FID_UNREACHABLE (R231, R233). -/
def execFidUnreachable (fid : Nat) (s : State) : Host.Outcome State Fault Refusal :=
  done s (if fid < 32 then electMaster (checkReach fid s.dev) else s.dev)

/-- What follows a change of a route's live paths (R215, R222, R224). (DEDUCED, log entry 34) -/
def pathsChanged (fid : Nat) (d : Device) : Device := electMaster (checkReach fid (announce fid d))

/-- ROUTE (R224): UNREACH withdraws the paths that use the port, REACH restores them. -/
def routeItem (n fid : Nat) (reach : Bool) (d : Device) : Device :=
  if pflLive n d = false ∨ 32 ≤ fid ∨ fid = d.glb.fid then d
  else
    let r := d.route fid
    let ps := r.paths.map fun x => if x.port = n then { x with withdrawn := !reach } else x
    pathsChanged fid (d.setRoute fid { r with paths := ps })

def execRoute (port : Nat) (fid : Nat) (reach : Bool) (s : State) : Host.Outcome State Fault Refusal :=
  done s (routeItem port fid reach s.dev)

/-- PATH_DEATH (R222). -/
def execPathDeath (fid : Nat) (path : Nat) (s : State) : Host.Outcome State Fault Refusal :=
  let d := s.dev
  done s (match (d.route fid).paths[path]? with
    | some x => if fid < 32 ∧ pathLive x d = false then pathsChanged fid d else d
    | none => d)

/-- ROUTE_GUARD_EXPIRY (R222): a moved bucket may send; one that has been silent takes the path of the deal. -/
def guardExpiry (fid b : Nat) (d : Device) : Device :=
  let r := d.route fid
  match r.buckets.find? fun e => decide (e.1 = b) with
  | none => d
  | some (_, x) =>
    if d.now < x.guardUntil then d
    else
      let x := { x with guardUntil := 0 }
      let x := if x.lastSent + d.fab.guardUs * usNs ≤ d.now then { x with path := (dealtPath r b d).getD x.path } else x
      d.setRoute fid { r with buckets := tinsert b x r.buckets }

def execRouteGuardExpiry (fid : Nat) (bucket : Nat) (s : State) : Host.Outcome State Fault Refusal :=
  done s (guardExpiry fid bucket s.dev)

/-- Cells queued in the output buffer toward a path's port on VL0–VL2 (R223). -/
def pathLoad (n : Nat) (d : Device) : Nat :=
  ((d.items.filter fun i => decide (i.egress = n) && decide (i.stage ≠ .replay) && decide (itemVl i.tlp i.queue d ≠ 3)).map
    fun i => i.poolCells + i.rsvCells).foldl (· + ·) 0

/-- PATH_LOAD_SAMPLE (R223), every 1 µs. (DESIGN CHOICE, log entry 72) -/
def pathLoadSample (d : Device) : Device :=
  if isDue .pathLoad usNs d then
    ranNow .pathLoad { d with fab := { d.fab with routes := d.fab.routes.map fun e =>
      (e.1, { e.2 with sampled := min 1000 (e.2.sampled + 1),
                       paths := e.2.paths.map fun x => { x with samples := (pathLoad x.port d :: x.samples).take 1000 } }) } }
  else d

def execPathLoadSample (s : State) : Host.Outcome State Fault Refusal := done s (pathLoadSample s.dev)

/-- FAB_R_PORTS and FAB_R_STATE (Table 8.9). -/
def routePortsWord (fid : Nat) (d : Device) : Nat :=
  (List.range 4).foldl (fun a k => match (d.route fid).paths[k]? with
    | some x => a + (x.port + 128) * 256 ^ k
    | none => a) 0
def routeStateWord (fid : Nat) (d : Device) : Nat :=
  let r := d.route fid
  let each := fun (f : FabPath → Nat) (base : Nat) => (List.range 4).foldl (fun a k => match r.paths[k]? with
    | some x => a + f x * base ^ k
    | none => a) 0
  each (fun x => natOfBool (pathLive x d)) 2 + 16 * natOfBool r.adapt + 32 * natOfBool (d.fab.reach.getLsbD fid) +
    64 * natOfBool (decide (1000 ≤ r.sampled)) + 256 * each (fun x => effWeight r x d) 16

/-- The paths that FAB_ROUTE_SET asks for: port and weight. -/
def pathsAsked (p : List Byte) : List (Nat × Nat) := (List.range (min 4 (u8 p 1))).map fun k => (u8 p (4 + 2 * k), u8 p (5 + 2 * k))

/-- Checks of the paths, in the order of their fields: each port PFL, distinct, weights 0–15. -/
def pathChecks (p : List Byte) (d : Device) : List (Option Ans) :=
  let ps := pathsAsked p
  ((List.range ps.length).map fun k =>
    let n := (ps.getD k (0, 0)).1
    let later := (ps.drop (k + 1)).any fun x => decide (x.1 = n)
    [ failIf (decide (96 ≤ n) || decide ((d.port n).personality ≠ .pfl) || later) (ansBad (4 + 2 * k)),
      failIf (decide (15 < (ps.getD k (0, 0)).2)) (ansBad (5 + 2 * k)) ]).flatten

/-- FAB_ROUTE_SET (R26, R221–R223, R245). A withdrawal in force on a port holds for the new route. (DEDUCED, log entry 34) -/
def fabRouteSet (c : Cmd) (d : Device) : Device × Option Ans :=
  let p := c.params
  let f := c.target.toNat
  let ps := pathsAsked p
  let held := ps.find? fun x => decide ((d.pfl x.1).state = .conflict) && decide ((d.pfl x.1).causeC = 1)
  checked
    ([ failIf (decide (p.length ≠ 16)) (ansLen 16), failIf (decide (32 ≤ f) || decide (f = d.glb.fid)) (ansBad 0xFF08),
       failIf (decide (c.param0 ≠ 0)) (ansBad 0xFF0C), failIf (decide (2 ≤ u8 p 0)) (ansBad 0), failIf (decide (4 < u8 p 1)) (ansBad 1),
       failIf (!zeros p 2 2) (ansBad 2) ] ++ pathChecks p d ++
     [ failIf (!zeros p 12 4) (ansBad 12), failIf held.isSome { status := .fidConflict, detail := (held.getD (0, 0)).1, result := [] } ])
    (fun d =>
      let old := d.route f
      let make := fun (x : Nat × Nat) =>
        { port := x.1, weight := x.2, withdrawn := old.paths.any (fun y => decide (y.port = x.1) && y.withdrawn), samples := [] : FabPath }
      let r : FabRoute := if ps.isEmpty then { routeNone with buckets := old.buckets, deal := old.deal, died := old.died }
        else { adapt := bitOf (u8 p 0) 0, paths := ps.map make, sampled := 0, buckets := old.buckets, deal := old.deal, died := old.died }
      let taken := ps.isEmpty && hasLivePath f d
      let d := pathsChanged f (entryRewritten (.route f) (d.setRoute f r))
      let d := if taken then sendUnreach f d else d
      (d, some (ansOk (natLe 4 (routeStateWord f d))))) d

def execFabRouteSet (c : Cmd) (s : State) : Host.Outcome State Fault Refusal := done s (runPacket 0x0601 (fabRouteSet c) c s.dev)

/-- FAB_TOPOLOGY (R246). -/
def fabTopology (c : Cmd) (d : Device) : Device × Option Ans :=
  let t := c.target.toNat
  let a := d.fab.adverts.find? fun h => decide (h.adv.fid = t)
  checked
    [ failIf (decide (c.params.length ≠ 0)) (ansLen 0), failIf (decide (t ≠ 0xFF) && (decide (32 ≤ t) || a.isNone)) (ansBad 0xFF08),
      failIf (decide (c.param0 ≠ 0)) (ansBad 0xFF0C) ] (fun d =>
    match a with
    | some h => (d, some (ansOk (advertBytes h.adv)))
    | none => (d, some (ansOk (natLe 4 d.fab.reach.toNat ++ natLe 1 d.fab.masterFid ++ natLe 1 d.fab.hops ++ natLe 2 0)))) d

def execFabTopology (c : Cmd) (s : State) : Host.Outcome State Fault Refusal := done s (runPacket 0x0602 (fabTopology c) c s.dev)

/-- ENTRIES of a journal (R235). -/
def journalSize (n : Nat) : Bool := decide (1024 ≤ n) && decide (n ≤ 2097152) && decide (2 ^ n.log2 = n)

/-- Table 8.8: the journal asked for, over the one in force. -/
def journalAsked (p : List Byte) (j : Journal) : Journal :=
  { j with base := u64 p 0, consAddr := u64 p 8, entries := u32 p 16, portLimit := u16 p 20, sharedLimit := u16 p 22, vector := u16 p 24,
           viaMgr := bitOf (u8 p 26) 0 }

/-- A change that restarts the ring (R235). -/
def journalMoves (j k : Journal) : Bool := decide (j.base ≠ k.base) || decide (j.entries ≠ k.entries) || decide (j.viaMgr ≠ k.viaMgr)

/-- The result of FAB_JOURNAL_SET. -/
def journalResult (t : Nat) (d : Device) : List Byte := natLe 2 (journalSources t d) ++ natLe 2 0 ++ natLe 4 (journalHeld t d)

/-- FAB_JOURNAL_SET (R235, R238, R247). -/
def fabJournalSet (c : Cmd) (d : Device) : Device × Option Ans :=
  let p := c.params
  let t := c.target.toNat
  let j := d.journal t
  let k := journalAsked p j
  let v := u16 p 24
  let head := [ failIf (decide (p.length ≠ 32)) (ansLen 32), failIf (decide (48 < t) || decide ((d.part t).state = .free)) (ansBad 0xFF08),
                failIf (decide (c.param0 ≠ 0)) (ansBad 0xFF0C) ]
  if u32 p 16 = 0 then
    checked (head ++
      [ failIf (decide (j.entries ≠ 0) && decide (journalHeld t d ≠ 0)) ansNo,
        failIf (decide (t ≠ 0) && !(portsOf t d).isEmpty) (ansPool 8) ]) (fun d =>
      let d := giveSlots (d.setJournal t { journalNone with lost := j.lost })
      (d, some (ansOk (journalResult t d)))) d
  else
    checked (head ++
      [ failIf (decide (u64 p 0 % 4096 ≠ 0)) (ansBad 0), failIf (decide (u64 p 8 % 4 ≠ 0)) (ansBad 8),
        failIf (!journalSize (u32 p 16)) (ansBad 16), failIf (decide (u16 p 20 = 0) || decide (1024 < u16 p 20)) (ansBad 20),
        failIf (decide (32768 < u16 p 22)) (ansBad 22),
        failIf (decide (v ≠ 0xFFFF) && decide (vectorCount (if bitOf (u8 p 26) 0 then .mgr else function1 t) ≤ v)) (ansBad 24),
        failIf (decide (2 ≤ u8 p 26)) (ansBad 26), failIf (!zeros p 27 5) (ansBad 27),
        failIf (decide (j.entries ≠ 0) && journalMoves j k && decide (journalHeld t d ≠ 0)) ansNo,
        failIf (!journalFits k (journalSources t d)) (ansPool 8) ]) (fun d =>
      let k := if journalMoves j k then { k with index := 0, prod := 0, cons := 0, owed := [] } else k
      let d := giveSlots (d.setJournal t k)
      (d, some (ansOk (journalResult t d)))) d

def execFabJournalSet (c : Cmd) (s : State) : Host.Outcome State Fault Refusal := done s (runPacket 0x0603 (fabJournalSet c) c s.dev)

/-- FAB_TIME_STATUS and FAB_TIME_OFS (Table 8.9). -/
def timeStatusWord (d : Device) : Nat :=
  let f := d.fab
  f.masterFid + 32 * natOfBool f.masterValid + 64 * natOfBool (isMaster d) + 128 * natOfBool f.timeLocked + 256 * f.parentPort +
    2 ^ 15 * f.hops + 2 ^ 18 * natOfBool f.holdover
def timeOffsetWord (d : Device) : Nat := twos 32 d.fab.offsetPs

/-- FAB_TIME (R240, R248). -/
def fabTime (c : Cmd) (d : Device) : Device × Option Ans :=
  let p := c.params
  checked
    [ failIf (decide (p.length ≠ 16)) (ansLen 16), headerZero c, failIf (decide (2 < u8 p 0)) (ansBad 0), failIf (!zeros p 2 6) (ansBad 2),
      failIf (decide (u8 p 0 = 2) && !isMaster d) ansNo ] (fun d =>
    let d := if u8 p 0 = 1 then electMaster { d with fab := { d.fab with priority := u8 p 1 } }
      else if u8 p 0 = 2 then { d with devTime := BitVec.ofNat 64 (u64 p 8) } else d
    (d, some (ansOk (natLe 8 d.devTime.toNat ++ natLe 4 (timeStatusWord d) ++ natLe 4 (timeOffsetWord d))))) d

def execFabTime (c : Cmd) (s : State) : Host.Outcome State Fault Refusal := done s (runPacket 0x0604 (fabTime c) c s.dev)

/-- FAB_PARAM_SET (R219, R222, R249). -/
def fabParamSet (c : Cmd) (d : Device) : Device × Option Ans :=
  let p := c.params
  checked
    [ failIf (decide (p.length ≠ 8)) (ansLen 8), headerZero c, failIf (decide (500 < u16 p 0)) (ansBad 0),
      failIf ((List.range 8).any fun q => decide (fieldOf (u16 p 2) (2 * q + 1) (2 * q) = 3)) (ansBad 2),
      failIf (!zeros p 4 4) (ansBad 4) ] (fun d =>
    ({ d with fab := { d.fab with guardUs := u16 p 0, vlMap := u16 p 2 } }, some (ansOk []))) d

def execFabParamSet (c : Cmd) (s : State) : Host.Outcome State Fault Refusal := done s (runPacket 0x0605 (fabParamSet c) c s.dev)

/-- TIME_REQ (R241): every 10 µs to the parent. -/
def timeReq (d : Device) : Device :=
  let n := d.fab.parentPort
  if n ≠ 0x7F ∧ pflLive n d = true ∧ d.fab.reqAt + 10 * usNs ≤ d.now then
    let x := d.pfl n
    let q := wrapAdd 8 x.timeSeq 1
    { d.setPfl n { x with timeSeq := q, ctl := x.ctl ++ [Ctl.timeReq q] } with fab := { d.fab with reqAt := d.now } }
  else d

def execTimeReq (s : State) : Host.Outcome State Fault Refusal := done s (timeReq s.dev)

/-- TIME_REQ_ANSWER (R241): t2 is the time of arrival, t3 that of the flit that carries the answer. -/
def timeReqArrives (port : Nat) (seq : Nat) (d : Device) : Device :=
  let x := d.pfl port
  if pflLive port d then d.setPfl port { x with ctl := x.ctl ++ [Ctl.timeResp seq d.devTime.toNat] } else d

def execTimeReqAnswer (port : Nat) (seq : Nat) (s : State) : Host.Outcome State Fault Refusal := done s (timeReqArrives port seq s.dev)

/-- The lock of R242 after one offset. -/
def lockAfter (ofs : Int) (locked : Bool) (d : Device) : Device :=
  let f := d.fab
  let good := if -1000 ≤ ofs ∧ ofs ≤ 1000 then min 16 (f.goodOffsets + 1) else 0
  let bad := if ofs < -1250 ∨ 1250 < ofs then min 4 (f.badOffsets + 1) else 0
  let d := { d with fab := { f with offsetPs := ofs, goodOffsets := good, badOffsets := bad, parentLocked := locked } }
  if !locked || decide (4 ≤ bad) then setLocked false d
  else if 16 ≤ good then setLocked true d
  else d

/-- TIME_RESP (R241, R242): the offset to the parent, in ps; beyond 1,000 ns the time is stepped, else it is slewed. -/
def timeResp (n seq : Nat) (locked : Bool) (t2 t3 : Nat) (d : Device) : Device :=
  let x := d.pfl n
  if d.fab.parentPort ≠ n ∨ x.timeSeq ≠ seq then d
  else
    let t4 : Int := d.devTime.toNat
    let twice : Int := ((t2 : Int) - x.timeT1) - (t4 - t3)
    let ofs := twice * 500
    let ns := twice.tdiv 2
    let d := lockAfter ofs locked d
    if 2000 < twice.natAbs then
      { d with devTime := BitVec.ofNat 64 ((t4 + ns) % 2 ^ 64).toNat, fab := { d.fab with slew := 0 } }
    else { d with fab := { d.fab with slew := ns } }

def execTimeResp (port : Nat) (seq : Nat) (locked : Bool) (t2 : Nat) (t3 : Nat) (s : State) : Host.Outcome State Fault Refusal :=
  done s (timeResp port seq locked t2 t3 s.dev)

/-- HOLDOVER_EXPIRY (R242). -/
def execHoldoverExpiry (s : State) : Host.Outcome State Fault Refusal :=
  let d := s.dev
  done s (if d.fab.holdover ∧ d.fab.holdoverAt + msNs ≤ d.now then setLocked false d else d)

/-- PARENT_LINK_FAIL (R243). -/
def execParentLinkFail (s : State) : Host.Outcome State Fault Refusal :=
  let d := s.dev
  done s (if d.fab.parentPort ≠ 0x7F ∧ pflLive d.fab.parentPort d = false then electMaster d else d)

/-- The FAB registers by offset in the block (Table 8.9). -/
def fabRead (off : Nat) (d : Device) : Option Nat :=
  let f := d.fab
  if off = 0 then some (d.glb.fid + 256 * f.priority)
  else if off = 4 then some f.reach.toNat
  else if off = 8 then some f.dup.toNat
  else if off = 0x10 then some (d.devTime.toNat % 2 ^ 32)
  else if off = 0x14 then some (tget 0 d.hiLatch 0x800014)
  else if off = 0x18 then some (timeStatusWord d)
  else if off = 0x1C then some (timeOffsetWord d)
  else if off = 0x100 then some f.intStatus.toNat
  else if off = 0x104 then some f.intMask.toNat
  else if off = 0x110 then some f.cntSynth
  else if off = 0x114 then
    some (f.synthInfo.reqId + 2 ^ 16 * f.synthInfo.fid + 2 ^ 21 * f.synthInfo.port + 2 ^ 28 * natOfBool (f.intStatus.getLsbD 2))
  else if off = 0x118 then some f.cntLate
  else if off = 0x11C then some f.cntNoPart
  else if off = 0x120 then some (d.tracks.filter fun t => t.fid.isSome && !t.answered).length
  else if 0x800 ≤ off ∧ off < 0x900 then
    some (if off % 8 = 0 then routePortsWord ((off - 0x800) / 8) d else routeStateWord ((off - 0x800) / 8) d)
  else if 0x1000 ≤ off ∧ off < 0x1620 then
    let p := (off - 0x1000) / 0x20
    let j := d.journal p
    let r := off % 0x20
    if r = 0 then some ((if j.entries = 0 then 0 else j.entries.log2) + 32 * natOfBool j.viaMgr + 65536 * journalSources p d)
    else if r = 4 then some j.prod.toNat
    else if r = 8 then some j.cons.toNat
    else if r = 0xC then some (journalHeld p d)
    else if r = 0x10 then some j.lost
    else none
  else none

end Sys2Proof.Machine
end

