-- ==== Sys2Proof/Machine/KmeEvents.lean ====
section
/-! DEFINITION. Machine/KmeEvents.lean: mailboxes, transports, the arbiter's choices, LONG commands, relays, the lock's ends
(chapter 14, R226). -/

namespace Sys2Proof.Machine

/-! ## SYS_INFO and ARB_SET -/

/-- The result of SYS_INFO (Table 14.10). -/
def infoResult (s : Source) (d : Device) : List Byte :=
  natLe 8 d.glb.serial.toNat ++ natLe 4 d.glb.fwLevel.toNat ++ natLe 2 0x5968 ++ natLe 1 0 ++ natLe 1 d.glb.fid ++
    natLe 2 (sourceNum s) ++ natLe 1 (sourcePart s d) ++
    natLe 1 (natOfBool d.clk.imageB + 2 * natOfBool (d.clk.fallback || d.clk.watchdog)) ++ natLe 4 0 ++ natLe 8 d.devTime.toNat

/-- SYS_INFO (R404). -/
def sysInfo (c : Cmd) (d : Device) : Device × Option Ans :=
  checked [failIf (decide (c.params.length ≠ 0)) (ansLen 0), headerZero c] (fun d => (d, some (ansOk (infoResult c.source d)))) d

def execSysInfo (c : Cmd) (s : State) : Host.Outcome State Fault Refusal := done s (runPacket 0x0101 (sysInfo c) c s.dev)

/-- KME_ARB_CFG (Table 14.13). -/
def arbCfgWord (d : Device) : Nat := d.kme.starveMs + 2 ^ 10 * d.kme.lockGap + 2 ^ 20 * d.kme.lockMaxMs

/-- ARB_SET (R405): a value of 0 keeps the field in force. -/
def arbSet (c : Cmd) (d : Device) : Device × Option Ans :=
  let p := c.params
  let pick := fun (v old : Nat) => if v = 0 then old else v
  checked
    [ failIf (decide (p.length ≠ 8)) (ansLen 8), headerZero c, failIf (decide (1000 < u16 p 0)) (ansBad 0),
      failIf (decide (1000 < u16 p 2)) (ansBad 2), failIf (decide (1000 < u16 p 4)) (ansBad 4), failIf (!zeros p 6 2) (ansBad 6) ]
    (fun d =>
      let k := { d.kme with starveMs := pick (u16 p 0) d.kme.starveMs, lockGap := pick (u16 p 2) d.kme.lockGap,
                            lockMaxMs := pick (u16 p 4) d.kme.lockMaxMs }
      let d := { d with kme := k }
      (d, some (ansOk (natLe 4 (arbCfgWord d))))) d

def execArbSet (c : Cmd) (s : State) : Host.Outcome State Fault Refusal := done s (runPacket 0x0C02 (arbSet c) c s.dev)

/-! ## Packets -/

/-- A packet as read: OPCODE, the command with the parameter bytes delivered, and the LENGTH field (Table 14.1). -/
structure Packet where
  op : Nat
  cmd : Cmd
  length : Nat
deriving DecidableEq, Repr

/-- The transport carries a trailing CRC-32C (R378). -/
def hasCrc (s : Source) : Bool := decide (s.transport = 3) || decide (s.transport = 5)

/-- A packet of header and parameter bytes from a source. -/
def packetOf (s : Source) (bytes : List Byte) : Packet :=
  { op := u16 bytes 0,
    cmd := { source := s, flags := bytes.getD 2 0, seq := bytes.getD 3 0, target := BitVec.ofNat 32 (u32 bytes 8),
             param0 := BitVec.ofNat 32 (u32 bytes 12), params := bytes.drop 16 },
    length := u16 bytes 4 }

/-- The packet of a frame: on SMBus and the adit port without its CRC. -/
def framePacket (s : Source) (frame : List Byte) : Packet :=
  packetOf s (if hasCrc s then frame.take (frame.length - 4) else frame)

/-- Step 1 of R398: the CRC is the last 4 bytes of the frame, over every byte before them. -/
def frameCrcOk (s : Source) (frame : List Byte) : Bool :=
  !hasCrc s || decide (u32 frame (frame.length - 4) = (crc32c (frame.take (frame.length - 4))).toNat)

/-- Too short to hold the header, with the CRC where there is one (step 2 of R398). (DEDUCED, log entry 14) -/
def frameShort (s : Source) (frame : List Byte) : Bool := decide (frame.length < 16 + 4 * natOfBool (hasCrc s))

/-- A discarded frame: counted and flagged by its transport (steps 1 and 2 of R398). -/
def discardFrame (s : Source) (d : Device) : Device :=
  let k := d.kme
  if s.transport = 3 then kmeRaise 4 { d with kme := { k with crcSmbus := satAdd 0xFFFF k.crcSmbus 1 } }
  else if s.transport = 5 then kmeRaise 4 { d with kme := { k with crcAdit := satAdd 0xFFFF k.crcAdit 1 } }
  else kmeRaise 0x20 { d with kme := { k with dropped := satAdd 0xFFFF k.dropped 1 } }

/-- The packet in a mailbox's request area; a LENGTH above 4,072 is refused at step 2 (R398). -/
def mailboxPacket (f : Fn) (d : Device) : Packet :=
  let m := (d.mailbox f).mem
  let len := leNat (memRead m 4 2)
  packetOf (fnSource f) (memRead m 0 (16 + min len 4073))

/-! ## Mailboxes -/

/-- A write of MBX_DOORBELL (R386): CANCEL first, then SUBMIT; both together in SUBMITTED submit again. -/
def doorbell (f : Fn) (submit cancel : Bool) (d : Device) : Device :=
  let m := d.mailbox f
  let waits : Mbx := { m with state := .submitted, submittedAt := d.now, starveMs := d.kme.starveMs, starved := false }
  if !(mailboxes d).contains f then d
  else match m.state with
    | .submitted =>
      if cancel && submit then d.setMailbox f waits
      else if cancel then mbxRaise f 0x01 (d.setMailbox f { m with state := .idle, starved := false })
      else if submit then mbxRaise f 0x08 d
      else d
    | .executing => if submit then mbxRaise f 0x08 d else d
    | _ => if submit then d.setMailbox f waits else d

/-- SUBMIT (R386). -/
def execSubmit (f : Fn) (s : State) : Host.Outcome State Fault Refusal := done s (doorbell f true false s.dev)

/-- CANCEL (R386). -/
def execCancel (f : Fn) (s : State) : Host.Outcome State Fault Refusal := done s (doorbell f false true s.dev)

/-- MBX_NOTICE_CONS (R388). -/
def noticeCons (f : Fn) (v : W32) (d : Device) : Device :=
  if (mailboxes d).contains f then d.setMailbox f { d.mailbox f with cons := v } else d

def execMbxNoticeConsWrite (f : Fn) (v : W32) (s : State) : Host.Outcome State Fault Refusal := done s (noticeCons f v s.dev)

/-! ## The arbiter -/

/-- A command that waits for admission: in a mailbox, or held on a byte-stream transport. -/
structure Waiter where
  packet : Packet
  since : Nat
  starveMs : Nat
  starved : Bool
  held : Option Held
deriving DecidableEq, Repr

/-- Every waiting command. -/
def waiters (d : Device) : List Waiter :=
  ((mailboxes d).filter fun f => decide ((d.mailbox f).state = .submitted)).map (fun f =>
    let m := d.mailbox f
    { packet := mailboxPacket f d, since := m.submittedAt, starveMs := m.starveMs, starved := m.starved, held := none }) ++
  d.kme.held.map fun h =>
    { packet := framePacket h.source h.frame, since := h.since, starveMs := h.starveMs, starved := h.starved, held := some h }

/-- The place of a source in the round robin of its rank, after the source last admitted (R392). -/
def robinPlace (s : Source) (d : Device) : Nat := (sourceNum s + 65536 - tget 0 d.kme.roundRobin (rankOf s)) % 65536

/-- Which of two waiting commands is admitted first (R392): a starved one, of several the one that has waited longest; otherwise
the lowest rank, the round robin, and the earlier of one source. -/
def before (d : Device) (a b : Waiter) : Bool :=
  let sa := a.packet.cmd.source
  let sb := b.packet.cmd.source
  if a.starved ≠ b.starved then a.starved
  else if a.starved then
    decide (a.since < b.since) || (decide (a.since = b.since) && decide (sourceNum sa < sourceNum sb))
  else
    decide (rankOf sa < rankOf sb) || (decide (rankOf sa = rankOf sb) &&
      (decide (robinPlace sa d < robinPlace sb d) || (decide (robinPlace sa d = robinPlace sb d) && decide (a.since < b.since))))

/-- The first of a list in an order. -/
def firstBy {α : Type} (lt : α → α → Bool) : List α → Option α
  | [] => none
  | a :: t => match firstBy lt t with
    | none => some a
    | some b => if lt b a then some b else some a

/-- The command that the arbiter admits now: none while another occupies the KME (R24, R392). -/
def chosen (d : Device) : Option Waiter :=
  firstBy (before d) ((waiters d).filter fun w => mayAdmit w.packet.op w.packet.cmd d)

/-- A discarded command is admitted all the same: counted, and remembered for the round robin. -/
def admitDiscarded (s : Source) (d : Device) : Device :=
  let k := d.kme
  countGlobal 0x100 0x3F 1
    { d with kme := { k with admitted := wrapAdd 32 k.admitted 1,
                             roundRobin := tset 0 k.roundRobin (rankOf s) (sourceNum s + 1) } }

/-- Admit a packet; a segment that its ACT_DISABLE closes is DISABLED from now on (R153). -/
def admitPacket (p : Packet) (d : Device) : Device :=
  let r := admitAndCheck p.op p.cmd d
  if r.2 && decide (p.op = 0x0401) then disableAdmitted p.cmd r.1 else r.1

/-- Admit a frame held on a byte-stream transport: steps 1 and 2 of R398 on the frame, then the other checks. -/
def admitFrame (h : Held) (d : Device) : Device :=
  let p := framePacket h.source h.frame
  let d := { d with kme := { d.kme with held := d.kme.held.erase h } }
  if !frameCrcOk h.source h.frame then discardFrame h.source (admitDiscarded h.source d)
  else if p.length ≠ p.cmd.params.length then
    finish p.op p.cmd (ansLen (min p.cmd.params.length 4072)) (admitCommand p.op p.cmd d)
  else admitPacket p d

/-- Admit the command of a mailbox: its request area is copied and free again (R386). -/
def admitMailbox (p : Packet) (d : Device) : Device :=
  match sourceFn p.cmd.source with
  | none => d
  | some f =>
    let d := mbxRaise f 0x01 (d.setMailbox f { d.mailbox f with state := .executing, starved := false })
    admitPacket p d

/-- COMMAND_ADMISSION (R392, R398). -/
def commandAdmission (d : Device) : Device :=
  match chosen d with
  | none => d
  | some w => match w.held with
    | some h => admitFrame h d
    | none => admitMailbox w.packet d

def execCommandAdmission (s : State) : Host.Outcome State Fault Refusal := done s (commandAdmission s.dev)

/-- A command whose own rule ends it at or before 1 ms (R399): ACT_DISABLE, PORT_BUFFER_SET, a relay. (DEDUCED, log entry 13) -/
def endsByItself (e : Exec) (d : Device) : Bool :=
  e.op == 0x0401 || e.op == 0x0207 || d.fab.relays.any fun r => decide (r.op = e.op) && decide (r.cmd = e.cmd)

/-- LONG_ACCEPTED (R399, R400): unfinished 1 ms after admission, 500 µs when relayed. -/
def longAccepted (d : Device) : Device :=
  match d.kme.execs.find? fun e => !e.accepted && !endsByItself e d &&
      decide (e.since + (if e.cmd.source.transport = 6 then 500 * usNs else msNs) ≤ d.now) with
  | some e => acceptLong e.op e.cmd d
  | none => d

def execLongAccepted (s : State) : Host.Outcome State Fault Refusal := done s (longAccepted s.dev)

/-- STARVATION (R393): the earliest command that has waited STARVE_MS. -/
def starvation (d : Device) : Device :=
  let due := (waiters d).filter fun w => !w.starved && decide (w.since + w.starveMs * msNs ≤ d.now)
  let earlier := fun (a b : Waiter) => decide (a.since < b.since) ||
    (decide (a.since = b.since) && decide (sourceNum a.packet.cmd.source < sourceNum b.packet.cmd.source))
  match firstBy earlier due with
  | none => d
  | some w =>
    let d := match w.held with
      | some h => { d with kme := { d.kme with held := d.kme.held.map fun x => if x = h then { x with starved := true } else x } }
      | none => match sourceFn w.packet.cmd.source with
        | some f => d.setMailbox f { d.mailbox f with starved := true }
        | none => d
    kmeRaise 1 { d with kme := { d.kme with starveCount := satAdd 0xFFFF d.kme.starveCount 1,
                                            lastStarved := sourceNum w.packet.cmd.source } }

def execStarvation (s : State) : Host.Outcome State Fault Refusal := done s (starvation s.dev)

/-- A command of a source executes and has not replied. -/
def executing (s : Source) (d : Device) : Bool := d.kme.execs.any fun e => decide (e.cmd.source = s) && !e.accepted

/-- LOCK_GAP_EXPIRY (R397): the holder has submitted nothing within LOCK_GAP of its last reply. -/
def lockGapExpiry (d : Device) : Device :=
  match d.kme.lock with
  | none => d
  | some l =>
    if executing l.holder d || (waiters d).any (fun w => decide (w.packet.cmd.source = l.holder)) then d
    else if l.lastReply + l.gap100us * 100 * usNs ≤ d.now then expireLock d
    else d

def execLockGapExpiry (s : State) : Host.Outcome State Fault Refusal := done s (lockGapExpiry s.dev)

/-- LOCK_MAX_EXPIRY (R397, R409): while the holder's command executes, the lock ends at its reply. -/
def lockMaxExpiry (d : Device) : Device :=
  match d.kme.lock with
  | none => d
  | some l =>
    if d.now < l.began + l.maxMs * msNs then d
    else if executing l.holder d then
      if l.ending then d
      else kmeRaise 2 { d with kme := { d.kme with lock := some { l with ending := true }, expired := l.holder :: d.kme.expired } }
    else expireLock d

def execLockMaxExpiry (s : State) : Host.Outcome State Fault Refusal := done s (lockMaxExpiry s.dev)

/-- KME_RESTART (R390). (DEDUCED, log entry 16) -/
def execKmeRestart (s : State) : Host.Outcome State Fault Refusal := done s (kmeRestart s.dev)

/-! ## Byte-stream transports -/

/-- How many commands a transport may hold (R383): 4 on SMBus and by relay, 1 on the adit port, 1 per partition by VDM.
(DEDUCED, log entry 14) -/
def holdingFull (s : Source) (d : Device) : Bool :=
  let same := fun (x : Source) => if s.transport = 4 then decide (x = s) else decide (x.transport = s.transport)
  let n := (d.kme.held.filter fun h => same h.source).length + (d.kme.execs.filter fun e => same e.cmd.source && !e.accepted).length
  decide ((if s.transport = 3 ∨ s.transport = 6 then 4 else 1) ≤ n)

/-- The stored record that makes an arriving command a repeat (R384). (DEDUCED, log entry 14) -/
def repeatOf (p : Packet) (d : Device) : Option LastCmd :=
  match d.kme.last.find? (fun e => e.1 = sourceNum p.cmd.source) with
  | none => none
  | some (_, l) =>
    let lately : Bool := match l.finalAt with
      | none => true
      | some t => decide (d.now ≤ t + 1000 * msNs)
    if l.op = p.op ∧ l.seq = p.cmd.seq ∧ lately = true then some l else none

/-- Send stored bytes again. -/
def resend (s : Source) (kind : Nat) (bytes : Option (List Byte)) (d : Device) : Device :=
  match bytes with
  | some b => sendMessage s kind b d
  | none => d

/-- Answer a repeat (R384): with the stored reply, or once the reply exists; of a LONG command also with the stored notice. -/
def answerRepeat (p : Packet) (l : LastCmd) (d : Device) : Device :=
  let s := p.cmd.source
  let d := { d with kme := { d.kme with duplicates := satAdd 0xFFFF d.kme.duplicates 1 } }
  if noReply p.cmd then d
  else match l.reply with
    | none => { d with kme := { d.kme with last := tinsert (sourceNum s) { l with repeats := l.repeats + 1 } d.kme.last } }
    | some _ => resend s 3 l.notice (resend s 2 l.reply d)

/-- A command arrives on transports 3–6 (R383, R384, R396): repeated, dropped, answered BUSY_LOCKED, discarded or held.
(DEDUCED, log entry 14) -/
def frameArrival (s : Source) (frame : List Byte) (d : Device) : Device :=
  let p := framePacket s frame
  let crc := frameCrcOk s frame
  if frameShort s frame then discardFrame s d
  else
    let again : Option LastCmd := if crc then repeatOf p d else none
    match again with
    | some l => answerRepeat p l d
    | none =>
      if holdingFull s d then kmeRaise 0x20 { d with kme := { d.kme with dropped := satAdd 0xFFFF d.kme.dropped 1 } }
      else if !crc && lockedOut s d then discardFrame s d
      else if lockedOut s d then answerLocked p.op p.cmd d
      else
        let h : Held := { source := s, frame := frame, since := d.now, starveMs := d.kme.starveMs, starved := false }
        { d with kme := { d.kme with held := d.kme.held ++ [h] } }

/-- SMBUS_COMMAND_ARRIVAL (R380, R383): the frame is the body after KIND; `inst` the sender's 7-bit address. -/
def execSmbusCommandArrival (inst : Nat) (frame : List Byte) (s : State) : Host.Outcome State Fault Refusal :=
  done s (frameArrival { transport := 3, inst := inst % 128 } frame s.dev)

/-- VDM_COMMAND_ARRIVAL (R382): at the USP of a partition, routed by ID to function 0 or 1 of its upstream device. -/
def execVdmCommandArrival (part : Nat) (frame : List Byte) (s : State) : Host.Outcome State Fault Refusal :=
  done s (if (uspOf part s.dev).isSome then frameArrival { transport := 4, inst := part % 64 } frame s.dev else s.dev)

/-- RELAY_COMMAND_ARRIVAL (R226): transport 6, instance the originating FID. -/
def execRelayCommandArrival (fid : Nat) (frame : List Byte) (s : State) : Host.Outcome State Fault Refusal :=
  done s (frameArrival { transport := 6, inst := fid % 32 } frame s.dev)

/-- An answer of the MCTP control protocol: completion code and data (R380); command codes and layouts are those of the MCTP
base specification. (PRESUMED, log entry 45) -/
def mctpAnswer (cmd : Nat) (eid : Byte) (d : Device) : Device × List Byte :=
  match cmd with
  | 1 => ({ d with kme := { d.kme with eid := eid } }, [0, 0, eid, 0])
  | 2 => (d, [0, d.kme.eid, 0, 0])
  | 4 =>
    let v := d.fresh (2 ^ 32)
    (v.2, [0, 1] ++ natLe 4 v.1)
  | 5 => (d, [0, 3, 0x00, 0x01, 0x7E])
  | 6 => (d, [0, 0xFF, 0] ++ [BitVec.ofNat 8 (Config.vendorId / 256), BitVec.ofNat 8 Config.vendorId] ++ [0, 0])
  | _ => (d, [5])

/-- MCTP_CONTROL_MESSAGE (R380). -/
def execMctpControlMessage (dest : Source) (cmd : Nat) (eid : Byte) (s : State) : Host.Outcome State Fault Refusal :=
  let r := mctpAnswer cmd eid s.dev
  done s (emit (.message dest 4 (BitVec.ofNat 8 cmd :: r.2)) r.1)

/-- SMBUS_REPLY_RETRY (R381): the write of a reply was acknowledged, or it is tried again twice at 1 ms intervals and
dropped. -/
def smbusReplyRetry (inst : Nat) (acked : Bool) (d : Device) : Device :=
  match d.kme.smbReplies.find? (fun e => e.1 = inst) with
  | none => d
  | some (_, r) =>
    if acked then { d with kme := { d.kme with smbReplies := terase inst d.kme.smbReplies } }
    else if d.now < r.sentAt + msNs then d
    else if r.tries < 2 then
      let s : Source := { transport := 3, inst := inst }
      let d := emit (.message s 2 r.bytes) d
      { d with kme := { d.kme with smbReplies := tinsert inst { r with tries := r.tries + 1, sentAt := d.now } d.kme.smbReplies } }
    else
      kmeRaise 0x10 { d with kme := { d.kme with smbReplies := terase inst d.kme.smbReplies,
                                                 undelivered := satAdd 0xFFFF d.kme.undelivered 1 } }

def execSmbusReplyRetry (inst : Nat) (acked : Bool) (s : State) : Host.Outcome State Fault Refusal :=
  done s (smbusReplyRetry inst acked s.dev)

/-- SMBUS_BUS_TIMEOUT (R547): the S96 releases the bus and its interface drops what it was transferring. A message half
received is not a command yet (R383), and a reply half written is one not acknowledged, due again 1 ms after its write
(R381): nothing else that the S96 holds belongs to the interface. -/
def smbusBusTimeout (d : Device) : Device := d

def execSmbusBusTimeout (s : State) : Host.Outcome State Fault Refusal := done s (smbusBusTimeout s.dev)

/-- ALERT_RESPONSE (R381): the S96 answers the Alert Response Address with its own address and releases ALERT_N. -/
def alertResponse (d : Device) : Device :=
  if d.glb.alertLow then
    let d := emit (.message { transport := 3, inst := 0x0C } 4 [BitVec.ofNat 8 (2 * (0x5A + d.glb.smbAddrStrap))]) d
    { d with glb := { d.glb with alertLow := false } }
  else d

def execAlertResponse (s : State) : Host.Outcome State Fault Refusal := done s (alertResponse s.dev)

/-! ## Relayed commands -/

/-- STATUS of a code (Table 14.7); a code that no table gives reads as HW_FAULT. -/
def statusOf (n : Nat) : Status :=
  ([.ok, .accepted, .badOpcode, .badLength, .badParam, .notPermitted, .busyLocked, .noResource, .noContext, .overlap, .notQuiesced,
    .fidConflict, .aborted, .timeout, .hwFault, .doneDegraded].find? fun s => statusCode s = n).getD .hwFault

/-- What a relayed bind that another device has made changes in the hierarchy of this one (R114, R226).
(DEDUCED, log entry 27) -/
def relayedBind (r : Relay) (result : List Byte) (d : Device) : Device :=
  let p := r.cmd.params
  let t := r.cmd.target.toNat
  if r.op = 0x0304 then
    if t = 0 then
      let gone := d.remotes.filter fun x => decide (x.2.1 = r.fid) && decide (x.2.2 = u8 p 0)
      let d := gone.foldl (fun d x => presenceAt x.1 d) d
      let d := { d with remotes := d.remotes.filter fun x => decide (x.2.1 ≠ r.fid) || decide (x.2.2 ≠ u8 p 0) }
      { d with parts := d.parts.map fun e =>
          if e.2.remoteUsp = some (r.fid, u8 p 0) then (e.1, { e.2 with home := none, remoteUsp := none }) else e }
    else if u8 p 2 = 0xFF then d.setPart t { d.part t with home := some r.fid, remoteUsp := some (r.fid, u8 p 0) }
    else presenceAt (bridgeKey t (u8 p 2)) { d with remotes := d.remotes ++ [(bridgeKey t (u8 p 2), r.fid, u8 p 0)] }
  else if t = 0 then
    let mine := fun (x : Nat × Steer) => decide (x.1 = r.fid) && decide (x.2.port = u8 p 0) && decide (x.2.pfRid = u16 p 2) &&
      decide (x.2.vfIndex = u16 p 4)
    let d := (d.homeSteers.filter mine).foldl (fun d x => presenceAt (bridgeKey x.2.part x.2.bridge) d) d
    { d with homeSteers := d.homeSteers.filter fun x => !mine x }
  else
    let x : Steer := { steerFree with away := some r.fid, port := u8 p 0, bridge := u8 p 1, pfRid := u16 p 2,
                                      vfIndex := u16 p 4, func := u8 p 6,
                                      part := t, realRid := u16 result 2, bars := List.replicate 6 0 }
    presenceAt (bridgeKey t (u8 p 1)) { d with homeSteers := d.homeSteers ++ [(r.fid, x)] }

/-- RELAY_REPLY (R226, R400): the reply of the remote device is returned as the reply, its ACCEPTED as ACCEPTED.
(DEDUCED, log entry 57; DESIGN CHOICE, log entry 63) -/
def relayReply (fid : Nat) (bytes : List Byte) (d : Device) : Device :=
  let st := statusOf (u16 bytes 6)
  let result := (bytes.drop 16).take (u16 bytes 4)
  match d.fab.relays.find? fun r => decide (r.fid = fid) && decide (r.op = u16 bytes 0) && decide (r.cmd.seq = bytes.getD 3 0) with
  | none => d
  | some r =>
    if st = .accepted then acceptLong r.op r.cmd d
    else
      let d := { d with fab := { d.fab with relays := d.fab.relays.erase r } }
      let d := if st = .ok ∨ st = .doneDegraded then relayedBind r result d else d
      finish r.op r.cmd { status := st, detail := u16 bytes 8, result := result } d

def execRelayReply (fid : Nat) (bytes : List Byte) (s : State) : Host.Outcome State Fault Refusal := done s (relayReply fid bytes s.dev)

/-- RELAY_TIMEOUT (R226): no reply within 800 µs. -/
def relayTimeout (d : Device) : Device :=
  let long := fun (r : Relay) => d.kme.execs.any fun e => sameCommand r.op r.cmd e && e.accepted
  match d.fab.relays.find? fun r => decide (r.sentAt + 800 * usNs ≤ d.now) && !long r with
  | none => d
  | some r =>
    finish r.op r.cmd { status := .timeout, detail := 0, result := [] } { d with fab := { d.fab with relays := d.fab.relays.erase r } }

def execRelayTimeout (s : State) : Host.Outcome State Fault Refusal := done s (relayTimeout s.dev)

end Sys2Proof.Machine
end

