-- ==== Sys2Proof/Machine/Registers.lean ====
section
/-! DEFINITION. Machine/Registers.lean: the register BAR (R406, Table 14.11): what each register reads, and what a write of a host or
of the adit monitor does by its access code (R4, Table 0.2). -/

namespace Sys2Proof.Machine

/-! ## Reads -/

/-- Halves of a 64-bit value. -/
def loWord (n : Nat) : Nat := n % 2 ^ 32
def hiWord (n : Nat) : Nat := n / 2 ^ 32 % 2 ^ 32

/-- Bits j of a word for which a property of object 32k + j holds. -/
def bitsOf (k count : Nat) (p : Nat → Bool) : Nat :=
  (List.range 32).foldl (fun a j => if decide (32 * k + j < count) && p (32 * k + j) then a + 2 ^ j else a) 0

/-- GLB_PORT_PEND (Table 14.12). -/
def portPending (n : Nat) (d : Device) : Bool :=
  let x := d.pci n
  let y := d.pfl n
  (x.intStatus &&& ~~~ x.intMask != 0) || (y.intStatus &&& ~~~ y.intMask != 0) ||
    (portLanes n d).any fun k => (d.lane k).intStatus &&& ~~~ (d.lane k).intMask != 0

/-- The GLB block (Tables 4.10, 4.11, 14.12, R457). -/
def glbRead (off : Nat) (d : Device) : Option Nat :=
  match off with
  | 0x00 => some 0x5968
  | 0x04 => some (loWord d.glb.serial.toNat)
  | 0x08 => some (hiWord d.glb.serial.toNat)
  | 0x0C => some d.glb.fwLevel.toNat
  | 0x10 => some (summaryBits d).toNat
  | 0x14 => some d.glb.intMask.toNat
  | 0x18 => some d.glb.alertEn.toNat
  | 0x20 => some (bitsOf 0 101 fun n => portPending n d)
  | 0x24 => some (bitsOf 1 101 fun n => portPending n d)
  | 0x28 => some (bitsOf 2 101 fun n => portPending n d)
  | 0x2C => some (bitsOf 3 101 fun n => portPending n d)
  | 0x30 => some (loWord d.devTime.toNat)
  | 0x34 => some (tget 0 d.hiLatch 0x34)
  | 0x40 => some (d.can.grade + 4 * natOfBool d.can.repl + 8 * natOfBool d.can.fault)
  | 0x7F0 => some (partPoolWord d)
  | 0x7F4 => some (freeAct d)
  | _ =>
    let p := (off - 0x800) / 16
    if off < 0x800 ∨ 0xB10 ≤ off then none
    else match off % 16 with
      | 0 => some (partStateWord p d)
      | 4 => some (d.part p).actEntries
      | 8 => some (partSteerWord p d)
      | _ => some (min (inFlight p d) 0xFFFFFF)

/-- The CLK and RST registers (Table 18.11). -/
def clkRead (off : Nat) (d : Device) : Option Nat :=
  let c := d.clk
  match off with
  | 0x00 => some (natOfBool c.aValid + 2 * natOfBool c.bValid + 4 * natOfBool c.activeB + 8 * natOfBool c.mainLock +
      16 * natOfBool c.holdover + 65536 * c.switches)
  | 0x04 => some 0
  | 0x10 => some (c.cause + 65536 * c.warmCount)
  | 0x14 => some (natOfBool c.imageB + 2 * natOfBool c.fallback + 4 * natOfBool c.watchdog + 8 * c.cfgSrc + 65536 * c.replayErr)
  | 0x18 => some c.readyUs
  | 0x1C => some (d.glb.fid + 32 * natOfBool c.strapIgnoreSnapshot + 64 * natOfBool c.strapPerstWarm + 128 * d.glb.smbAddrStrap +
      1024 * d.glb.mgrPort)
  | 0x20 => some c.parked.toNat
  | 0x30 => some c.intStatus.toNat
  | 0x34 => some c.intMask.toNat
  | _ => none

/-- The MBX registers of a mailbox, at its offset 0x2000 (Table 14.6). -/
def mbxStateCode : MbxState → Nat
  | .idle => 0
  | .submitted => 1
  | .executing => 2
  | .done => 3
def mbxRead (f : Fn) (off : Nat) (d : Device) : Option Nat :=
  let m := d.mailbox f
  match off with
  | 0x00 => some 0
  | 0x04 => some (mbxStateCode m.state + 4 * natOfBool (holdsLock (fnSource f) d) + 8 * noticesOut f d + 256 * m.lastSeq.toNat +
      65536 * m.lastStatus)
  | 0x08 => some m.intStatus.toNat
  | 0x0C => some m.intMask.toNat
  | 0x10 => some m.prod.toNat
  | 0x14 => some m.cons.toNat
  | 0x18 => some (if m.state = .submitted then min ((d.now - m.submittedAt) / 1000) 0xFFFFFFFF else 0)
  | _ => none

/-- A mailbox of 16 KiB: request and reply areas, registers, notice ring (Table 14.5). -/
def mailboxRead (f : Fn) (off : Nat) (d : Device) : Option Nat :=
  if 0x2000 ≤ off ∧ off < 0x3000 then mbxRead f (off - 0x2000) d
  else if off < 0x4000 then some (leNat (memRead (d.mailbox f).mem off 4))
  else none

/-- The command that occupies the KME, if one does. -/
def currentExec (d : Device) : Option Exec := d.kme.execs.find? fun e => !e.accepted

/-- The KME registers (Table 14.13). -/
def kmeRead (off : Nat) (d : Device) : Option Nat :=
  let k := d.kme
  match off with
  | 0x00 => some (natOfBool k.running + 2 * natOfBool k.imageB + 4 * natOfBool k.fallback + 8 * natOfBool k.clk100 + 65536 * k.restarts)
  | 0x04 => some (match currentExec d with
      | some e => e.op + 65536 * sourceNum e.cmd.source
      | none => 0)
  | 0x08 => some (k.lastOp + 65536 * k.lastSource)
  | 0x0C => some (k.lastStatus + 65536 * k.lastSeq.toNat)
  | 0x10 => some k.admitted
  | 0x14 => some (k.execs.filter fun e => e.accepted).length
  | 0x20 => some (arbCfgWord d)
  | 0x24 => some (natOfBool k.lock.isSome + 2 * natOfBool ((waiters d).any fun w => w.starved) +
      65536 * (match k.lock with
        | some l => sourceNum l.holder
        | none => 0))
  | 0x28 => some (k.starveCount + 65536 * k.lastStarved)
  | 0x30 => some k.intStatus.toNat
  | 0x34 => some k.intMask.toNat
  | 0x38 => some (k.crcSmbus + 65536 * k.crcAdit)
  | 0x3C => some (k.dropped + 65536 * k.duplicates)
  | 0x40 => some (0x5A + d.glb.smbAddrStrap + 256 * k.eid.toNat + 65536 * k.undelivered)
  | _ => none

/-- The PRT registers (Tables 2.5, 11.11): 0 for an absorbed unit and for an internal port. -/
def prtRead (n off : Nat) (d : Device) : Option Nat :=
  let x := d.pci n
  let on := fun (v : Nat) => some (if portExists n d then v else 0)
  match off with
  | 0x00 => some (prtMode n d)
  | 0x04 => some (prtLink n d)
  | 0x08 => on (x.sbFunc.toNat % 2 ^ 24)
  | 0x0C => on (x.sbFunc.toNat / 2 ^ 24)
  | 0x10 => on (sbLevelWord n d)
  | 0x14 => some (prtHp n d)
  | 0x18 => on (x.perstDelayNext + 1024 * x.cplTimeoutMs)
  | 0x20 => on (x.cplTimeouts + 2 ^ 16 * x.lateCpl + 2 ^ 24 * x.tagUr)
  | 0x28 => on (loWord x.ptmOfs.toNat)
  | 0x2C => on (hiWord x.ptmOfs.toNat)
  | 0x40 => on x.intStatus.toNat
  | 0x44 => on x.intMask.toNat
  | _ => none

/-- The panel registers (Table 1.3). -/
def panelPfls (p : Nat) (d : Device) : Nat := ((List.range 12).filter fun u => (d.port (p * 12 + u)).personality = .pfl).length
def pnlRead (p off : Nat) (d : Device) : Option Nat :=
  match off with
  | 0x100 => some (panelPfl p d + 65536 * panelMin p d)
  | 0x104 => some (panelShared p d + 65536 * panelFree p d)
  | 0x108 => some (panelUsps p d + 16 * panelPfls p d)
  | _ => none

/-- A lane's electrical idle (TX_IDLE, RX_IDLE): its own, that of its PFL link's directions (R205–R207), or L1.
(DEDUCED, log entry 42) -/
def laneIdle (tx : Bool) (k : Nat) (d : Device) : Bool :=
  let x := d.lane k
  (if tx then x.txIdle else x.rxIdle) ||
    match lanePort k d with
    | some n =>
      match (d.port n).personality with
      | .pfl => if tx then (d.pfl n).txIdle else (d.pfl n).rxIdle
      | .usp => decide ((d.pci n).lstate = .l1)
      | .dsp => decide ((d.pci n).lstate = .l1)
      | _ => false
    | none => false

/-- ADAPT of a lane: background adaptation is frozen while the receiver is in electrical idle, and for 1 µs after the first good
flit (R346). (DEDUCED, log entry 42) -/
def laneAdapt (k : Nat) (d : Device) : Nat :=
  let woken := match (lanePort k d).bind fun n => d.wokeAt.find? fun e => decide (e.1 = n) with
    | some e => decide (d.now < e.2 + usNs)
    | none => false
  if (d.lane k).adapt = 2 ∧ (laneIdle false k d || woken) = true then 3 else (d.lane k).adapt

/-- The LN registers (Table 12.16): all 0 while the lane is PARKED but LN_STATUS.MODE. -/
def lnWord (k off : Nat) (d : Device) : Option Nat :=
  let x := d.lane k
  let place := match lanePort k d with
    | some n => k - 4 * n
    | none => 0
  match off with
  | 0x00 => some (laneMode k d + 16 * x.rate + 128 * natOfBool (decide (6 ≤ x.rate)) + 256 * natOfBool x.rxLock +
      512 * natOfBool x.polInv + 1024 * natOfBool (laneIdle true k d) + 2048 * natOfBool (laneIdle false k d) + 4096 * place +
      65536 * laneAdapt k d +
      2 ^ 18 * natOfBool x.fromRecord)
  | 0x04 => some (x.preset + 256 * x.pre + 65536 * x.post + 2 ^ 24 * x.partnerPreset)
  | 0x08 => some (x.ctle + 64 * x.vga + 4096 * x.dfe1)
  | 0x0C => some (x.il + 256 * min x.lengthMm 0x3FFF + 2 ^ 22 * x.cls + 2 ^ 24 * x.measRate + 2 ^ 27 * natOfBool x.measValid)
  | 0x10 => some (twos 11 x.skew + 2048 * natOfBool x.skewWarn)
  | 0x20 => some (x.pattern + 16 * x.loopback + 64 * natOfBool x.genOn + 128 * natOfBool x.chkOn + 256 * natOfBool x.noGray)
  | 0x24 => some (natOfBool x.locked + 2 * natOfBool x.eyeBusy + 4 * natOfBool x.eyeDone + 256 * x.lockLosses)
  | 0x28 => some (loWord x.bits)
  | 0x2C => some (hiWord x.bits)
  | 0x30 => some (loWord x.errors)
  | 0x34 => some (hiWord x.errors)
  | 0x38 => some x.eye.toNat
  | 0x40 => some x.rxLosses
  | 0x80 => some x.intStatus.toNat
  | 0x84 => some x.intMask.toNat
  | _ => none
def lnRead (k off : Nat) (d : Device) : Option Nat :=
  match lnWord k off d with
  | none => none
  | some v => some (if laneMode k d = 4 then (if off = 0 then 4 else 0) else v)

/-- CKP_PFL (Table 12.17, R336). -/
def ckpPflWord (h : Nat) (d : Device) : Nat :=
  let x := d.pair h
  let fast := (halfUnits h).any fun u => decide ((d.port (ownerOf u d)).personality = .pfl) && decide ((d.port (ownerOf u d)).maxRate = 7)
  let running := (ckpWord h d) / 4 % 2 = 1
  let freq := if running = false then 0 else if clockHasPfl h d then (if fast then 2 else 1) else 3
  freq + 4 * x.ckrFreq + 16 * natOfBool x.ckrLock + 32 * natOfBool x.ckrPolInv + 65536 * x.ckrLosses
def ckpRead (h off : Nat) (d : Device) : Option Nat :=
  match off with
  | 0 => some (ckpWord h d)
  | 4 => some (ckpPflWord h d)
  | _ => none

/-- The XBR registers (Tables 3.8–3.10). -/
def lockCode : LockState → Nat
  | .unlocked => 0
  | .pending => 1
  | .locked => 2
def xbrPortWord (n r : Nat) (d : Device) : Nat :=
  let l := d.lockOf n
  match r with
  | 0 => (d.buf n).alpha.toNat
  | 4 => voqMinWord (d.buf n)
  | 8 => lockCode l.state + 4 * l.owner + 65536 * min (d.items.filter fun i => decide (i.egress = n) &&
    decide (i.stage = .voq) && lockHolds i d).length 0xFFFF
  | _ => l.timeouts + 65536 * l.lockUr
def xbrRead (off : Nat) (d : Device) : Option Nat :=
  let x := d.xbr
  match off with
  | 0x000 => some (dynFree d + 2 ^ 31 * natOfBool x.enabled)
  | 0x004 => some ((d.items.map (·.rsvCells)).foldl (· + ·) 0)
  | 0x008 => some (x.auditMs + 2 ^ 14 * x.maxresMs + 2 ^ 24 * x.lockTimeoutMs)
  | 0x100 => some x.passes.toNat
  | 0x104 => some (x.reclaimedLast + 65536 * natOfBool x.mismatch + 2 ^ 17 * natOfBool x.running)
  | 0x108 => some x.reclaimedTotal
  | 0x10C => some (x.first.cell + 2 ^ 19 * x.first.port + 2 ^ 26 * x.first.queue + 2 ^ 29 * x.first.cls +
      2 ^ 31 * natOfBool (x.intStatus.getLsbD 0))
  | 0x110 => some (loWord x.firstTime.toNat)
  | 0x114 => some (hiWord x.firstTime.toNat)
  | 0x118 => some (x.panelLast + 65536 * x.panelFirst)
  | 0x200 => some x.intStatus.toNat
  | 0x204 => some x.intMask.toNat
  | _ =>
    let n := (off - 0x1000) / 32
    if off < 0x1000 ∨ 0x1CA0 ≤ off ∨ 0x10 ≤ off % 32 then none
    else some (if portExists n d || decide (96 ≤ n) then xbrPortWord n (off % 32) d else 0)

/-- The ACT registers (Table 6.5). -/
def segStateCode : SegState → Nat
  | .none => 0
  | .disabled => 1
  | .enabled => 2
def segWord (p r : Nat) (d : Device) : Option Nat :=
  let g := d.seg p
  match r with
  | 0x00 => some (segStateCode g.state + 4 * natOfBool g.stallLong + 65536 * g.gen)
  | 0x04 => some (validEntries g).length
  | 0x08 => some (min (oldInflight p d) 0xFFFF + 65536 * heldCells p d)
  | 0x0C => some (if g.state = .disabled then min ((d.now - g.disabledAt) / 1000) 0xFFFFFFFF else 0)
  | 0x10 => some g.violCount
  | 0x14 => some (loWord g.violAddr)
  | 0x18 => some (hiWord g.violAddr)
  | 0x1C => some (g.violReason + 8 * g.violType + 32 * natOfBool g.violPosted + 64 * natOfBool g.violValid + 65536 * g.violRid)
  | 0x20 => some (g.multiA + 65536 * g.multiB)
  | _ => none
def actRegRead (off : Nat) (d : Device) : Option Nat :=
  match off with
  | 0x00 => some d.act.intStatus.toNat
  | 0x04 => some d.act.intMask.toNat
  | 0x08 => some (holdUsed d)
  | 0x10 => some (bitsOf 0 49 fun p => decide (p ≠ 0) && (d.seg p).violValid)
  | 0x14 => some (bitsOf 1 49 fun p => (d.seg p).violValid)
  | _ =>
    let p := (off - 0x1000) / 64
    if off < 0x1040 ∨ 0x1C40 ≤ off then none else segWord p (off % 64) d

/-- The PLK registers of a port (Table 7.9): all 0 while it is not PFL (R212). -/
def plkTxc (x : Plk) (v c : Nat) : Nat :=
  let k := creditOf x v c
  min ((k.grantData + k.dataFreedRx + 2 ^ 32 - k.dataUsed) % 2 ^ 32) 0xFFFF +
    65536 * min ((k.grantHdr + k.hdrFreedRx + 2 ^ 32 - k.hdrUsed) % 2 ^ 32) 0xFFF
def plkWord (n off : Nat) (d : Device) : Option Nat :=
  let x := d.pfl n
  match off with
  | 0x00 => some (plkStateWord n d)
  | 0x04 => some (loWord x.partnerSerial.toNat)
  | 0x08 => some (hiWord x.partnerSerial.toNat)
  | 0x0C => some x.partnerFw.toNat
  | 0x10 => some (plkCfgWord x)
  | 0x14 => some (x.rxMin.getD 0 0 / 16 + 256 * (x.rxMin.getD 1 0 / 16) + 65536 * (x.rxMin.getD 2 0 / 16))
  | 0x18 => some (x.limit + 65536 * x.restartMs)
  | 0x1C => some (x.ackNs + 65536 * rttNs x)
  | 0x20 => some (x.txNext % 65536 + 65536 * (match x.replay with
      | f :: _ => f.seq % 65536
      | [] => x.txNext % 65536))
  | 0x24 => some (x.rxNext % 65536 + 65536 * min x.held.length 256 + 2 ^ 25 * min x.samples 16)
  | 0x40 => some x.badFlits
  | 0x44 => some x.replays
  | 0x48 => some x.probes
  | 0x4C => some x.dups
  | 0x50 => some x.beyond
  | 0x54 => some (x.fastRetrains + 65536 * x.linkDowns)
  | 0x58 => some x.lastCause
  | 0x5C => some (loWord x.downTime.toNat)
  | 0x60 => some (hiWord x.downTime.toNat)
  | 0x80 => some x.intStatus.toNat
  | 0x84 => some x.intMask.toNat
  | _ =>
    let j := (off - 0x100) / 4
    if off < 0x100 ∨ 0x140 ≤ off ∨ j % 4 = 3 then none else some (plkTxc x (j / 4) (j % 4))
def plkRead (n off : Nat) (d : Device) : Option Nat :=
  match plkWord n off d with
  | none => none
  | some v => some (if (d.port n).personality = .pfl then v else 0)

/-- Resident contexts or region entries in use (Table 9.13). -/
def residentUse (region : Bool) (d : Device) : Nat :=
  ((if region then (regionsIn d).map (·.1) else d.qps.map (·.1) ++ d.cqs.map (·.1)).filter fun n => isResident region n d).length

/-- The RMA registers (Table 9.13). -/
def sliceState (i : Nat) (d : Device) : Nat :=
  min (d.missWait.filter fun m => decide (m.number % 4 = i)).length 0x7FF +
    2048 * natOfBool (d.qps.any fun e => decide (e.1 % 4 = i) && !flushed e.2) + 65536 * d.rma.qpErrors.getD i 0
def rmaRead (off : Nat) (d : Device) : Option Nat :=
  let g := d.rma
  match off with
  | 0x00 => some (d.qps.length + d.cqs.length)
  | 0x04 => some (residentUse false d)
  | 0x08 => some (regionsIn d).length
  | 0x0C => some (residentUse true d)
  | 0x10 => some (pageSum (regionsIn d))
  | 0x14 => some (4096 - d.vfPart.length)
  | 0x18 => some (backingWord d)
  | 0x20 => some (loWord g.ctxBase)
  | 0x24 => some (hiWord g.ctxBase)
  | 0x28 => some (loWord g.regBase)
  | 0x2C => some (hiWord g.regBase)
  | 0x40 => some g.cntMiss
  | 0x44 => some g.cntEvict
  | 0x48 => some g.cntDup
  | 0x4C => some g.cntStray
  | 0x50 => some g.cntBeyond
  | 0x54 => some g.cntBadDb
  | 0x80 => some g.intStatus.toNat
  | 0x84 => some g.intMask.toNat
  | _ =>
    let i := (off - 0x100) / 16
    if off < 0x100 ∨ 0x140 ≤ off then none
    else if off % 16 = 0 then some (sliceState i d)
    else if off % 16 = 4 then some (g.segments.getD i 0)
    else none

/-- LOG2_ENTRIES of a ring; 0 where there is none. -/
def ringLog (r : Ring) : Nat := if r.entries = 0 then 0 else r.entries.log2

/-- A queue's registers (Table 10.7): levels in whole bytes, truncated toward 0. -/
def queueWord (n q r : Nat) (d : Device) : Option Nat :=
  let e := d.equeue n q
  let g := e.cfg
  let bytes := fun (l : Int) => twos 32 (l.tdiv 64)
  match r with
  | 0x00 => some (natOfBool g.shaped + 2 * natOfBool (queueEligible e) + 4 * natOfBool (candidate n q d).isSome)
  | 0x04 => some g.cir
  | 0x08 => some g.pir
  | 0x0C => some g.steep
  | 0x10 => some (g.cbs + 65536 * g.pbs)
  | 0x14 => some g.smax
  | 0x18 => some (bytes e.c)
  | 0x1C => some (bytes e.p)
  | 0x20 => some (bytes e.s)
  | 0x24 => some e.depth
  | 0x28 => some e.delay
  | _ => none

/-- The SHP registers (Table 10.7). -/
def shpRead (off : Nat) (d : Device) : Option Nat :=
  let r := d.shp.ring
  let shown := fun (n : Nat) (v : Nat) => if portExists n d || decide (96 ≤ n) then v else 0
  match off with
  | 0x00 => some (r.intervalUs + 2 ^ 20 * ringLog r + 2 ^ 25 * natOfBool d.shp.regOnly + 2 ^ 26 * natOfBool r.on)
  | 0x04 => some r.prod.toNat
  | 0x08 => some r.cons.toNat
  | 0x0C => some r.lost
  | 0x10 => some d.shp.intStatus.toNat
  | 0x14 => some d.shp.intMask.toNat
  | _ =>
    if 0x800 ≤ off ∧ off < 0xE50 then
      let n := (off - 0x800) / 16
      if off % 16 = 0 then some (shown n (d.eport n).tcMap.toNat)
      else if off % 16 = 4 then some (shown n ((d.eport n).overhead + 256 * (d.eport n).lastQ))
      else none
    else if 0x1000 ≤ off ∧ off < 0xDA00 then
      let n := (off - 0x1000) / 0x200
      match queueWord n ((off - 0x1000) / 0x40 % 8) (off % 0x40) d with
      | some v => some (shown n v)
      | none => none
    else none

/-- The SPW registers (Table 15.8). -/
def spwWord (c off : Nat) (d : Device) : Option Nat :=
  let x := d.channel c
  let wait := match x.waitUntil with
    | some t => min (ceilDiv (t - d.now) msNs) 0xFFFF
    | none => 0
  match off with
  | 0x00 => some (natOfBool x.fitted + 2 * natOfBool x.warnEn + 4 * x.feed + 16 * x.clRatio + 64 * x.ftRatio + 2048 * x.rampRate +
      65536 * x.vCb + 2 ^ 24 * x.pgDrop)
  | 0x04 => some x.rsense
  | 0x08 => some (x.faultUs + 65536 * x.pgDelayUs)
  | 0x0C => some (x.uvTh + 65536 * x.ovTh)
  | 0x10 => some (x.warnTh + 65536 * x.retryCount + 2 ^ 20 * x.retryDuty)
  | 0x14 => some (x.retryMinMs + 65536 * x.avgMs)
  | 0x20 => some (spwStateWord x)
  | 0x24 => some (min x.timerUs 0xFFFF + 65536 * (if x.state = .wait then wait else 0))
  | 0x30 => some (spwCurrentWord x)
  | 0x34 => some (spwVoltWord x)
  | 0x38 => some (spwSenseWord x)
  | 0x3C => some (spwAvgWord x)
  | 0x44 => some (loWord (spwEnergy x))
  | 0x48 => some (tget 0 d.hiLatch (0xB00048 + 0x400 * c))
  | 0x50 => some (spwTripWord x)
  | 0x54 => some (twos 32 x.tripI)
  | 0x58 => some (loWord x.tripTime.toNat)
  | 0x5C => some (tget 0 d.hiLatch (0xB0005C + 0x400 * c))
  | 0x80 => some x.intStatus.toNat
  | 0x84 => some x.intMask.toNat
  | _ => none
def spwRegRead (off : Nat) (d : Device) : Option Nat :=
  if off < 0xC000 then spwWord (off / 0x400) (off % 0x400) d
  else if off = 0xC000 then some (feedWord d)
  else if off = 0xC004 then some (d.feeds.vgate % 65536 + 65536 * natOfBool (decide (20000 ≤ d.feeds.vgate)))
  else none

/-- The high half of a counter: VALUE_HI as its LO register latched it, OVF as it stands (R474). -/
def counterHi (k addr : Nat) (d : Device) : Nat := tget 0 d.hiLatch addr + 65536 * natOfBool (d.counter k).ovf

/-- The CNT registers (Table 17.12). -/
def cntPortWord (n r : Nat) (d : Device) : Option Nat :=
  if r < 0xC0 then
    let k := counterKey n (r / 8)
    if r % 8 = 0 then some (loWord ((d.counter k).value % 2 ^ 48)) else some (counterHi k (0xC01000 + n * 0x200 + r) d)
  else if r < 0x140 then
    let c := d.counter (counterKey n ((r - 0xC0) / 8 + 8))
    some (if r % 8 = 0 then c.sel.toNat else c.period)
  else none
def cntGlobalWord (i r : Nat) (d : Device) : Option Nat :=
  let c := d.counter (globalKey i)
  match r with
  | 0x00 => some (loWord (c.value % 2 ^ 48))
  | 0x04 => some (counterHi (globalKey i) (0xC20004 + i * 0x20) d)
  | 0x08 => some c.sel.toNat
  | 0x0C => some c.period
  | 0x10 => some c.portSel
  | _ => none
def portOvf (n : Nat) (d : Device) : Bool := (List.range 24).any fun j => (d.counter (counterKey n j)).ovf
def cntRead (off : Nat) (d : Device) : Option Nat :=
  let k := d.cnt
  match off with
  | 0x00 => some (k.dump.intervalUs + 2 ^ 20 * ringLog k.dump + 2 ^ 25 * natOfBool k.global + 2 ^ 26 * natOfBool k.dump.on)
  | 0x04 => some k.dump.prod.toNat
  | 0x08 => some k.dump.cons.toNat
  | 0x0C => some k.dump.lost
  | 0x10 => some k.seq
  | 0x20 => some (k.rateLog2 + 32 * ringLog k.tag + 1024 * natOfBool k.tag.on + 2048 * natOfBool k.tagOnOvf + 4096 * natOfBool k.randomOff)
  | 0x24 => some k.tag.prod.toNat
  | 0x28 => some k.tag.cons.toNat
  | 0x2C => some k.tag.lost
  | 0x30 => some k.tags.length
  | 0x40 => some k.intStatus.toNat
  | 0x44 => some k.intMask.toNat
  | 0x50 => some (bitsOf 0 101 fun n => portOvf n d)
  | 0x54 => some (bitsOf 1 101 fun n => portOvf n d)
  | 0x58 => some (bitsOf 2 101 fun n => portOvf n d)
  | 0x5C => some (bitsOf 3 101 fun n => portOvf n d)
  | 0x60 => some (bitsOf 0 64 fun i => (d.counter (globalKey i)).ovf)
  | 0x64 => some (bitsOf 1 64 fun i => (d.counter (globalKey i)).ovf)
  | 0x70 => some (k.ovfPort + 128 * k.ovfCounter)
  | 0x74 => some (loWord k.ovfTime.toNat)
  | 0x78 => some (hiWord k.ovfTime.toNat)
  | _ =>
    if 0x1000 ≤ off ∧ off < 0xDA00 then
      let n := (off - 0x1000) / 0x200
      match cntPortWord n (off % 0x200) d with
      | some v => some (if portExists n d || decide (96 ≤ n) then v else 0)
      | none => none
    else if 0x20000 ≤ off ∧ off < 0x20800 then cntGlobalWord ((off - 0x20000) / 0x20) (off % 0x20) d
    else none

/-- KME restarts in the last 24 h (CAN_KME). -/
def restartsToday (d : Device) : Nat := min (d.can.restarts.filter fun t => decide (d.now < t + 86400 * 1000 * msNs)).length 0xFF

/-- The CAN registers (Tables 16.11, 21.5). -/
def canRead (off : Nat) (d : Device) : Option Nat :=
  let c := d.can
  let t := d.throttle
  match off with
  | 0x00 => some (canGradeWord d)
  | 0x04 => some (canInputsWord d)
  | 0x10 => some c.eccCorr
  | 0x14 => some (c.eccItem + 65536 * c.eccStruct)
  | 0x18 => some (spareObWord d)
  | 0x1C => some (sparePanelWord d)
  | 0x20 => some (spareCaddyWord d)
  | 0x24 => some (shaftWord d)
  | 0x28 => some (mramWord d)
  | 0x2C => some (restartsToday d)
  | 0x80 => some c.intStatus.toNat
  | 0x84 => some c.intMask.toNat
  | 0x90 => some (loWord c.partFatal.toNat)
  | 0x94 => some (hiWord c.partFatal.toNat)
  | 0xA0 => some (t.level + 32 * natOfBool t.temp + 64 * natOfBool t.power + 128 * natOfBool t.emergency + 65536 * t.entries)
  | 0xA4 => some (min t.pkgPower 0xFFF + 65536 * min t.tjMax 0xFF + 2 ^ 24 * t.hotDie)
  | _ => none

/-- A word of a function's MSI-X table, and of its pending bits (R360, R364). -/
def msixWord (f : Fn) (off : Nat) (d : Device) : Option Nat :=
  if off < 16 * vectorCount f then
    let v := tget msixReset d.msix (fnKey f * 2048 + off / 16)
    match off % 16 with
    | 0 => some (loWord v.addr)
    | 4 => some (hiWord v.addr)
    | 8 => some v.data.toNat
    | _ => some (natOfBool v.masked)
  else none
def pbaWord (f : Fn) (k : Nat) (d : Device) : Option Nat :=
  if k < vectorCount f / 32 then some (bitsOf k (vectorCount f) fun n => (tget msixReset d.msix (fnKey f * 2048 + n)).pending) else none
/-- The same in a BAR: the table, and the pending bits 0x8000 above it, 0x1000 above it for a VF. -/
def msixRead (f : Fn) (off : Nat) (d : Device) : Option Nat :=
  let pba : Nat := match f with
    | .vf _ => 0x1000
    | _ => 0x8000
  if off % 4 ≠ 0 then none
  else if off < pba then msixWord f off d else pbaWord f ((off - pba) / 4) d

/-- A register by its address in the register BAR (Table 14.11); none where no chapter defines one.
(DEDUCED, log entry 48; DESIGN CHOICE, log entry 49) -/
def regWord (a : Nat) (d : Device) : Option Nat :=
  if a % 4 ≠ 0 then none
  else if a < 0x10000 then glbRead a d
  else if a < 0x20000 then clkRead (a - 0x10000) d
  else if a < 0x24000 then mailboxRead .mgr (a - 0x20000) d
  else if a < 0x100000 then kmeRead (a - 0x24000) d
  else if a < 0x200000 then (if a < 0x165000 then prtRead ((a - 0x100000) / 0x1000) (a % 0x1000) d else none)
  else if a < 0x240000 then none
  else if a < 0x300000 then (if a < 0x260000 then pnlRead ((a - 0x240000) / 0x4000) (a % 0x4000) d else none)
  else if a < 0x360000 then lnRead ((a - 0x300000) / 0x400) (a % 0x400) d
  else if a < 0x400000 then (if a < 0x36C000 then ckpRead ((a - 0x360000) / 0x400) (a % 0x400) d else none)
  else if a < 0x500000 then xbrRead (a - 0x400000) d
  else if a < 0x600000 then actRegRead (a - 0x500000) d
  else if a < 0x700000 then ntwRead (a - 0x600000) d
  else if a < 0x800000 then (if a < 0x730000 then plkRead ((a - 0x700000) / 0x800) (a % 0x800) d else none)
  else if a < 0x900000 then fabRead (a - 0x800000) d
  else if a < 0xA00000 then rmaRead (a - 0x900000) d
  else if a < 0xB00000 then shpRead (a - 0xA00000) d
  else if a < 0xC00000 then spwRegRead (a - 0xB00000) d
  else if a < 0xD00000 then cntRead (a - 0xC00000) d
  else if a < 0xE00000 then tlmRead (a - 0xD00000) d
  else if a < 0xF00000 then canRead (a - 0xE00000) d
  else if a < 0x1000000 then none
  else if a < 0x1010000 then msixRead .mgr (a - 0x1000000) d
  else none

/-- The value that a read of a LO register latches into its HI register (R250, R407, R433, R474). -/
def latchOf (a : Nat) (d : Device) : Option Nat :=
  if a = 0x30 ∨ a = 0x800010 then some (hiWord d.devTime.toNat)
  else if 0xB00000 ≤ a ∧ a < 0xB0C000 then
    let x := d.channel ((a - 0xB00000) / 0x400)
    if a % 0x400 = 0x44 then some (hiWord (spwEnergy x))
    else if a % 0x400 = 0x58 then some (hiWord x.tripTime.toNat)
    else none
  else if 0xC01000 ≤ a ∧ a < 0xC0DA00 then
    let n := (a - 0xC01000) / 0x200
    let r := a % 0x200
    if r < 0xC0 ∧ r % 8 = 0 ∧ (portExists n d || decide (96 ≤ n)) then some (hiWord ((d.counter (counterKey n (r / 8))).value % 2 ^ 48))
    else none
  else if 0xC20000 ≤ a ∧ a < 0xC20800 then
    if a % 0x20 = 0 then some (hiWord ((d.counter (globalKey ((a - 0xC20000) / 0x20))).value % 2 ^ 48)) else none
  else none

/-- A location of the DBG block: resident contexts and region entries, in a layout that no rule states (R512).
(DESIGN CHOICE, log entry 49) -/
def inDbg (a : Nat) : Bool := decide (0xF00000 ≤ a) && decide (a < 0x1000000)

/-- Read a register: its value and the latch it sets. What the DBG block shows is free. (DESIGN CHOICE, log entry 49) -/
def regRead (a : Nat) (d : Device) : Option (Nat × Device) :=
  if a % 4 = 0 ∧ inDbg a then some (d.fresh (2 ^ 32))
  else match regWord a d with
    | none => none
    | some v => match latchOf a d with
      | some h => some (v, { d with hiLatch := tset 0 d.hiLatch (a + 4) h })
      | none => some (v, d)

/-! ## Writes -/

/-- W1C: a 1 clears the bit (Table 0.2). -/
def w1c {n : Nat} (old : BitVec n) (v : W32) : BitVec n := old &&& ~~~ (v.setWidth n)

/-- A write of an MBX register (R391). -/
def mbxWrite (f : Fn) (off : Nat) (v : W32) (d : Device) : Device :=
  let m := d.mailbox f
  match off with
  | 0x00 => doorbell f (v.getLsbD 0) (v.getLsbD 1) d
  | 0x08 => d.setMailbox f { m with intStatus := w1c m.intStatus v }
  | 0x0C =>
    let mask := v.setWidth 5
    let d' := d.setMailbox f { m with intMask := mask }
    if m.intStatus &&& ~~~ mask &&& m.intMask = 0 then d' else sendVector f 0 d'
  | 0x14 => noticeCons f v d
  | _ => d

/-- A host write into a mailbox: the owner may write the request area and the writable registers (R385). -/
def mailboxWrite (f : Fn) (off : Nat) (v : W32) (d : Device) : Device :=
  if !(mailboxes d).contains f then d
  else if off < 0x1000 then
    let m := d.mailbox f
    d.setMailbox f { m with mem := memWrite m.mem off (natLe 4 v.toNat) }
  else if 0x2000 ≤ off ∧ off < 0x3000 then mbxWrite f (off - 0x2000) v d
  else d

/-- Clear the OVF bit of a counter (R474). -/
def clearOvf (k : Nat) (d : Device) : Device := d.setCounter k { d.counter k with ovf := false }
def clearGlobals (first : Nat) (v : W32) (d : Device) : Device :=
  (List.range 32).foldl (fun d i => if v.getLsbD i then clearOvf (globalKey (first + i)) d else d) d

/-- A write of a function's MSI-X table (R360, R364). -/
def msixWrite (f : Fn) (off : Nat) (v : W32) (d : Device) : Device :=
  let n := off / 16
  let k := fnKey f * 2048 + n
  let e := tget msixReset d.msix k
  let put := fun (e : MsixVec) => { d with msix := tset msixReset d.msix k e }
  if vectorCount f ≤ n then d
  else match off % 16 with
    | 0 => put { e with addr := hiWord e.addr * 2 ^ 32 + v.toNat }
    | 4 => put { e with addr := v.toNat * 2 ^ 32 + loWord e.addr }
    | 8 => put { e with data := v }
    | _ => if v.getLsbD 0 then put { e with masked := true } else unmaskVector f n d

/-- A write of CNT (R474). -/
def cntWrite (off : Nat) (v : W32) (d : Device) : Device :=
  let k := d.cnt
  match off with
  | 0x40 => { d with cnt := { k with intStatus := w1c k.intStatus v } }
  | 0x44 => { d with cnt := { k with intMask := v.setWidth 3 } }
  | 0x60 => clearGlobals 0 v d
  | 0x64 => clearGlobals 32 v d
  | _ =>
    if v.getLsbD 16 = false then d
    else if 0x1000 ≤ off ∧ off < 0xDA00 ∧ off % 0x200 < 0xC0 ∧ off % 8 = 4 then
      clearOvf (counterKey ((off - 0x1000) / 0x200) (off % 0x200 / 8)) d
    else if 0x20000 ≤ off ∧ off < 0x20800 ∧ off % 0x20 = 4 then clearOvf (globalKey ((off - 0x20000) / 0x20)) d
    else d

/-- A write of CAN (R457). (DEDUCED, log entry 48) -/
def canWrite (off : Nat) (v : W32) (d : Device) : Device :=
  let c := d.can
  match off with
  | 0x80 => { d with can := { c with intStatus := w1c c.intStatus v } }
  | 0x84 => { d with can := { c with intMask := v.setWidth 5 } }
  | 0x90 => { d with can := { c with partFatal := c.partFatal &&& ~~~ (v.setWidth 64) } }
  | 0x94 => { d with can := { c with partFatal := c.partFatal &&& ~~~ (v.setWidth 64 <<< (32 : Nat)) } }
  | _ => d

/-- Writes of the blocks of one object each: the status and the mask. -/
def prtWrite (n off : Nat) (v : W32) (d : Device) : Device :=
  let x := d.pci n
  if portExists n d = false then d
  else if off = 0x40 then d.setPci n { x with intStatus := w1c x.intStatus v }
  else if off = 0x44 then d.setPci n { x with intMask := v.setWidth 5 }
  else d
def lnWrite (k off : Nat) (v : W32) (d : Device) : Device :=
  let x := d.lane k
  if 384 ≤ k then d
  else if off = 0x80 then d.setLane k { x with intStatus := w1c x.intStatus v }
  else if off = 0x84 then d.setLane k { x with intMask := v.setWidth 4 }
  else d
def plkWrite (n off : Nat) (v : W32) (d : Device) : Device :=
  let x := d.pfl n
  if (d.port n).personality ≠ .pfl then d
  else if off = 0x80 then d.setPfl n { x with intStatus := w1c x.intStatus v }
  else if off = 0x84 then d.setPfl n { x with intMask := v.setWidth 6 }
  else d
def spwWrite (c off : Nat) (v : W32) (d : Device) : Device :=
  let x := d.channel c
  if 48 ≤ c then d
  else if off = 0x80 then d.setChannel c { x with intStatus := w1c x.intStatus v }
  else if off = 0x84 then d.setChannel c { x with intMask := v.setWidth 5 }
  else d

/-- Take the other reference input when it is valid (R478): counted, flagged, and recorded in the black box. -/
def refclkSwitch (d : Device) : Device :=
  let c := d.clk
  let ok := if c.activeB then c.aValid else c.bValid
  if ok then
    blackBoxRecord 6 0 0 []
      (clkRaise 1 { d with clk := { c with activeB := !c.activeB, switches := satAdd 0xFFFF c.switches 1 } })
  else d

/-- Registers that hosts may write, by address: the status and mask registers of each block, the doorbells, CLK_CTL and the log
clears. A write of any other field is ignored (R4, R6, R407, R408, R505). (DEDUCED, log entry 48) -/
def regWrite (a : Nat) (v : W32) (d : Device) : Device :=
  if a % 4 ≠ 0 then d
  else if a = 0x14 then { d with glb := { d.glb with intMask := v.setWidth 14 } }
  else if a = 0x18 then { d with glb := { d.glb with alertEn := v.setWidth 14 } }
  else if a = 0x10004 then (if v.getLsbD 0 then refclkSwitch d else d)
  else if a = 0x10030 then { d with clk := { d.clk with intStatus := w1c d.clk.intStatus v } }
  else if a = 0x10034 then { d with clk := { d.clk with intMask := v.setWidth 4 } }
  else if 0x20000 ≤ a ∧ a < 0x24000 then mailboxWrite .mgr (a - 0x20000) v d
  else if a = 0x24030 then { d with kme := { d.kme with intStatus := w1c d.kme.intStatus v } }
  else if a = 0x24034 then { d with kme := { d.kme with intMask := v.setWidth 6 } }
  else if 0x100000 ≤ a ∧ a < 0x165000 then prtWrite ((a - 0x100000) / 0x1000) (a % 0x1000) v d
  else if 0x300000 ≤ a ∧ a < 0x360000 then lnWrite ((a - 0x300000) / 0x400) (a % 0x400) v d
  else if a = 0x400200 then { d with xbr := { d.xbr with intStatus := w1c d.xbr.intStatus v } }
  else if a = 0x400204 then { d with xbr := { d.xbr with intMask := v.setWidth 4 } }
  else if a = 0x500000 then { d with act := { d.act with intStatus := w1c d.act.intStatus v } }
  else if a = 0x500004 then { d with act := { d.act with intMask := v.setWidth 3 } }
  else if 0x501040 ≤ a ∧ a < 0x501C40 ∧ a % 64 = 0x1C then (if v.getLsbD 7 then violClear ((a - 0x501000) / 64) d else d)
  else if a = 0x600010 then { d with ntw := { d.ntw with intStatus := w1c d.ntw.intStatus v } }
  else if a = 0x600014 then { d with ntw := { d.ntw with intMask := v.setWidth 3 } }
  else if 0x700000 ≤ a ∧ a < 0x730000 then plkWrite ((a - 0x700000) / 0x800) (a % 0x800) v d
  else if a = 0x800100 then { d with fab := { d.fab with intStatus := w1c d.fab.intStatus v } }
  else if a = 0x800104 then { d with fab := { d.fab with intMask := v.setWidth 8 } }
  else if a = 0x900080 then { d with rma := { d.rma with intStatus := w1c d.rma.intStatus v } }
  else if a = 0x900084 then { d with rma := { d.rma with intMask := v.setWidth 3 } }
  else if a = 0xA00010 then { d with shp := { d.shp with intStatus := w1c d.shp.intStatus v } }
  else if a = 0xA00014 then { d with shp := { d.shp with intMask := v.setWidth 1 } }
  else if 0xB00000 ≤ a ∧ a < 0xB0C000 then spwWrite ((a - 0xB00000) / 0x400) (a % 0x400) v d
  else if 0xC00000 ≤ a ∧ a < 0xD00000 then cntWrite (a - 0xC00000) v d
  else if 0xE00000 ≤ a ∧ a < 0xF00000 then canWrite (a - 0xE00000) v d
  else if 0x1000000 ≤ a ∧ a < 0x1010000 then msixWrite .mgr (a - 0x1000000) v d
  else d

/-- A register lies at an address of the register BAR. -/
def regDefined (a : Nat) (d : Device) : Bool := decide (a % 4 = 0) && (inDbg a || (regWord a d).isSome)

/-- A DWORD of the window control area of a partition (Table 5.1, R118): outbound doorbells, whose write is taken as one of the
partition's USP, inbound doorbells, error logs. -/
def controlWrite (p off : Nat) (v : W32) (d : Device) : Device :=
  if off < 0x1000 then (if off % 8 = 0 then outboundDoorbell (off / 8) p ((uspOf p d).getD 0x7F) v d else d)
  else if off < 0x2000 then windowDbWrite ((off - 0x1000) / 8) p (decide (off % 8 = 4)) v d
  else
    let w := (off - 0x2000) / 16
    if off % 16 = 12 ∧ v.getLsbD 31 = true ∧ (d.window w).valid = true ∧ (d.window w).srcPart = p then clearLog w d else d

/-- A DWORD of a function's queue BAR beside its doorbells: the MSI-X table of an RMA function (Table 13.2). -/
def queueBarWrite (f : Fn) (off : Nat) (v : W32) (d : Device) : Device :=
  let base : Nat := match f with
    | .vf _ => 0x100000
    | _ => 0x1000000
  if f ≠ .mgr ∧ base ≤ off ∧ off % 4 = 0 then msixWrite f (off - base) v d else d

/-- A host write of one DWORD beside the register BAR: the window control area of a partition at 2^32 + partition × 0x4000
(R118, R131, R132), mailbox BARs by key of the function at 2^33 (R385), queue BARs by key at 2^36 (R360). (DEDUCED, log entry
48) (DEDUCED, log entry 48) -/
def hostWrite (a : Nat) (v : W32) (d : Device) : Device :=
  if a < 2 ^ 32 then (if regDefined a d then regWrite a v d else fnError .mgr 20 true d)
  else if a < 2 ^ 33 then (if a % 4 = 0 then controlWrite ((a - 2 ^ 32) / 0x4000) ((a - 2 ^ 32) % 0x4000) v d else d)
  else if a < 2 ^ 36 then mailboxWrite (fnOfKey ((a - 2 ^ 33) / 0x4000)) ((a - 2 ^ 33) % 0x4000) v d
  else queueBarWrite (fnOfKey ((a - 2 ^ 36) / 0x2000000)) ((a - 2 ^ 36) % 0x2000000) v d

/-- REGISTER_WRITE (R4). (DEDUCED, log entry 48) -/
def execRegisterWrite (addr : Nat) (value : W32) (s : State) : Host.Outcome State Fault Refusal := done s (hostWrite addr value s.dev)

/-- GLB_INT_MASK_WRITE (R407): vector 1 follows when a summary bit that is 1 becomes unmasked (Ops.notify). -/
def execGlbIntMaskWrite (value : W32) (s : State) : Host.Outcome State Fault Refusal := done s (regWrite 0x14 value s.dev)

/-- SWITCH (R478): a write of CLK_CTL.SWITCH. -/
def execSwitch (s : State) : Host.Outcome State Fault Refusal := done s (regWrite 0x10004 1 s.dev)

end Sys2Proof.Machine
end

