-- ==== Sys2Proof/Machine/Adit.lean ====
section
/-! DEFINITION. Machine/Adit.lean: the adit monitor (chapter 19): its text commands, unlocking, raw mode. -/

namespace Sys2Proof.Machine

/-! ## Reading a line -/

/-- A text command with well-formed arguments (Table 19.3). -/
inductive TextCmd where
  | help | info | baud (rate : Nat) | unlock (level : Option Nat) (response : Option Nat) | lock
  | peek (addr count : Nat) | poke (addr value : Nat) | lanes (first count : Nat) | eye (lane : Nat)
  | tally | canary | log (count : Nat) | raw
deriving DecidableEq, Repr

/-- Keywords are case-insensitive (R507). -/
def lowerChar (c : Char) : Char := if 65 ≤ c.toNat ∧ c.toNat ≤ 90 then Char.ofNat (c.toNat + 32) else c

/-- The value of a digit in a base. -/
def digitVal (base : Nat) (c : Char) : Option Nat :=
  let n := c.toNat
  if 48 ≤ n ∧ n ≤ 57 then some (n - 48)
  else if base = 16 ∧ 97 ≤ n ∧ n ≤ 102 then some (n - 87)
  else none

/-- The value of digits, underscores skipped. -/
def digitsVal (base : Nat) : List Char → Nat → Bool → Option Nat
  | [], a, seen => if seen then some a else none
  | c :: t, a, seen =>
    if c = '_' then digitsVal base t a seen
    else match digitVal base c with
      | some v => digitsVal base t (a * base + v) true
      | none => none

/-- A number: decimal, or hexadecimal with 0x, with underscores (R507). -/
def textNum (w : List Char) : Option Nat :=
  match w with
  | '0' :: 'x' :: t => digitsVal 16 t 0 false
  | _ => digitsVal 10 w 0 false

/-- The words of a line, lower case: spaces and tabs separate them. -/
def lineWords : List Char → List Char → List (List Char)
  | [], [] => []
  | [], w => [w.reverse]
  | c :: t, w =>
    if c = ' ' ∨ c = '\t' then (match w with
      | [] => lineWords t []
      | _ => w.reverse :: lineWords t [])
    else lineWords t (lowerChar c :: w)

/-- The rates of R506. -/
def baudRates : List Nat := [115200, 230400, 460800, 921600, 1500000, 3000000]

/-- A command whose arguments lie in their ranges (Table 19.3, R506, R509). -/
def textOk (t : TextCmd) : Bool :=
  match t with
  | .baud r => baudRates.contains r
  | .unlock none none => true
  | .unlock (some 1) none => true
  | .unlock (some n) (some r) => (decide (n = 2) || decide (n = 3)) && decide (r < 2 ^ 32)
  | .unlock _ _ => false
  | .peek _ n => decide (1 ≤ n) && decide (n ≤ 64)
  | .poke _ v => decide (v < 2 ^ 32)
  | .lanes f n => decide (1 ≤ n) && decide (f + n ≤ 384)
  | .eye k => decide (k < 384)
  | .log n => decide (1 ≤ n) && decide (n ≤ 63)
  | _ => true

/-- The keywords of Table 19.3. -/
def keywords : List (List Char) :=
  [['h', 'e', 'l', 'p'], ['i', 'n', 'f', 'o'], ['b', 'a', 'u', 'd'], ['u', 'n', 'l', 'o', 'c', 'k'], ['l', 'o', 'c', 'k'],
   ['p', 'e', 'e', 'k'], ['p', 'o', 'k', 'e'], ['l', 'a', 'n', 'e', 's'], ['e', 'y', 'e'], ['t', 'a', 'l', 'l', 'y'],
   ['c', 'a', 'n', 'a', 'r', 'y'], ['l', 'o', 'g'], ['r', 'a', 'w']]

/-- A command by the place of its keyword, with its arguments; none where they are malformed. -/
def textArgs (k : Nat) (args : List Nat) : Option TextCmd :=
  match k, args with
  | 0, [] => some .help
  | 1, [] => some .info
  | 2, [r] => some (.baud r)
  | 3, [] => some (.unlock none none)
  | 3, [n] => some (.unlock (some n) none)
  | 3, [n, r] => some (.unlock (some n) (some r))
  | 4, [] => some .lock
  | 5, [a] => some (.peek a 1)
  | 5, [a, n] => some (.peek a n)
  | 6, [a, v] => some (.poke a v)
  | 7, [] => some (.lanes 0 384)
  | 7, [f] => some (.lanes f (384 - f))
  | 7, [f, n] => some (.lanes f n)
  | 8, [l] => some (.eye l)
  | 9, [] => some .tally
  | 10, [] => some .canary
  | 11, [] => some (.log 16)
  | 11, [n] => some (.log n)
  | 12, [] => some .raw
  | _, _ => none

/-- Every word a number, or none. -/
def allNums : List (List Char) → Option (List Nat)
  | [] => some []
  | w :: t => match textNum w, allNums t with
    | some n, some l => some (n :: l)
    | _, _ => none

/-- Parse a line: the command, or the error code of Table 19.1. (DESIGN CHOICE, log entry 44) -/
def parseLine (line : List Char) : TextCmd ⊕ Nat :=
  if 255 < line.length then .inr 2
  else match lineWords line [] with
    | [] => .inr 1
    | w :: t =>
      if keywords.contains w then
        match allNums t with
        | none => .inr 2
        | some l => match textArgs (keywords.findIdx (· = w)) l with
          | some c => if textOk c then .inl c else .inr 2
          | none => .inr 2
      else .inr 1

/-! ## Commands -/

/-- An address or any register of a run of them lies in the DBG block. -/
def touchesDbg (a n : Nat) : Bool := (List.range n).any fun i => inDbg (a + 4 * i)

/-- The access level a command needs (Tables 19.2, 19.3). -/
def textLevel (t : TextCmd) : Nat :=
  match t with
  | .help => 0
  | .info => 0
  | .baud _ => 0
  | .unlock _ _ => 0
  | .lock => 0
  | .peek a n => if touchesDbg a n then 3 else 1
  | .poke a _ => if inDbg a then 3 else 2
  | .lanes _ _ => 1
  | .eye _ => 2
  | .tally => 1
  | .canary => 1
  | .log _ => 1
  | .raw => 2

/-- A received line restarts the idle time (R515). -/
def received (d : Device) : Device := { d with adit := { d.adit with lastRx := d.now } }

/-- A text command as the monitor takes it: while the firmware runs, in text mode, with well-formed arguments, at its level. -/
def monitor (t : TextCmd) (act : Device → Device) (d : Device) : Device :=
  if d.kme.running = false then d
  else
    let d := received d
    if d.adit.raw then d
    else if textOk t = false then sayErr 2 d
    else if d.adit.level < textLevel t then sayErr 3 d
    else act d

/-- help: the commands allowed at the level, one per line. -/
def commandLevels : List (String × Nat) :=
  [("help", 0), ("info", 0), ("baud", 0), ("unlock", 0), ("lock", 0), ("peek", 1), ("poke", 2), ("lanes", 1), ("eye", 2),
   ("tally", 1), ("canary", 1), ("log", 1), ("raw", 2)]
def doHelp (d : Device) : Device :=
  sayOk ((commandLevels.filter fun e => decide (e.2 ≤ d.adit.level)).map (·.1)) d

/-- Issue a packet of a text command as transport 5 (R513): answered BUSY_LOCKED under another's lock, dropped and counted while
the port's one place is taken (R383), else admitted now or held until the arbiter admits it. -/
def issueText (w : TextWait) (op : Nat) (params : List Byte) (f : Effect) (d : Device) : Device :=
  let s : Source := { transport := 5, inst := d.adit.level }
  let c : Cmd := { source := s, flags := 0, seq := d.adit.seq + 1, target := 0, param0 := 0, params := params }
  let body := natLe 2 op ++ [0, c.seq] ++ natLe 2 params.length ++ [0, 0] ++ natLe 4 0 ++ natLe 4 0 ++ params
  if lockedOut s d then sayStatus .busyLocked d
  else if holdingFull s d then
    sayErr 5 (kmeRaise 0x20 { d with kme := { d.kme with dropped := satAdd 0xFFFF d.kme.dropped 1 } })
  else
    let d := { d with adit := { d.adit with seq := c.seq, waiting := some w } }
    if mayAdmit op c d then runPacket op (f c) c d else frameArrival s (withCrc s body) d

def doInfo (d : Device) : Device := issueText .info 0x0101 [] sysInfo d

/-- baud: the new rate takes effect after the final line of the reply. -/
def doBaud (rate : Nat) (d : Device) : Device :=
  let d := sayOk [] d
  { d with adit := { d.adit with baud := rate } }

/-- The right response to a challenge (R509). -/
def unlockResponse (challenge level : Nat) (d : Device) : Nat :=
  (crc32c (natLe 4 challenge ++ natLe 8 d.glb.serial.toNat ++ natLe 1 level)).toNat

/-- unlock (R509): each challenge serves one attempt; the third wrong response bars unlocking. (DEDUCED, log entry 43) -/
def doUnlock (level : Option Nat) (response : Option Nat) (d : Device) : Device :=
  let a := d.adit
  if a.barredAt.isSome then sayErr 6 d
  else match level, response with
    | some n, some r =>
      let right : Bool := match a.challenge with
        | some c => decide (r = unlockResponse c n d)
        | none => false
      if right then sayOk [] { d with adit := { a with challenge := none, level := n } }
      else
        let wrong := a.wrong + 1
        sayErr 6 { d with adit := { a with challenge := none, wrong := wrong, barredAt := if 3 ≤ wrong then some d.now else none } }
    | some n, none => sayOk [] { d with adit := { a with level := n } }
    | none, _ =>
      let v := d.fresh (2 ^ 32)
      sayOk ["CHALLENGE " ++ hex32 v.1] { v.2 with adit := { a with challenge := some v.1 } }

def doLock (d : Device) : Device := sayOk [] { d with adit := { d.adit with level := 0 } }

/-- Read a run of registers, each as the manager reads it (R512). -/
def peekRun : Nat → Nat → Device → List String × Device
  | _, 0, d => ([], d)
  | a, k + 1, d =>
    match regRead a d with
    | none => ([], d)
    | some (v, e) =>
      let r := peekRun (a + 4) k e
      ((hex32 a ++ ": " ++ hex32 v) :: r.1, r.2)

/-- peek (R512): ERR 4 when an address of the run is unaligned or undefined. (DESIGN CHOICE, log entry 44) -/
def doPeek (addr count : Nat) (d : Device) : Device :=
  if (List.range count).all fun i => regDefined (addr + 4 * i) d then
    let r := peekRun addr count d
    sayOk r.1 r.2
  else sayErr 4 d

/-- poke (R512). -/
def doPoke (addr : Nat) (value : W32) (d : Device) : Device :=
  if regDefined addr d then sayOk [] (regWrite addr value d) else sayErr 4 d

/-- A rate code in GT/s or Gb/s. -/
def rateText (r : Nat) : String := ["0", "2.5", "5", "8", "16", "32", "64", "128"].getD r "0"
def modeText (m : Nat) : String := ["OFF", "PCIE", "PFL", "DIAG", "PARKED"].getD m "OFF"
def twoDigits (n : Nat) : String := (if n < 10 then "0" else "") ++ toString n

/-- One line of lanes, from the LN registers as they read (R511). -/
def laneLine (k : Nat) (d : Device) : String :=
  let st := (lnRead k 0 d).getD 0
  let ch := (lnRead k 0xC d).getD 0
  let il := ch % 256 * 25
  words ["LN" ++ toString k, modeText (st % 8), rateText (st / 16 % 8), (if bitOf st 8 then "LOCK" else "NOLOCK"),
         (if bitOf ch 27 then toString (il / 100) ++ "." ++ twoDigits (il % 100) else "-"), toString (ch / 256 % 2 ^ 14),
         toString (ch / 2 ^ 22 % 4), (if bitOf st 18 then "REC" else "ADP")]
def doLanes (first count : Nat) (d : Device) : Device := sayOk ((List.range count).map fun i => laneLine (first + i) d) d

/-- eye: a margin scan on the lane's second sampler; the margins are what it finds (R355, Table 12.16).
(DEDUCED, log entry 42) -/
def doEye (k : Nat) (d : Device) : Device :=
  let v := d.fresh (2 ^ 32)
  let x := d.lane k
  let line := words ["LN" ++ toString k, toString (v.1 % 256), toString (v.1 / 256 % 256), toString (2 * (v.1 / 65536 % 256)),
                     toString (2 * (v.1 / 2 ^ 24))]
  sayOk [line] (v.2.setLane k { x with eyeDone := true, eye := BitVec.ofNat 32 v.1, intStatus := x.intStatus ||| 2 })

/-- tally: the audit registers (Table 3.9). -/
def doTally (d : Device) : Device :=
  let x := d.xbr
  let first := if x.intStatus.getLsbD 0 then
      words ["FIRST", toString x.first.cell, toString x.first.port, toString x.first.queue, toString x.first.cls]
    else "FIRST NONE"
  sayOk ["PASSES " ++ toString x.passes.toNat, "LAST " ++ toString x.reclaimedLast, "TOTAL " ++ toString x.reclaimedTotal,
         "MISMATCH " ++ toString (natOfBool x.mismatch), first] d

/-- canary: grade, inputs, spares in use, MRAM wear (Table 16.11). -/
def doCanary (d : Device) : Device :=
  let c := d.can
  let inputs := (List.range 10).map fun i => words ["INPUT", toString i, "GRADE", toString (c.grades.getD i 0)]
  let spares := words ["SPARES", toString (sparesOf 0 d).used, toString (sparePanelWord d % 256), toString (sparesOf 9 d).used,
                       toString (shaftWord d % 64)]
  let wear := "MRAM " ++ toString (c.mramWear / 10) ++ "." ++ toString (c.mramWear % 10)
  sayOk (words ["GRADE", toString c.grade, "CAUSE", toString c.cause] :: inputs ++ [spares, wear]) d

/-- log: the newest records (R453, R511). -/
def doLog (count : Nat) (d : Device) : Device :=
  let first := (d.can.nextSeq + 2 ^ 32 - count) % 2 ^ 32
  issueText .log 0x0B02 (natLe 4 first ++ natLe 2 count ++ [0, 0]) mramLogRead d

/-- raw: OK is the last text sent (R511, R514). -/
def doRaw (d : Device) : Device :=
  let d := sayLines ["OK"] d
  { d with adit := { d.adit with raw := true } }

/-- The action of a command. (DESIGN CHOICE, log entry 44) -/
def textAct (t : TextCmd) (d : Device) : Device :=
  match t with
  | .help => doHelp d
  | .info => doInfo d
  | .baud r => doBaud r d
  | .unlock n r => doUnlock n r d
  | .lock => doLock d
  | .peek a n => doPeek a n d
  | .poke a v => doPoke a (BitVec.ofNat 32 v) d
  | .lanes f n => doLanes f n d
  | .eye k => doEye k d
  | .tally => doTally d
  | .canary => doCanary d
  | .log n => doLog n d
  | .raw => doRaw d

/-- A line on the adit port (R507): echoed, parsed and run; an empty line brings the prompt again. -/
def textLine (line : List Char) (d : Device) : Device :=
  if d.kme.running = false then d
  else
    let d := received d
    if d.adit.raw then d
    else
      let d := emit (.text (String.ofList line)) d
      if lineWords line [] = [] ∧ line.length ≤ 255 then prompt d
      else match parseLine line with
        | .inr e => sayErr e d
        | .inl t => monitor t (textAct t) d

def execAditTextLine (line : List Char) (s : State) : Host.Outcome State Fault Refusal := done s (textLine line s.dev)
def execHelp (s : State) : Host.Outcome State Fault Refusal := done s (monitor .help doHelp s.dev)
def execInfo (s : State) : Host.Outcome State Fault Refusal := done s (monitor .info doInfo s.dev)
def execBaud (rate : Nat) (s : State) : Host.Outcome State Fault Refusal := done s (monitor (.baud rate) (doBaud rate) s.dev)
def execUnlock (level : Option Nat) (response : Option Nat) (s : State) : Host.Outcome State Fault Refusal :=
  done s (monitor (.unlock level response) (doUnlock level response) s.dev)
def execLock (s : State) : Host.Outcome State Fault Refusal := done s (monitor .lock doLock s.dev)
def execPeek (addr : Nat) (count : Nat) (s : State) : Host.Outcome State Fault Refusal :=
  done s (monitor (.peek addr count) (doPeek addr count) s.dev)
def execPoke (addr : Nat) (value : W32) (s : State) : Host.Outcome State Fault Refusal :=
  done s (monitor (.poke addr value.toNat) (doPoke addr value) s.dev)
def execLanes (first : Nat) (count : Nat) (s : State) : Host.Outcome State Fault Refusal :=
  done s (monitor (.lanes first count) (doLanes first count) s.dev)
def execEye (lane : Nat) (s : State) : Host.Outcome State Fault Refusal := done s (monitor (.eye lane) (doEye lane) s.dev)
def execTally (s : State) : Host.Outcome State Fault Refusal := done s (monitor .tally doTally s.dev)
def execCanary (s : State) : Host.Outcome State Fault Refusal := done s (monitor .canary doCanary s.dev)
def execLog (count : Nat) (s : State) : Host.Outcome State Fault Refusal := done s (monitor (.log count) (doLog count) s.dev)
def execRaw (s : State) : Host.Outcome State Fault Refusal := done s (monitor .raw doRaw s.dev)

/-! ## Raw mode, breaks and time -/

/-- RAW_FRAME (R514): the bytes between the SLIP delimiters, unescaped; an empty frame returns to text mode. -/
def rawFrame (frame : List Byte) (d : Device) : Device :=
  if d.kme.running = false then d
  else
    let d := received d
    if d.adit.raw = false then d
    else match frame with
      | [] => prompt { d with adit := { d.adit with raw := false } }
      | _ => frameArrival { transport := 5, inst := d.adit.level } frame d

def execRawFrame (frame : List Byte) (s : State) : Host.Outcome State Fault Refusal := done s (rawFrame frame s.dev)

/-- ADIT_BREAK (R506, R510, R514). -/
def aditBreak (d : Device) : Device :=
  if d.kme.running = false then d
  else prompt { d with adit := { d.adit with raw := false, baud := 115200, level := 0 } }

def execAditBreak (s : State) : Host.Outcome State Fault Refusal := done s (aditBreak s.dev)

/-- ADIT_IDLE_TIMEOUT (R510). -/
def aditIdle (d : Device) : Device :=
  if d.adit.lastRx + 600 * secNs ≤ d.now then { d with adit := { d.adit with level := 0 } } else d

def execAditIdleTimeout (s : State) : Host.Outcome State Fault Refusal := done s (aditIdle s.dev)

/-- UNLOCK_BAR_EXPIRY (R509). -/
def unlockBarExpiry (d : Device) : Device :=
  match d.adit.barredAt with
  | none => d
  | some t => if t + 60 * secNs ≤ d.now then { d with adit := { d.adit with barredAt := none, wrong := 0 } } else d

def execUnlockBarExpiry (s : State) : Host.Outcome State Fault Refusal := done s (unlockBarExpiry s.dev)

end Sys2Proof.Machine
end

