-- ==== Sys2Proof/Machine/Snapshot.lean ====
section
/-! DEFINITION. Machine/Snapshot.lean: the configuration as a list of command packets (R490), and the commands of a replay. -/

namespace Sys2Proof.Machine

/-- A packet of a configuration list: SOURCE written as 0. -/
def packet (op target : Nat) (params : List Byte) : Nat × Cmd :=
  (op, { source := { transport := 0, inst := 0 }, flags := 0, seq := 0, target := BitVec.ofNat 32 target, param0 := 0, params := params })

/-- Parked lane dies. -/
def packDies (d : Device) : List (Nat × Cmd) :=
  ((List.range 4).filter fun i => d.clk.parked.getLsbD i).map fun i => packet 0x0102 0 (natLe 1 2 ++ natLe 1 i ++ natLe 6 0)

/-- The ports that a configuration lists: every port with a personality. -/
def packedPorts (d : Device) : List (Nat × Port) := d.ports.filter fun e => decide (e.2.personality ≠ .off) && portExists e.1 d

def packPort (n : Nat) (x : Port) : Nat × Cmd :=
  packet 0x0201 n (natLe 1 (personalityCode x.personality) ++ natLe 1 x.width ++ natLe 1 x.maxRate ++ natLe 1 (portFlags x))

def packBuf (n : Nat) (b : PortBuf) : Nat × Cmd :=
  packet 0x0207 n (natLe 2 b.minP ++ natLe 2 b.minNp ++ natLe 2 b.minCpl ++ natLe 1 0xFF ++ natLe 1 0 ++ natLe 4 b.alpha.toNat)

def packPfl (n : Nat) (x : Plk) : Nat × Cmd :=
  packet 0x0208 n (natLe 2 x.rxPool ++ natLe 2 (x.rxMin.getD 0 0) ++ natLe 2 (x.rxMin.getD 1 0) ++ natLe 2 (x.rxMin.getD 2 0) ++
    natLe 2 x.ackSetNs ++ natLe 2 x.idleEntryUs ++ natLe 2 x.restartMs ++ natLe 1 x.limit ++
    natLe 1 (natOfBool x.ackAdapt + 2 * natOfBool x.idleEn + 4))

def packPcie (n : Nat) (x : Pcie) : Nat × Cmd :=
  packet 0x0209 n (natLe 6 x.sbFunc.toNat ++ natLe 2 x.perstDelayNext ++ natLe 2 x.cplTimeoutMs ++ natLe 6 0)

/-- PORT_CONFIG, PORT_BUFFER_SET, PFL_LINK_SET and PORT_PCIE_SET of every port. -/
def packPorts (d : Device) : List (Nat × Cmd) :=
  let ps := packedPorts d
  ps.map (fun e => packPort e.1 e.2) ++ ((d.bufs.filter fun e => portExists e.1 d).map fun e => packBuf e.1 e.2) ++
  ((ps.filter fun e => decide (e.2.personality = .pfl)).map fun e => packPfl e.1 (d.pfl e.1)) ++
  ((ps.filter fun e => decide (e.2.personality = .usp) || decide (e.2.personality = .dsp)).map fun e => packPcie e.1 (d.pci e.1))

/-- SPW_CONFIG of every channel, SPW_ON of each that is on. -/
def packChannel (c : Nat) (x : Spw) : Nat × Cmd :=
  packet 0x0901 c (natLe 1 (natOfBool x.fitted + 2 * natOfBool x.warnEn) ++ natLe 1 x.feed ++ natLe 2 x.vCb ++ natLe 4 x.rsense ++
    natLe 4 x.faultUs ++ natLe 1 x.clRatio ++ natLe 1 x.ftRatio ++ natLe 1 x.rampRate ++ natLe 1 x.pgDrop ++ natLe 2 x.pgDelayUs ++
    natLe 2 x.uvTh ++ natLe 2 x.ovTh ++ natLe 2 x.warnTh ++ natLe 1 x.retryCount ++ natLe 1 x.retryDuty ++ natLe 2 x.retryMinMs ++
    natLe 2 x.avgMs ++ natLe 2 0)
def packSlots (d : Device) : List (Nat × Cmd) :=
  d.spw.map (fun e => packChannel e.1 e.2) ++
  ((d.spw.filter fun e => decide (e.2.state = .on)).map fun e => packet 0x0902 e.1 [])

/-- XBR_SET, ARB_SET, FAB_PARAM_SET, FAB_ROUTE_SET and the PRIORITY of FAB_TIME. -/
def packRoute (f : Nat) (r : FabRoute) : Nat × Cmd :=
  let ps := (r.paths.map fun x => natLe 1 x.port ++ natLe 1 x.weight).flatten
  packet 0x0601 f (natLe 1 (natOfBool r.adapt) ++ natLe 1 r.paths.length ++ natLe 2 0 ++ (ps ++ natLe 8 0).take 8 ++ natLe 4 0)
def packGlobals (d : Device) : List (Nat × Cmd) :=
  [ packet 0x0C01 0 (natLe 2 d.xbr.auditMs ++ natLe 2 d.xbr.maxresMs ++ natLe 1 d.xbr.lockTimeoutMs ++ natLe 3 0),
    packet 0x0C02 0 (natLe 2 d.kme.starveMs ++ natLe 2 d.kme.lockGap ++ natLe 2 d.kme.lockMaxMs ++ natLe 2 0),
    packet 0x0605 0 (natLe 2 d.fab.guardUs ++ natLe 2 d.fab.vlMap ++ natLe 4 0) ] ++
  ((d.fab.routes.filter fun e => !e.2.paths.isEmpty).map fun e => packRoute e.1 e.2) ++
  [packet 0x0604 0 (natLe 1 1 ++ natLe 1 d.fab.priority ++ natLe 14 0)]

/-- TLM_MAP_SET, and SHP_SET of KIND 0. -/
def packTlm (e : Nat) (x : TlmEntry) : Nat × Cmd :=
  let flags := natOfBool x.enable + 2 * natOfBool x.srcIpmb + 4 * natOfBool x.dstIpmb + 8 * natOfBool x.signed + 16 * natOfBool x.srcBe
  packet 0x0504 e (natLe 1 flags ++ natLe 1 x.shift ++ natLe 2 x.srcId ++ natLe 1 x.ipmbSa ++ natLe 1 x.ipmbNetfn ++ natLe 1 x.ipmbCmd ++
    natLe 1 x.matchOffset ++ natLe 1 x.matchValue ++ natLe 1 x.fieldByte ++ natLe 1 x.fieldLsb ++ natLe 1 x.fieldWidth ++
    intLe 4 x.m ++ intLe 4 x.b ++ natLe 2 x.dstId ++ natLe 1 x.dstSize ++ natLe 1 0 ++ natLe 4 x.maxAgeMs ++ natLe 4 0)
def packShape (n mask : Nat) (map : Bool) (g : Shape) (p : EPort) : Nat × Cmd :=
  packet 0x0801 n (natLe 1 0 ++ natLe 1 mask ++ natLe 1 (natOfBool g.shaped + 2 * natOfBool map) ++ natLe 1 p.overhead ++ natLe 4 g.cir ++
    natLe 4 g.pir ++ natLe 4 g.steep ++ natLe 2 g.cbs ++ natLe 2 g.pbs ++ natLe 2 g.smax ++ natLe 2 0 ++ natLe 4 p.tcMap.toNat ++ natLe 4 0)
def packShapes (d : Device) : List (Nat × Cmd) :=
  ((d.equeues.filter fun e => decide (e.2.cfg ≠ shapeReset)).map fun e =>
    packShape (e.1 / 8) (2 ^ (e.1 % 8)) false e.2.cfg (d.eport (e.1 / 8))) ++
  ((d.eports.filter fun e => decide (e.2.overhead ≠ 24) || decide (e.2.tcMap ≠ eportReset.tcMap)).map fun e =>
    packShape e.1 1 true (d.equeue e.1 0).cfg e.2)

/-- PART_CREATE, PART_BIND_PORT for ports of this device, RMA_POOL_SET and RMA_VF_CREATE. -/
def packParts (d : Device) : List (Nat × Cmd) :=
  let ps := d.parts.filter fun e => decide (e.1 ≠ 0)
  ps.map (fun e => packet 0x0301 0 (natLe 1 e.1 ++
    natLe 1 (natOfBool e.2.fabric + 2 * natOfBool e.2.vfSteered + 4 * natOfBool e.2.rmaP2p) ++ natLe 1 e.2.dsbCount ++ natLe 1 0 ++
    natLe 4 e.2.actEntries)) ++
  ((d.ports.filter fun e => decide (e.2.holder ≠ 0) && portExists e.1 d).map fun e =>
    packet 0x0304 e.2.holder (natLe 1 e.1 ++ natLe 1 d.glb.fid ++ natLe 1 (e.2.bridge.getD 0xFF) ++ natLe 1 0)) ++
  (d.pools.map fun e => packet 0x0703 e.1 (natLe 4 e.2.ctxLimit ++ natLe 4 e.2.regLimit ++ natLe 4 e.2.pageLimit)) ++
  (d.vfPart.map fun e => packet 0x0701 e.2 [])

/-- Runs of entries with consecutive indexes, at most 169 each: first index and entries, the last run first in each step. -/
def entryRuns : List (Nat × ActEntry) → List (Nat × List ActEntry)
  | [] => []
  | (k, e) :: t => match entryRuns t with
    | [] => [(k, [e])]
    | (j, l) :: rest => if j = k + 1 ∧ l.length < 169 then (k, e :: l) :: rest else (k, [e]) :: (j, l) :: rest

def actBytes (e : ActEntry) : List Byte :=
  natLe 8 e.base ++ natLe 8 e.limit ++ natLe 2 e.rid ++ natLe 2 e.ridMask ++ natLe 1 e.rights ++ natLe 3 0

/-- The entries and the enable state of a segment. -/
def packSegment (p : Nat) (g : Seg) : List (Nat × Cmd) :=
  let es := g.entries.filterMap fun e => e.2.map fun x => (e.1, x)
  (entryRuns es).map (fun r => packet 0x0402 p (natLe 4 r.1 ++ natLe 2 r.2.length ++ natLe 2 0 ++ (r.2.map actBytes).flatten)) ++
  (if g.state = .enabled then [packet 0x0403 p (natLe 2 g.vector ++ natLe 2 0)] else [])

def packWindow (w : Nat) (x : Window) : Nat × Cmd :=
  packet 0x0501 0 (natLe 2 w ++ natLe 1 x.srcPart ++ natLe 1 x.dstPart ++ natLe 8 x.srcOffset ++ natLe 8 x.size ++ natLe 8 x.dstBase ++
    natLe 1 (x.mode + 4 * x.unit) ++ natLe 1 (natOfBool x.read + 2 * natOfBool x.write + 4 * natOfBool x.doorbell) ++
    natLe 1 x.maxPayload ++ natLe 1 0 ++ natLe 2 x.errVector ++ natLe 2 x.dbVector ++ natLe 2 x.cplTimeoutMs ++ natLe 10 0)

/-- The packet list of a snapshot, in the order of R490. (DESIGN CHOICE, log entry 51) -/
def snapshotPackets (d : Device) : List (Nat × Cmd) :=
  packDies d ++ packPorts d ++ packSlots d ++ packGlobals d ++ (d.tlm.map fun e => packTlm e.1 e.2) ++ packShapes d ++ packParts d ++
  (d.segs.map fun e => packSegment e.1 e.2).flatten ++
  ((d.windows.filter fun e => e.2.valid).map fun e => packWindow e.1 e.2)

/-- BYTES of a packet list: each packet as in Table 14.1. -/
def listBytes (l : List (Nat × Cmd)) : Nat := (l.map fun e => 16 + e.2.params.length).foldl (· + ·) 0

/-- Read a packet list of a given number of packets (Table 14.1). -/
def readPackets : Nat → List Byte → List (Nat × Cmd)
  | 0, _ => []
  | k + 1, b =>
    if b.length < 16 then []
    else
      let n := u16 b 4
      let p := packetOf { transport := 0, inst := 0 } (b.take (16 + n))
      (p.op, p.cmd) :: readPackets k (b.drop (16 + n))

/-- The list of a snapshot or a default configuration list; empty where MAGIC or the closing CRC-32C does not match. -/
def readList (b : List Byte) : List (Nat × Cmd) :=
  let n := u32 b 24
  let body := b.take (32 + n)
  if u32 b 0 = 0x4D485350 ∧ u32 b (32 + n) = (crc32c body).toNat ∧ 36 + n ≤ b.length then readPackets (u32 b 20) (body.drop 32) else []

end Sys2Proof.Machine
end

