-- ==== Sys2Proof/Machine/Boot.lean ====
section
/-! DEFINITION. Machine/Boot.lean: clocks, boot, resets, snapshots, firmware, boundary scan (chapter 18, R522, R523). -/

namespace Sys2Proof.Machine

/-! ## The root clock -/

/-- Both inputs are lost (R479): the MAIN PLL holds over, every port suffers link loss. -/
def bothLost (d : Device) : Device :=
  let d := clkRaise 2 { d with clk := { d.clk with aValid := false, bValid := false, holdover := true } }
  (List.range 96).foldl (fun d n => if (d.port n).personality = .pfl then pflDown n 10 d else linkLoss n d) d

/-- REFCLK_LOSS (R478): the active input is lost, and the other taken when it is valid. -/
def refclkLoss (d : Device) : Device :=
  let c := d.clk
  let active := if c.activeB then c.bValid else c.aValid
  let other := if c.activeB then c.aValid else c.bValid
  if c.phase = .held ∨ active = false then d
  else if other then refclkSwitch { d with clk := if c.activeB then { c with bValid := false } else { c with aValid := false } }
  else bothLost d

def execRefclkLoss (s : State) : Host.Outcome State Fault Refusal := done s (refclkLoss s.dev)

/-- REFCLK_BOTH_LOST (R479). -/
def refclkBothLost (d : Device) : Device := if d.clk.phase = .held ∨ d.clk.holdover then d else bothLost d

def execRefclkBothLost (s : State) : Host.Outcome State Fault Refusal := done s (refclkBothLost s.dev)

/-- REFCLK_RECOVERY (R479): an input has been valid for 1 ms; it is the root, and the ports train again. -/
def refclkRecovery (inputB : Bool) (d : Device) : Device :=
  let c := d.clk
  if c.holdover then
    let moved := decide (c.activeB ≠ inputB)
    let c := { c with holdover := false, activeB := inputB, aValid := c.aValid || !inputB, bValid := c.bValid || inputB }
    let d := { d with clk := c }
    let d := if moved then
        blackBoxRecord 6 0 0 [] (clkRaise 1 { d with clk := { c with switches := satAdd 0xFFFF c.switches 1 } })
      else d
    (List.range 96).foldl (fun d n =>
      if (d.port n).personality = .pfl ∧ (d.port n).enabled ∧ (d.pfl n).state = .down then pflTrain n d else d) d
  else d

def execRefclkRecovery (inputB : Bool) (s : State) : Host.Outcome State Fault Refusal := done s (refclkRecovery inputB s.dev)

/-- INACTIVE_REFCLK_CHANGE (R477). -/
def inactiveRefclk (valid : Bool) (d : Device) : Device :=
  let c := d.clk
  { d with clk := if c.activeB then { c with aValid := valid } else { c with bValid := valid } }

def execInactiveRefclkChange (valid : Bool) (s : State) : Host.Outcome State Fault Refusal := done s (inactiveRefclk valid s.dev)

/-! ## Images -/

/-- The header of an image is good: MAGIC and HDR_CRC (Table 18.3). -/
def headerGood (b : List Byte) : Bool := decide (u32 b 0 = 0x4D483936) && decide (u32 b 60 = (crc32c (b.take 60)).toNat)

/-- The image is valid (R486). -/
def imageValid (b : List Byte) : Bool :=
  headerGood b && decide (u32 b 8 ≤ 2 ^ 20) && decide (64 + u32 b 8 ≤ b.length) &&
    decide (u32 b 12 = (crc32c ((b.drop 64).take (u32 b 8))).toNat)

/-- The default configuration list of an image (R485, R490). -/
def imageDefaults (b : List Byte) : List (Nat × Cmd) := readList ((b.drop (u32 b 24)).take (u32 b 28))

/-- The firmware of a slot is loaded and starts; `starts` says whether it sets RUNNING (R486, R487). -/
def runImage (slotB : Bool) (b : List Byte) (starts : Bool) (d : Device) : Device :=
  let c := { d.clk with imageB := slotB, phase := .loaded, loadedAt := d.now, defaults := imageDefaults b }
  let k := { d.kme with running := starts, imageB := slotB, fallback := c.fallback || c.watchdog, clk100 := true }
  { d with clk := c, kme := k, glb := { d.glb with fwLevel := BitVec.ofNat 32 (u32 b 4) } }

/-- The boot ROM loads a slot, or the other when it is not valid (R486). -/
def bootFrom (slotB : Bool) (a b : List Byte) (starts : Bool) (d : Device) : Device :=
  let first := if slotB then b else a
  let second := if slotB then a else b
  if imageValid first then runImage slotB first starts d
  else if imageValid second then
    runImage (!slotB) second starts (clkRaise 8 { d with clk := { d.clk with fallback := true } })
  else
    let d := blackBoxRecord 10 0 d.clk.cause [] { d with clk := { d.clk with phase := .noImage, loadedAt := d.now } }
    { d with can := { d.can with fault := true } }

/-- The slot the ROM tries first: the ACTIVE one, unless it is marked failed and the other is not (R486, R487). -/
def preferredSlot (d : Device) : Bool :=
  let r := d.bootRecord
  if (if r.activeB then r.failedB else r.failedA) && !(if r.activeB then r.failedA else r.failedB) then !r.activeB else r.activeB

/-- IMAGE_LOAD (R486): the operands are the two images as the ROM reads them from the flash. (DEDUCED, log entry 52) -/
def imageLoad (a b : List Byte) (starts : Bool) (d : Device) : Device :=
  if d.clk.phase = .rom then bootFrom (preferredSlot d) a b starts d else d

def execImageLoad (a : List Byte) (b : List Byte) (starts : Bool) (s : State) : Host.Outcome State Fault Refusal :=
  done s (imageLoad a b starts s.dev)

/-- IMAGE_RETRY (R486): every 1 s. -/
def imageRetry (a b : List Byte) (starts : Bool) (d : Device) : Device :=
  if d.clk.phase = .noImage ∧ d.clk.loadedAt + secNs ≤ d.now then bootFrom (preferredSlot d) a b starts d else d

def execImageRetry (a : List Byte) (b : List Byte) (starts : Bool) (s : State) : Host.Outcome State Fault Refusal :=
  done s (imageRetry a b starts s.dev)

/-- FIRMWARE_WATCHDOG (R487): 500 ms without RUNNING; the image is marked failed and the other boots. -/
def firmwareWatchdog (a b : List Byte) (starts : Bool) (d : Device) : Device :=
  let c := d.clk
  if c.phase = .loaded ∧ d.kme.running = false ∧ c.loadedAt + 500 * msNs ≤ d.now then
    let r := if c.imageB then { d.bootRecord with failedB := true } else { d.bootRecord with failedA := true }
    bootFrom (!c.imageB) a b starts (clkRaise 8 { d with bootRecord := r, clk := { c with watchdog := true } })
  else d

def execFirmwareWatchdog (a : List Byte) (b : List Byte) (starts : Bool) (s : State) : Host.Outcome State Fault Refusal :=
  done s (firmwareWatchdog a b starts s.dev)

/-- MAIN_PLL_LOCK (R480): device time starts. -/
def mainPllLock (d : Device) : Device :=
  if d.clk.phase = .loaded ∧ d.kme.running then
    { d with clk := { d.clk with mainLock := true, phase := .locked }, kme := { d.kme with clk100 := false } }
  else d

def execMainPllLock (s : State) : Host.Outcome State Fault Refusal := done s (mainPllLock s.dev)

/-! ## SYS_RESET and lane-die parking -/

/-- Act on a tenant partition as PART_QUIESCE with a timeout does (R495). -/
def drainPart (ms : Nat) (d : Device) (p : Nat) : Device :=
  let x := d.part p
  match x.state with
  | .active =>
    let d := d.setPart p { x with state := .quiescing, quiesceReq := true, quiesceSince := d.now, quiesceTimeoutMs := ms }
    if inFlight p d = 0 then d.setPart p { d.part p with state := .quiesced } else d
  | .resetting => d.setPart p { x with quiesceReq := true }
  | _ => d

/-- Every unit of a lane die is OFF (R20). -/
def dieOff (die : Nat) (d : Device) : Bool :=
  (List.range 24).all fun i => decide ((d.port (ownerOf (24 * die + i) d)).personality = .off)

/-- Park or unpark a lane die (R498). -/
def setParked (die : Nat) (on : Bool) (d : Device) : Device :=
  let bit := BitVec.ofNat 4 (2 ^ die)
  { d with clk := { d.clk with parked := if on then d.clk.parked ||| bit else d.clk.parked &&& ~~~ bit } }

/-- SYS_RESET (R498, R500). (DEDUCED, log entry 50) -/
def sysReset (c : Cmd) (d : Device) : Device × Option Ans :=
  let p := c.params
  let op := u8 p 0
  let die := u8 p 1
  let ms := u16 p 2
  checked
    [ failIf (decide (p.length ≠ 8)) (ansLen 8), headerZero c, failIf (decide (3 < op)) (ansBad 0),
      failIf (if 2 ≤ op then decide (3 < die) else decide (die ≠ 0)) (ansBad 1),
      failIf (if 2 ≤ op then decide (ms ≠ 0) else decide (1000 < ms)) (ansBad 2), failIf (!zeros p 4 4) (ansBad 4),
      failIf (decide (op = 2) && !dieOff die d) ansNo ] (fun d =>
    if 2 ≤ op then (setParked die (decide (op = 2)) d, some (ansOk (natLe 8 d.devTime.toNat)))
    else
      let d := if ms = 0 then d else (d.parts.filter fun e => decide (e.1 ≠ 0)).foldl (fun d e => drainPart ms d e.1) d
      if ms = 0 ∨ (d.parts.all fun e => decide (e.1 = 0) || partDrained e.2) = true then
        let plan : ResetPlan := { cold := decide (op = 1), at_ := d.now + 10 * usNs }
        ({ d with clk := { d.clk with resetPlan := some plan } }, some (ansOk (natLe 8 (d.devTime.toNat + 10 * usNs))))
      else (markApplied 0x0102 c d, none)) d

def execSysReset (c : Cmd) (s : State) : Host.Outcome State Fault Refusal := done s (runPacket 0x0102 (sysReset c) c s.dev)

/-! ## Cold reset -/

/-- Everything outside MRAM and flash returns to its reset value (R494): the black box, equalization records, snapshots, repair
maps, the boot record, persisted canary inputs and wear stay (Table 18.4); every channel's gate goes off (R428).
(DESIGN CHOICE, log entry 5; DEDUCED, log entry 50) -/
def coldReset (cause : Nat) (d : Device) : Device :=
  let d := abortAll d
  let d := d.spw.foldl (fun d e => if spwActive e.2.state then emit (.gate e.1 0) d else d) d
  let d := blackBoxRecord 10 0 cause [d.items.length] { d with can := { d.can with boots := wrapAdd 32 d.can.boots 1 } }
  let c := d.can
  let kept := { canReset with spares := c.spares, retired := c.retired, shafts := c.shafts, mramWear := c.mramWear,
                              mramRetired := c.mramRetired, restarts := c.restarts, fatalTimes := c.fatalTimes,
                              nextSeq := c.nextSeq, boots := c.boots }
  let r := Device.reset
  { r with now := d.now, freeCount := d.freeCount, out := d.out, glb := { r.glb with serial := d.glb.serial },
           clk := { r.clk with cause := cause }, snapshots := d.snapshots, bootRecord := d.bootRecord, blackBox := d.blackBox,
           eqRecords := d.eqRecords, feeds := d.feeds, can := kept, jtag := d.jtag }

/-- The value that two of three samples have, bit by bit (R521). -/
def majority (a b c : Nat) : Nat := (a &&& b) ||| (b &&& c) ||| (a &&& c)
def strapsOf (x : Straps) : StrapSample :=
  { fid := majority x.first.fid x.second.fid x.third.fid, smbAddr := majority x.first.smbAddr x.second.smbAddr x.third.smbAddr,
    mgrPort := majority x.first.mgrPort x.second.mgrPort x.third.mgrPort, boot := majority x.first.boot x.second.boot x.third.boot }

/-- The straps are sampled and the boot ROM runs (R477, R483). -/
def sampleStraps (x : Straps) (d : Device) : Device :=
  let y := strapsOf x
  let c := { d.clk with aValid := x.aValid, bValid := x.bValid, activeB := !x.aValid && x.bValid, phase := .rom, releasedAt := d.now,
                        strapIgnoreSnapshot := bitOf y.boot 0, strapPerstWarm := bitOf y.boot 1 }
  { d with clk := c, glb := { d.glb with fid := y.fid % 32, smbAddrStrap := y.smbAddr % 8, mgrPort := y.mgrPort % 128 } }

/-- POR_N_LOW (R482): POR_N held low for 10 µs, or VDD_AUX below 90 %. -/
def execPorNLow (vdd : Bool) (s : State) : Host.Outcome State Fault Refusal :=
  let d := s.dev
  done s (if d.clk.phase = .held then d else coldReset (if vdd then 5 else 1) d)

/-- POR_N_RELEASE (R483). -/
def execPorNRelease (straps : Straps) (s : State) : Host.Outcome State Fault Refusal :=
  let d := s.dev
  done s (if d.clk.phase = .held then sampleStraps straps d else d)

/-- A reset that SYS_RESET asked for is due. -/
def resetDue (cold : Bool) (d : Device) : Bool :=
  match d.clk.resetPlan with
  | some r => decide (r.cold = cold) && decide (r.at_ ≤ d.now)
  | none => false

/-- COLD_RESET (R494): boot goes on from step 1 of Table 18.5, with the straps sampled again. (DEDUCED, log entry 50) -/
def execColdReset (straps : Straps) (s : State) : Host.Outcome State Fault Refusal :=
  let d := s.dev
  done s (if resetDue true d then sampleStraps straps (coldReset 2 d) else d)

/-! ## Warm reset -/

/-- A port's block after a warm reset: what its pins show stays. -/
def pcieWarm (x : Pcie) : Pcie :=
  { pcieReset with sbLevel := x.sbLevel, prsnt := x.prsnt, clkreq := x.clkreq, perstIn := x.perstIn,
                   perstInReleasedAt := x.perstInReleasedAt }

/-- The staged image of the slot that the boot record names runs from this reset on (R496, R502). -/
def activateStaged (d : Device) : Device :=
  match d.clk.staged with
  | some f =>
    if f.slotB = d.bootRecord.activeB ∧ d.clk.imageB ≠ f.slotB then
      { d with clk := { d.clk with imageB := f.slotB, defaults := f.defaults, staged := none }, kme := { d.kme with imageB := f.slotB },
               glb := { d.glb with fwLevel := f.fwLevel } }
    else d
  | none => d

/-- Ports, links, lanes, items and what is counted for them (Table 18.6, R462, R294, R555). -/
def warmPorts (d : Device) : Device :=
  let x := { d.xbr with enabled := false, running := false, passDue := false, lastStart := none, lost := [], voqLast := [] }
  let k := { d.cnt with lastWritten := none, lastBlocks := [], tags := [], tagOwed := [] }
  let path := fun (p : FabPath) => { p with withdrawn := false, samples := [] }
  let route := fun (r : FabRoute) => { r with sampled := 0, buckets := [], deal := [], died := [], paths := r.paths.map path }
  let f := { d.fab with relays := [], sentPosted := [], advDue := true, routes := d.fab.routes.map fun e => (e.1, route e.2) }
  { d with ports := [], bufs := [], locks := [],
           pcie := (d.pcie.map fun e => (e.1, pcieWarm e.2)).filter (fun e => decide (e.2 ≠ pcieReset)),
           plk := (d.plk.map fun e => (e.1, plkCounters e.2)).filter (fun e => decide (e.2 ≠ plkReset)), lanes := [],
             clockPairs := [], items := [], issued := [], tracks := [], equeues := [], eports := [], counters := [], sriov := [],
           xbr := x, cnt := k, fab := f }

/-- Tenant partitions and everything they hold. -/
def warmParts (d : Device) : Device :=
  { d with parts := [(0, { partZero with blockedCfg := (d.part 0).blockedCfg })],
           steers := [], homeSteers := [], remotes := [], windows := [], dbWaits := [],
           segs := (d.segs.map fun e => (e.1, { segReset with epoch := e.2.epoch })).filter (fun e => decide (e.2 ≠ segReset)),
           bridges := d.bridges.filter (fun e => decide (e.1 / 256 = 0)), journals := d.journals.filter (fun e => decide (e.1 = 0)),
           funcs := d.funcs.filter (fun e => decide (e.1 = 0)), msix := d.msix.filter (fun e => decide (e.1 < 2048)),
           ats := [], invals := [], invalWaits := [], atsAsks := [], vfPart := [], vfIndex := [], qps := [], cqs := [], regions := [], dbPages := [],
           pools := [], missWait := [],
           rma := { d.rma with ctxBase := 0, regBase := 0, ctxCount := 0, regCount := 0, uses := 0 } }

/-- Mailbox registers return to their reset values; the areas are not cleared (R390). -/
def warmMailboxes (d : Device) : Device :=
  { d with mbx := (d.mbx.map fun e => (e.1, { mbxReset with mem := e.2.mem })).filter (fun e => decide (e.2 ≠ mbxReset)) }

/-- A warm reset (R494–R496): everything that the row of Table 18.6 names, and nothing else; the configuration is replayed next.
(DEDUCED, log entry 50) -/
def warmReset (cause : Nat) (d : Device) : Device :=
  let d := blackBoxRecord 10 0 cause [d.items.length] (kmeRestart d)
  let d := activateStaged (warmMailboxes (warmParts (warmPorts (managerReset d))))
  let d := electMaster d
  { d with clk := { d.clk with phase := .locked, cause := cause, warmCount := satAdd 0xFFFF d.clk.warmCount 1, resetPlan := none,
                               releasedAt := d.now } }

/-- WARM_RESET (R494): the one that SYS_RESET asked for. (DEDUCED, log entry 50) -/
def execWarmReset (s : State) : Host.Outcome State Fault Refusal :=
  let d := s.dev
  done s (if resetDue false d then warmReset 3 d else d)

/-- PERST_N_IN (R319, R497, R504). -/
def perstNIn (n : Nat) (d : Device) : Device :=
  let x := d.port n
  let d' := d.setPci n { d.pci n with perstIn := true }
  if x.personality ≠ .usp ∨ (pinOf n 2 d).isNone ∨ (d.pci n).perstIn then d
  else if n = d.glb.mgrPort ∧ x.holder = 0 then
    if d.clk.strapPerstWarm then warmReset 4 d' else pcieDown n .detect (managerReset d')
  else if x.holder = 0 then d'
  else pcieDown n .detect (hostReset x.holder d')

def execPerstNIn (port : Nat) (s : State) : Host.Outcome State Fault Refusal := done s (perstNIn port s.dev)

/-- PERST_N_IN_RELEASE (R493). -/
def perstNInRelease (n : Nat) (d : Device) : Device :=
  let x := d.pci n
  if x.perstIn then
    let d := d.setPci n { x with perstIn := false, perstInReleasedAt := d.now }
    if (d.port n).personality = .usp then pcieStart n d else d
  else d

def execPerstNInRelease (port : Nat) (s : State) : Host.Outcome State Fault Refusal := done s (perstNInRelease port s.dev)

/-! ## Replay -/

/-- The effect of an opcode that a configuration list may hold. -/
def effectOf (op : Nat) : Option Effect :=
  match op with
  | 0x0101 => some sysInfo
  | 0x0102 => some sysReset
  | 0x0103 => some sysHealth
  | 0x0201 => some portConfig
  | 0x0202 => some portStatus
  | 0x0203 => some portRetrain
  | 0x0204 => some portDisable
  | 0x0205 => some laneTest
  | 0x0206 => some chanMeasure
  | 0x0207 => some portBufferSet
  | 0x0208 => some pflLinkSet
  | 0x0209 => some portPcieSet
  | 0x0301 => some partCreate
  | 0x0302 => some partDestroy
  | 0x0303 => some partQuiesce
  | 0x0304 => some partBindPort
  | 0x0305 => some partBindVf
  | 0x0306 => some partReset
  | 0x0401 => some actDisable
  | 0x0402 => some actWrite
  | 0x0403 => some actEnable
  | 0x0404 => some actRead
  | 0x0501 => some ntwSet
  | 0x0502 => some ntwClear
  | 0x0503 => some ntwStatus
  | 0x0504 => some tlmMapSet
  | 0x0601 => some fabRouteSet
  | 0x0602 => some fabTopology
  | 0x0603 => some fabJournalSet
  | 0x0604 => some fabTime
  | 0x0605 => some fabParamSet
  | 0x0701 => some rmaVfCreate
  | 0x0702 => some rmaVfDestroy
  | 0x0703 => some rmaPoolSet
  | 0x0704 => some rmaBackingSet
  | 0x0705 => some ctxZero
  | 0x0801 => some shpSet
  | 0x0802 => some shpSampleSet
  | 0x0901 => some spwConfig
  | 0x0902 => some spwOn
  | 0x0903 => some spwOff
  | 0x0904 => some spwRead
  | 0x0A01 => some cntProgram
  | 0x0A02 => some cntDumpSet
  | 0x0A03 => some tagSet
  | 0x0B02 => some mramLogRead
  | 0x0C01 => some xbrSet
  | 0x0C02 => some arbSet
  | _ => none

/-- A replayed command that is refused: skipped, counted and flagged (R491). -/
def replayRefused (d : Device) : Device :=
  clkRaise 4 { d with clk := { d.clk with replayErr := satAdd 0xFFFF d.clk.replayErr 1 } }

/-- Replay one packet through transport 7. -/
def replayOne (d : Device) (e : Nat × Cmd) : Device :=
  let c := { e.2 with source := { transport := 7, inst := 0 } }
  match commandChecks e.1 c d, effectOf e.1 with
  | none, some f =>
    match f c d with
    | (d', some a) => if a.status = .ok ∨ a.status = .doneDegraded then d' else replayRefused d'
    | (d', none) => d'
  | _, _ => replayRefused d

/-- The later of two SAVE_SEQ values (R489): the first is ahead of the second by less than 2^31. -/
def laterSeq (a b : Nat) : Bool := decide (a ≠ b) && decide ((a + 2 ^ 32 - b) % 2 ^ 32 < 2 ^ 31)

/-- The configuration source (R489): 1 + the snapshot copy, 0 the running image's default list. -/
def configSource (d : Device) : Nat :=
  let ok := fun (k : Nat) =>
    let x := tget snapshotNone d.snapshots k
    x.valid && decide (x.fwLevel / 2 ^ 24 = d.glb.fwLevel.toNat / 2 ^ 24)
  if d.clk.strapIgnoreSnapshot then 0
  else if ok 0 && ok 1 then
    if laterSeq (tget snapshotNone d.snapshots 1).saveSeq (tget snapshotNone d.snapshots 0).saveSeq then 2 else 1
  else if ok 0 then 1
  else if ok 1 then 2
  else 0

def configList (d : Device) : List (Nat × Cmd) :=
  let k := configSource d
  if k = 0 then d.clk.defaults else (tget snapshotNone d.snapshots (k - 1)).packets

/-- CONFIGURATION_REPLAY (R491, R492): the memories are initialised and the buffer enabled by then.
(DESIGN CHOICE, log entry 51; DEDUCED, log entry 52) -/
def configurationReplay (d : Device) : Device :=
  if d.clk.phase = .locked ∧ d.kme.running then
    let l := configList d
    let d := { d with clk := { d.clk with cfgSrc := configSource d }, xbr := { d.xbr with enabled := true, enabledAt := d.now } }
    let d := l.foldl replayOne d
    { d with clk := { d.clk with phase := .ready, readyUs := min ((d.now - d.clk.releasedAt) / usNs) 0xFFFFF } }
  else d

def execConfigurationReplay (s : State) : Host.Outcome State Fault Refusal := done s (configurationReplay s.dev)

/-! ## Snapshots and firmware -/

/-- The copy that a save writes over (R501): an invalid one, else the one whose SAVE_SEQ is not the later. -/
def saveCopy (d : Device) : Nat :=
  let a := tget snapshotNone d.snapshots 0
  let b := tget snapshotNone d.snapshots 1
  if a.valid = false then 0 else if b.valid = false then 1 else if laterSeq b.saveSeq a.saveSeq then 0 else 1

/-- SYS_SNAPSHOT_SAVE (R490, R501): LONG; the copy becomes valid when its write has ended. (DESIGN CHOICE, log entry 51) -/
def sysSnapshotSave (c : Cmd) (d : Device) : Device × Option Ans :=
  let p := c.params
  let l := snapshotPackets d
  let erase := bitOf (u8 p 0) 0
  checked
    [ failIf (decide (p.length ≠ 4)) (ansLen 4), headerZero c, failIf (decide (2 ≤ u8 p 0)) (ansBad 0), failIf (!zeros p 1 3) (ansBad 1),
      failIf (!erase && decide (2 ^ 20 < 36 + listBytes l)) (ansPool 12) ] (fun d =>
    if erase then
      let d := { d with snapshots := d.snapshots.map (fun e => (e.1, { e.2 with valid := false })) }
      (setReported 0x0104 c 2 (acceptLong 0x0104 c (markApplied 0x0104 c d)), none)
    else
      let k := saveCopy d
      let other := tget snapshotNone d.snapshots (1 - k)
      let x : Snapshot := { valid := false, fwLevel := d.glb.fwLevel.toNat,
                            saveSeq := if other.valid then wrapAdd 32 other.saveSeq 1 else 1, time := d.devTime.toNat, packets := l }
      (setReported 0x0104 c k (acceptLong 0x0104 c { d with snapshots := tinsert k x d.snapshots }), none)) d

def execSysSnapshotSave (c : Cmd) (s : State) : Host.Outcome State Fault Refusal :=
  done s (runPacket 0x0104 (sysSnapshotSave c) c s.dev)

/-- The end of a save: the copy is valid; COPY and BYTES of an erasure are not stated. (DESIGN CHOICE, log entry 51) -/
def snapshotSaved (e : Exec) (d : Device) : Device :=
  if e.reported = 2 then
    let a := d.fresh 256
    let b := a.2.fresh (2 ^ 32)
    finishExec e (ansOk (natLe 1 a.1 ++ natLe 3 0 ++ natLe 4 b.1)) b.2
  else
    let x := tget snapshotNone d.snapshots e.reported
    let d := { d with snapshots := tinsert e.reported { x with valid := true } d.snapshots }
    finishExec e (ansOk (natLe 1 e.reported ++ natLe 3 0 ++ natLe 4 (listBytes x.packets))) d

/-- The slot that FW_UPDATE names (Table 18.8). -/
def fwSlot (slot : Nat) (d : Device) : Bool := if slot = 0 then !d.clk.imageB else decide (slot = 2)

/-- FW_UPDATE (R502): LONG; `image` is what the S96 reads from the manager's memory, shorter than SIZE when the read does not
complete. (DEDUCED, log entry 17; DEDUCED, log entry 52) -/
def fwUpdate (image : List Byte) (c : Cmd) (d : Device) : Device × Option Ans :=
  let p := c.params
  let size := u32 p 8
  let slotB := fwSlot (u8 p 12) d
  checked
    [ failIf (decide (p.length ≠ 24)) (ansLen 24), headerZero c, failIf (decide (u64 p 0 % 4096 ≠ 0)) (ansBad 0),
      failIf (decide (size < 64) || decide (2 ^ 24 < size)) (ansBad 8), failIf (decide (2 < u8 p 12)) (ansBad 12),
      failIf (decide (4 ≤ u8 p 13)) (ansBad 13), failIf (!zeros p 14 10) (ansBad 14),
      failIf (decide (64 ≤ image.length) && (!headerGood image || decide (u32 image 16 ≠ size))) (ansBad 0),
      failIf (decide (slotB = d.clk.imageB)) ansNo ] (fun d =>
    let d := emit (.hostRead ((uspOf 0 d).getD 0x7F) (u64 p 0) size) d
    if image.length < size then (acceptLong 0x0B01 c { d with clk := { d.clk with staged := none } }, none)
    else
      let body := image.take size
      let good := decide (u32 body 20 = (crc32c (body.drop 64)).toNat)
      let f : FwStage := { slotB := slotB, fwLevel := BitVec.ofNat 32 (u32 body 4), defaults := imageDefaults body, good := good }
      let d := emit (.flashWrite slotB body) { d with clk := { d.clk with staged := some f } }
      (acceptLong 0x0B01 c d, none)) d

def execFwUpdate (c : Cmd) (image : List Byte) (s : State) : Host.Outcome State Fault Refusal :=
  done s (runPacket 0x0B01 (fwUpdate image c) c s.dev)

/-- FW_UPDATE ends with TIMEOUT, and its slot is left invalid (R502). -/
def fwFailed (e : Exec) (detail : Nat) (d : Device) : Device :=
  let d := emit (.flashWrite (fwSlot (u8 e.cmd.params 12) d) []) { d with clk := { d.clk with staged := none } }
  finishExec e { status := .timeout, detail := detail, result := [] } d

/-- The KME restarts on the staged code (R390, R502); the command itself is not aborted. -/
def fwActivateNow (e : Exec) (f : FwStage) (d : Device) : Device :=
  let d := kmeRestart { d with kme := { d.kme with execs := d.kme.execs.erase e } }
  { d with kme := { d.kme with execs := [e], imageB := f.slotB }, glb := { d.glb with fwLevel := f.fwLevel },
           clk := { d.clk with imageB := f.slotB, defaults := f.defaults, staged := none } }

/-- FW_UPDATE ends: 1 the host read did not complete, 2 the slot did not verify, else the slot holds the image (R502).
(DEDUCED, log entry 52) -/
def fwEnds (e : Exec) (outcome : Nat) (d : Device) : Device :=
  let flags := u8 e.cmd.params 13
  match d.clk.staged with
  | none => fwFailed e 1 d
  | some f =>
    if outcome = 1 then fwFailed e 1 d
    else if f.good = false ∨ outcome = 2 ∨ e.since + 60 * secNs < d.now then fwFailed e 2 d
    else
      let r := d.bootRecord
      let r := if f.slotB then { r with failedB := false } else { r with failedA := false }
      let r := if flags = 0 then r else { r with activeB := f.slotB }
      let d := { d with bootRecord := r }
      let d := if bitOf flags 1 then fwActivateNow e f d else d
      finishExec e (ansOk []) d

/-- COMPLETION_NOTICE (R388, R399): a LONG command that ends of itself has ended. The others end by the event they wait for. -/
def completionNotice (src : Source) (seq : Byte) (outcome : Nat) (d : Device) : Device :=
  match findExec (fun e => e.accepted && decide (e.cmd.source = src) && decide (e.cmd.seq = seq)) d with
  | none => d
  | some e =>
    match e.op with
    | 0x0104 => snapshotSaved e d
    | 0x0206 => finishExec e (chanNotice e) d
    | 0x0705 =>
      let a := zeroAnswer e.cmd.params d
      let d := zeroEffect e.cmd.params d
      finishExec e a { d with rma := { d.rma with intStatus := d.rma.intStatus ||| 4 } }
    | 0x0B01 => fwEnds e outcome d
    | _ => d

def execCompletionNotice (src : Source) (seq : Byte) (outcome : Nat) (s : State) : Host.Outcome State Fault Refusal :=
  done s (completionNotice src seq outcome s.dev)

/-! ## Boundary scan -/

/-- A boundary-scan instruction by number: BYPASS, IDCODE, SAMPLE/PRELOAD, EXTEST, EXTEST_PULSE, EXTEST_TRAIN (R522). -/
def jtagOf (n : Nat) : Jtag := [.bypass, .idcode, .sample, .extest, .extestPulse, .extestTrain].getD n .bypass

/-- The balls are held by boundary scan: only while POR_N is low (R523). -/
def ballsHeld (d : Device) : Bool :=
  decide (d.clk.phase = .held) && (decide (d.jtag = .extest) || decide (d.jtag = .extestPulse) || decide (d.jtag = .extestTrain))

/-- JTAG_INSTRUCTION (R522, R523): IDCODE reads 0x0596_80A3. -/
def jtagInstruction (n : Nat) (d : Device) : Device :=
  let d := { d with jtag := jtagOf n }
  if d.jtag = .idcode then emit (.tdo 0x059680A3) d else d

def execJtagInstruction (instr : Nat) (s : State) : Host.Outcome State Fault Refusal := done s (jtagInstruction instr s.dev)

end Sys2Proof.Machine
end

