-- ==== Sys2Proof/Machine/Completer.lean ====
section
/-! DEFINITION. Machine/Completer.lean: ITEM_EGRESS (R63), and how the S96's own functions answer the reads that reach them (R117,
R118, R131, R132, R360, R363). -/

namespace Sys2Proof.Machine

/-- A DWORD of the window control area as a partition reads it (Table 5.1, R118, R131, R132). -/
def controlWord (p off : Nat) (d : Device) : Nat :=
  if off < 0x1000 then 0
  else if off < 0x2000 then
    let x := d.window ((off - 0x1000) / 8)
    if x.valid ∧ x.dstPart = p then (if off % 8 = 0 then x.dbStatus.toNat else x.dbMask.toNat) else 0
  else
    let x := d.window ((off - 0x2000) / 16)
    if x.valid ∧ x.srcPart = p then
      match off % 16 with
      | 0 => loWord x.errAddr
      | 4 => hiWord x.errAddr
      | 8 => x.errCount
      | _ => x.errReason + 16 * natOfBool x.errValid
    else 0

/-- A DWORD of an RMA function's queue BAR: doorbells read 0 (R363), the MSI-X table behind them. -/
def queueBarWord (f : Fn) (off : Nat) (d : Device) : Option Nat :=
  let base : Nat := match f with
    | .vf _ => 0x100000
    | _ => 0x1000000
  if off < base then some 0 else msixRead f (off - base) d

/-- The VF of a partition whose BAR an address falls in, with the offset in its mailbox or queue BAR (R360). -/
def vfAt (p a : Nat) (d : Device) : Option (Fn × Bool × Nat) :=
  (d.vfPart.find? fun e => vfOpen p d e a).map fun e =>
    let pf := d.func (.pf p)
    let i := tget 0 d.vfIndex e.1
    let m := pf.vfMailboxBar + i * 0x4000
    if pf.vfMailboxBar ≠ 0 ∧ inBar m 0x4000 a = true then (.vf e.1, false, a - m) else (.vf e.1, true, a - (pf.vfQueueBar + i * 0x200000))

/-- What one of a partition's own functions holds at an address: none where no chapter defines a location. -/
def ownWord (p a : Nat) (d : Device) : Option (Nat × Device) :=
  let f := function1 p
  let x := d.func f
  let same := fun (v : Option Nat) => v.map fun n => (n, d)
  if controlArea p a d then some (controlWord p (a - x.windowBar - 0xFFFFFC000) d, d)
  else if funcOpen x && inBar x.mailboxBar 0x4000 a then same (mailboxRead f (a - x.mailboxBar) d)
  else if funcOpen x && inBar x.queueBar (if p = 0 then 0x4000000 else 0x2000000) a then
    (if p = 0 then regRead (a - x.queueBar) d else same (queueBarWord f (a - x.queueBar) d))
  else match vfAt p a d with
    | some (v, queue, off) => same (if queue then queueBarWord v off d else mailboxRead v off d)
    | none => none

/-- The function that an address belongs to. -/
def ownTarget (p a : Nat) (d : Device) : Fn :=
  match vfAt p a d with
  | some v => v.1
  | none => function1 p

/-- A request crosses the end of the BAR that it falls in (Table 13.6). -/
def crossesEnd (p a len : Nat) (d : Device) : Bool :=
  let x := d.func (function1 p)
  let beyond := fun (b size : Nat) => inBar b size a && decide (b + size < a + len)
  (funcOpen x && (beyond x.mailboxBar 0x4000 || beyond x.queueBar (if p = 0 then 0x4000000 else 0x2000000))) ||
    match vfAt p a d with
    | some (_, queue, off) => decide ((if queue then 0x200000 else 0x4000) < off + len)
    | none => false

/-- The errors that a function logs for a write that has reached P100 (R363, Table 13.6): poisoned, malformed, or to a location that
is not defined. The effect of a write has a row of its own. (DEDUCED, log entry 21) -/
def writeErrors (i : Item) (d : Device) : Device :=
  let t := i.tlp
  let f := ownTarget i.part t.addr d
  if t.poisoned then fnError f 12 false d
  else if crossesEnd i.part t.addr t.len d then fnError f 18 false d
  else if (ownWord i.part (t.addr / 4 * 4) d).isNone then fnError f 20 true d
  else d

/-- The DWORDs that a read covers, in address order (R118). -/
def ownWords (p : Nat) : Nat → Nat → Device → Option (List Byte) × Device
  | 0, _, d => (some [], d)
  | k + 1, a, d =>
    match ownWord p a d with
    | none => (none, d)
    | some (v, d) =>
      let r := ownWords p k (a + 4) d
      (r.1.map fun bs => natLe 4 v ++ bs, r.2)

/-- A function answers a memory read that has reached P100: with the data, or, where a location is not defined, with Unsupported
Request, which it logs (R363, Table 13.6). (DEDUCED, log entry 21) -/
def answerRead (i : Item) (d : Device) : Device :=
  let t := i.tlp
  let f := ownTarget i.part t.addr d
  if crossesEnd i.part t.addr t.len d then fnError f 18 false d
  else
    let r := ownWords i.part (ceilDiv (t.addr % 4 + t.len) 4) (t.addr / 4 * 4) d
    let c := completionFor t t.reqId t.tag .sc
    match r.1 with
    | some bs => issue 100 (some f) { c with len := t.len, data := (bs.drop (t.addr % 4)).take t.len, addr := t.addr } none r.2
    | none => issue 100 (some f) { c with status := .ur } none (fnError f 20 false r.2)

/-- ITEM_EGRESS (R63): the item leaves; a read that leaves toward P100 is answered there, and what leaves of an RMA
function's accesses counts for its engine. -/
def itemLeaves (id : Nat) (d0 : Device) : Device :=
  let d := itemEgress id d0
  match findItem id d0 with
  | none => d
  | some i =>
    if d.items.any fun j => decide (j.id = id) && decide (j.stage ≠ .replay) then d
    else if i.egress = 100 ∧ i.tlp.kind = .memRead ∧ i.rma.isNone = true then answerRead i d
    else if i.egress = 100 ∧ i.tlp.kind = .memWrite ∧ i.rma.isNone = true then writeErrors i d
    else engineEgress i d

def execItemEgress (item : Nat) (s : State) : Host.Outcome State Fault Refusal := done s (itemLeaves item s.dev)

end Sys2Proof.Machine
end

