-- ==== Sys2Proof/Machine/PflReceive.lean ====
section
/-! DEFINITION. Machine/PflReceive.lean: what a PFL port receives (R171–R187): flits, the messages of CONTROL flits, the records of
DATA flits, and the items of KIND ROUTE, TOPO and MGMT that they carry. -/

namespace Sys2Proof.Machine

/-! ## Control messages -/

/-- The CAP message of 96 bytes (Table 7.6). -/
def capOfBytes (m : List Byte) : Cap :=
  { fid := u8 m 4, port := u8 m 5, width := u8 m 6, maxRate := u8 m 7, serial := BitVec.ofNat 64 (u64 m 8),
    fw := BitVec.ofNat 32 (u32 m 16), grants := (List.range 12).map fun k => (u16 m (24 + 4 * k), u16 m (26 + 4 * k)) }

/-- The messages of a CONTROL flit's slots (R176): each as long as its SLOTS say, until a message of TYPE 0. -/
def ctlMessages : Nat → List Byte → List (List Byte)
  | 0, _ => []
  | fuel + 1, bs =>
    let n := 16 * max 1 (u8 bs 1)
    if bs.isEmpty ∨ u8 bs 0 = 0 then [] else bs.take n :: ctlMessages fuel (bs.drop n)

/-- A control message of port n (Tables 7.2, 8.5): one of reserved TYPE is skipped. Each message has a row of its own that
does the same. (DEDUCED, log entry 21) -/
def ctlArrives (n : Nat) (m : List Byte) (d : Device) : Device :=
  match u8 m 0 with
  | 0x01 => creditArrives n (u8 m 2 % 4) (u8 m 2 / 4 % 4) (u32 m 4) (u32 m 8) d
  | 0x02 => capArrives n (capOfBytes m) d
  | 0x03 => capAckArrives n (BitVec.ofNat 64 (u64 m 8)) d
  | 0x04 => retrainAsked n (decide (u8 m 2 = 1)) (u8 m 3) (u8 m 4) (u8 m 5) (u8 m 7) d
  | 0x05 => retrainAcked n (decide (u8 m 2 = 1)) d
  | 0x06 => idleNoticed n d
  | 0x07 => downNoticed n d
  | 0x10 => timeReqArrives n (u8 m 2) d
  | 0x11 => timeResp n (u8 m 2) (bitOf (u8 m 3) 0) (u64 m 8) (u64 m 16) d
  | _ => d

/-! ## Records -/

/-- The base of the fabric header (Table 8.2). -/
def fabOfBytes (b : List Byte) : FabHdr :=
  { dstFid := u8 b 1 % 32, srcFid := u8 b 2 % 32, part := u8 b 3 % 64, cls := u8 b 3 / 64, dstPort := u8 b 4 % 128, queue := u8 b 5 % 8,
    hops := u8 b 5 / 8 % 8, synth := bitOf (u8 b 9) 0, flow := u16 b 10 % 4096, stamp := u32 b 12 }

/-- The carried header of an RMA item (Table 9.5). -/
def rmaOfBytes (h : List Byte) (f : FabHdr) (data : List Byte) : RmaHdr :=
  { srcFid := f.srcFid, dstFid := f.dstFid, op := u8 h 0 % 16, last := bitOf (u8 h 0) 4, retx := bitOf (u8 h 0) 5, syndrome := u8 h 1,
    dstQpn := u32 h 4 % 2 ^ 24, srcQpn := u32 h 8 % 2 ^ 24, psn := u32 h 12 % 2 ^ 24, msgPsn := u32 h 16 % 2 ^ 24, msgOffset := u32 h 20,
    address := u64 h 24, key := u32 h 32, totalLen := u32 h 36, imm := u32 h 40, laddrLo := u16 h 44 % 4096, data := data }

/-- Bytes of the record that begins here (R218). -/
def recordLen (b : List Byte) : Nat := 16 + 4 * u8 b 8 + ceilDiv (u16 b 6) 4 * 4

/-- The records that end within received bytes, and what is left of one that does not: no record begins where VERSION is not 1.
(DESIGN CHOICE, log entry 70) -/
def cutRecords : Nat → List Byte → List (List Byte) × List Byte
  | 0, bs => ([], bs)
  | fuel + 1, bs =>
    if bs.isEmpty ∨ u8 bs 0 / 16 ≠ 1 then ([], [])
    else if bs.length < 16 ∨ bs.length < recordLen bs then ([], bs)
    else
      let r := cutRecords fuel (bs.drop (recordLen bs))
      (bs.take (recordLen bs) :: r.1, r.2)

/-- The item of a record (Table 8.2): a TLP's header fields, in the layout of the PCI Express Base Specification, are as
given; one of reserved KIND is none. (DEDUCED, log entry 21) -/
def recordArrival (n : Nat) (b : List Byte) (given : Option Arrival) : Option Arrival :=
  let f := fabOfBytes b
  let data := (b.drop (16 + 4 * u8 b 8)).take (u16 b 6)
  let own := fun (k : Kind) => some
    { port := n, fab := some f, rma := none, fn := none,
      tlp := { kind := k, addr := 0, destId := 0, reqId := 0, tag := 0, tc := 0, ro := false, len := data.length, data := data,
               poisoned := false, digest := false, status := .sc, byteCount := 0 } : Arrival }
  match u8 b 0 % 16 with
  | 0 => given.map fun a => { a with port := n, fab := some f, rma := none, fn := none, tlp := { a.tlp with data := data } }
  | 1 =>
    let h := rmaOfBytes ((b.drop 16).take 48) f data
    some { port := n, tlp := rmaTlp h, fab := some f, rma := some h, fn := none }
  | 2 => own .fabRoute
  | 3 => own .topo
  | 4 => own .mgmt
  | _ => none

/-- An advert (R216) that has crossed HOPS links. -/
def advertOfBytes (b : List Byte) (hops : Nat) : Advert :=
  { fid := u8 b 0, priority := u8 b 1, seq := u16 b 2, serial := BitVec.ofNat 64 (u64 b 4), hops := hops,
    links := (List.range (u8 b 12)).map fun k => (u8 b (16 + 4 * k), u8 b (17 + 4 * k), u8 b (18 + 4 * k), u8 b (19 + 4 * k)) }

/-- A VL3 item at the device it is for, or on its way (R215, R224, R226). A relayed command travels in class P, its reply in
class CPL. Each has a row of its own that does the same. (DESIGN CHOICE, log entry 71) -/
def controlArrives (a : Arrival) (d : Device) : Device :=
  match a.fab with
  | none => d
  | some f =>
    match a.tlp.kind with
    | .fabRoute => routeItem a.port (u32 a.tlp.data 0 % 32) (bitOf (u32 a.tlp.data 0) 8) d
    | .topo => topoArrives a.port (advertOfBytes a.tlp.data f.hops) d
    | .mgmt =>
      if f.dstFid ≠ d.glb.fid then panelLookup a d
      else if f.cls = 2 then relayReply f.srcFid a.tlp.data d
      else frameArrival { transport := 6, inst := f.srcFid } a.tlp.data d
    | _ => d

/-- A record has been delivered: its item waits for panel lookup; one of VL3 takes effect. -/
def deliverRecord (n : Nat) (b : List Byte) (given : Option Arrival) (d : Device) : Device :=
  match recordArrival n b given with
  | none => d
  | some a =>
    let d := deliverItem n a d
    if isControl a.tlp.kind ∧ (d.pfl n).delivered.contains a = true then takeArrival controlArrives a d else d

/-- The payload of a delivered flit joins its VL's record stream (R174, R175): the records that end in it are delivered. -/
def deliverPayload (n : Nat) (h : RxHeld) (d : Device) : Device :=
  let x := d.pfl n
  let part := tget [] x.rxParts h.vl
  let bytes := if part.isEmpty then (if h.firstRec ≤ 57 then h.payload.drop (4 * h.firstRec) else []) else part ++ h.payload
  let r := cutRecords 16 bytes
  (r.1.foldl (fun (s : Device × List Arrival) b =>
    (deliverRecord n b s.2.head? s.1, if u8 b 0 % 16 = 0 then s.2.drop 1 else s.2))
    (d.setPfl n { x with rxParts := tset [] x.rxParts h.vl r.2 }, h.items)).1

/-- Deliver flit RX_NEXT and the flits held consecutively after it (R187); what was seen beyond counts anew (R180). `fuel`
bounds the window of 256. -/
def deliverHeld (n : Nat) : Nat → Device → Device
  | 0, d => d
  | fuel + 1, d =>
    let x := d.pfl n
    match x.held.find? fun h => h.seq = x.rxNext with
    | none => d
    | some h =>
      let x := { x with held := x.held.filter fun g => g.seq ≠ h.seq, rxNext := (x.rxNext + 1) % 65536, seen := 0 }
      deliverHeld n fuel (deliverPayload n h (d.setPfl n x))

/-! ## Flits -/

/-- A good DATA flit at the receiver (R179, R182). -/
def receiveData (n : Nat) (h : RxHeld) (d : Device) : Device :=
  let x := d.pfl n
  let k := (h.seq + 65536 - x.rxNext) % 65536
  let dup := fun (_ : Unit) => d.setPfl n { x with dups := satAdd 0xFFFFFFFF x.dups 1, forceAck := true }
  if k ≤ 255 then
    if x.held.any (fun g => g.seq = h.seq) then dup ()
    else deliverHeld n 257 (d.setPfl n { x with held := x.held ++ [h], seen := max x.seen (k + 1), quietSince := d.now })
  else if k ≤ 1023 then d.setPfl n { x with beyond := satAdd 0xFFFFFFFF x.beyond 1, seen := max x.seen (k + 1) }
  else if k ≤ 64511 then startRetrain n 4 true (pflRaise n 0x20 d)
  else dup ()

/-- A flit is good: the PCS reports it so, its CRC matches, its TYPE is not 3 (R172). -/
def flitGood (f : Flit) : Bool :=
  f.pcsGood && decide (f.bytes.length = 250) && decide (u8 f.bytes 0 % 4 ≠ 3) &&
    decide (crc64 (f.bytes.take 242) = BitVec.ofNat 64 (u64 f.bytes 242))

/-- A flit shows that the partner's end of a fast retrain is through (R201): no CONTROL flit, and at the starting end none
before its RETRAIN_REQ is answered. (DEDUCED, log entry 39) -/
def endsRetrain (x : Plk) (f : Flit) : Bool :=
  decide (x.state = .retrain) && decide (u8 f.bytes 0 % 4 ≠ 2) && (!x.leading || x.acked)

/-- The receiver's ACK_SEQ or NAK_MAP has changed: the transmitter has not been quiet (R205), an idle entered in this cycle
is not entered (Table 7.5), and an earlier one ends (R206). -/
def ackMoves (n : Nat) (old : Plk) (d : Device) : Device :=
  let x := d.pfl n
  if x.state = .active ∧ (x.rxNext ≠ old.rxNext ∨ nakMap x ≠ nakMap old) then
    let undone : Bool := x.txIdle && decide (x.idleAt = d.now)
    d.setPfl n { x with quietSince := d.now, txIdle := x.txIdle && !undone, forceAck := x.forceAck || (x.txIdle && !undone) }
  else d

/-- PFL_FLIT_RECEIVE (R172, R176–R187): the check, the end of a retrain, a lock lost while the partner was idle (R207), the
ack, the data, the control messages. (DEDUCED, log entry 21) -/
def flitReceive (n : Nat) (f : Flit) (d : Device) : Device :=
  let x := d.pfl n
  if flitGood f then
    let d := if x.rxIdle then { d with wokeAt := tinsert n d.now d.wokeAt } else d
    let d := d.setPfl n { x with lastGood := d.now, rxIdle := false, lostInIdle := false }
    let d := if endsRetrain x f then retrainDone n d else d
    let d := if x.lostInIdle then startRetrain n 3 true d else d
    let d :=
      if (d.pfl n).state = .active then
        let d := if bitOf (u8 f.bytes 0) 5 then processAck n (u16 f.bytes 3) (u32 f.bytes 5) d else d
        let h : RxHeld := { seq := u16 f.bytes 1, vl := u8 f.bytes 0 / 4 % 4, firstRec := u8 f.bytes 9,
                            payload := (f.bytes.drop 10).take 232, items := f.items }
        if (d.pfl n).state = .active ∧ u8 f.bytes 0 % 4 = 1 then ackMoves n (d.pfl n) (receiveData n h d) else d
      else d
    if u8 f.bytes 0 % 4 = 2 then (ctlMessages 14 ((f.bytes.drop 10).take 224)).foldl (fun d m => ctlArrives n m d) d else d
  else d.setPfl n { x with badFlits := satAdd 0xFFFFFFFF x.badFlits 1 }

def execPflFlitReceive (port : Nat) (flit : Flit) (s : State) : Host.Outcome State Fault Refusal :=
  done s (if (s.dev.port port).personality = .pfl then flitReceive port flit s.dev else s.dev)

end Sys2Proof.Machine
end

