-- ==== Sys2Proof/Machine/Dispatch.lean ====
section
/-! DEFINITION. Machine/Dispatch.lean: one arm per row of the table, each a direct call of its meaning. -/

namespace Sys2Proof.Machine

def exec (i : Instr) (s : State) : Host.Outcome State Fault Refusal :=
  match i with
  | .sysInfo c => Sys2Proof.Machine.execSysInfo c s
  | .sysReset c => Sys2Proof.Machine.execSysReset c s
  | .sysHealth c => Sys2Proof.Machine.execSysHealth c s
  | .sysSnapshotSave c => Sys2Proof.Machine.execSysSnapshotSave c s
  | .portConfig c => Sys2Proof.Machine.execPortConfig c s
  | .portStatus c => Sys2Proof.Machine.execPortStatus c s
  | .portRetrain c => Sys2Proof.Machine.execPortRetrain c s
  | .portDisable c => Sys2Proof.Machine.execPortDisable c s
  | .laneTest c => Sys2Proof.Machine.execLaneTest c s
  | .chanMeasure c => Sys2Proof.Machine.execChanMeasure c s
  | .portBufferSet c => Sys2Proof.Machine.execPortBufferSet c s
  | .pflLinkSet c => Sys2Proof.Machine.execPflLinkSet c s
  | .portPcieSet c => Sys2Proof.Machine.execPortPcieSet c s
  | .partCreate c => Sys2Proof.Machine.execPartCreate c s
  | .partDestroy c => Sys2Proof.Machine.execPartDestroy c s
  | .partQuiesce c => Sys2Proof.Machine.execPartQuiesce c s
  | .partReset c => Sys2Proof.Machine.execPartReset c s
  | .partBindPort c => Sys2Proof.Machine.execPartBindPort c s
  | .partBindVf c => Sys2Proof.Machine.execPartBindVf c s
  | .actDisable c => Sys2Proof.Machine.execActDisable c s
  | .actWrite c => Sys2Proof.Machine.execActWrite c s
  | .actEnable c => Sys2Proof.Machine.execActEnable c s
  | .actRead c => Sys2Proof.Machine.execActRead c s
  | .ntwSet c => Sys2Proof.Machine.execNtwSet c s
  | .ntwClear c => Sys2Proof.Machine.execNtwClear c s
  | .ntwStatus c => Sys2Proof.Machine.execNtwStatus c s
  | .tlmMapSet c => Sys2Proof.Machine.execTlmMapSet c s
  | .fabRouteSet c => Sys2Proof.Machine.execFabRouteSet c s
  | .fabTopology c => Sys2Proof.Machine.execFabTopology c s
  | .fabJournalSet c => Sys2Proof.Machine.execFabJournalSet c s
  | .fabTime c => Sys2Proof.Machine.execFabTime c s
  | .fabParamSet c => Sys2Proof.Machine.execFabParamSet c s
  | .rmaVfCreate c => Sys2Proof.Machine.execRmaVfCreate c s
  | .rmaVfDestroy c => Sys2Proof.Machine.execRmaVfDestroy c s
  | .rmaPoolSet c => Sys2Proof.Machine.execRmaPoolSet c s
  | .rmaBackingSet c => Sys2Proof.Machine.execRmaBackingSet c s
  | .ctxZero c => Sys2Proof.Machine.execCtxZero c s
  | .shpSet c => Sys2Proof.Machine.execShpSet c s
  | .shpSampleSet c => Sys2Proof.Machine.execShpSampleSet c s
  | .spwConfig c => Sys2Proof.Machine.execSpwConfig c s
  | .spwOn c => Sys2Proof.Machine.execSpwOn c s
  | .spwOff c => Sys2Proof.Machine.execSpwOff c s
  | .spwRead c => Sys2Proof.Machine.execSpwRead c s
  | .cntProgram c => Sys2Proof.Machine.execCntProgram c s
  | .cntDumpSet c => Sys2Proof.Machine.execCntDumpSet c s
  | .tagSet c => Sys2Proof.Machine.execTagSet c s
  | .fwUpdate c image => Sys2Proof.Machine.execFwUpdate c image s
  | .mramLogRead c => Sys2Proof.Machine.execMramLogRead c s
  | .xbrSet c => Sys2Proof.Machine.execXbrSet c s
  | .arbSet c => Sys2Proof.Machine.execArbSet c s
  | .qpCreate c => Sys2Proof.Machine.execQpCreate c s
  | .qpModify c => Sys2Proof.Machine.execQpModify c s
  | .qpDestroy c => Sys2Proof.Machine.execQpDestroy c s
  | .cqCreate c => Sys2Proof.Machine.execCqCreate c s
  | .cqDestroy c => Sys2Proof.Machine.execCqDestroy c s
  | .regRegister c => Sys2Proof.Machine.execRegRegister c s
  | .regDeregister c => Sys2Proof.Machine.execRegDeregister c s
  | .dbAlloc c => Sys2Proof.Machine.execDbAlloc c s
  | .commandAdmission => Sys2Proof.Machine.execCommandAdmission s
  | .longAccepted => Sys2Proof.Machine.execLongAccepted s
  | .completionNotice src seq outcome => Sys2Proof.Machine.execCompletionNotice src seq outcome s
  | .submit f => Sys2Proof.Machine.execSubmit f s
  | .cancel f => Sys2Proof.Machine.execCancel f s
  | .mbxNoticeConsWrite f v => Sys2Proof.Machine.execMbxNoticeConsWrite f v s
  | .smbusCommandArrival inst frame => Sys2Proof.Machine.execSmbusCommandArrival inst frame s
  | .vdmCommandArrival part frame => Sys2Proof.Machine.execVdmCommandArrival part frame s
  | .mctpControlMessage dest cmd eid => Sys2Proof.Machine.execMctpControlMessage dest cmd eid s
  | .smbusReplyRetry inst acked => Sys2Proof.Machine.execSmbusReplyRetry inst acked s
  | .alertResponse => Sys2Proof.Machine.execAlertResponse s
  | .relayCommandArrival fid frame => Sys2Proof.Machine.execRelayCommandArrival fid frame s
  | .relayReply fid bytes => Sys2Proof.Machine.execRelayReply fid bytes s
  | .relayTimeout => Sys2Proof.Machine.execRelayTimeout s
  | .starvation => Sys2Proof.Machine.execStarvation s
  | .lockGapExpiry => Sys2Proof.Machine.execLockGapExpiry s
  | .lockMaxExpiry => Sys2Proof.Machine.execLockMaxExpiry s
  | .kmeRestart => Sys2Proof.Machine.execKmeRestart s
  | .lockstepMismatch => Sys2Proof.Machine.execLockstepMismatch s
  | .aditTextLine line => Sys2Proof.Machine.execAditTextLine line s
  | .help => Sys2Proof.Machine.execHelp s
  | .info => Sys2Proof.Machine.execInfo s
  | .baud rate => Sys2Proof.Machine.execBaud rate s
  | .unlock level response => Sys2Proof.Machine.execUnlock level response s
  | .lock => Sys2Proof.Machine.execLock s
  | .peek addr count => Sys2Proof.Machine.execPeek addr count s
  | .poke addr value => Sys2Proof.Machine.execPoke addr value s
  | .lanes first count => Sys2Proof.Machine.execLanes first count s
  | .eye lane => Sys2Proof.Machine.execEye lane s
  | .tally => Sys2Proof.Machine.execTally s
  | .canary => Sys2Proof.Machine.execCanary s
  | .log count => Sys2Proof.Machine.execLog count s
  | .raw => Sys2Proof.Machine.execRaw s
  | .rawFrame frame => Sys2Proof.Machine.execRawFrame frame s
  | .aditBreak => Sys2Proof.Machine.execAditBreak s
  | .aditIdleTimeout => Sys2Proof.Machine.execAditIdleTimeout s
  | .unlockBarExpiry => Sys2Proof.Machine.execUnlockBarExpiry s
  | .registerWrite addr value => Sys2Proof.Machine.execRegisterWrite addr value s
  | .glbIntMaskWrite value => Sys2Proof.Machine.execGlbIntMaskWrite value s
  | .switch => Sys2Proof.Machine.execSwitch s
  | .actViolClear part => Sys2Proof.Machine.execActViolClear part s
  | .windowLogClear window requesterPart => Sys2Proof.Machine.execWindowLogClear window requesterPart s
  | .outboundDoorbellWrite window part port bits => Sys2Proof.Machine.execOutboundDoorbellWrite window part port bits s
  | .inboundDoorbellSet window => Sys2Proof.Machine.execInboundDoorbellSet window s
  | .sqDoorbell f addr data => Sys2Proof.Machine.execSqDoorbell f addr data s
  | .cqDoorbell f addr data => Sys2Proof.Machine.execCqDoorbell f addr data s
  | .vbridgeConfigWrite part bus target field value => Sys2Proof.Machine.execVbridgeConfigWrite part bus target field value s
  | .vbridgeConfigRead part target field => Sys2Proof.Machine.execVbridgeConfigRead part target field s
  | .steeredVfConfigAccess part bridge func field write => Sys2Proof.Machine.execSteeredVfConfigAccess part bridge func field write s
  | .secondaryBusReset port => Sys2Proof.Machine.execSecondaryBusReset port s
  | .linkDisable port on => Sys2Proof.Machine.execLinkDisable port on s
  | .retrainLink port => Sys2Proof.Machine.execRetrainLink port s
  | .powerControllerControl port off => Sys2Proof.Machine.execPowerControllerControl port off s
  | .dpcTrigger port reason => Sys2Proof.Machine.execDpcTrigger port reason s
  | .dpcTriggerStatusClear port => Sys2Proof.Machine.execDpcTriggerStatusClear port s
  | .initiateFunctionLevelReset f => Sys2Proof.Machine.execInitiateFunctionLevelReset f s
  | .flrSilence f => Sys2Proof.Machine.execFlrSilence f s
  | .flrResetEntry f => Sys2Proof.Machine.execFlrResetEntry f s
  | .flrRelease f => Sys2Proof.Machine.execFlrRelease f s
  | .atsEnableClear f => Sys2Proof.Machine.execAtsEnableClear f s
  | .invalidateRequest f page pages tag => Sys2Proof.Machine.execInvalidateRequest f page pages tag s
  | .invalidateCompletion f tag => Sys2Proof.Machine.execInvalidateCompletion f tag s
  | .translationCompletion f page pages target read write => Sys2Proof.Machine.execTranslationCompletion f page pages target read write s
  | .porNLow vdd => Sys2Proof.Machine.execPorNLow vdd s
  | .porNRelease straps => Sys2Proof.Machine.execPorNRelease straps s
  | .imageLoad a b starts => Sys2Proof.Machine.execImageLoad a b starts s
  | .imageRetry a b starts => Sys2Proof.Machine.execImageRetry a b starts s
  | .firmwareWatchdog a b starts => Sys2Proof.Machine.execFirmwareWatchdog a b starts s
  | .mainPllLock => Sys2Proof.Machine.execMainPllLock s
  | .configurationReplay => Sys2Proof.Machine.execConfigurationReplay s
  | .warmReset => Sys2Proof.Machine.execWarmReset s
  | .coldReset straps => Sys2Proof.Machine.execColdReset straps s
  | .perstNIn port => Sys2Proof.Machine.execPerstNIn port s
  | .hotReset port => Sys2Proof.Machine.execHotReset port s
  | .partitionResetDone part => Sys2Proof.Machine.execPartitionResetDone part s
  | .steeredVfRetryEnd entry => Sys2Proof.Machine.execSteeredVfRetryEnd entry s
  | .refclkLoss => Sys2Proof.Machine.execRefclkLoss s
  | .refclkBothLost => Sys2Proof.Machine.execRefclkBothLost s
  | .refclkRecovery inputB => Sys2Proof.Machine.execRefclkRecovery inputB s
  | .panelLookup a => Sys2Proof.Machine.execPanelLookup a s
  | .matcherCellTime parityError => Sys2Proof.Machine.execMatcherCellTime s parityError
  | .crossbarEntry item badEntry => Sys2Proof.Machine.execCrossbarEntry item s badEntry
  | .actDrainDone part => Sys2Proof.Machine.execActDrainDone part s
  | .actDisableTimeout part => Sys2Proof.Machine.execActDisableTimeout part s
  | .stallLong part => Sys2Proof.Machine.execStallLong part s
  | .sharedBlockReturn port cls => Sys2Proof.Machine.execSharedBlockReturn port cls s
  | .egressSelection port => Sys2Proof.Machine.execEgressSelection port s
  | .shaperRefill => Sys2Proof.Machine.execShaperRefill s
  | .itemEgress item => Sys2Proof.Machine.execItemEgress item s
  | .mrdlkAccept a => Sys2Proof.Machine.execMrdlkAccept a s
  | .lockedCompletion a => Sys2Proof.Machine.execLockedCompletion a s
  | .unlockMessage a => Sys2Proof.Machine.execUnlockMessage a s
  | .lockTimeout port => Sys2Proof.Machine.execLockTimeout port s
  | .tallyPassStart => Sys2Proof.Machine.execTallyPassStart s
  | .tallyPassEnd leaks addsUp => Sys2Proof.Machine.execTallyPassEnd s leaks addsUp
  | .partitionDrained part => Sys2Proof.Machine.execPartitionDrained part s
  | .quiesceTimeout part => Sys2Proof.Machine.execQuiesceTimeout part s
  | .vfUnbindDrained entry => Sys2Proof.Machine.execVfUnbindDrained entry s
  | .windowCplTimeout track => Sys2Proof.Machine.execWindowCplTimeout track s
  | .completionArrival a => Sys2Proof.Machine.execCompletionArrival a s
  | .cplTimeout track => Sys2Proof.Machine.execCplTimeout track s
  | .functionCompletionTimeout track => Sys2Proof.Machine.execFunctionCompletionTimeout track s
  | .linkUp port width rate partnerWidth partnerRate flit reversed => Sys2Proof.Machine.execLinkUp port width rate partnerWidth partnerRate flit reversed s
  | .linkLoss port => Sys2Proof.Machine.execLinkLoss port s
  | .consAddrPoll ring value => Sys2Proof.Machine.execConsAddrPoll ring value s
  | .presenceChange port level => Sys2Proof.Machine.execPresenceChange port level s
  | .attentionButton port => Sys2Proof.Machine.execAttentionButton port s
  | .wakeNIn port => Sys2Proof.Machine.execWakeNIn port s
  | .clkreqNChange port asserted => Sys2Proof.Machine.execClkreqNChange port asserted s
  | .perstDelayExpiry port => Sys2Proof.Machine.execPerstDelayExpiry port s
  | .pmeTurnOff part => Sys2Proof.Machine.execPmeTurnOff part s
  | .ptmDialog port offset => Sys2Proof.Machine.execPtmDialog port offset s
  | .pflFlitReceive port flit => Sys2Proof.Machine.execPflFlitReceive port flit s
  | .pflFlitSlot port => Sys2Proof.Machine.execPflFlitSlot port s
  | .ackTimeoutProbe port => Sys2Proof.Machine.execAckTimeoutProbe port s
  | .credit port vl cls hdrFreed dataFreed => Sys2Proof.Machine.execCredit port vl cls hdrFreed dataFreed s
  | .creditRefresh port => Sys2Proof.Machine.execCreditRefresh port s
  | .cap port cap => Sys2Proof.Machine.execCap port cap s
  | .capAck port serial => Sys2Proof.Machine.execCapAck port serial s
  | .capSend port => Sys2Proof.Machine.execCapSend port s
  | .retrainReq port full cause fid rport width maxRate => Sys2Proof.Machine.execRetrainReq port full cause fid rport s width maxRate
  | .retrainAck port full => Sys2Proof.Machine.execRetrainAck port full s
  | .fastRetrain port cause => Sys2Proof.Machine.execFastRetrain port cause s
  | .retrainTimeout port => Sys2Proof.Machine.execRetrainTimeout port s
  | .fullLinkReset port => Sys2Proof.Machine.execFullLinkReset port s
  | .idleNotice port => Sys2Proof.Machine.execIdleNotice port s
  | .downNotice port cause => Sys2Proof.Machine.execDownNotice port cause s
  | .noGoodFlitTimeout port => Sys2Proof.Machine.execNoGoodFlitTimeout port s
  | .pflLinkDown port cause => Sys2Proof.Machine.execPflLinkDown port cause s
  | .restartExpiry port => Sys2Proof.Machine.execRestartExpiry port s
  | .trainLock port => Sys2Proof.Machine.execTrainLock port s
  | .trainTimeout port => Sys2Proof.Machine.execTrainTimeout port s
  | .capTimeout port => Sys2Proof.Machine.execCapTimeout port s
  | .ptsReceive lane pts => Sys2Proof.Machine.execPtsReceive lane pts s
  | .rungComplete port => Sys2Proof.Machine.execRungComplete port s
  | .lockLoss ckr n => Sys2Proof.Machine.execLockLoss ckr n s
  | .idleEntry port => Sys2Proof.Machine.execIdleEntry port s
  | .idleExit port => Sys2Proof.Machine.execIdleExit port s
  | .eqRecordWrite port => Sys2Proof.Machine.execEqRecordWrite port s
  | .dsnRead port serial => Sys2Proof.Machine.execDsnRead port serial s
  | .eyeDone lane => Sys2Proof.Machine.execEyeDone lane s
  | .checkerLockLoss lane => Sys2Proof.Machine.execCheckerLockLoss lane s
  | .topo port advert => Sys2Proof.Machine.execTopo port advert s
  | .topoSend => Sys2Proof.Machine.execTopoSend s
  | .advertExpiry fid => Sys2Proof.Machine.execAdvertExpiry fid s
  | .fidUnreachable fid => Sys2Proof.Machine.execFidUnreachable fid s
  | .route port fid reach => Sys2Proof.Machine.execRoute port fid reach s
  | .pathDeath fid path => Sys2Proof.Machine.execPathDeath fid path s
  | .routeGuardExpiry fid bucket => Sys2Proof.Machine.execRouteGuardExpiry fid bucket s
  | .timeReq => Sys2Proof.Machine.execTimeReq s
  | .timeResp port seq locked t2 t3 => Sys2Proof.Machine.execTimeResp port seq locked t2 t3 s
  | .timeReqAnswer port seq => Sys2Proof.Machine.execTimeReqAnswer port seq s
  | .holdoverExpiry => Sys2Proof.Machine.execHoldoverExpiry s
  | .parentLinkFail => Sys2Proof.Machine.execParentLinkFail s
  | .rmaSegmentSend qpn wqe data => Sys2Proof.Machine.execRmaSegmentSend qpn wqe data s
  | .rmaAck hdr bitmap => Sys2Proof.Machine.execRmaAck hdr bitmap s
  | .nakMissing hdr bitmap => Sys2Proof.Machine.execNakMissing hdr bitmap s
  | .nakRnr hdr => Sys2Proof.Machine.execNakRnr hdr s
  | .rnrDelayExpiry qpn => Sys2Proof.Machine.execRnrDelayExpiry qpn s
  | .nakAccess hdr => Sys2Proof.Machine.execNakAccess hdr s
  | .rmaAckTimeout qpn => Sys2Proof.Machine.execRmaAckTimeout qpn s
  | .readResp hdr => Sys2Proof.Machine.execReadResp hdr s
  | .responderArrival hdr => Sys2Proof.Machine.execResponderArrival hdr s
  | .segmentComplete qpn psn data => Sys2Proof.Machine.execSegmentComplete qpn psn data s
  | .rmaAckSend qpn => Sys2Proof.Machine.execRmaAckSend qpn s
  | .reasmTimeout qpn => Sys2Proof.Machine.execReasmTimeout qpn s
  | .placementFault qpn => Sys2Proof.Machine.execPlacementFault qpn s
  | .qpFlush qpn posted => Sys2Proof.Machine.execQpFlush qpn posted s
  | .backingFetch region number => Sys2Proof.Machine.execBackingFetch region number s
  | .backingStall region number => Sys2Proof.Machine.execBackingStall region number s
  | .shpSample => Sys2Proof.Machine.execShpSample s
  | .counterDump => Sys2Proof.Machine.execCounterDump s
  | .counterOverflow port counter => Sys2Proof.Machine.execCounterOverflow port counter s
  | .tlmEvaluation => Sys2Proof.Machine.execTlmEvaluation s
  | .ipmbMessage sa netfn cmd bytes => Sys2Proof.Machine.execIpmbMessage sa netfn cmd bytes s
  | .getSensorReading id ipmb => Sys2Proof.Machine.execGetSensorReading id ipmb s
  | .canaryEvaluation sample => Sys2Proof.Machine.execCanaryEvaluation sample s
  | .baselineEnd => Sys2Proof.Machine.execBaselineEnd s
  | .rowRetirement memory row busy uncorrectable => Sys2Proof.Machine.execRowRetirement memory row busy uncorrectable s
  | .rowSpared memory row => Sys2Proof.Machine.execRowSpared memory row s
  | .itemEccError item => Sys2Proof.Machine.execItemEccError item s
  | .descriptorEccError item identified => Sys2Proof.Machine.execDescriptorEccError item identified s
  | .contextEccError store number => Sys2Proof.Machine.execContextEccError store number s
  | .deviceLevelFault cause => Sys2Proof.Machine.execDeviceLevelFault cause s
  | .shaftCrcError dir lane => Sys2Proof.Machine.execShaftCrcError dir lane s
  | .shaftLaneFailure dir lane => Sys2Proof.Machine.execShaftLaneFailure dir lane s
  | .throttleUpdate tj power hotDie => Sys2Proof.Machine.execThrottleUpdate tj power hotDie s
  | .thermalEmergency tj => Sys2Proof.Machine.execThermalEmergency tj s
  | .fastTrip ch => Sys2Proof.Machine.execFastTrip ch s
  | .faultTimerExpiry ch => Sys2Proof.Machine.execFaultTimerExpiry ch s
  | .prechargeDone ch => Sys2Proof.Machine.execPrechargeDone ch s
  | .prechargeTimeout ch => Sys2Proof.Machine.execPrechargeTimeout ch s
  | .rampDone ch => Sys2Proof.Machine.execRampDone ch s
  | .rampTimeout ch => Sys2Proof.Machine.execRampTimeout ch s
  | .powerGood ch => Sys2Proof.Machine.execPowerGood ch s
  | .inputOv ch => Sys2Proof.Machine.execInputOv ch s
  | .inputUv ch => Sys2Proof.Machine.execInputUv ch s
  | .gateFault ch => Sys2Proof.Machine.execGateFault ch s
  | .retryWaitExpiry ch => Sys2Proof.Machine.execRetryWaitExpiry ch s
  | .inputRecovery ch => Sys2Proof.Machine.execInputRecovery ch s
  | .retryRestore ch => Sys2Proof.Machine.execRetryRestore ch s
  | .shutdownDone ch => Sys2Proof.Machine.execShutdownDone ch s
  | .feedSample feedA feedB vgate => Sys2Proof.Machine.execFeedSample feedA feedB vgate s
  | .channelSample ch vsense vin vout vgs ilim => Sys2Proof.Machine.execChannelSample ch vsense vin vout vgs ilim s
  | .faultTimerReset ch => Sys2Proof.Machine.execFaultTimerReset ch s
  | .checkerLock lane => Sys2Proof.Machine.execCheckerLock lane s
  | .ckrLock pair => Sys2Proof.Machine.execCkrLock pair s
  | .inactiveRefclkChange valid => Sys2Proof.Machine.execInactiveRefclkChange valid s
  | .smbusBusTimeout => Sys2Proof.Machine.execSmbusBusTimeout s
  | .voqminRaiseTimeout port => Sys2Proof.Machine.execVoqminRaiseTimeout port s
  | .aspmL1Entry port => Sys2Proof.Machine.execAspmL1Entry port s
  | .perstNInRelease port => Sys2Proof.Machine.execPerstNInRelease port s
  | .updatefc port cls hdr data => Sys2Proof.Machine.execUpdatefc port cls hdr data s
  | .updatefcRefresh port cls => Sys2Proof.Machine.execUpdatefcRefresh port cls s
  | .pathLoadSample => Sys2Proof.Machine.execPathLoadSample s
  | .vectorUnmask f vector => Sys2Proof.Machine.execVectorUnmask f vector s
  | .jtagInstruction instr => Sys2Proof.Machine.execJtagInstruction instr s

end Sys2Proof.Machine
end

