-- ==== Sys2Proof/Machine/Tick.lean ====
section
/-! DEFINITION. Machine/Tick.lean: one nanosecond of elapsed time, which passes while no command waits: device time, link time,
pattern checking, and the replies that wait for time alone. -/

namespace Sys2Proof.Machine

/-- Nanoseconds by which device time moves on (R480, R241): at most 1 ns in 10,000 is slewed. -/
def timeStep (d : Device) : Nat × Int :=
  if d.clk.mainLock = false then (0, d.fab.slew)
  else if d.now % 10000 ≠ 0 ∨ d.fab.slew = 0 then (1, d.fab.slew)
  else if 0 < d.fab.slew then (2, d.fab.slew - 1)
  else (0, d.fab.slew + 1)

/-- Elapsed time and device time. -/
def timeTick (d : Device) : Device :=
  let t := timeStep d
  { d with now := d.now + 1, devTime := d.devTime + BitVec.ofNat 64 t.1, fab := { d.fab with slew := t.2 } }

/-- Bytes that a port's link offers in the nanosecond under way (R459); an internal port's attachment offers 128.
(DEDUCED, log entry 19) -/
def linkBytes (n : Nat) (d : Device) : Nat :=
  if 96 ≤ n then (if d.clk.mainLock then 128 else 0)
  else if linkUp n d then
    let r := [0, 25, 50, 80, 160, 320, 640, 1280].getD (curRate n d) 0 * (d.port n).width
    (d.now + 1) * r / 80 - d.now * r / 80
  else 0

/-- The output buffer holds a cell for the port. -/
def cellsFor (n : Nat) (d : Device) : Bool := d.items.any fun i => decide (i.egress = n) && decide (0 < i.poolCells + i.rsvCells)

/-- Count a nanosecond of link time (R459). While an item is being sent, how much of it is framing is a free value; an internal
port wastes nothing. (DEDUCED, log entry 19) -/
def linkTime (d : Device) (n : Nat) : Device :=
  let b := linkBytes n d
  if b = 0 then d
  else if (d.eport n).sending.isSome then
    if 96 ≤ n then countFixed n 4 b d
    else
      let v := d.fresh (b + 1)
      countFixed n 5 (b - v.1) (countFixed n 4 v.1 v.2)
  else countFixed n (if cellsFor n d then 7 else 6) b d

/-- A port's transmitter is in electrical idle, L0s or L1 (Table 17.2). (DEDUCED, log entry 19) -/
def transmitterIdle (n : Nat) (d : Device) : Bool :=
  match (d.port n).personality with
  | .pfl => (d.pfl n).txIdle || decide ((d.pfl n).state = .disabled)
  | .usp | .dsp => match (d.pci n).lstate with
    | .l0s | .l1 | .l2 | .detect | .disabled | .dpc => true
    | _ => false
  | _ => false

/-- What the events counted in time add at a port in a nanosecond (Table 17.2): CREDIT_STALL for the item that would be chosen but
for link credit, TX_IDLE, and NO_ELIGIBLE. (DEDUCED, log entry 19) -/
def timedEvents (d : Device) (n : Nat) : Device :=
  let waiting := (List.range 8).filterMap fun q => (oldestItem (offered n q d)).map fun i => (q, i)
  let cs := candidates n d
  let d1 := if (d.eport n).sending.isSome then d else match chooseAmong n waiting d with
    | some (q, i, _) => if hasCredit n i d then d else countPort 0x040 n q i.cls i.srcPart 1 d
    | none => d
  let d2 := if transmitterIdle n d then countPort 0x041 n 0 0 0 1 d1 else d1
  if cs.isEmpty || cs.any (fun x => decide (0 < (d.equeue n x.1).p)) then d2 else countPort 0x054 n 0 0 0 1 d2

/-- PROXY_WAIT (Table 17.2): a nanosecond for each request that waits for a proxy tag. (DEDUCED, log entry 19) -/
def proxyWaits (d : Device) : Device :=
  (d.items.filter fun i => decide (i.stage = .voq) && decide (i.cls = 1) && i.rma.isNone && !proxyRoom i d).foldl
    (fun d i => countPort 0x021 i.ingress 0 i.cls i.srcPart 1 d) d

/-- The events counted in time, when a counter may count them. (DEDUCED, log entry 19) -/
def countTime (d : Device) : Device :=
  if d.counters.isEmpty then d else proxyWaits ((List.range 101).foldl timedEvents d)

/-- Record which partitions have an item inside (R324). (DESIGN CHOICE, log entry 72) -/
def markInside (d : Device) : Device :=
  d.items.foldl (fun d i => { d with insideAt := tinsert i.part d.now d.insideAt }) d

/-- The gate of a channel in SHUTDOWN is discharged 10 µs after its PERST_N_OUT is asserted (Tables 11.5, 15.3). -/
def gateDischarge (d : Device) : Device :=
  d.spw.foldl (fun d e => if e.2.state = .shutdown ∧ e.2.enteredAt + 10 * usNs = d.now then emit (.gate e.1 2) d else d) d

/-- PORT_RETRAIN on a PCI Express port answers TIMEOUT after 100 ms (R330). -/
def retrainTimeout (d : Device) : Device :=
  let due := fun (e : Exec) => decide (e.op = 0x0203) && decide ((d.port e.cmd.target.toNat).personality ≠ .pfl) &&
    decide (e.since + 100 * msNs ≤ d.now)
  match findExec due d with
  | some e => finishExec e { status := .timeout, detail := 0, result := [] } d
  | none => d

/-- One nanosecond. (DESIGN CHOICE, log entry 3) -/
def tick (d : Device) : Device :=
  let d := (List.range 101).foldl linkTime (lanesTick (countTime d))
  gateDischarge (answerDeregister (resetDrained (retrainTimeout (timeTick (markInside d)))))

end Sys2Proof.Machine
end

