-- ==== Sys2Proof/Machine/Step.lean ====
section
/-! DEFINITION. Machine/Step.lean: one step takes the command at the front of the queue, or lets a nanosecond pass. -/

namespace Sys2Proof.Machine

/-- One step: the front command runs on the device with the rest of the queue; with none waiting, a nanosecond passes.
(DESIGN CHOICE, log entry 3; DESIGN CHOICE, log entry 10; DESIGN CHOICE, log entry 58; DESIGN CHOICE, log entry 59) -/
def step (s : State) : Host.Outcome State Fault Refusal :=
  match s.pending with
  | c :: rest => exec c { s with pending := rest }
  | [] => done s (tick s.dev)

/-- The command that a word spells goes to the front of the queue; no row of the table has bits, so nothing does.
(DESIGN CHOICE, log entry 9) -/
def State.withFetchWord (s : State) (nbits w : Nat) : State :=
  match decodeTableWord nbits w with
  | some c => { s with pending := c :: s.pending }
  | none => s

end Sys2Proof.Machine
end

