-- ==== Sys2Proof/Safety.lean ====
section
/-! DEFINITION. Safety.lean: the words that the statements are written in, and the good states they speak of. -/

namespace Sys2Proof.Machine

/-- A command answers a next state: the queue as it was, the device as given, with the interrupt outputs that follow from it
(R407, R381). -/
def Becomes (i : Instr) (s : State) (d : Device) : Prop := exec i s = .next { s with dev := notify s.dev d }

/-- A command answers a next state of whose device `P` holds. -/
def Gives (i : Instr) (s : State) (P : Device → Prop) : Prop := ∃ t, exec i s = .next t ∧ t.pending = s.pending ∧ P t.dev

/-- A packet that the arbiter has admitted with R398's checks passed (a relayed one is a bind, Table 14.2), whose execution
has not begun (R392, R398), and which no failure of Table 16.5 meets (R446). -/
def Ready (op : Nat) (c : Cmd) (d : Device) : Prop :=
  (∃ e, execOf op c d = some e ∧ e.begun = false) ∧ c.fault = 0 ∧ (c.source.transport = 6 → op = 0x0304 ∨ op = 0x0305)

/-- An admitted packet runs: it changes the device by `f` and answers `a` (R399, R402). -/
def Replies (i : Instr) (op : Nat) (c : Cmd) (s : State) (a : Ans) (f : Device → Device) : Prop :=
  Becomes i s (finish op c a (f (markBegun op c s.dev)))

/-- An admitted packet runs: it changes the device by `f`, and its answer waits for an event (R399). -/
def Starts (i : Instr) (op : Nat) (c : Cmd) (s : State) (f : Device → Device) : Prop := Becomes i s (f (markBegun op c s.dev))

/-- TARGET and PARAM0 are 0 (R553). -/
def NoTarget (c : Cmd) : Prop := c.target = 0 ∧ c.param0 = 0

/-- No home slots are in use: every context and region entry is resident (R253). -/
def Unbacked (d : Device) : Prop := d.rma.ctxCount = 0 ∧ d.rma.regCount = 0

/-- A function may issue requests, and asks for no translations (R362, R365). -/
def Reaches (f : Fn) (d : Device) : Prop := fnEnabled f d = true ∧ (d.func f).atsEnable = false

/-- A queue pair in RTS without a shaper, alone on the device, whose peer is on the same device (R278, R296). -/
def Running (n : Nat) (q : Qp) (d : Device) : Prop :=
  d.qps = [(n, q)] ∧ q.state = .rts ∧ q.shape.cfg.shaped = false ∧ q.shape.next = none ∧ q.dstFid = d.glb.fid

/-- ALERT_N is low only while an enabled summary bit is 1 (R381).
(DESIGN CHOICE, log entry 2; DESIGN CHOICE, log entry 4; DESIGN CHOICE, log entry 9) -/
def State.alertWf (s : State) : Prop := s.dev.glb.alertLow = true → summaryBits s.dev &&& s.dev.glb.alertEn ≠ 0

/-- The rows that are command packets, with their opcode (R377). -/
def rowPacket : Instr → Option (Nat × Cmd)
  | .sysInfo c => some (0x0101, c)
  | .sysReset c => some (0x0102, c)
  | .sysHealth c => some (0x0103, c)
  | .sysSnapshotSave c => some (0x0104, c)
  | .portConfig c => some (0x0201, c)
  | .portStatus c => some (0x0202, c)
  | .portRetrain c => some (0x0203, c)
  | .portDisable c => some (0x0204, c)
  | .laneTest c => some (0x0205, c)
  | .chanMeasure c => some (0x0206, c)
  | .portBufferSet c => some (0x0207, c)
  | .pflLinkSet c => some (0x0208, c)
  | .portPcieSet c => some (0x0209, c)
  | .partCreate c => some (0x0301, c)
  | .partDestroy c => some (0x0302, c)
  | .partQuiesce c => some (0x0303, c)
  | .partReset c => some (0x0306, c)
  | .partBindPort c => some (0x0304, c)
  | .partBindVf c => some (0x0305, c)
  | .actDisable c => some (0x0401, c)
  | .actWrite c => some (0x0402, c)
  | .actEnable c => some (0x0403, c)
  | .actRead c => some (0x0404, c)
  | .ntwSet c => some (0x0501, c)
  | .ntwClear c => some (0x0502, c)
  | .ntwStatus c => some (0x0503, c)
  | .tlmMapSet c => some (0x0504, c)
  | .fabRouteSet c => some (0x0601, c)
  | .fabTopology c => some (0x0602, c)
  | .fabJournalSet c => some (0x0603, c)
  | .fabTime c => some (0x0604, c)
  | .fabParamSet c => some (0x0605, c)
  | .rmaVfCreate c => some (0x0701, c)
  | .rmaVfDestroy c => some (0x0702, c)
  | .rmaPoolSet c => some (0x0703, c)
  | .rmaBackingSet c => some (0x0704, c)
  | .ctxZero c => some (0x0705, c)
  | .shpSet c => some (0x0801, c)
  | .shpSampleSet c => some (0x0802, c)
  | .spwConfig c => some (0x0901, c)
  | .spwOn c => some (0x0902, c)
  | .spwOff c => some (0x0903, c)
  | .spwRead c => some (0x0904, c)
  | .cntProgram c => some (0x0A01, c)
  | .cntDumpSet c => some (0x0A02, c)
  | .tagSet c => some (0x0A03, c)
  | .fwUpdate c _ => some (0x0B01, c)
  | .mramLogRead c => some (0x0B02, c)
  | .xbrSet c => some (0x0C01, c)
  | .arbSet c => some (0x0C02, c)
  | .qpCreate c => some (0x7101, c)
  | .qpModify c => some (0x7102, c)
  | .qpDestroy c => some (0x7103, c)
  | .cqCreate c => some (0x7104, c)
  | .cqDestroy c => some (0x7105, c)
  | .regRegister c => some (0x7106, c)
  | .regDeregister c => some (0x7107, c)
  | .dbAlloc c => some (0x7108, c)
  | _ => none

end Sys2Proof.Machine
end

