-- ==== Sys2Proof/WellFormed.lean ====
section
/-! DEFINITION. WellFormed.lean: operands within the ranges that the spec's numbering gives them (Table 0.3, Tables 14.1 and 14.2). A
command's own ranges are its checks, and stand in its meaning. -/

namespace Sys2Proof

/-- A source: a transport of Table 14.2 with an instance it can have. -/
def sourceOk (s : Source) : Bool :=
  match s.transport with
  | 0 => decide (s.inst = 0)
  | 1 => decide (1 ≤ s.inst) && decide (s.inst ≤ 48)
  | 2 => decide (s.inst < 4096)
  | 3 => decide (s.inst < 128)
  | 4 => decide (s.inst ≤ 48)
  | 5 => decide (s.inst < 4)
  | 6 => decide (s.inst < 32)
  | 7 => decide (s.inst = 0)
  | _ => false

/-- A packet: a source, parameters that LENGTH can count (Table 14.1), and a failure that Table 16.5 lists.
(DESIGN CHOICE, log entry 63) -/
def cmdOk (c : Cmd) : Bool := sourceOk c.source && decide (c.params.length < 65536) && decide (c.fault ≤ 5)

/-- A function of the S96 (R359). -/
def fnOk (f : Fn) : Bool :=
  match f with
  | .mgr => true
  | .pf p => decide (1 ≤ p) && decide (p ≤ 48)
  | .vf v => decide (v < 4096)

/-- A command whose operands name objects that the numbering has. -/
def Instr.wf (i : Instr) : Bool :=
  match i with
  | .sysInfo c => cmdOk c
  | .sysReset c => cmdOk c
  | .sysHealth c => cmdOk c
  | .sysSnapshotSave c => cmdOk c
  | .portConfig c => cmdOk c
  | .portStatus c => cmdOk c
  | .portRetrain c => cmdOk c
  | .portDisable c => cmdOk c
  | .laneTest c => cmdOk c
  | .chanMeasure c => cmdOk c
  | .portBufferSet c => cmdOk c
  | .pflLinkSet c => cmdOk c
  | .portPcieSet c => cmdOk c
  | .partCreate c => cmdOk c
  | .partDestroy c => cmdOk c
  | .partQuiesce c => cmdOk c
  | .partReset c => cmdOk c
  | .partBindPort c => cmdOk c
  | .partBindVf c => cmdOk c
  | .actDisable c => cmdOk c
  | .actWrite c => cmdOk c
  | .actEnable c => cmdOk c
  | .actRead c => cmdOk c
  | .ntwSet c => cmdOk c
  | .ntwClear c => cmdOk c
  | .ntwStatus c => cmdOk c
  | .tlmMapSet c => cmdOk c
  | .fabRouteSet c => cmdOk c
  | .fabTopology c => cmdOk c
  | .fabJournalSet c => cmdOk c
  | .fabTime c => cmdOk c
  | .fabParamSet c => cmdOk c
  | .rmaVfCreate c => cmdOk c
  | .rmaVfDestroy c => cmdOk c
  | .rmaPoolSet c => cmdOk c
  | .rmaBackingSet c => cmdOk c
  | .ctxZero c => cmdOk c
  | .shpSet c => cmdOk c
  | .shpSampleSet c => cmdOk c
  | .spwConfig c => cmdOk c
  | .spwOn c => cmdOk c
  | .spwOff c => cmdOk c
  | .spwRead c => cmdOk c
  | .cntProgram c => cmdOk c
  | .cntDumpSet c => cmdOk c
  | .tagSet c => cmdOk c
  | .fwUpdate c _ => cmdOk c
  | .mramLogRead c => cmdOk c
  | .xbrSet c => cmdOk c
  | .arbSet c => cmdOk c
  | .qpCreate c => cmdOk c
  | .qpModify c => cmdOk c
  | .qpDestroy c => cmdOk c
  | .cqCreate c => cmdOk c
  | .cqDestroy c => cmdOk c
  | .regRegister c => cmdOk c
  | .regDeregister c => cmdOk c
  | .dbAlloc c => cmdOk c
  | .commandAdmission => true
  | .longAccepted => true
  | .completionNotice src _ _ => sourceOk src
  | .submit f => fnOk f
  | .cancel f => fnOk f
  | .mbxNoticeConsWrite f _ => fnOk f
  | .smbusCommandArrival _ _ => true
  | .vdmCommandArrival part _ => decide (part ≤ 48)
  | .mctpControlMessage dest _ _ => sourceOk dest
  | .smbusReplyRetry _ _ => true
  | .alertResponse => true
  | .relayCommandArrival fid _ => decide (fid < 32)
  | .relayReply fid _ => decide (fid < 32)
  | .relayTimeout => true
  | .starvation => true
  | .lockGapExpiry => true
  | .lockMaxExpiry => true
  | .kmeRestart => true
  | .lockstepMismatch => true
  | .aditTextLine _ => true
  | .help => true
  | .info => true
  | .baud _ => true
  | .unlock _ _ => true
  | .lock => true
  | .peek _ _ => true
  | .poke _ _ => true
  | .lanes _ _ => true
  | .eye lane => decide (lane < 384)
  | .tally => true
  | .canary => true
  | .log _ => true
  | .raw => true
  | .rawFrame _ => true
  | .aditBreak => true
  | .aditIdleTimeout => true
  | .unlockBarExpiry => true
  | .registerWrite _ _ => true
  | .glbIntMaskWrite _ => true
  | .switch => true
  | .actViolClear part => decide (part ≤ 48)
  | .windowLogClear window _ => decide (window < 512)
  | .outboundDoorbellWrite window part port _ => decide (window < 512) && decide (part ≤ 48) && decide (port ≤ 100)
  | .inboundDoorbellSet window => decide (window < 512)
  | .sqDoorbell f _ _ => fnOk f
  | .cqDoorbell f _ _ => fnOk f
  | .vbridgeConfigWrite part _ _ _ _ => decide (part ≤ 48)
  | .vbridgeConfigRead part _ _ => decide (part ≤ 48)
  | .steeredVfConfigAccess part _ _ _ _ => decide (part ≤ 48)
  | .secondaryBusReset port => decide (port ≤ 100)
  | .linkDisable port _ => decide (port ≤ 100)
  | .retrainLink port => decide (port ≤ 100)
  | .powerControllerControl port _ => decide (port ≤ 100)
  | .dpcTrigger port _ => decide (port ≤ 100)
  | .dpcTriggerStatusClear port => decide (port ≤ 100)
  | .initiateFunctionLevelReset f => fnOk f
  | .flrSilence f => fnOk f
  | .flrResetEntry f => fnOk f
  | .flrRelease f => fnOk f
  | .atsEnableClear f => fnOk f
  | .invalidateRequest f _ _ _ => fnOk f
  | .invalidateCompletion f _ => fnOk f
  | .translationCompletion f _ _ _ _ _ => fnOk f
  | .porNLow _ => true
  | .porNRelease _ => true
  | .imageLoad _ _ _ => true
  | .imageRetry _ _ _ => true
  | .firmwareWatchdog _ _ _ => true
  | .mainPllLock => true
  | .configurationReplay => true
  | .warmReset => true
  | .coldReset _ => true
  | .perstNIn port => decide (port ≤ 100)
  | .hotReset port => decide (port ≤ 100)
  | .partitionResetDone part => decide (part ≤ 48)
  | .steeredVfRetryEnd _ => true
  | .refclkLoss => true
  | .refclkBothLost => true
  | .refclkRecovery _ => true
  | .panelLookup a => decide (a.port ≤ 100)
  | .matcherCellTime _ => true
  | .crossbarEntry _ _ => true
  | .actDrainDone part => decide (part ≤ 48)
  | .actDisableTimeout part => decide (part ≤ 48)
  | .stallLong part => decide (part ≤ 48)
  | .sharedBlockReturn port _ => decide (port ≤ 100)
  | .egressSelection port => decide (port ≤ 100)
  | .shaperRefill => true
  | .itemEgress _ => true
  | .mrdlkAccept a => decide (a.port ≤ 100)
  | .lockedCompletion a => decide (a.port ≤ 100)
  | .unlockMessage a => decide (a.port ≤ 100)
  | .lockTimeout port => decide (port ≤ 100)
  | .tallyPassStart => true
  | .tallyPassEnd _ _ => true
  | .partitionDrained part => decide (part ≤ 48)
  | .quiesceTimeout part => decide (part ≤ 48)
  | .vfUnbindDrained _ => true
  | .windowCplTimeout _ => true
  | .completionArrival a => decide (a.port ≤ 100)
  | .cplTimeout _ => true
  | .functionCompletionTimeout _ => true
  | .linkUp port _ _ _ _ _ _ => decide (port ≤ 100)
  | .linkLoss port => decide (port ≤ 100)
  | .consAddrPoll _ _ => true
  | .presenceChange port _ => decide (port ≤ 100)
  | .attentionButton port => decide (port ≤ 100)
  | .wakeNIn port => decide (port ≤ 100)
  | .clkreqNChange port _ => decide (port ≤ 100)
  | .perstDelayExpiry port => decide (port ≤ 100)
  | .pmeTurnOff part => decide (part ≤ 48)
  | .ptmDialog port _ => decide (port ≤ 100)
  | .pflFlitReceive port flit => decide (port ≤ 100) && decide (flit.bytes.length = 250)
  | .pflFlitSlot port => decide (port ≤ 100)
  | .ackTimeoutProbe port => decide (port ≤ 100)
  | .credit port _ _ _ _ => decide (port ≤ 100)
  | .creditRefresh port => decide (port ≤ 100)
  | .cap port _ => decide (port ≤ 100)
  | .capAck port _ => decide (port ≤ 100)
  | .capSend port => decide (port ≤ 100)
  | .retrainReq port _ _ fid _ _ _ => decide (port ≤ 100) && decide (fid < 32)
  | .retrainAck port _ => decide (port ≤ 100)
  | .fastRetrain port _ => decide (port ≤ 100)
  | .retrainTimeout port => decide (port ≤ 100)
  | .fullLinkReset port => decide (port ≤ 100)
  | .idleNotice port => decide (port ≤ 100)
  | .downNotice port _ => decide (port ≤ 100)
  | .noGoodFlitTimeout port => decide (port ≤ 100)
  | .pflLinkDown port _ => decide (port ≤ 100)
  | .restartExpiry port => decide (port ≤ 100)
  | .trainLock port => decide (port ≤ 100)
  | .trainTimeout port => decide (port ≤ 100)
  | .capTimeout port => decide (port ≤ 100)
  | .ptsReceive lane pts => decide (lane < 384) && decide (pts.bytes.length = 16)
  | .rungComplete port => decide (port ≤ 100)
  | .lockLoss _ _ => true
  | .idleEntry port => decide (port ≤ 100)
  | .idleExit port => decide (port ≤ 100)
  | .eqRecordWrite port => decide (port ≤ 100)
  | .dsnRead port _ => decide (port ≤ 100)
  | .eyeDone lane => decide (lane < 384)
  | .checkerLockLoss lane => decide (lane < 384)
  | .topo port _ => decide (port ≤ 100)
  | .topoSend => true
  | .advertExpiry fid => decide (fid < 32)
  | .fidUnreachable fid => decide (fid < 32)
  | .route port fid _ => decide (port ≤ 100) && decide (fid < 32)
  | .pathDeath fid _ => decide (fid < 32)
  | .routeGuardExpiry fid _ => decide (fid < 32)
  | .timeReq => true
  | .timeResp port _ _ _ _ => decide (port ≤ 100)
  | .timeReqAnswer port _ => decide (port ≤ 100)
  | .holdoverExpiry => true
  | .parentLinkFail => true
  | .rmaSegmentSend qpn _ _ => decide (qpn < 2 ^ 24)
  | .rmaAck _ _ => true
  | .nakMissing _ _ => true
  | .nakRnr _ => true
  | .rnrDelayExpiry qpn => decide (qpn < 2 ^ 24)
  | .nakAccess _ => true
  | .rmaAckTimeout qpn => decide (qpn < 2 ^ 24)
  | .readResp _ => true
  | .responderArrival _ => true
  | .segmentComplete qpn _ _ => decide (qpn < 2 ^ 24)
  | .rmaAckSend qpn => decide (qpn < 2 ^ 24)
  | .reasmTimeout qpn => decide (qpn < 2 ^ 24)
  | .placementFault qpn => decide (qpn < 2 ^ 24)
  | .qpFlush qpn _ => decide (qpn < 2 ^ 24)
  | .backingFetch _ _ => true
  | .backingStall _ _ => true
  | .shpSample => true
  | .counterDump => true
  | .counterOverflow port _ => decide (port ≤ 100) || decide (port = 127)
  | .tlmEvaluation => true
  | .ipmbMessage _ _ _ _ => true
  | .getSensorReading _ _ => true
  | .canaryEvaluation _ => true
  | .baselineEnd => true
  | .rowRetirement _ _ _ _ => true
  | .rowSpared _ _ => true
  | .itemEccError _ => true
  | .descriptorEccError _ _ => true
  | .contextEccError _ _ => true
  | .deviceLevelFault _ => true
  | .shaftCrcError _ lane => decide (lane < 384)
  | .shaftLaneFailure _ lane => decide (lane < 384)
  | .throttleUpdate _ _ _ => true
  | .thermalEmergency _ => true
  | .fastTrip ch => decide (ch < 48)
  | .faultTimerExpiry ch => decide (ch < 48)
  | .prechargeDone ch => decide (ch < 48)
  | .prechargeTimeout ch => decide (ch < 48)
  | .rampDone ch => decide (ch < 48)
  | .rampTimeout ch => decide (ch < 48)
  | .powerGood ch => decide (ch < 48)
  | .inputOv ch => decide (ch < 48)
  | .inputUv ch => decide (ch < 48)
  | .gateFault ch => decide (ch < 48)
  | .retryWaitExpiry ch => decide (ch < 48)
  | .inputRecovery ch => decide (ch < 48)
  | .retryRestore ch => decide (ch < 48)
  | .shutdownDone ch => decide (ch < 48)
  | .feedSample _ _ _ => true
  | .channelSample ch _ _ _ _ _ => decide (ch < 48)
  | .faultTimerReset ch => decide (ch < 48)
  | .checkerLock lane => decide (lane < 384)
  | .ckrLock pair => decide (pair < 48)
  | .inactiveRefclkChange _ => true
  | .smbusBusTimeout => true
  | .voqminRaiseTimeout port => decide (port ≤ 100)
  | .aspmL1Entry port => decide (port ≤ 100)
  | .perstNInRelease port => decide (port ≤ 100)
  | .updatefc port _ _ _ => decide (port ≤ 100)
  | .updatefcRefresh port _ => decide (port ≤ 100)
  | .pathLoadSample => true
  | .vectorUnmask f _ => fnOk f
  | .jtagInstruction _ => true

end Sys2Proof
end

