-- ==== Sys2Proof/Certificates/Slice0/Obligations.lean ====
section
/-! DEFINITION. Certificates/Slice0/Obligations.lean: the statements. -/

open Sys2Proof Sys2Proof.Machine

/-! ## Mailboxes, transports and the arbiter (chapter 14) -/

/-- R386, R388: SUBMIT in IDLE or DONE submits; in SUBMITTED or EXECUTING it only sets OVERRUN; CANCEL in SUBMITTED frees the
mailbox, and does nothing in another state; MBX_NOTICE_CONS is kept.
R383, R384, R396, R398: a whole frame that repeats nothing waits for the arbiter; under another source's lock it is
answered BUSY_LOCKED at once; where the transport holds all it may hold, it is dropped; one too short is discarded. The same
for SMBus (its sender's address), relays (their FID) and VDMs (their partition, at a USP). -/
def Obligations.CommandsReachTheArbiter : Prop :=
  (∀ (s : State) (f : Fn) (v : W32), f ∈ mailboxes s.dev →
    let m := s.dev.mailbox f
    ((m.state = .idle ∨ m.state = .done) →
      Becomes (.submit f) s (s.dev.setMailbox f
        { m with state := .submitted, submittedAt := s.dev.now, starveMs := s.dev.kme.starveMs, starved := false })) ∧
    ((m.state = .submitted ∨ m.state = .executing) → Becomes (.submit f) s (mbxRaise f 0x08 s.dev)) ∧
    (m.state = .submitted → Becomes (.cancel f) s (mbxRaise f 0x01 (s.dev.setMailbox f { m with state := .idle, starved := false }))) ∧
    (m.state ≠ .submitted → Becomes (.cancel f) s s.dev) ∧
    Becomes (.mbxNoticeConsWrite f v) s (s.dev.setMailbox f { m with cons := v })) ∧
  (∀ (s : State) (src : Source) (i : Instr) (frame : List Byte) (n : Nat),
    (src = { transport := 3, inst := n % 128 } ∧ i = .smbusCommandArrival n frame) ∨
    (src = { transport := 4, inst := n % 64 } ∧ i = .vdmCommandArrival n frame ∧ (uspOf n s.dev).isSome) ∨
    (src = { transport := 6, inst := n % 32 } ∧ i = .relayCommandArrival n frame) →
    (frameShort src frame → Becomes i s (discardFrame src s.dev)) ∧
    (frameShort src frame = false → repeatOf (framePacket src frame) s.dev = none →
      (holdingFull src s.dev → Becomes i s
        (kmeRaise 0x20 { s.dev with kme := { s.dev.kme with dropped := satAdd 0xFFFF s.dev.kme.dropped 1 } })) ∧
      (holdingFull src s.dev = false →
        (lockedOut src s.dev → frameCrcOk src frame →
          Becomes i s (answerLocked (framePacket src frame).op (framePacket src frame).cmd s.dev)) ∧
        (lockedOut src s.dev = false → Becomes i s { s.dev with kme := { s.dev.kme with held := s.dev.kme.held ++
          [{ source := src, frame := frame, since := s.dev.now, starveMs := s.dev.kme.starveMs, starved := false }] } }))))

/-- R404, R405: what SYS_INFO answers, and ARB_SET: a field of 0 keeps the value in force; the answer is KME_ARB_CFG.
R453, R454: SYS_HEALTH answers the canary's words, sampled before it clears the latched fault; MRAM_LOG_READ answers the
oldest and next sequence numbers and the records from FIRST on. -/
def Obligations.DeviceCommandsAnswer : Prop :=
  (∀ (s : State) (c : Cmd), NoTarget c →
    (Ready 0x0101 c s.dev → c.params = [] →
      Replies (.sysInfo c) 0x0101 c s
        (ansOk (natLe 8 s.dev.glb.serial.toNat ++ natLe 4 s.dev.glb.fwLevel.toNat ++ natLe 2 0x5968 ++ natLe 1 0 ++
          natLe 1 s.dev.glb.fid ++ natLe 2 (sourceNum c.source) ++ natLe 1 (sourcePart c.source s.dev) ++
          natLe 1 (natOfBool s.dev.clk.imageB + 2 * natOfBool (s.dev.clk.fallback || s.dev.clk.watchdog)) ++ natLe 4 0 ++
          natLe 8 s.dev.devTime.toNat)) id) ∧
    (∀ starve gap max : Nat, Ready 0x0C02 c s.dev → c.params = natLe 2 starve ++ natLe 2 gap ++ natLe 2 max ++ [0, 0] →
      starve ≤ 1000 → gap ≤ 1000 → max ≤ 1000 →
      let starve' := if starve = 0 then s.dev.kme.starveMs else starve
      let gap' := if gap = 0 then s.dev.kme.lockGap else gap
      let max' := if max = 0 then s.dev.kme.lockMaxMs else max
      Replies (.arbSet c) 0x0C02 c s (ansOk (natLe 4 (starve' + 2 ^ 10 * gap' + 2 ^ 20 * max')))
        fun d => { d with kme := { d.kme with starveMs := starve', lockGap := gap', lockMaxMs := max' } })) ∧
  (∀ (s : State) (c : Cmd), NoTarget c →
    let d := s.dev
    (∀ flags : Byte, Ready 0x0103 c d → flags.toNat < 2 → c.params = [flags, 0, 0, 0] →
      Replies (.sysHealth c) 0x0103 c s
        (ansOk (natLe 4 (canGradeWord d) ++ natLe 4 (canInputsWord d) ++ natLe 4 (spareObWord d) ++ natLe 4 (spareCaddyWord d) ++
          natLe 4 (shaftWord d) ++ natLe 4 (mramWord d) ++ natLe 8 d.devTime.toNat))
        fun e => { e with can := { e.can with fault := e.can.fault && decide (flags.toNat = 0) } }) ∧
    (∀ first count, Ready 0x0B02 c d → 0 < count → count ≤ 63 → first < 2 ^ 32 - 1 → c.params = natLe 4 first ++ natLe 2 count ++ [0, 0] →
      let hit := d.blackBox.filter fun r => decide ((r.seq + 2 ^ 32 - first) % 2 ^ 32 < 2 ^ 31)
      let oldest : Nat := match d.blackBox.head? with
        | some r => r.seq
        | none => d.can.nextSeq
      Replies (.mramLogRead c) 0x0B02 c s
        (ansOk (natLe 4 oldest ++ natLe 4 d.can.nextSeq ++ ((hit.take count).map blackBoxBytes).flatten)) id))

/-- R24, R153, R392, R398: the arbiter admits nothing while a command that has not replied occupies the KME; a lone frame
that passes the checks is admitted: counted, as event 0x100 too, remembered for the round robin and for repeats, executing
from now on, and an ENABLED segment is DISABLED from the moment its ACT_DISABLE is. One that fails its CRC is discarded.
R393, R397, R399: the 1 ms that make a command LONG, STARVE_MS that make a waiting one starved, LOCK_GAP and LOCK_MAX
that end the lock; before its time each changes nothing. -/
def Obligations.ArbiterAdmitsAndTimes : Prop :=
  (∀ (s : State) (h : Held),
    (kmeBusy s.dev → Becomes .commandAdmission s s.dev) ∧
    (let p := framePacket h.source h.frame
     let k := s.dev.kme
     k.held = [h] → (∀ f ∈ mailboxes s.dev, (s.dev.mailbox f).state ≠ .submitted) → mayAdmit p.op p.cmd s.dev → sourceFn h.source = none →
     (frameCrcOk h.source h.frame = false →
       Becomes .commandAdmission s (discardFrame h.source (admitDiscarded h.source { s.dev with kme := { k with held := [] } }))) ∧
     (frameCrcOk h.source h.frame → p.length = p.cmd.params.length → commandChecks p.op p.cmd s.dev = none → lockBits p.cmd = 0 →
       streamSource h.source →
       let run : Exec := { op := p.op, cmd := p.cmd, since := s.dev.now, accepted := false, applied := false, reported := 0,
                           begun := false }
       let admitted := countGlobal 0x100 0x3F 1 { s.dev with kme := { k with
         held := [], admitted := (k.admitted + 1) % 2 ^ 32,
         roundRobin := tset 0 k.roundRobin (rankOf h.source) (sourceNum h.source + 1),
         last := tinsert (sourceNum h.source)
           { op := p.op, seq := p.cmd.seq, reply := none, notice := none, finalAt := none, repeats := 0 } k.last,
         execs := k.execs ++ [run] } }
       let q := p.cmd.target.toNat
       (p.op ≠ 0x0401 → Becomes .commandAdmission s admitted) ∧
       (p.op = 0x0401 → p.cmd.params = [] → p.cmd.param0 = 0 → 1 ≤ q → q ≤ 48 → (s.dev.part q).state ≠ .free → k.execs = [] →
         ((s.dev.seg q).state = .disabled → Becomes .commandAdmission s admitted) ∧
         ((s.dev.seg q).state = .enabled → Gives .commandAdmission s fun t => t.kme.execs = [{ run with applied := true }] ∧
           t.seg q = { s.dev.seg q with state := .disabled, gen := ((s.dev.seg q).gen + 1) % 65536, disabledAt := s.dev.now,
                                        stallLong := false } ∧ t.items = s.dev.items ∧ t.parts = s.dev.parts))))) ∧
  (∀ (s : State),
    let d := s.dev
    let k := s.dev.kme
    (∀ (e : Exec) (f : Fn), k.execs = [e] → e.accepted = false → endsByItself e d = false → sourceFn e.cmd.source = some f →
      (d.now < e.since + msNs → Becomes .longAccepted s d) ∧
      (e.since + msNs ≤ d.now → Gives .longAccepted s fun t =>
        t.kme.execs = [{ e with accepted := true }] ∧ (t.mailbox f).lastStatus = 1 ∧ (t.mailbox f).lastSeq = e.cmd.seq ∧
        t.parts = d.parts ∧ t.ports = d.ports ∧ t.kme.held = k.held)) ∧
    (∀ (w : Waiter) (f : Fn), waiters d = [w] → w.starved = false → w.held = none → sourceFn w.packet.cmd.source = some f →
      (d.now < w.since + w.starveMs * msNs → Becomes .starvation s d) ∧
      (w.since + w.starveMs * msNs ≤ d.now → Becomes .starvation s { d.setMailbox f { d.mailbox f with starved := true } with
        kme := { k with starveCount := satAdd 0xFFFF k.starveCount 1, lastStarved := sourceNum w.packet.cmd.source,
                        intStatus := k.intStatus ||| 1 } })) ∧
    (∀ l : ArbLock, k.lock = some l → executing l.holder d = false → (∀ w ∈ waiters d, w.packet.cmd.source ≠ l.holder) →
      let ended := { d with kme := { k with lock := none, expired := l.holder :: k.expired, intStatus := k.intStatus ||| 2 } }
      (d.now < l.lastReply + l.gap100us * 100000 → Becomes .lockGapExpiry s d) ∧
      (l.lastReply + l.gap100us * 100000 ≤ d.now → Becomes .lockGapExpiry s ended) ∧
      (d.now < l.began + l.maxMs * msNs → Becomes .lockMaxExpiry s d) ∧
      (l.began + l.maxMs * msNs ≤ d.now → Becomes .lockMaxExpiry s ended)) ∧
    (k.lock = none → Becomes .lockGapExpiry s d ∧ Becomes .lockMaxExpiry s d))

/-- R390, R506: after a KME restart nothing executes and no lock is held, ABORTED is set in every mailbox, the adit session
is at level 0 and 115,200 baud, the restart is counted, and the configuration is as it was. -/
def Obligations.KmeRestartKeepsConfiguration : Prop := ∀ s : State, Gives .kmeRestart s fun d =>
  d.kme.execs = [] ∧ d.kme.lock = none ∧ d.adit.level = 0 ∧ d.adit.baud = 115200 ∧
  d.kme.restarts = satAdd 0xFFFF s.dev.kme.restarts 1 ∧ d.kme.intStatus.getLsbD 3 = true ∧
  (∀ f ∈ mailboxes s.dev, (d.mailbox f).intStatus.getLsbD 4 = true) ∧
  d.ports = s.dev.ports ∧ d.parts = s.dev.parts ∧ d.segs = s.dev.segs ∧ d.windows = s.dev.windows ∧ d.bridges = s.dev.bridges ∧
  d.steers = s.dev.steers ∧ d.qps = s.dev.qps ∧ d.cqs = s.dev.cqs ∧ d.regions = s.dev.regions ∧ d.spw = s.dev.spw ∧
  d.plk = s.dev.plk ∧ d.fab = s.dev.fab ∧
  ((∀ e ∈ s.dev.kme.execs, e.cmd.source.transport ≠ 6) → d.items = s.dev.items)

/-- R380, R381, R547: the writes of a reply on SMBus, the alert response, the MCTP control messages that set and give the
EID, a bus time-out, which changes nothing that is held, and a VDM for a partition without a USP.
R226, R400: a relayed command ends with the reply of the remote device, or with TIMEOUT after 800 µs; the remote ACCEPTED
makes it LONG. -/
def Obligations.TransportsCarryCommands : Prop :=
  (∀ (s : State),
    let d := s.dev
    let k := s.dev.kme
    (∀ (n : Nat) (r : SmbReply), k.smbReplies = [(n, r)] →
      Becomes (.smbusReplyRetry n true) s { d with kme := { k with smbReplies := [] } } ∧
      (d.now < r.sentAt + msNs → Becomes (.smbusReplyRetry n false) s d) ∧
      (r.sentAt + msNs ≤ d.now → r.tries < 2 → Becomes (.smbusReplyRetry n false) s { d with
        out := .message { transport := 3, inst := n } 2 r.bytes :: d.out,
        kme := { k with smbReplies := [(n, { r with tries := r.tries + 1, sentAt := d.now })] } }) ∧
      (r.sentAt + msNs ≤ d.now → 2 ≤ r.tries → Becomes (.smbusReplyRetry n false) s { d with
        kme := { k with smbReplies := [], undelivered := satAdd 0xFFFF k.undelivered 1, intStatus := k.intStatus ||| 0x10 } })) ∧
    (d.glb.alertLow = true → Becomes .alertResponse s { d with
      out := .message { transport := 3, inst := 0x0C } 4 [BitVec.ofNat 8 (2 * (0x5A + d.glb.smbAddrStrap))] :: d.out,
      glb := { d.glb with alertLow := false } }) ∧
    (d.glb.alertLow = false → Becomes .alertResponse s d) ∧
    (∀ (src : Source) (eid : Byte),
      Becomes (.mctpControlMessage src 1 eid) s
        { d with kme := { k with eid := eid }, out := .message src 4 [1, 0, 0, eid, 0] :: d.out } ∧
      Becomes (.mctpControlMessage src 2 eid) s { d with out := .message src 4 [2, 0, k.eid, 0, 0] :: d.out }) ∧
    Becomes .smbusBusTimeout s d ∧
    (∀ (p : Nat) (frame : List Byte), uspOf p d = none → Becomes (.vdmCommandArrival p frame) s d)) ∧
  (∀ (s : State) (r : Relay) (bytes : List Byte), s.dev.fab.relays = [r] →
    let d := s.dev
    ((∀ e ∈ d.kme.execs, sameCommand r.op r.cmd e = true → e.accepted = false) →
      (d.now < r.sentAt + 800000 → Becomes .relayTimeout s d) ∧
      (r.sentAt + 800000 ≤ d.now → Becomes .relayTimeout s
        (finish r.op r.cmd { status := .timeout, detail := 0, result := [] } { d with fab := { d.fab with relays := [] } }))) ∧
    (u16 bytes 0 = r.op → bytes.getD 3 0 = r.cmd.seq →
      (u16 bytes 6 = 1 → Becomes (.relayReply r.fid bytes) s (acceptLong r.op r.cmd d)) ∧
      (∀ st : Status, statusCode st = u16 bytes 6 → st ≠ .ok → st ≠ .accepted → st ≠ .doneDegraded →
        Becomes (.relayReply r.fid bytes) s
          (finish r.op r.cmd { status := st, detail := u16 bytes 8, result := (bytes.drop 16).take (u16 bytes 4) }
            { d with fab := { d.fab with relays := [] } }))))

/-! ## Clocks, boot, resets (chapter 18) -/

/-- R480, R482, R483, R486, R487, R492, R521: boot goes from POR_N through the images and the MAIN PLL to the replay, and a row whose
moment has not come changes nothing.
R489, R491, R492: the configuration list of the chosen source is replayed and the buffer enabled; the first command is
admitted only after that; a packet with an unknown opcode is skipped, counted and flagged. -/
def Obligations.BootSequence : Prop :=
  (∀ (s : State) (x : Straps) (a b : List Byte) (starts vdd : Bool),
    let d := s.dev
    let two := fun (f : StrapSample → Nat) => (f x.first &&& f x.second) ||| (f x.second &&& f x.third) ||| (f x.first &&& f x.third)
    (d.clk.phase = .held → Becomes (.porNLow vdd) s d) ∧
    (d.clk.phase ≠ .held → Gives (.porNLow vdd) s fun t =>
      t.clk.phase = .held ∧ t.clk.cause = (if vdd then 5 else 1) ∧ t.kme.running = false ∧ t.ports = [] ∧ t.items = [] ∧ t.qps = [] ∧
      t.snapshots = d.snapshots ∧ t.bootRecord = d.bootRecord ∧ t.eqRecords = d.eqRecords ∧ t.can.boots = (d.can.boots + 1) % 2 ^ 32) ∧
    (d.clk.phase = .held → Becomes (.porNRelease x) s { d with
      clk := { d.clk with aValid := x.aValid, bValid := x.bValid, activeB := !x.aValid && x.bValid, phase := .rom, releasedAt := d.now,
                          strapIgnoreSnapshot := bitOf (two (·.boot)) 0, strapPerstWarm := bitOf (two (·.boot)) 1 },
      glb := { d.glb with fid := two (·.fid) % 32, smbAddrStrap := two (·.smbAddr) % 8, mgrPort := two (·.mgrPort) % 128 } }) ∧
    (let slot := preferredSlot d
     let image := if slot then b else a
     imageValid image →
       let loaded := { d with
         clk := { d.clk with imageB := slot, phase := .loaded, loadedAt := d.now, defaults := imageDefaults image },
         kme := { d.kme with running := starts, imageB := slot, fallback := d.clk.fallback || d.clk.watchdog, clk100 := true },
         glb := { d.glb with fwLevel := BitVec.ofNat 32 (u32 image 4) } }
       (d.clk.phase = .rom → Becomes (.imageLoad a b starts) s loaded) ∧
       (d.clk.phase = .noImage → d.clk.loadedAt + 10 ^ 9 ≤ d.now → Becomes (.imageRetry a b starts) s loaded)) ∧
    (d.clk.phase = .rom → imageValid a = false → imageValid b = false → Gives (.imageLoad a b starts) s fun t =>
      t.clk.phase = .noImage ∧ t.clk.loadedAt = d.now ∧ t.can.fault = true ∧ t.kme = d.kme ∧ t.ports = d.ports) ∧
    (d.clk.phase = .loaded → d.kme.running = false → d.clk.loadedAt + 500 * msNs ≤ d.now → imageValid (if d.clk.imageB then a else b) →
      Gives (.firmwareWatchdog a b starts) s fun t =>
        t.clk.imageB = !d.clk.imageB ∧ t.clk.watchdog = true ∧ t.clk.phase = .loaded ∧ t.kme.running = starts ∧ t.ports = d.ports ∧
        (if d.clk.imageB then t.bootRecord.failedB = true else t.bootRecord.failedA = true)) ∧
    (d.clk.phase = .loaded → d.kme.running = true → Becomes .mainPllLock s
      { d with clk := { d.clk with mainLock := true, phase := .locked }, kme := { d.kme with clk100 := false } }) ∧
    (d.clk.phase ≠ .loaded → Becomes (.firmwareWatchdog a b starts) s d ∧ Becomes .mainPllLock s d)) ∧
  (∀ (s : State), s.dev.clk.phase = .locked → s.dev.kme.running = true →
    Gives .configurationReplay s (fun t => t.clk.phase = .ready) ∧
    (configList s.dev = [] → Becomes .configurationReplay s { s.dev with
      clk := { s.dev.clk with cfgSrc := configSource s.dev, phase := .ready,
                              readyUs := min ((s.dev.now - s.dev.clk.releasedAt) / 1000) 0xFFFFF },
      xbr := { s.dev.xbr with enabled := true, enabledAt := s.dev.now } }) ∧
    (∀ (op : Nat) (c : Cmd), configList s.dev = [(op, c)] → op ∉ opcodes → Gives .configurationReplay s fun t =>
      t.clk.replayErr = satAdd 0xFFFF s.dev.clk.replayErr 1 ∧ t.clk.intStatus = s.dev.clk.intStatus ||| 4 ∧ t.clk.phase = .ready ∧
      t.ports = s.dev.ports ∧ t.parts = s.dev.parts ∧ t.kme = s.dev.kme))

/-- R493 to R497: what a warm reset, a cold reset and PERST_N_IN at a USP reset, and what stays. -/
def Obligations.ResetsReachTheirRows : Prop := ∀ (s : State) (x : Straps) (n : Nat),
  let d := s.dev
  (resetDue false d → Gives .warmReset s fun t =>
    t.clk.phase = .locked ∧ t.clk.cause = 3 ∧ t.clk.warmCount = satAdd 0xFFFF d.clk.warmCount 1 ∧ t.clk.resetPlan = none ∧
    t.ports = [] ∧ (∀ e ∈ t.plk, e.2.state = .disabled ∧ ∃ x ∈ d.plk, e = (x.1, plkCounters x.2)) ∧ t.lanes = [] ∧
      t.items = [] ∧ t.tracks = [] ∧ t.equeues = [] ∧ t.windows = [] ∧ t.steers = [] ∧
    t.qps = [] ∧ t.cqs = [] ∧ t.regions = [] ∧ t.counters = [] ∧ t.parts.map (·.1) = [0] ∧ t.kme.execs = [] ∧
    t.spw = d.spw ∧ t.feeds = d.feeds ∧ t.snapshots = d.snapshots ∧ t.eqRecords = d.eqRecords ∧ t.glb.intMask = d.glb.intMask ∧
    t.tlm = d.tlm ∧ t.now = d.now ∧ t.devTime = d.devTime) ∧
  (resetDue false d = false → Becomes .warmReset s d) ∧
  (resetDue true d → Gives (.coldReset x) s fun t =>
    t.clk.phase = .rom ∧ t.clk.cause = 2 ∧ (x.first = x.third → t.glb.fid = x.first.fid % 32) ∧ t.kme.running = false ∧ t.ports = [] ∧ t.parts = Device.reset.parts ∧
    t.spw = Device.reset.spw ∧ t.mbx = [] ∧ t.snapshots = d.snapshots ∧ t.bootRecord = d.bootRecord ∧ t.eqRecords = d.eqRecords) ∧
  (resetDue true d = false → Becomes (.coldReset x) s d) ∧
  ((d.port n).personality = .usp → (pinOf n 2 d).isSome → (d.pci n).perstIn = false →
    (n ≠ d.glb.mgrPort ∨ d.clk.strapPerstWarm = false) →
    ((d.port n).holder ≠ 0 ∨ n = d.glb.mgrPort) → Gives (.perstNIn n) s fun t =>
      (t.pci n).lstate = .detect ∧ (t.pci n).perstIn = true ∧ t.ports = d.ports ∧ t.clk = d.clk) ∧
  ((d.port n).personality ≠ .usp → Becomes (.perstNIn n) s d) ∧
  ((d.pci n).perstIn = true → (d.port n).personality ≠ .usp →
    Becomes (.perstNInRelease n) s (d.setPci n { d.pci n with perstIn := false, perstInReleasedAt := d.now })) ∧
  ((d.pci n).perstIn = true → (d.port n).personality = .usp → (d.port n).enabled = true → (d.pci n).dpc = false → (d.port n).holder ≠ 0 →
    Becomes (.perstNInRelease n) s (d.setPci n { d.pci n with perstIn := false, perstInReleasedAt := d.now, lstate := .detect })) ∧
  ((d.pci n).perstIn = false → Becomes (.perstNInRelease n) s d)

/-- R477 to R479, R522, R523: the two reference inputs, and the boundary-scan instructions. -/
def Obligations.ReferenceInputs : Prop := ∀ (s : State) (v : Bool) (n : Nat),
  let d := s.dev
  let c := s.dev.clk
  Becomes (.inactiveRefclkChange v) s { d with clk := if c.activeB then { c with aValid := v } else { c with bValid := v } } ∧
  (c.phase ≠ .held → c.aValid = true → c.bValid = true → Gives .refclkLoss s fun t =>
    t.clk = { c with activeB := !c.activeB, aValid := c.activeB, bValid := !c.activeB, switches := satAdd 0xFFFF c.switches 1,
                     intStatus := c.intStatus ||| 1 } ∧ t.ports = d.ports ∧ t.pcie = d.pcie ∧ t.plk = d.plk ∧ t.kme = d.kme) ∧
  ((c.activeB = true → c.bValid = false) → (c.activeB = false → c.aValid = false) → Becomes .refclkLoss s d) ∧
  ((∀ k < 96, (d.port k).personality = .off) →
    (c.phase ≠ .held → c.holdover = false → Becomes .refclkBothLost s
      { d with clk := { c with aValid := false, bValid := false, holdover := true, intStatus := c.intStatus ||| 2 } }) ∧
    (c.holdover = true → c.activeB = v → Becomes (.refclkRecovery v) s
      { d with clk := { c with holdover := false, aValid := c.aValid || !v, bValid := c.bValid || v } })) ∧
  (c.phase ≠ .held → c.holdover = false → Gives .refclkBothLost s fun t =>
    t.clk = { c with aValid := false, bValid := false, holdover := true, intStatus := c.intStatus ||| 2 } ∧ t.ports = d.ports) ∧
  (c.holdover = false → Becomes (.refclkRecovery v) s d) ∧
  (jtagOf n ≠ .idcode → Becomes (.jtagInstruction n) s { d with jtag := jtagOf n }) ∧
  Becomes (.jtagInstruction 1) s { d with jtag := .idcode, out := .tdo 0x059680A3 :: d.out }

/-- R399, R490, R498, R500 to R502: SYS_RESET parks a lane die or plans the reset 10 µs ahead; a snapshot is written to the
copy that is not the later and becomes valid at its notice; FW_UPDATE writes the slot and makes it ACTIVE at its notice. -/
def Obligations.ResetAndFirmwareCommands : Prop := ∀ (s : State) (c : Cmd),
  let d := s.dev
  (NoTarget c → Ready 0x0102 c d →
    (∀ die < 4, c.params = [2, BitVec.ofNat 8 die, 0, 0, 0, 0, 0, 0] → dieOff die d →
      Replies (.sysReset c) 0x0102 c s (ansOk (natLe 8 d.devTime.toNat)) (setParked die true)) ∧
    (∀ die < 4, c.params = [3, BitVec.ofNat 8 die, 0, 0, 0, 0, 0, 0] →
      Replies (.sysReset c) 0x0102 c s (ansOk (natLe 8 d.devTime.toNat)) (setParked die false)) ∧
    (∀ cold : Bool, c.params = [BitVec.ofNat 8 (natOfBool cold), 0, 0, 0, 0, 0, 0, 0] →
      Replies (.sysReset c) 0x0102 c s (ansOk (natLe 8 (d.devTime.toNat + 10000)))
        fun t => { t with clk := { t.clk with resetPlan := some { cold := cold, at_ := d.now + 10000 } } })) ∧
  (NoTarget c → Ready 0x0104 c d → c.params = [1, 0, 0, 0] →
    Starts (.sysSnapshotSave c) 0x0104 c s fun t => setReported 0x0104 c 2 (acceptLong 0x0104 c (markApplied 0x0104 c
      { t with snapshots := t.snapshots.map fun e => (e.1, { e.2 with valid := false }) }))) ∧
  (NoTarget c → Ready 0x0104 c d → c.params = [0, 0, 0, 0] → 36 + listBytes (snapshotPackets d) ≤ 2 ^ 20 →
    Gives (.sysSnapshotSave c) s fun t =>
    tget snapshotNone t.snapshots (saveCopy d) =
      { valid := false, fwLevel := d.glb.fwLevel.toNat, time := d.devTime.toNat, packets := snapshotPackets d,
        saveSeq := if (tget snapshotNone d.snapshots (1 - saveCopy d)).valid
                   then ((tget snapshotNone d.snapshots (1 - saveCopy d)).saveSeq + 1) % 2 ^ 32 else 1 } ∧
    t.ports = d.ports ∧ t.parts = d.parts) ∧
  (∀ image : List Byte, NoTarget c → Ready 0x0B01 c d → c.params.length = 24 → u64 c.params 0 % 4096 = 0 → u32 c.params 8 = image.length →
    64 ≤ image.length → image.length ≤ 2 ^ 24 → u8 c.params 12 ≤ 2 → u8 c.params 13 < 4 → zeros c.params 14 10 → headerGood image →
    u32 image 16 = image.length → fwSlot (u8 c.params 12) d ≠ d.clk.imageB → Gives (.fwUpdate c image) s fun t =>
      t.clk.staged = some { slotB := fwSlot (u8 c.params 12) d, fwLevel := BitVec.ofNat 32 (u32 image 4), defaults := imageDefaults image,
                            good := decide (u32 image 20 = (crc32c (image.drop 64)).toNat) } ∧
      t.bootRecord = d.bootRecord ∧ t.ports = d.ports ∧ t.parts = d.parts) ∧
  (∀ (e : Exec) (src : Source) (seq : Byte) (k : Nat), d.kme.execs = [e] → e.accepted = true → e.begun = true → e.cmd.source = src →
    e.cmd.seq = seq →
    (e.op = 0x0104 → e.reported ≠ 2 → Gives (.completionNotice src seq k) s fun t =>
      tget snapshotNone t.snapshots e.reported = { tget snapshotNone d.snapshots e.reported with valid := true } ∧
      t.kme.execs = [] ∧ t.kme.lastStatus = 0) ∧
    (∀ f : FwStage, e.op = 0x0B01 → d.clk.staged = some f → f.good = true → k = 0 → d.now ≤ e.since + 60 * 10 ^ 9 →
      u8 e.cmd.params 13 = 1 →
      Gives (.completionNotice src seq k) s fun t => t.bootRecord.activeB = f.slotB ∧ t.kme.execs = [] ∧ t.kme.lastStatus = 0 ∧
        t.clk = d.clk)) ∧
  (∀ (src : Source) (seq : Byte) (k : Nat), d.kme.execs = [] → Becomes (.completionNotice src seq k) s d)


/-! ## Partitions (chapter 4) -/

/-- R84, R93, R95, R108 to R112: PART_CREATE makes a partition ACTIVE with a DISABLED segment; PART_QUIESCE with nothing in
flight ends QUIESCED at once, else the partition waits QUIESCING; RESUME makes it ACTIVE again; PART_DESTROY of an empty one
frees it; PART_RESET makes it RESETTING. -/
def Obligations.PartitionCommands : Prop := ∀ (s : State) (c : Cmd) (p : Nat),
  let d := s.dev
  let x := s.dev.part p
  (∀ flags dsbs act : Nat, 1 ≤ p → p ≤ 48 → x.state = .free → flags < 8 → 1 ≤ dsbs → dsbs ≤ 96 → act % 256 = 0 →
    act ≤ freeAct d → NoTarget c →
    c.source.transport ≠ 7 → Ready 0x0301 c d →
    c.params = natLe 1 p ++ natLe 1 flags ++ natLe 1 dsbs ++ [0] ++ natLe 4 act → Gives (.partCreate c) s fun t =>
      t.part p = { partFree with state := .active, fabric := bitOf flags 0, vfSteered := bitOf flags 1, rmaP2p := bitOf flags 2,
                                 dsbCount := dsbs, actEntries := act, activeSince := d.now } ∧
      (t.seg p).state = .disabled ∧ (t.seg p).epoch = (d.seg p).epoch + 1 ∧ t.kme.lastStatus = 0 ∧ t.ports = d.ports ∧
      (∀ q, q ≠ p → t.part q = d.part q ∧ t.seg q = d.seg q)) ∧
  (1 ≤ p → p ≤ 48 → c.target.toNat = p → c.param0 = 0 →
    (∀ ms : Nat, x.state = .active → ms ≤ 1000 → Ready 0x0303 c d → c.params = natLe 2 ms ++ [0, 0] →
      (inFlight p d = 0 → Gives (.partQuiesce c) s fun t => (t.part p).state = .quiesced ∧ (t.part p).quiesceReq = true ∧
        t.kme.lastStatus = 0 ∧ t.ports = d.ports ∧ t.items = d.items) ∧
      (inFlight p d ≠ 0 → Gives (.partQuiesce c) s fun t =>
        t.part p = { x with state := .quiescing, quiesceReq := true, quiesceSince := d.now, quiesceTimeoutMs := if ms = 0 then
          10 else ms } ∧
        t.items = d.items ∧ t.tracks = d.tracks)) ∧
    (x.state = .quiesced → Ready 0x0303 c d → c.params = [0, 0, 1, 0] → journalFits (d.journal p) (journalSources p d) →
      Replies (.partQuiesce c) 0x0303 c s (ansOk (natLe 8 0)) fun t =>
        t.setPart p { x with state := .active, quiesceReq := false, activeSince := d.now }) ∧
    (x.state = .active → portsOf p d = [] → vfsOf p d = [] → (∀ e ∈ d.steers, e.2.part ≠ p) → Ready 0x0302 c d → c.params = [] →
      Gives (.partDestroy c) s fun t => t.part p = partFree ∧ t.kme.lastStatus = 0 ∧ t.ports = d.ports ∧
        ∀ w, (t.window w).valid = true → (t.window w).srcPart ≠ p ∧ (t.window w).dstPart ≠ p) ∧
    (x.state = .quiesced → Ready 0x0306 c d → c.params = [0, 0, 0, 0] → Gives (.partReset c) s fun t =>
      (t.part p).state = .resetting ∧ t.ports = d.ports ∧ t.segs = d.segs))

/-- R92 to R97, R104, R112: a partition drained is QUIESCED; at its timeout what remains is reported and it is QUIESCED all
the same; a reset that has ended makes it ACTIVE, or QUIESCED when a quiesce asked for that; a hot reset at its USP makes it
RESETTING. Before their moment these rows change nothing. -/
def Obligations.PartitionEvents : Prop := ∀ (s : State) (p n e : Nat),
  let d := s.dev
  let x := s.dev.part p
  (x.state = .quiescing → inFlight p d = 0 → Gives (.partitionDrained p) s fun t =>
    (t.part p).state = .quiesced ∧ t.ports = d.ports ∧ t.tracks = d.tracks ∧ t.windows = d.windows ∧
    ((∀ y ∈ d.kme.execs, y.cmd.source.transport ≠ 6) → t.items = d.items)) ∧
  (x.state ≠ .quiescing → Becomes (.partitionDrained p) s d ∧ Becomes (.quiesceTimeout p) s d) ∧
  (inFlight p d ≠ 0 → Becomes (.partitionDrained p) s d) ∧
  (x.state = .quiescing → inFlight p d ≠ 0 → x.quiesceSince + x.quiesceTimeoutMs * msNs ≤ d.now → Gives (.quiesceTimeout p) s fun t =>
    (t.part p).state = .quiesced ∧ t.ports = d.ports) ∧
  (x.state = .quiescing → d.now < x.quiesceSince + x.quiesceTimeoutMs * msNs → Becomes (.quiesceTimeout p) s d) ∧
  (x.state = .resetting → (d.func (.pf p)).flr = .idle → vfsOf p d = [] → x.quiesceReq = false →
    (∀ y ∈ d.kme.execs, y.op ≠ 0x0306) →
      Becomes (.partitionResetDone p) s (d.setPart p { x with state := .active, activeSince := d.now })) ∧
  (x.state = .resetting → (d.func (.pf p)).flr = .idle → vfsOf p d = [] → x.quiesceReq = true →
    Gives (.partitionResetDone p) s fun t => (t.part p).state = .quiesced ∧ t.ports = d.ports) ∧
  (x.state ≠ .resetting → Becomes (.partitionResetDone p) s d) ∧
  ((d.port n).personality = .usp → (d.port n).holder = p → p ≠ 0 → x.state = .active → Gives (.hotReset n) s fun t =>
    (t.part p).state = .resetting ∧ (t.pci n).lstate = .hotReset ∧ t.ports = d.ports ∧ t.segs = d.segs) ∧
  ((d.port n).personality ≠ .usp → Becomes (.hotReset n) s d) ∧
  ((d.steer e).retryUntil ≠ 0 → (d.steer e).retryUntil ≤ d.now →
    Becomes (.steeredVfRetryEnd e) s (d.setSteer e { d.steer e with retryUntil := 0 })) ∧
  (d.now < (d.steer e).retryUntil → Becomes (.steeredVfRetryEnd e) s d) ∧
  ((d.steer e).fenced = true → steerDrained e d = true → d.kme.execs = [] → Becomes (.vfUnbindDrained e) s (dropSteer e (d.steer e) d)) ∧
  ((d.steer e).fenced = false → Becomes (.vfUnbindDrained e) s d) ∧
  (steerDrained e d = false → d.now < (d.steer e).fencedAt + (d.steer e).timeoutMs * msNs → Becomes (.vfUnbindDrained e) s d)

/-- R40, R46, R86, R99, R113, R114: a DSP of this device is bound to a free bridge of a tenant partition, whose slots show
the change; a VF is steered into a partition with an entry of its own; unbinding it fences the entry, and gives it back when
nothing passes through it. -/
def Obligations.BindingCommands : Prop := ∀ (s : State) (c : Cmd) (p n k : Nat),
  let d := s.dev
  1 ≤ p → p ≤ 48 → (d.part p).state = .active → c.param0 = 0 → n < 96 → k < (d.part p).dsbCount → k < 96 →
  portBridge p k d = false → c.source.transport < 6 →
  (c.target.toNat = p → (d.port n).personality = .dsp → (d.port n).absorbedBy = none → (d.port n).holder = 0 → n ≠ d.glb.mgrPort →
    steersOut n d = false → steeringBridge p k d = false → journalFits (d.journal p) (journalSources p d + 1) → (d.pci n).dpc = false →
    d.glb.fid < 32 → Ready 0x0304 c d → c.params = [BitVec.ofNat 8 n, BitVec.ofNat 8 d.glb.fid, BitVec.ofNat 8 k, 0] →
    Gives (.partBindPort c) s fun t =>
      t.port n = { d.port n with holder := p, bridge := some k } ∧ t.kme.lastStatus = 0 ∧
      (t.bridge (bridgeKey p k)).slotStatus = (d.bridge (bridgeKey p k)).slotStatus ||| 8 ∧
      (t.bridge (bridgeKey 0 n)).slotStatus = (d.bridge (bridgeKey 0 n)).slotStatus ||| 8 ∧ t.pcie = d.pcie ∧ t.parts = d.parts) ∧
  (∀ rid vf f : Nat, vf < 2 ^ 16 → rid < 2 ^ 16 → f < 256 → (d.port n).personality = .dsp → (d.port n).absorbedBy = none →
    (d.sriovOf n rid).vfEnable = true → vf < (d.sriovOf n rid).numVfs → d.glb.fid < 32 →
    (c.target.toNat = p → (d.part p).vfSteered = true → (d.part p).fabric = false → d.steers = [] → d.homeSteers = [] →
      (d.port n).holder ≠ p →
      Ready 0x0305 c d →
      c.params = natLe 1 n ++ natLe 1 k ++ natLe 2 rid ++ natLe 2 vf ++ natLe 1 f ++ natLe 1 d.glb.fid ++ [0, 0, 0, 0] →
      Gives (.partBindVf c) s fun t =>
        t.steers = [(0, { steerFree with
          port := n, bridge := k, pfRid := rid, vfIndex := vf, func := f, part := p, bars := List.replicate 6 0,
          realRid := rid + (d.sriovOf n rid).firstOffset + vf * (d.sriovOf n rid).stride })] ∧
        t.kme.lastStatus = 0 ∧ t.ports = d.ports ∧ t.parts = d.parts) ∧
    (c.target = 0 → ∀ x : Steer, d.steers = [(0, x)] → x.port = n → x.pfRid = rid → x.vfIndex = vf → Ready 0x0305 c d →
      c.params = natLe 1 n ++ natLe 1 k ++ natLe 2 rid ++ natLe 2 vf ++ natLe 1 f ++ natLe 1 d.glb.fid ++ [0, 0, 0, 0] →
      (steerDrained 0 d = true → Gives (.partBindVf c) s fun t => t.steers = [] ∧ t.kme.lastStatus = 0 ∧ t.ports = d.ports) ∧
      (steerDrained 0 d = false → Gives (.partBindVf c) s fun t =>
        t.steers = [(0, { x with fenced := true, fencedAt := d.now, timeoutMs := 10 })] ∧ t.items = d.items ∧ t.ports = d.ports)))


/-! ## Access control (chapter 6) -/

/-- R157, R159, R166 to R169: ACT_DISABLE disables the segment and ends at once when nothing checked under it is left inside;
ACT_WRITE writes entries of a disabled segment; ACT_ENABLE enables one without overlap, and names the pair that overlaps;
ACT_READ returns the entries as written. -/
def Obligations.AccessCommands : Prop := ∀ (s : State) (c : Cmd) (p : Nat),
  let d := s.dev
  let g := s.dev.seg p
  1 ≤ p → p ≤ 48 → c.target.toNat = p → c.param0 = 0 → (d.part p).state ≠ .free →
  (Ready 0x0401 c d → c.params = [] →
    (∀ e : Exec, g.state = .disabled → execOf 0x0401 c d = some e →
      (e.applied = false → Replies (.actDisable c) 0x0401 c s (ansOk (natLe 4 g.gen ++ natLe 4 0)) id) ∧
      (e.applied = true → oldInflight p d = 0 →
        Replies (.actDisable c) 0x0401 c s (ansOk (natLe 4 g.gen ++ natLe 4 (min (d.now - e.since) 0xFFFFFFFF))) id) ∧
      (e.applied = true → oldInflight p d ≠ 0 → Starts (.actDisable c) 0x0401 c s id)) ∧
    (g.state = .enabled → Gives (.actDisable c) s fun t =>
      t.seg p = { g with state := .disabled, gen := (g.gen + 1) % 65536, disabledAt := d.now, stallLong := false } ∧ t.items = d.items ∧
      (oldInflight p d = 0 → t.kme.lastStatus = 0) ∧ ∀ q, q ≠ p → t.seg q = d.seg q)) ∧
  (∀ (first : Nat) (e : ActEntry), Ready 0x0402 c d → g.state = .disabled → first < (d.part p).actEntries → first < 2 ^ 32 →
    e.base % 4096 = 0 → e.limit % 4096 = 4095 → e.base ≤ e.limit → e.limit < 2 ^ 64 → e.rid < 2 ^ 16 → e.ridMask < 2 ^ 16 →
    (e.rights < 8 ∨ 128 ≤ e.rights ∧ e.rights < 136) →
    c.params = natLe 4 first ++ natLe 2 1 ++ natLe 2 0 ++ natLe 8 e.base ++ natLe 8 e.limit ++ natLe 2 e.rid ++ natLe 2 e.ridMask ++
      natLe 1 e.rights ++ natLe 3 0 →
    let g' := { g with entries := tset none g.entries first (some e) }
    Replies (.actWrite c) 0x0402 c s (ansOk (natLe 4 (validEntries g').length)) fun t => t.setSeg p g') ∧
  (∀ vector : Nat, Ready 0x0403 c d → (vector = 0xFFFF ∨ vector < 2048) → c.params = natLe 2 vector ++ [0, 0] →
    let a := ansOk (natLe 4 (validEntries g).length ++ natLe 4 g.gen)
    (g.state = .enabled → Replies (.actEnable c) 0x0403 c s a fun t => t.setSeg p { g with vector := vector }) ∧
    (g.state = .disabled → firstOverlap (validEntries g) = none → (∀ i ∈ d.items, i.stage = .held → itemSeg i ≠ p) →
      Replies (.actEnable c) 0x0403 c s a fun t => t.setSeg p { g with vector := vector, state := .enabled, stallLong := false }) ∧
    (∀ x y : Nat, g.state = .disabled → firstOverlap (validEntries g) = some (x, y) →
      Replies (.actEnable c) 0x0403 c s { status := .overlap, detail := min x 0xFFFF, result := natLe 4 x ++ natLe 4 y } id)) ∧
  (∀ (first : Nat) (e : ActEntry), Ready 0x0404 c d → first < (d.part p).actEntries → first < 2 ^ 32 → entryOf g first = some e →
    c.params = natLe 4 first ++ natLe 2 1 ++ [0, 0] →
    Replies (.actRead c) 0x0404 c s (ansOk (natLe 4 first ++ natLe 2 1 ++ natLe 2 0 ++ natLe 8 e.base ++ natLe 8 e.limit ++
      natLe 2 e.rid ++
      natLe 2 e.ridMask ++ natLe 1 e.rights ++ natLe 3 0)) id)

/-- R148, R163, R165: what the central table answers for one request; an entry that is read with an uncorrectable ECC error
is a lookup fault, and its index stands twice.
R148, R154, R156, R159, R160, R162, R164: an item at crossbar entry is held while its segment is DISABLED, is checked
once while it is ENABLED, and a denied request leaves with Unsupported Request; the ends of ACT_DISABLE, STALL_LONG, and the
clearing of the log. -/
def Obligations.AccessChecksAndFlow : Prop :=
  (∀ (t : Tlp) (g : Seg) (a b : Nat × ActEntry) (rest : List (Nat × ActEntry)) (bad : Nat),
    let covers := fun (e : ActEntry) => e.base ≤ t.addr / 4096 * 4096 ∧ t.addr / 4096 * 4096 ≤ e.limit
    let hits := (validEntries g).filter fun e => decide (covers e.2)
    (hits = [] → checkRequest t g none = (1, 0, 0)) ∧
    (hits = [a] → t.reqId &&& a.2.ridMask ≠ a.2.rid &&& a.2.ridMask → checkRequest t g none = (3, 0, 0)) ∧
    (hits = [a] → t.reqId &&& a.2.ridMask = a.2.rid &&& a.2.ridMask →
      (bitOf a.2.rights (if isAtomic t.kind then 2 else if t.kind = .memWrite then 1 else 0) = true → checkRequest t g none = (0, 0, 0)) ∧
      (bitOf a.2.rights (if isAtomic t.kind then 2 else if t.kind = .memWrite then 1 else 0) = false → checkRequest t g none = (2, 0, 0))) ∧
    (hits = a :: b :: rest → checkRequest t g none = (4, a.1, b.1)) ∧
    checkRequest t g (some bad) = (4, bad, bad)) ∧
  (∀ (s : State) (p id : Nat) (i : Item),
    let d := s.dev
    let g := s.dev.seg p
    (findItem id d = none → Becomes (.crossbarEntry id none) s d) ∧
    (d.items = [i] → i.id = id → i.stage = .entry → checkSegment i d = some p → i.ingress < 96 →
      (g.state = .disabled → i.inCells ≤ 1024 → holdUsed d + i.inCells ≤ 8192 → heldCells p d + i.inCells ≤ 1024 →
        Gives (.crossbarEntry id none) s fun t => t.items = [{ i with stage := .held, holdCells := i.inCells, inCells := 0,
                                                                      hdrCr := 0, dataCr := 0, order := d.nextId }]) ∧
      (g.state = .disabled → 1024 < heldCells p d + i.inCells → Becomes (.crossbarEntry id none) s d) ∧
      (g.state = .enabled → i.cls = 1 → checkRequest i.tlp g none = (1, 0, 0) → Gives (.crossbarEntry id none) s fun t =>
        (∀ j ∈ t.items, j.cls = 2) ∧ (i.window = none → t.items = []) ∧ (t.seg p).violCount = satAdd 0xFFFFFFFF g.violCount 1 ∧
          t.parts = d.parts ∧
        (g.violValid = false → (t.seg p).violAddr = i.tlp.addr ∧ (t.seg p).violReason = 1 ∧ (t.seg p).violValid = true))) ∧
    (∀ e : Exec, d.kme.execs = [e] → e.op = 0x0401 → e.cmd.target.toNat = p → e.applied = true → e.begun = true →
      (oldInflight p d = 0 → Becomes (.actDrainDone p) s (finish e.op e.cmd (ansOk (natLe 4 g.gen ++
        natLe 4 (min (d.now - e.since) 0xFFFFFFFF))) d)) ∧
      (oldInflight p d ≠ 0 → Becomes (.actDrainDone p) s d) ∧
      (oldInflight p d ≠ 0 → e.since + msNs ≤ d.now → Becomes (.actDisableTimeout p) s (finish e.op e.cmd
        { status := .timeout, detail := min (oldInflight p d) 0xFFFF, result := natLe 4 g.gen ++
          natLe 4 (min (d.now - e.since) 0xFFFFFFFF) } d)) ∧
      (d.now < e.since + msNs → Becomes (.actDisableTimeout p) s d)) ∧
    (g.state = .disabled → g.stallLong = false → (d.part p).state = .active → max g.disabledAt (d.part p).activeSince + 250000 ≤ d.now →
      Becomes (.stallLong p) s { d.setSeg p { g with stallLong := true } with act := { d.act with intStatus := d.act.intStatus ||| 2 } }) ∧
    (g.stallLong = true → Becomes (.stallLong p) s d) ∧
    (1 ≤ p → p ≤ 48 → Becomes (.actViolClear p) s (d.setSeg p
      { g with violCount := 0, violAddr := 0, violReason := 0, violType := 0, violPosted := false, violValid := false, violRid := 0 })) ∧
    ((p = 0 ∨ 48 < p) → Becomes (.actViolClear p) s d))

/-! ## Windows and telemetry (chapter 5) -/

/-- R118, R131 to R137, R139: NTW_SET enters a window over the log it had; NTW_CLEAR frees it and answers COUNT; NTW_STATUS
answers the entry and may clear the log; hosts clear logs and ring doorbells only of their own windows; a time-out is
counted.
R123: a translated request that is not answered in time is counted, flagged, and answered with a synthetic completion. -/
def Obligations.WindowRows : Prop :=
  (∀ (s : State) (c : Cmd) (w : Nat),
    let d := s.dev
    let x := s.dev.window w
    (∀ (src dst off size base vec : Nat), w < 512 → NoTarget c → Ready 0x0501 c d → src ≤ 48 → dst ≤ 48 → src ≠ dst →
      (d.part src).state ≠ .free → (d.part dst).state ≠ .free → off % 4096 = 0 → size % 4096 = 0 → 4096 ≤ size →
        base % 4096 = 0 → base < 2 ^ 64 →
      off + size ≤ 0xFFFFFC000 → vec < 64 → d.windows = [] →
      c.params = natLe 2 w ++ natLe 1 src ++ natLe 1 dst ++ natLe 8 off ++ natLe 8 size ++ natLe 8 base ++ [0, 7, 0, 0] ++ natLe 2 vec ++
        natLe 2 vec ++ natLe 12 0 →
      Gives (.ntwSet c) s fun t =>
        t.windows = [(w, { windowFree with valid := true, srcPart := src, dstPart := dst, srcOffset := off, size := size, dstBase := base,
                                           read := true, write := true, doorbell := true, errVector := vec, dbVector := vec,
                                             cplTimeoutMs := 50 })] ∧
        t.kme.lastStatus = 0 ∧ t.parts = d.parts ∧ t.ports = d.ports) ∧
    (c.target.toNat = w → c.param0 = 0 → w < 512 → x.valid = true →
      (Ready 0x0502 c d → c.params = [] → Replies (.ntwClear c) 0x0502 c s (ansOk (natLe 4 x.errCount)) fun t =>
        { t with windows := terase w t.windows, dbWaits := t.dbWaits.filter fun y => decide (y.window ≠ w) }) ∧
      (∀ clear : Bool, Ready 0x0503 c d → c.params = [BitVec.ofNat 8 (natOfBool clear), 0, 0, 0] →
        Replies (.ntwStatus c) 0x0503 c s (ansOk (natLe 4 (windowCfgWord x) ++ natLe 4 x.errCount ++ natLe 8 x.srcOffset ++
          natLe 8 x.size ++
            natLe 8 x.dstBase ++ natLe 8 x.errAddr ++ natLe 4 (windowInfoWord x) ++ natLe 4 (windowTrafficWord w d)))
          fun t => if clear then t.setWindow w { x with errCount := 0, errValid := false, errReason := 0 } else t)) ∧
    (x.valid = true → Becomes (.windowLogClear w x.srcPart) s (d.setWindow w { x with errCount := 0, errValid := false, errReason := 0 })) ∧
    (∀ q, x.srcPart ≠ q → Becomes (.windowLogClear w q) s d) ∧
    (∀ (n : Nat) (bits : W32), x.valid = true → x.doorbell = true → Becomes (.outboundDoorbellWrite w x.srcPart n bits) s
      { d with dbWaits := d.dbWaits ++ [{ window := w, bits := bits, behind := postedBehind w n d }] }) ∧
    (∀ (q n : Nat) (bits : W32), x.srcPart ≠ q → Becomes (.outboundDoorbellWrite w q n bits) s d) ∧
    (∀ y : DoorbellWait, d.dbWaits = [y] → y.window = w → y.behind = [] → Gives (.inboundDoorbellSet w) s fun t =>
      t.window w = { x with dbStatus := x.dbStatus ||| y.bits } ∧ t.dbWaits = [] ∧ t.parts = d.parts ∧ t.items = d.items) ∧
    (d.dbWaits = [] → Becomes (.inboundDoorbellSet w) s d)) ∧
  (∀ (s : State) (t : Track) (w : Nat), s.dev.tracks = [t] → t.window = some w →
    t.answered = false →
    t.fn = none → t.nearFab = none →
    let d := s.dev
    let x := s.dev.window w
    x.valid = true → x.cplTimeoutMs ≠ 0 →
    (d.now < t.sentAt + x.cplTimeoutMs * msNs → Becomes (.windowCplTimeout t.id) s d) ∧
    (t.sentAt + x.cplTimeoutMs * msNs ≤ d.now → Gives (.windowCplTimeout t.id) s fun u =>
      (u.window w).cplTimeouts = satAdd 0xFFFF x.cplTimeouts 1 ∧ u.ntw.intStatus = d.ntw.intStatus ||| 4 ∧
      u.fab.cntSynth = satAdd 0xFFFFFFFF d.fab.cntSynth 1 ∧ (∀ y ∈ u.tracks, y.answered = true)) ∧
    (∀ id, id ≠ t.id → Becomes (.windowCplTimeout id) s d))

/-- R141 to R145: TLM_MAP_SET enters a mapping; once in 1 ms an evaluation scales, rounds and clamps the reading of an
enabled entry; an IPMB message is such a source when it matches; GET_SENSOR_READING answers a value that is not too old. -/
def Obligations.TelemetryRows : Prop := ∀ (s : State) (e : Nat) (x : TlmEntry),
  let d := s.dev
  let clamp := fun (n : Int) => max (sizeRange x.dstSize).1 (min (sizeRange x.dstSize).2 n)
  (∀ c : Cmd, e < 256 → c.target.toNat = e → c.param0 = 0 → Ready 0x0504 c d → c.params.length = 32 →
    firstFail (tlmFields c.params) = none → tlmClash e (tlmAsked c.params) d = false → (tlmAsked c.params).enable = true →
    Gives (.tlmMapSet c) s fun t => t.tlmEntry e = tlmAsked c.params ∧ t.kme.lastStatus = 0 ∧ t.spw = d.spw ∧
      ∀ k, k ≠ e → t.tlmEntry k = d.tlmEntry k) ∧
  (d.tlm = [(e, x)] → x.enable = true →
    (x.srcIpmb = false → x.srcId = 0x600 → (∀ t, x.evalAt = some t → t + msNs ≤ d.now) → Becomes .tlmEvaluation s (d.setTlm e
      { x with evals := (x.evals + 1) % 2 ^ 24, evalAt := some d.now, srcValid := true,
               value := clamp (roundShift ((d.feeds.vinA : Int) * x.m) x.shift + x.b),
               saturated := decide (roundShift ((d.feeds.vinA : Int) * x.m) x.shift + x.b < (sizeRange x.dstSize).1) ||
                            decide ((sizeRange x.dstSize).2 < roundShift ((d.feeds.vinA : Int) * x.m) x.shift + x.b) })) ∧
    (∀ t, x.evalAt = some t → d.now < t + msNs → Becomes .tlmEvaluation s d) ∧
    (x.srcIpmb = true → Becomes .tlmEvaluation s d) ∧
    (∀ (bytes : List Byte) (b : Byte), x.srcIpmb = true → x.matchOffset = 0xFF → x.fieldByte = 0 → x.fieldLsb = 0 → x.fieldWidth = 8 →
      x.srcBe = false → x.signed = false → x.shift = 0 → Becomes (.ipmbMessage x.ipmbSa x.ipmbNetfn x.ipmbCmd (b :: bytes)) s (d.setTlm e
        { x with evals := (x.evals + 1) % 2 ^ 24, evalAt := some d.now, srcValid := true, value := clamp ((b.toNat : Int) * x.m + x.b),
                 saturated := decide ((b.toNat : Int) * x.m + x.b < (sizeRange x.dstSize).1) ||
                              decide ((sizeRange x.dstSize).2 < (b.toNat : Int) * x.m + x.b) })) ∧
    (∀ t : Nat, x.dstIpmb = false → x.evalAt = some t → x.srcValid = true → d.now ≤ t + x.maxAgeMs * msNs →
      let value := natLe (sizeBytes x.dstSize) (x.value % 2 ^ (8 * sizeBytes x.dstSize)).toNat
      Becomes (.getSensorReading x.dstId false) s { d with out := .message { transport := 4, inst := 0 } 5 (0 :: value) :: d.out }) ∧
    (x.dstIpmb = false → x.evalAt = none → Becomes (.getSensorReading x.dstId false) s
      { d with out := .message { transport := 4, inst := 0 } 5 [1] :: d.out }))


/-! ## The switch core (chapter 3) -/

/-- R55, R87, R88: panel lookup queues a write of a USP's host toward the DSP that claims its address, and answers a read
that nothing claims with Unsupported Request; an RMA, ROUTE, TOPO or MGMT item is another row's.
R87, R227, R322: a completion that answers a request forwarded downstream returns to the requester's port with its tag
restored, and the request's record goes; a late one is counted and discarded; one that answers nothing is Unexpected. -/
def Obligations.ItemsAreRouted : Prop :=
  (∀ (s : State) (a : Arrival),
    let d := s.dev
    let n := a.port
    let p := (d.port a.port).holder
    n < 96 → (d.port n).personality = .usp → a.rma = none → a.fn = none → a.fab = none → d.fenced p = false →
    inBar (d.func (function1 p)).windowBar 0x1000000000 a.tlp.addr = false → a.tlp.poisoned = false →
    (∀ m, a.tlp.kind = .memWrite → routeDown p a.tlp d = .port m → m < 96 → (d.port m).personality = .dsp → (d.pci m).dpc = false →
      linkUp m d = true → Gives (.panelLookup a) s fun t => t.nextId = d.nextId + 1 ∧ t.parts = d.parts ∧ t.ports = d.ports ∧
        ∃ j ∈ t.items, j.id = d.nextId ∧ j.tlp = a.tlp ∧ j.ingress = n ∧ j.egress = m ∧ j.part = p ∧ j.stage = .voq ∧ j.cls = 0) ∧
    (∀ key, a.tlp.kind = .memRead → routeDown p a.tlp d = .refuse key → Gives (.panelLookup a) s fun t =>
      t.items = d.items ∧ t.ports = d.ports ∧ Output.item n (completionFor a.tlp a.tlp.reqId a.tlp.tag .ur) none ∈ t.out ∧
      (t.bridge key).aerUncor.testBit 20 = true) ∧
    (a.tlp.kind = .mgmt → Gives (.panelLookup a) s fun t => t.items = d.items ∧ t.bridges = d.bridges ∧ t.ports = d.ports)) ∧
  (∀ (s : State) (a : Arrival) (t : Track),
    let d := s.dev
    let n := a.port
    n < 96 → (d.port n).personality = .dsp → a.fn = none → a.fab = none → a.rma = none →
    (d.tracks = [t] → t.rid = a.tlp.reqId → t.tag = a.tlp.tag → t.fid = none → t.port = n → t.fn = none →
      (t.answered = false → t.window = none → t.steer = none → t.nearFab = none → t.nearPort < 96 → (d.port t.nearPort).personality = .usp →
        linkUp t.nearPort d = true → a.tlp.kind = .cpl → t.kind = .memRead → a.tlp.status = .sc → t.remaining ≤ a.tlp.len →
        Gives (.completionArrival a) s fun u => u.tracks = [] ∧ u.ports = d.ports ∧
          ∃ j ∈ u.items, j.id = d.nextId ∧ j.egress = t.nearPort ∧ j.cls = 2 ∧ j.tlp.reqId = t.nearRid ∧ j.tlp.tag = t.nearTag ∧
            j.tlp.data = a.tlp.data) ∧
      (t.answered = true → Gives (.completionArrival a) s fun u =>
        u.tracks = (if t.held = [] then [] else [{ t with port := unsentPort, fid := none }]) ∧ u.items = d.items ∧
          (u.pci n).lateCpl = satAdd 0xFF (d.pci n).lateCpl 1)) ∧
    (d.tracks = [] → Gives (.completionArrival a) s fun u =>
      u.items = d.items ∧ u.tracks = [] ∧ (u.bridge (portKey n d)).aerUncor.testBit 16 = true))

/-- R14, R54, R56 to R60, R441: a cell time with an item in no other's way moves one of its cells into the output buffer, and
passes even when nothing moves; with a parity error on the control words nothing moves; the matcher stands still until the
buffer is enabled; a shared block unused for 10 µs goes back, and what it backed is withheld from the credit freed next.
R69 to R71, R73, R74, R76, Table 3.4: the lock of a DSP from the accepted MRdLk to the Unlock message or its time-out,
and the passes of the tally audit. -/
def Obligations.CellTimesLocksAndTally : Prop :=
  (∀ (s : State) (n cls : Nat),
    let d := s.dev
    (d.xbr.enabled = false → Becomes (.matcherCellTime false) s d) ∧
    (d.xbr.enabled = true → d.items = [] →
      Becomes (.matcherCellTime false) s { d with xbr := { d.xbr with cellTime := d.xbr.cellTime + 1 } }) ∧
    (∀ i : Item, d.xbr.enabled = true → d.items = [i] → i.stage = .crossing → 1 ≤ i.inCells → i.holdCells = 0 → i.ingress < 96 →
      i.egress < 96 →
      i.queue < 8 → i.cls < 3 → unitsOf (d.port i.ingress).width = 1 → (d.port i.ingress).absorbedBy = none →
        (d.port i.egress).absorbedBy = none → withheld i d d = false → throttled i.ingress i.egress d = false →
      shaftHolds false i.ingress d = false → shaftHolds true i.egress d = false →
        Gives (.matcherCellTime false) s fun t => t.xbr.cellTime = d.xbr.cellTime + 1 ∧ t.ports = d.ports ∧
        ∃ j, t.items = [j] ∧ j.id = i.id ∧ j.inCells + 1 = i.inCells ∧ j.poolCells + j.rsvCells = i.poolCells + i.rsvCells + 1) ∧
    (d.xbr.enabled = true → Becomes (.matcherCellTime true) s { d with
      xbr := { d.xbr with cellTime := d.xbr.cellTime + 1 }, can := { d.can with eccStruct := satAdd 0xFFFF d.can.eccStruct 1 } }) ∧
    (let k := creditOf (d.pfl n) (cls / 4) (cls % 4)
     (d.port n).personality = .pfl → cls < 16 → cls % 4 < 3 →
       (k.blockUsedAt + 10000 ≤ d.now → 16 ≤ k.sharedCells → k.sharedHdr < 16 → Becomes (.sharedBlockReturn n cls) s (d.setPfl n
         (setCredit (d.pfl n) (cls / 4) (cls % 4) { k with sharedCells := k.sharedCells - 16, takeBack := k.takeBack + 16 }))) ∧
       (k.blockUsedAt + 10000 ≤ d.now → 16 ≤ k.sharedCells → 16 ≤ k.sharedHdr → Becomes (.sharedBlockReturn n cls) s (d.setPfl n
         (setCredit (d.pfl n) (cls / 4) (cls % 4) { k with sharedCells := k.sharedCells - 16, takeBack := k.takeBack + 16,
                                                           sharedHdr := k.sharedHdr - 16, takeBackHdr := k.takeBackHdr + 16 }))) ∧
       (d.now < k.blockUsedAt + 10000 → Becomes (.sharedBlockReturn n cls) s d)) ∧
    ((d.port n).personality ≠ .pfl → cls < 3 → 16 ≤ sharedOf (d.buf n) cls →
      ingressCells n cls d + 16 ≤ minOf (d.buf n) cls + sharedOf (d.buf n) cls → (d.buf n).sharedUsedAt + 10000 ≤ d.now → d.kme.execs = [] →
      Becomes (.sharedBlockReturn n cls) s ((d.setBuf n (withShared (d.buf n) cls (sharedOf (d.buf n) cls - 16))).setPci n
        { d.pci n with takeBack := addClass (d.pci n).takeBack cls (dataOf 16),
                       takeBackHdr := addClass (d.pci n).takeBackHdr cls (headersOf 16) })) ∧
    ((d.port n).personality ≠ .pfl → d.now < (d.buf n).sharedUsedAt + 10000 → Becomes (.sharedBlockReturn n cls) s d)) ∧
  (∀ (s : State) (a : Arrival) (i : Item) (n : Nat),
    let d := s.dev
    let x := s.dev.xbr
    ((d.port a.port).personality = .usp → a.tlp.kind = .lockedRead → queuedLock a d = some i → d.items = [i] → lockedPort i.part d = none →
      x.enabled = true → unhindered i d → withheld i d d = false →
      i.egress < 96 → (d.port i.egress).personality = .dsp → (d.lockOf i.egress).state = .unlocked →
        Becomes (.mrdlkAccept a) s { d.setLock i.egress { d.lockOf i.egress with
          state := .pending, owner := a.port, since := d.now, timeoutMs := x.lockTimeoutMs } with
        items := [{ i with stage := if (checkSegment i d).isSome then .entry else .crossing }] }) ∧
    (a.tlp.kind ≠ .lockedRead → Becomes (.mrdlkAccept a) s d) ∧
    ((d.port a.port).personality = .dsp → a.tlp.kind = .lockedCpl → (d.lockOf a.port).state = .pending → a.tlp.status = .sc →
      a.tlp.len ≠ 0 →
      Gives (.lockedCompletion a) s fun t => t.lockOf a.port = { d.lockOf a.port with state := .locked, since := d.now } ∧
        t.ports = d.ports) ∧
    (a.tlp.kind ≠ .lockedCpl → Becomes (.lockedCompletion a) s d) ∧
    (a.port < 96 → (d.port a.port).personality = .usp → a.rma = none → broadcastRoutes (d.port a.port).holder d = [.port n] →
      (d.pci n).dpc = false → Gives (.unlockMessage a) s fun t => t.ports = d.ports ∧ t.tracks = d.tracks ∧
        t.lockOf n = (if (d.lockOf n).state = .locked then { d.lockOf n with state := .unlocked, owner := 0 } else d.lockOf n) ∧
        ∃ j ∈ t.items, j.id = d.nextId ∧ j.egress = n ∧ j.cls = 0 ∧ j.tlp = { a.tlp with kind := .msgBroadcast } ∧ j.stage = .voq) ∧
    ((d.port a.port).personality ≠ .usp → Becomes (.unlockMessage a) s d) ∧
    ((d.lockOf n).state = .locked → (d.lockOf n).since + (d.lockOf n).timeoutMs * msNs ≤ d.now → Gives (.lockTimeout n) s fun t =>
      t.lockOf n = { d.lockOf n with state := .unlocked, owner := 0, timeouts := satAdd 0xFFFF (d.lockOf n).timeouts 1 } ∧
      t.xbr = { x with intStatus := x.intStatus ||| 8 } ∧ t.items = d.items) ∧
    ((d.lockOf n).state ≠ .locked → Becomes (.lockTimeout n) s d) ∧
    (x.enabled = true → x.lastStart = none → x.enabledAt + 10 ^ 9 ≤ d.now →
      (x.running = false → Becomes .tallyPassStart s { d with xbr :=
        { x with running := true, lastStart := some d.now, passAuditMs := x.auditMs, passMaxresMs := x.maxresMs } }) ∧
      (x.running = true → Becomes .tallyPassStart s { d with xbr := { x with passDue := true } })) ∧
    (x.enabled = false → Becomes .tallyPassStart s d) ∧
    (x.running = true → x.lost = [] → x.passDue = false →
      let ended := { x with passes := x.passes + 1, running := false, mismatch := false, rerun := false, reclaimedLast := 0, panelLast := 0,
                            reclaimedTotal := satAdd 0xFFFFFFFF x.reclaimedTotal 0 }
      Becomes (.tallyPassEnd [] true) s { d with xbr := ended } ∧
      (x.rerun = false → Becomes (.tallyPassEnd [] false) s { d with xbr :=
        { ended with running := true, rerun := true, mismatch := true, intStatus := x.intStatus ||| 2 } }) ∧
      (x.rerun = true → Gives (.tallyPassEnd [] false) s fun t => t.can.deviceFault = true ∧
        t.xbr = { ended with mismatch := true, intStatus := x.intStatus ||| 2 } ∧ t.items = d.items ∧ t.ports = d.ports)) ∧
    (∀ l : LeakSeen, x.running = true → x.lost = [] → x.passDue = false → l.ageNs ≤ d.now → x.passMaxresMs * msNs < l.ageNs →
      l.panel = none →
      x.intStatus.getLsbD 0 = false → Gives (.tallyPassEnd [l] true) s fun t => t.xbr.lost = [] ∧ t.xbr.reclaimedLast = 1 ∧
        t.xbr.first = { cell := l.cell, port := l.port, queue := l.queue, cls := l.cls } ∧ t.xbr.intStatus = x.intStatus ||| 1 ∧
        t.items = d.items) ∧
    (∀ (ls : List LeakSeen) (ok : Bool), x.running = false → Becomes (.tallyPassEnd ls ok) s d))

/-! ## Ports and counters (chapters 2, 3, 17) -/

/-- R33, R35, R38, R39, R329 to R331, R402: PORT_CONFIG that passes its checks puts every value named in force, and one that
fails changes nothing; both answer the port's result. PORT_STATUS answers the port's registers; PORT_RETRAIN sends a PCI
Express link through Recovery; PORT_DISABLE keeps a port's link down. -/
def Obligations.PortConfigAndState : Prop := ∀ (s : State) (c : Cmd) (n : Nat),
  let d := s.dev
  c.target.toNat = n → c.param0 = 0 →
  (Ready 0x0201 c d → firstFail (portConfigChecks c d) = none → Gives (.portConfig c) s fun t =>
    t.port n = portAsked c.params (d.port n) ∧ t.kme.lastStatus = 0 ∧ t.segs = d.segs) ∧
  (∀ a, Ready 0x0201 c d → firstFail (portConfigChecks c d) = some a →
    Replies (.portConfig c) 0x0201 c s { a with result := portResult n d } id) ∧
  (Ready 0x0202 c d → c.params = [] → portExists n d →
    Replies (.portStatus c) 0x0202 c s (ansOk (natLe 4 (prtMode n d) ++ natLe 4 (prtLink n d) ++ natLe 4 (prtHp n d) ++
      natLe 4 (plkStateWord n d) ++ natLe 4 (sbLevelWord n d) ++ natLe 4 0 ++ natLe 8 d.devTime.toNat)) id) ∧
  (Ready 0x0202 c d → c.params = [] → 96 ≤ n → n ≤ 100 →
    Replies (.portStatus c) 0x0202 c s (ansOk (natLe 24 0 ++ natLe 8 d.devTime.toNat)) id) ∧
  (∀ rate : Nat, Ready 0x0203 c d → c.params = natLe 1 rate ++ [0, 0, 0] → portExists n d → rate ≤ (d.port n).maxRate → rate ≤ 7 →
    (d.port n).personality = .dsp → lstateUp (d.pci n).lstate = true → Gives (.portRetrain c) s fun t =>
      t.pci n = { d.pci n with lstate := .recovery, retrains := satAdd 0xFFFF (d.pci n).retrains 1,
                               targetRate := if rate = 0 then (d.pci n).targetRate else rate } ∧ t.ports = d.ports ∧ t.items = d.items) ∧
  (Ready 0x0203 c d → c.params = [0, 0, 0, 0] → portExists n d → (d.port n).personality = .pfl → (d.pfl n).state = .down →
    Replies (.portRetrain c) 0x0203 c s (ansOk (natLe 4 (prtLink n d))) id) ∧
  (Ready 0x0204 c d → c.params = [] → portExists n d → (n ≠ d.glb.mgrPort ∨ sidebandSource c.source = true) →
    ((d.port n).personality = .off → Replies (.portDisable c) 0x0204 c s (ansOk []) id) ∧
    ((d.port n).personality = .dsp → (d.pci n).dpc = false → Gives (.portDisable c) s fun t =>
      t.port n = { d.port n with enabled := false } ∧ (t.pci n).lstate = .disabled ∧ t.kme.lastStatus = 0 ∧ t.segs = d.segs) ∧
    ((d.port n).personality = .pfl → Gives (.portDisable c) s fun t =>
      t.port n = { d.port n with enabled := false } ∧ (t.pfl n).state = .disabled ∧ t.kme.lastStatus = 0 ∧ t.segs = d.segs))

/-- R77 to R80, R209 to R211, R320: the settings of a port's buffer, of its PFL link and of its PCI Express pins and
time-outs, and of the crossbar; a raise that the panel cannot back within 500 µs ends with TIMEOUT, and the port's buffer is
as it was. -/
def Obligations.PortSettings : Prop := ∀ (s : State) (c : Cmd) (n : Nat),
  let d := s.dev
  let b := s.dev.buf n
  let k := fun (v old : Nat) => if v = 0 then old else v
  (c.target.toNat = n → c.param0 = 0 → portExists n d →
    (∀ v0 v1 v2 alpha : Nat, Ready 0x0207 c d → v0 ≤ 2048 → v0 % 16 = 0 → v1 ≤ 2048 → v1 % 16 = 0 → v2 ≤ 2048 → v2 % 16 = 0 →
      alpha < 2 ^ 24 →
      enabledPort (d.port n) = false → c.params = natLe 2 v0 ++ natLe 2 v1 ++ natLe 2 v2 ++ [0xFF, 0] ++ natLe 4 alpha →
      Gives (.portBufferSet c) s fun t => t.kme.lastStatus = 0 ∧ t.items = d.items ∧ t.ports = d.ports ∧
        t.buf n = { b with minP := k v0 b.minP, minNp := k v1 b.minNp, minCpl := k v2 b.minCpl,
                           alpha := alphaAsked 0xFF alpha b.alpha, before := none }) ∧
    (∀ f : Nat, Ready 0x0208 c d → f < 4 → (d.port n).personality = .pfl → (d.pfl n).rxMin.length = 3 →
      3 * ((d.pfl n).rxMin.getD 0 0 + (d.pfl n).rxMin.getD 1 0 + (d.pfl n).rxMin.getD 2 0) ≤ (d.pfl n).rxPool →
      panelFits (panelOf n) (d.setPfl n { d.pfl n with ackAdapt := bitOf f 0, idleEn := bitOf f 1 }) →
      c.params = natLe 15 0 ++ natLe 1 f → Gives (.pflLinkSet c) s fun t => t.kme.lastStatus = 0 ∧ t.ports = d.ports ∧
        t.pfl n = { d.pfl n with ackAdapt := bitOf f 0, idleEn := bitOf f 1 }) ∧
    (∀ v w : Nat, Ready 0x0209 c d → v ≤ 1000 → w ≤ 1000 → n ≠ d.glb.mgrPort →
      c.params = natLe 6 0 ++ natLe 2 v ++ natLe 2 w ++ [1] ++ natLe 5 0 →
      Replies (.portPcieSet c) 0x0209 c s (ansOk (natLe 4 ((d.pci n).sbFunc.toNat % 2 ^ 24) ++ natLe 4 ((d.pci n).sbFunc.toNat / 2 ^ 24)))
        fun t => t.setPci n { d.pci n with perstDelayNext := k v (d.pci n).perstDelayNext,
                                           cplTimeoutMs := k w (d.pci n).cplTimeoutMs })) ∧
  (∀ audit maxres lock : Nat, NoTarget c → Ready 0x0C01 c d → 10 ≤ audit → audit ≤ 10000 → 1 ≤ maxres → maxres ≤ 1000 →
    1 ≤ lock → lock < 256 →
    c.params = natLe 2 audit ++ natLe 2 maxres ++ natLe 1 lock ++ [0, 0, 0] →
    Replies (.xbrSet c) 0x0C01 c s (ansOk (natLe 4 d.xbr.passes.toNat))
      fun t => { t with xbr := { t.xbr with auditMs := audit, maxresMs := maxres, lockTimeoutMs := lock } }) ∧
  (∀ e : Exec, d.kme.execs = [e] → e.op = 0x0207 → e.cmd.target.toNat = n → e.begun = true →
    (e.since + 500000 ≤ d.now → b.before = none →
      Becomes (.voqminRaiseTimeout n) s (finish e.op e.cmd { status := .timeout, detail := 0, result := [] } d)) ∧
    (∀ old, e.since + 500000 ≤ d.now → b.before = some old → Gives (.voqminRaiseTimeout n) s fun t => t.kme.execs = [] ∧
      t.kme.lastStatus = statusCode .timeout ∧ t.ports = d.ports ∧
      t.buf n = { b with minP := old.1, minNp := old.2.1, minCpl := old.2.2.1, alpha := old.2.2.2, before := none }) ∧
    (d.now < e.since + 500000 → Becomes (.voqminRaiseTimeout n) s d))

/-- R463 to R466, R470 to R472: programming a counter, the dump and the tagging; a dump that finds no room is counted and
skipped; a counter that passes 2^48 is reloaded and flagged. -/
def Obligations.CounterRows : Prop := ∀ (s : State) (c : Cmd) (n j : Nat),
  let d := s.dev
  let k := s.dev.cnt
  (∀ sel period : Nat, c.target.toNat = n → c.param0 = 0 → Ready 0x0A01 c d → portExists n d → 8 ≤ j → j < 24 → sel < 2 ^ 32 →
    period < 2 ^ 32 →
    c.params = natLe 1 j ++ [1, 0, 0] ++ natLe 4 sel ++ natLe 4 period ++ [0, 0, 0, 0] →
    firstFail (counterEntryChecks c.params false d 0) = none →
    Replies (.cntProgram c) 0x0A01 c s (ansOk (natLe 8 d.devTime.toNat)) fun t =>
      { t.setCounter (counterKey n j) { value := if selOvf (BitVec.ofNat 32 sel) then 2 ^ 48 - period else 0, ovf := false,
                                        sel := BitVec.ofNat 32 sel, period := period, portSel := 0 } with
        cnt := { t.cnt with staleBlocks := t.cnt.staleBlocks ++ [n] } }) ∧
  (∀ base cons us vec : Nat, NoTarget c → Ready 0x0A02 c d → base % 4096 = 0 → base < 2 ^ 64 → cons % 4 = 0 → cons < 2 ^ 64 → 1 ≤ us →
    us ≤ 1000000 → vec < 64 → c.params = natLe 8 base ++ natLe 8 cons ++ natLe 4 256 ++ natLe 4 us ++ natLe 16 0 ++ [1] ++
      natLe 2 vec ++ natLe 5 0 →
    Replies (.cntDumpSet c) 0x0A02 c s (ansOk (natLe 4 5)) fun t => { t with cnt := { t.cnt with
      dump := { on := true, base := base, consAddr := cons, entries := 256, intervalUs := us, vector := vec, index := 0,
                prod := 0, cons := 0,
                lost := k.dump.lost, first := true, lastMultiple := d.devTime.toNat / (us * 1000) },
      global := true, portMask := 0, seq := 0, skipped := false, lastWritten := none, lastBlocks := [], staleBlocks := [] } }) ∧
  (∀ base cons rate mask seed : Nat, NoTarget c → Ready 0x0A03 c d → base % 4096 = 0 → base < 2 ^ 64 → cons % 4 = 0 →
    cons < 2 ^ 64 → rate ≤ 24 →
    mask < 8 → 1 ≤ seed → seed < 2 ^ 32 →
    c.params = natLe 8 base ++ natLe 8 cons ++ natLe 4 256 ++ natLe 1 rate ++ natLe 1 mask ++ [0x3F, 0] ++ natLe 16 0 ++ natLe 2 0xFFFF ++
      natLe 4 seed ++ [0, 0] →
    Replies (.tagSet c) 0x0A03 c s (ansOk (natLe 4 k.tags.length)) fun t => { t with cnt := { t.cnt with
      tag := { on := true, base := base, consAddr := cons, entries := 256, intervalUs := 0, vector := 0xFFFF, index := 0,
               prod := 0, cons := 0,
               lost := k.tag.lost, first := true, lastMultiple := 0 },
      rateLog2 := rate, classMask := mask, part := 0x3F, tagOnOvf := false, randomOff := false, tagPortMask := 0, seed := seed,
        tagOwed := [] } }) ∧
  (k.dump.on = true → k.dump.lastMultiple < d.devTime.toNat / (k.dump.intervalUs * 1000) →
    (ringRoom k.dump (dumpOrder d).length = false → Becomes .counterDump s { d with cnt := { k with
      dump := { k.dump with lastMultiple := d.devTime.toNat / (k.dump.intervalUs * 1000), lost := satAdd 0xFFFFFFFF k.dump.lost 1 },
      seq := (k.seq + 1) % 2 ^ 32, skipped := true, intStatus := k.intStatus ||| 2 } }) ∧
    (ringRoom k.dump (dumpOrder d).length = true → Gives .counterDump s fun t =>
      t.cnt.dump.prod = k.dump.prod + BitVec.ofNat 32 (dumpOrder d).length ∧ t.cnt.seq = (k.seq + 1) % 2 ^ 32 ∧ t.cnt.skipped = false ∧
      t.counters = d.counters ∧ t.items = d.items)) ∧
  (k.dump.on = false → Becomes .counterDump s d) ∧
  (let key := programKey n j
   let x := d.counter (programKey n j)
   selOvf x.sel = true →
     (2 ^ 48 ≤ x.value → selReload x.sel = true → Gives (.counterOverflow n j) s fun t =>
       t.counter key = { x with value := 2 ^ 48 - x.period + (x.value - 2 ^ 48), ovf := true } ∧ t.cnt.intStatus = k.intStatus ||| 1 ∧
       (ovfPending d = false → t.cnt.ovfPort = n ∧ t.cnt.ovfCounter = j ∧ t.cnt.ovfTime = d.devTime) ∧ t.items = d.items) ∧
     (x.value < 2 ^ 48 → Becomes (.counterOverflow n j) s d))


/-! ## Serial lanes (chapter 12) -/

/-- R350 to R355: the operations of LANE_TEST on one lane of a DIAG port, and CHAN_MEASURE of one lane: measured anew while
its link carries, else answered as it stands; above 16 lanes it is LONG. -/
def Obligations.LaneCommands : Prop := ∀ (s : State) (c : Cmd) (n k mask : Nat),
  let d := s.dev
  let x := s.dev.lane k
  (c.target.toNat = n → c.param0 = 0 → portExists n d → (d.port n).personality = .diag → mask < 2 ^ (d.port n).width → mask < 2 ^ 16 →
    namedLanes n mask d = [k] → Ready 0x0205 c d →
    (c.params = [0, 0] ++ natLe 2 mask ++ natLe 12 0 → Replies (.laneTest c) 0x0205 c s (ansOk []) fun t => t.setLane k
      { x with inTest := false, genOn := false, chkOn := false, locked := false, rate := 0, rxLock := false, txIdle := true, inject := 0,
               eyeBusy := false }) ∧
    (c.params = [1, 5] ++ natLe 2 mask ++ [2, 0, 16, 0] ++ natLe 8 0 → Replies (.laneTest c) 0x0205 c s (ansOk []) fun t => t.setLane k
      { x with rate := 5, pattern := 2, userPattern := 0, loopback := 0, genOn := true, chkOn := true, noGray := false, inTest := true,
               locked := false, eyeBusy := false, inject := 0, txIdle := false, preset := 16, pre := 0, post := 0,
               bits := 0, errors := 0, lockLosses := 0 }) ∧
    (c.params = [2, 0] ++ natLe 2 mask ++ natLe 12 0 → Replies (.laneTest c) 0x0205 c s
      (ansOk (natLe 8 d.devTime.toNat ++ ((portLanes n d).map fun j => laneRead (d.lane j)).flatten)) id) ∧
    (c.params = [3, 0] ++ natLe 2 mask ++ natLe 12 0 → Replies (.laneTest c) 0x0205 c s (ansOk []) fun t => t.setLane k
      { x with bits := 0, errors := 0, lockLosses := 0 }) ∧
    (c.params = [4, 0] ++ natLe 2 mask ++ natLe 4 0 ++ natLe 8 9 → x.genOn = true → x.locked = true → x.loopback = 1 →
      Replies (.laneTest c) 0x0205 c s (ansOk []) fun t => t.setLane k
        { x with inject := 9, errors := min (2 ^ 48 - 1) (x.errors + 9) }) ∧
    (c.params = [5, 0] ++ natLe 2 mask ++ natLe 4 0 ++ natLe 8 7 → Replies (.laneTest c) 0x0205 c s (ansOk []) fun t => t.setLane k
      { x with eyeBusy := true, eyeDone := false, eyeTarget := 7 })) ∧
  (NoTarget c → Ready 0x0206 c d → k < 384 → c.params = natLe 2 k ++ [1, 0, 1, 0, 0, 0] →
    (chanStatus k d ≠ 0 → Replies (.chanMeasure c) 0x0206 c s (ansOk (natLe 2 x.il ++ natLe 2 x.lengthMm ++ natLe 1 x.measRate ++
      natLe 1 (chanStatus k d) ++ natLe 2 0)) id) ∧
    (chanStatus k d = 0 → Gives (.chanMeasure c) s fun t => t.kme.lastStatus = 0 ∧ t.freeCount = d.freeCount + 1 ∧
      t.lane k = { x with il := Config.freeNat d.freeCount % 256, lengthMm := lengthMm (Config.freeNat d.freeCount % 256) 1 x.rate,
                          measRate := x.rate, measValid := true })) ∧
  (NoTarget c → Ready 0x0206 c d → c.params = [0, 0, 17, 0, 0, 0, 0, 0] → (∀ j < 17, chanStatus j d ≠ 0) →
    Starts (.chanMeasure c) 0x0206 c s fun t => setReported 0x0206 c 0 (acceptLong 0x0206 c t))

/-- R195, R341 to R345, R337, R347, R353, R355: the staircase of a PFL port from TRAIN to ACTIVE, the losses of lock, the
checker of a lane, the eye scan, and the equalization records. -/
def Obligations.LaneEvents : Prop := ∀ (s : State) (n k : Nat) (pts : Pts),
  let d := s.dev
  let x := s.dev.lane k
  let y := s.dev.pfl n
  (y.state = .train → d.clk.holdover = false → Gives (.trainLock n) s fun t => (t.pfl n).state = .cap ∧ (t.pfl n).gotCap = false ∧ (t.pfl n).gotAck = false ∧
    (t.pfl n).enteredAt = d.now ∧ t.ports = d.ports ∧ t.items = d.items) ∧
  (y.state ≠ .train ∨ d.clk.holdover = true → Becomes (.trainLock n) s d) ∧
  (lanePort k d = some n → (d.port n).personality = .pfl → y.state = .step → portLanes n d = [k] → k = 4 * n → pts.bytes.length = 16 →
    u8 pts.bytes 0 = 0xB5 → u8 pts.bytes 1 = y.rate → u8 pts.bytes 2 = 2 → u8 pts.bytes 3 = 0 → u8 pts.bytes 5 = 0xFF →
    crc16 (pts.bytes.take 14) = BitVec.ofNat 16 (u16 pts.bytes 14) → x.readyRun < 7 →
    Becomes (.ptsReceive k pts) s (d.setLane k
      { x with partnerPreset := u8 pts.bytes 4, readyRun := x.readyRun + 1, goRun := x.goRun + 1 })) ∧
  (lanePort k d = some n → (u8 pts.bytes 0 ≠ 0xB5 ∨ y.state ≠ .step) → Becomes (.ptsReceive k pts) s d) ∧
  (y.state = .step → y.goSent = 8 → (∀ j ∈ portLanes n d, 8 ≤ (d.lane j).goRun) → min (d.port n).maxRate y.partnerRate ≤ y.rate →
    Gives (.rungComplete n) s fun t => (t.pfl n).state = .active ∧ (t.pfl n).intStatus = y.intStatus ||| 1 ∧ t.ports = d.ports) ∧
  (y.state = .step → y.goSent = 8 → (∀ j ∈ portLanes n d, 8 ≤ (d.lane j).goRun) → y.rate < min (d.port n).maxRate y.partnerRate →
    y.fromRecord = false → Gives (.rungComplete n) s fun t => t.pfl n = { y with rate := y.rate + 1, goSent := 0 } ∧ t.ports = d.ports) ∧
  (y.state ≠ .step → Becomes (.rungComplete n) s d) ∧
  (x.rxLock = true → lanePort k d = some n → (d.port n).personality = .dsp → lstateUp (d.pci n).lstate = false →
    Becomes (.lockLoss false k) s (d.setLane k
      { x with rxLock := false, rxLosses := satAdd 0xFFFF x.rxLosses 1, intStatus := x.intStatus ||| 1 })) ∧
  (k < 48 → (d.pair k).ckrLock = true → halfPorts k d = [] → Becomes (.lockLoss true k) s (d.setPair k
    { d.pair k with ckrLock := false, ckrLosses := satAdd 0xFFFF (d.pair k).ckrLosses 1 })) ∧
  (x.rxLock = false → Becomes (.lockLoss false k) s d) ∧
  (k < 48 → (d.pair k).ckrLock = false → (d.pair k).ckrFreq ≠ 0 → halfPorts k d = [n] → y.state ≠ .step →
    Becomes (.ckrLock k) s (d.setPair k { d.pair k with ckrLock := true })) ∧
  ((d.pair k).ckrLock = true → Becomes (.ckrLock k) s d) ∧
  (let seen := BitVec.ofNat 32 (Config.freeNat d.freeCount % 2 ^ 32)
   x.eyeBusy = true → Becomes (.eyeDone k) s
     (d.freed.setLane k { x with eyeBusy := false, eyeDone := true, eye := seen, intStatus := x.intStatus ||| 2 })) ∧
  (x.eyeBusy = false → Becomes (.eyeDone k) s d) ∧
  (x.inTest = true → x.chkOn = true → x.locked = false →
    Becomes (.checkerLock k) s (d.setLane k { x with locked := true, rxLock := true })) ∧
  (x.inTest = false → Becomes (.checkerLock k) s d) ∧
  (x.locked = true → Becomes (.checkerLockLoss k) s (d.setLane k
    { x with locked := false, lockLosses := satAdd 0xFF x.lockLosses 1, intStatus := x.intStatus ||| 8 })) ∧
  (x.locked = false → Becomes (.checkerLockLoss k) s d) ∧
  (∀ u, linkUp n d = true → (d.port n).personality = .dsp → d.eqRecords = [] → d.upAt = [(n, u)] → u + 1000000000 ≤ d.now →
    (∀ k ∈ portLanes n d, (d.lane k).fromRecord = false) → Gives (.eqRecordWrite n) s fun t =>
    ∃ r, t.eqRecords = [r] ∧ r.port = n ∧ r.partner = (d.pci n).dsn.getD 0 ∧ r.width = (d.port n).width ∧ r.rate = (d.pci n).curRate ∧
      r.writtenAt = d.now) ∧
  (linkUp n d = false → Becomes (.eqRecordWrite n) s d) ∧
  (∀ u, d.upAt = [(n, u)] → d.now < u + 1000000000 → Becomes (.eqRecordWrite n) s d) ∧
  (∀ v : Nat, (d.port n).personality = .dsp → lstateUp (d.pci n).lstate = true →
    Becomes (.dsnRead n (some v)) s (d.setPci n { d.pci n with dsn := some (v % 2 ^ 64) }))


/-! ## The PFL link layer (chapter 7) -/

/-- R172, R174 to R187, R207: a bad flit is only counted; the next DATA flit in sequence is delivered with the record in it,
one seen before is counted as a duplicate and acknowledged again, one beyond the window is counted, one far off starts a
retrain; the message of a CONTROL flit takes effect; an acknowledgement frees what it covers; the probe makes the oldest flit
due, or starts a retrain at LIMIT. -/
def Obligations.FlitsAreReceivedInOrder : Prop := ∀ (s : State) (n : Nat) (f : Flit),
  let d := s.dev
  let x := s.dev.pfl n
  let good := { x with lastGood := d.now, rxIdle := false, lostInIdle := false }
  let woken := if x.rxIdle then { d with wokeAt := tinsert n d.now d.wokeAt } else d
  let seq := u16 f.bytes 1
  ((d.port n).personality = .pfl → flitGood f = false →
    Becomes (.pflFlitReceive n f) s (d.setPfl n { x with badFlits := satAdd 0xFFFFFFFF x.badFlits 1 })) ∧
  ((d.port n).personality ≠ .pfl → Becomes (.pflFlitReceive n f) s d) ∧
  ((d.port n).personality = .pfl → flitGood f = true → x.state = .active → x.lostInIdle = true → u8 f.bytes 0 % 4 = 0 →
    Gives (.pflFlitReceive n f) s fun t => (t.pfl n).state = .retrain ∧ (t.pfl n).retrainCause = 3 ∧ (t.pfl n).lostInIdle = false ∧
      t.items = d.items) ∧
  ((d.port n).personality = .pfl → flitGood f = true → x.state = .active → x.lostInIdle = false → bitOf (u8 f.bytes 0) 5 = false →
    x.rxNext < 2 ^ 16 →
    (u8 f.bytes 0 % 4 = 0 → Becomes (.pflFlitReceive n f) s (woken.setPfl n good)) ∧
    (u8 f.bytes 0 % 4 = 2 → u8 f.bytes 10 = 6 → u8 f.bytes 11 = 1 → u8 f.bytes 26 = 0 →
      Becomes (.pflFlitReceive n f) s (woken.setPfl n { good with rxIdle := true })) ∧
    (u8 f.bytes 0 % 4 = 1 → seq = x.rxNext → x.held = [] → x.rxParts = [] → u8 f.bytes 9 = 0xFF →
      Gives (.pflFlitReceive n f) s fun t => (t.pfl n).rxNext = (x.rxNext + 1) % 2 ^ 16 ∧ (t.pfl n).held = [] ∧
        (t.pfl n).delivered = x.delivered ∧ (t.pfl n).lastGood = d.now ∧ t.items = d.items ∧ t.ports = d.ports) ∧
    (∀ (r : List Byte) (a : Arrival), u8 f.bytes 0 % 4 = 1 → seq = x.rxNext → x.held = [] → x.rxParts = [] → u8 f.bytes 9 = 0 →
      (f.bytes.drop 10).take 232 = padTo 232 r → r.length = recordLen r → recordLen r ≤ 232 → u8 r 0 / 16 = 1 → u8 r 0 % 16 ≤ 1 →
      recordArrival n r f.items.head? = some a → isControl a.tlp.kind = false →
      let h := fabOfBytes r
      let c := creditOf x (itemVl a.tlp h.queue d) h.cls
      1 ≤ creditLeft c.rxHdr c.hdrFreed c.hdrRx → cellsOf (payloadLen a.tlp) ≤ creditLeft c.rxData c.dataFreed c.dataRx →
      Gives (.pflFlitReceive n f) s fun t => (t.pfl n).rxNext = (x.rxNext + 1) % 2 ^ 16 ∧ (t.pfl n).delivered = x.delivered ++ [a] ∧
        t.items = d.items ∧ t.ports = d.ports) ∧
    (u8 f.bytes 0 % 4 = 1 → (seq + 2 ^ 16 - x.rxNext) % 2 ^ 16 > 64511 → Becomes (.pflFlitReceive n f) s
      (woken.setPfl n { good with dups := satAdd 0xFFFFFFFF x.dups 1, forceAck := true })) ∧
    (u8 f.bytes 0 % 4 = 1 → 256 ≤ (seq + 2 ^ 16 - x.rxNext) % 2 ^ 16 → (seq + 2 ^ 16 - x.rxNext) % 2 ^ 16 ≤ 1023 →
      Gives (.pflFlitReceive n f) s fun t => (t.pfl n).beyond = satAdd 0xFFFFFFFF x.beyond 1 ∧ (t.pfl n).rxNext = x.rxNext ∧
        (t.pfl n).held = x.held ∧ t.items = d.items) ∧
    (u8 f.bytes 0 % 4 = 1 → 1024 ≤ (seq + 2 ^ 16 - x.rxNext) % 2 ^ 16 → (seq + 2 ^ 16 - x.rxNext) % 2 ^ 16 ≤ 64511 →
      Gives (.pflFlitReceive n f) s fun t => (t.pfl n).state = .retrain ∧ (t.pfl n).retrainCause = 4 ∧
        (t.pfl n).intStatus.getLsbD 5 = true ∧ (t.pfl n).rxNext = x.rxNext ∧ t.items = d.items)) ∧
  (∀ g : TxFlit, (d.port n).personality = .pfl → flitGood f = true → x.state = .active → x.lostInIdle = false → u8 f.bytes 0 % 4 = 0 →
    bitOf (u8 f.bytes 0) 5 = true → x.replay = [g] → g.sentOnce = false → g.seq < 2 ^ 15 → u16 f.bytes 3 = g.seq + 1 →
      x.txNext = g.seq + 1 →
    Gives (.pflFlitReceive n f) s fun t => (t.pfl n).replay = [] ∧ t.items = d.items.filter (fun i => !g.ends.contains i.id)) ∧
  (∀ g : TxFlit, x.replay = [g] → x.state = .active → g.due = false →
    (g.retransmissions < x.limit → g.lastSent + x.ackNs ≤ d.now → Becomes (.ackTimeoutProbe n) s (d.setPfl n
      { x with replay := [{ g with due := true, resend := false, probe := true }] })) ∧
    (x.limit ≤ g.retransmissions → g.marked = false → g.lastSent + x.ackNs ≤ d.now → Gives (.ackTimeoutProbe n) s fun t =>
      (t.pfl n).state = .retrain ∧ (t.pfl n).retrainCause = 1 ∧ (t.pfl n).replay = [{ g with marked := true }] ∧ t.items = d.items) ∧
    (d.now < g.lastSent + x.ackNs → Becomes (.ackTimeoutProbe n) s d))

/-- R173, R174, R177, R178, R189, R190, R201, R205, R206: what a flit slot sends in ACTIVE: a flit that is due first, then a
control message, then new DATA, else NULL; nothing while the transmitter is idle; credit taken when it is ahead, and sent
again every 10 µs. -/
def Obligations.FlitSlotsAndCredits : Prop := ∀ (s : State) (n vl cls h k : Nat) (m : Ctl) (rest : List Ctl),
  let d := s.dev
  let x := s.dev.pfl n
  (x.txIdle = true → Becomes (.pflFlitSlot n) s d) ∧
  (∀ g : TxFlit, x.txIdle = false → x.state = .active → x.replay = [g] → g.due = true → Gives (.pflFlitSlot n) s fun t =>
    (t.pfl n).replay = [{ g with due := false, resend := false, probe := false, lastSent := d.now, lastResent := some d.now,
                                 sentOnce := false,
                                 retransmissions := if g.resend then g.retransmissions else g.retransmissions + 1 }] ∧
    Output.flit n 1 g.seq (flitBytes (flitHeader 1 g.vl g.seq true x) g.firstRec g.payload) ∈ t.out ∧
    (t.pfl n).replays = satAdd 0xFFFFFFFF x.replays 1 ∧ (t.pfl n).probes = (if g.probe then satAdd 0xFFFFFFFF x.probes 1 else x.probes) ∧
    t.items = d.items) ∧
  (x.txIdle = false → x.state = .active → x.replay = [] → x.ctl = m :: rest → Gives (.pflFlitSlot n) s fun t =>
    (t.pfl n).ctl = rest ∧ Output.flit n 2 0 (flitBytes (flitHeader 2 0 0 false x) 0 (slotPad (ctlBytes m n d))) ∈ t.out ∧
      t.items = d.items) ∧
  (∀ r : TxRecord, x.txIdle = false → x.state = .active → x.replay = [] → x.ctl = [] → x.credits = [] → x.stream = [r] →
    r.bytes.length ≤ 232 →
    r.bytes ≠ [] → Gives (.pflFlitSlot n) s fun t => (t.pfl n).stream = [] ∧ (t.pfl n).txNext = (x.txNext + 1) % 65536 ∧
      (∃ g, (t.pfl n).replay = [g] ∧ g.seq = x.txNext ∧ g.ends = [r.item] ∧ g.vl = r.vl ∧ g.payload = r.bytes ∧ g.firstSent = d.now ∧
        g.sentOnce = true) ∧
      Output.flit n 1 x.txNext (flitBytes (flitHeader 1 r.vl x.txNext false x) (if r.begun then 0xFF else 0) r.bytes) ∈ t.out) ∧
  (x.txIdle = false → x.state = .active → x.replay = [] → x.ctl = [] → x.credits = [] → x.stream = [] → Gives (.pflFlitSlot n) s fun t =>
    t.pfl n = { x with forceAck := false } ∧ Output.flit n 0 0 (flitBytes (flitHeader 0 0 0 false x) 0 []) ∈ t.out ∧ t.items = d.items) ∧
  (let c := creditOf x vl cls
   vl < 4 → cls < 3 → x.state = .active →
     Becomes (.credit n vl cls h k) s (d.setPfl n (setCredit x vl cls
       { c with hdrFreedRx := aheadOf c.hdrFreedRx (h % 2 ^ 32), dataFreedRx := aheadOf c.dataFreedRx (k % 2 ^ 32) }))) ∧
  (x.state ≠ .active → x.state ≠ .retrain → Becomes (.credit n vl cls h k) s d) ∧
  (x.state = .active → x.txIdle = false → x.refreshAt + 10000 ≤ d.now → shaftHolds false n d = false → Gives (.creditRefresh n) s fun t =>
    (t.pfl n).refreshAt = d.now ∧ (∀ v < 4, ∀ q < 3, (creditOf (t.pfl n) v q).changedAt = none) ∧ t.items = d.items) ∧
  (d.now < x.refreshAt + 10000 → Becomes (.creditRefresh n) s d) ∧
  (x.state = .active → x.idleEn = true → x.txIdle = false → pflQuiet x = true → x.quietSince + x.idleEntryUs * 1000 ≤ d.now →
    Becomes (.idleEntry n) s { d.setPfl n { x with txIdle := true, idleAt := d.now } with
      out := .flit n 2 0 (flitBytes (flitHeader 2 0 0 false x) 0 (slotPad [0x06, 1])) :: d.out }) ∧
  (x.idleEn = false → Becomes (.idleEntry n) s d) ∧
  (x.txIdle = true → x.state = .active → pflQuiet x = false → Gives (.idleExit n) s fun t =>
    (t.pfl n).txIdle = false ∧ (t.pfl n).quietSince = d.now ∧ t.items = d.items) ∧
  (x.txIdle = false → Becomes (.idleExit n) s d)

/-- R195 to R198, R217: the CAP exchange: sent every 1 µs in CAP, answered, checked; both halves complete it, and only then
does the port show its partner; a conflict holds the link, a duplicate FID until the link goes down; each state before ACTIVE
has its time-out, and a link that is DOWN trains again after RESTART_MS. -/
def Obligations.PflLinkComesUp : Prop := ∀ (s : State) (n : Nat) (c : Cap) (serial : BitVec 64),
  let d := s.dev
  let x := s.dev.pfl n
  (x.state = .cap → x.capSentAt + 1000 ≤ d.now → Becomes (.capSend n) s
    { d.setPfl n { x with capSentAt := d.now } with
      out := .flit n 2 0 (flitBytes (flitHeader 2 0 0 false x) 0 (slotPad (capBytes n d))) :: d.out }) ∧
  (x.state = .active → Becomes (.capSend n) s d) ∧
  (x.state = .cap → x.dupHeld = false → x.gotAck = false → capCause n c d = 0 → Gives (.cap n c) s fun t =>
    (t.pfl n).state = .cap ∧ (t.pfl n).gotCap = true ∧ (t.pfl n).ctl = x.ctl ++ [Ctl.capAck c.serial] ∧
      (t.pfl n).partnerFid = x.partnerFid ∧
    (t.pfl n).partnerValid = x.partnerValid ∧ (t.pfl n).partnerRate = c.maxRate ∧ t.ports = d.ports) ∧
  (x.state = .cap → x.dupHeld = false → x.gotAck = true → capCause n c d = 0 → Gives (.cap n c) s fun t =>
    (t.pfl n).state = .step ∧ (t.pfl n).rate = 5 ∧ (t.pfl n).partnerValid = true ∧ (t.pfl n).partnerFid = c.fid ∧
    (t.pfl n).partnerPort = c.port ∧ (t.pfl n).partnerSerial = c.serial ∧ (t.pfl n).partnerFw = c.fw ∧ t.ports = d.ports) ∧
  (x.state = .cap → x.dupHeld = false → capCause n c d ≠ 0 → Gives (.cap n c) s fun t =>
    (t.pfl n).state = .conflict ∧ (t.pfl n).causeC = capCause n c d ∧ (t.pfl n).intStatus = x.intStatus ||| 8 ∧ t.ports = d.ports) ∧
  (x.state = .conflict → x.dupHeld = true → Gives (.cap n c) s fun t =>
    (t.pfl n).state = .conflict ∧ (t.pfl n).causeC = 1 ∧ t.items = d.items ∧ t.ports = d.ports) ∧
  (x.state = .active → Becomes (.cap n c) s d) ∧
  (x.state = .cap → x.gotCap = false → Becomes (.capAck n d.glb.serial) s (d.setPfl n { x with gotAck := true })) ∧
  (x.state = .cap → x.gotCap = true → Gives (.capAck n d.glb.serial) s fun t => (t.pfl n).state = .step ∧ t.ports = d.ports) ∧
  (serial ≠ d.glb.serial → Becomes (.capAck n serial) s d) ∧
  (x.state = .train → x.enteredAt + 10 ^ 8 ≤ d.now → Gives (.trainTimeout n) s fun t =>
    (t.pfl n).state = .down ∧ (t.pfl n).lastCause = 7 ∧ t.ports = d.ports) ∧
  (d.now < x.enteredAt + 10 ^ 8 → Becomes (.trainTimeout n) s d) ∧
  (x.state = .cap → x.enteredAt + 10 ^ 7 ≤ d.now → Gives (.capTimeout n) s fun t =>
    (t.pfl n).state = .down ∧ (t.pfl n).lastCause = 8 ∧ t.ports = d.ports) ∧
  (d.now < x.enteredAt + 10 ^ 7 → Becomes (.capTimeout n) s d) ∧
  (x.state = .down → (d.port n).enabled = true → x.enteredAt + x.restartMs * msNs ≤ d.now → Gives (.restartExpiry n) s fun t =>
    t.pfl n = { x with state := .train, enteredAt := d.now, rate := 5, causeC := 0, dupHeld := false } ∧ t.ports = d.ports ∧
      t.items = d.items) ∧
  ((d.port n).enabled = false → Becomes (.restartExpiry n) s d)

/-- R200 to R203, R207: a fast retrain starts, is asked for, led and followed, and fails after 30 µs; a full link reset and
the losses of a link; a partner that goes idle is not missed. -/
def Obligations.PflRetrainsAndDown : Prop := ∀ (s : State) (n cause fid rport width rate : Nat),
  let d := s.dev
  let x := s.dev.pfl n
  let flit := fun (message : List Byte) => Output.flit n 2 0 (flitBytes (flitHeader 2 0 0 false x) 0 (slotPad message))
  let ack := fun (full : Byte) => [0x05, 1, full, 0, BitVec.ofNat 8 fid, BitVec.ofNat 8 rport]
  (x.state = .active → Gives (.fastRetrain n cause) s fun t => (t.pfl n).state = .retrain ∧ (t.pfl n).leading = true ∧
    (t.pfl n).retrainAt = d.now ∧ (t.pfl n).fastRetrains = satAdd 0xFFFF x.fastRetrains 1 ∧ (t.pfl n).intStatus = x.intStatus ||| 4 ∧
    (t.pfl n).replay = x.replay.map (fun f => { f with marked := f.marked || decide (x.limit ≤ f.retransmissions) }) ∧
    flit ([0x04, 1, 0, BitVec.ofNat 8 cause] ++ natLe 1 d.glb.fid ++ natLe 1 n ++ [0, 0]) ∈ t.out ∧ t.items = d.items ∧
      t.ports = d.ports) ∧
  (x.state ≠ .active → Becomes (.fastRetrain n cause) s d) ∧
  ((d.port n).personality = .pfl → x.state = .active →
    Gives (.retrainReq n false cause fid rport width rate) s fun t => (t.pfl n).state = .retrain ∧ (t.pfl n).leading = false ∧
    flit (ack 0) ∈ t.out ∧ t.items = d.items) ∧
  ((d.port n).personality = .pfl → x.state = .active → Gives (.retrainReq n true cause fid rport width rate) s fun t =>
    (t.pfl n).state = .train ∧ (t.pfl n).lastCause = 9 ∧ (t.pfl n).partnerRate = (if rate = 0 then x.partnerRate else rate) ∧
    flit (ack 1) ∈ t.out ∧ t.ports = d.ports) ∧
  (n < 96 → (d.port n).personality ≠ .pfl → ∀ full, Becomes (.retrainReq n full cause fid rport width rate) s
    (d.setPci n { d.pci n with stray := (d.pci n).stray + 1 })) ∧
  ((d.port n).personality = .pfl → x.state = .retrain → x.leading = true → d.glb.fid < fid →
    Becomes (.retrainReq n false cause fid rport width rate) s d) ∧
  ((d.port n).personality = .pfl → x.state = .retrain → x.leading = true → fid < d.glb.fid →
    Becomes (.retrainReq n false cause fid rport width rate) s
      { d.setPfl n { x with leading := false } with out := flit (ack 0) :: d.out }) ∧
  (x.state = .retrain → x.leading = true → Becomes (.retrainAck n false) s (d.setPfl n { x with acked := true })) ∧
  (x.state = .retrain → x.leading = true → x.txIdle = false → x.acked = false → x.reqSentAt + 2000 ≤ d.now →
    Gives (.pflFlitSlot n) s fun t =>
    t.pfl n = { x with reqSentAt := d.now } ∧
    flit ([0x04, 1, 0, BitVec.ofNat 8 x.retrainCause] ++ natLe 1 d.glb.fid ++ natLe 1 n ++ [0, 0]) ∈ t.out) ∧
  (x.state = .active → Becomes (.retrainAck n false) s d) ∧
  (x.state = .retrain → x.retrainAt + 30000 ≤ d.now → Gives (.retrainTimeout n) s fun t =>
    (t.pfl n).state = .down ∧ (t.pfl n).lastCause = 2 ∧ (t.pfl n).linkDowns = satAdd 0xFFFF x.linkDowns 1 ∧ t.ports = d.ports) ∧
  (d.now < x.retrainAt + 30000 → Becomes (.retrainTimeout n) s d) ∧
  (x.state = .active → Gives (.fullLinkReset n) s fun t => (t.pfl n).state = .train ∧ (t.pfl n).lastCause = 9 ∧ (t.pfl n).txNext = 0 ∧
    (t.pfl n).rxNext = 0 ∧ (t.pfl n).samples = 0 ∧ t.ports = d.ports) ∧
  (x.state = .down → Becomes (.fullLinkReset n) s d) ∧
  (x.state = .active → Becomes (.idleNotice n) s (d.setPfl n { x with rxIdle := true })) ∧
  (x.state = .down → Becomes (.idleNotice n) s d ∧ Becomes (.downNotice n cause) s d ∧ Becomes (.pflLinkDown n cause) s d) ∧
  (x.state = .active → Gives (.downNotice n cause) s fun t =>
    (t.pfl n).state = .down ∧ (t.pfl n).lastCause = 10 ∧ t.ports = d.ports) ∧
  (x.state = .active → x.rxIdle = false → x.lastGood + 5000 ≤ d.now → Gives (.noGoodFlitTimeout n) s fun t =>
    (t.pfl n).state = .down ∧ (t.pfl n).lastCause = 10 ∧ t.ports = d.ports) ∧
  (x.rxIdle = true → Becomes (.noGoodFlitTimeout n) s d) ∧
  (x.state = .active → Gives (.pflLinkDown n cause) s fun t => (t.pfl n).state = .down ∧ (t.pfl n).lastCause = cause ∧
    (t.pfl n).downTime = d.devTime ∧ (t.pfl n).partnerValid = false ∧ (t.pfl n).intStatus = x.intStatus ||| 2 ∧ t.ports = d.ports)

/-! ## PCI Express ports (chapter 11) -/

/-- R229, R307, R312, R328: a link that may train comes up at the width and rate it trained to; loss takes it down with
everything queued toward it; Retrain Link counts a retrain; Secondary Bus Reset and Link Disable take the link down, and
clearing the bit lets it train again; a write that R102 blocks only counts. -/
def Obligations.PcieLinksTrainAndFall : Prop := ∀ (s : State) (n w r pw pr : Nat) (flit rev on : Bool),
  let d := s.dev
  let x := s.dev.pci n
  let k := portKey n d
  (pciePort n d = true → mayTrain n d = true → trainedOk n w r pw pr flit d = true →
    Gives (.linkUp n w r pw pr flit rev) s fun t => (t.pci n).lstate = .l0 ∧ (t.pci n).negWidth = w ∧ (t.pci n).curRate = r ∧
      (t.pci n).partnerRate = pr ∧ (t.pci n).flit = flit ∧ (t.pci n).reversed = rev ∧ t.ports = d.ports ∧
      ((∀ y ∈ d.kme.execs, y.cmd.source.transport ≠ 6) → t.items = d.items)) ∧
  (mayTrain n d = false → Becomes (.linkUp n w r pw pr flit rev) s d) ∧
  (pciePort n d = true → lstateUp x.lstate = true → Gives (.linkLoss n) s fun t => (t.pci n).lstate = .detect ∧ (t.pci n).negWidth = 0 ∧
    (t.pci n).curRate = 0 ∧ (t.pci n).intStatus.getLsbD 0 = true ∧ (∀ i ∈ t.items, i.egress ≠ n) ∧ t.ports = d.ports) ∧
  (96 ≤ n → Becomes (.linkLoss n) s d) ∧
  ((d.port n).personality = .dsp → lstateUp x.lstate = true →
    let e := d.setPci n { x with lstate := .recovery, retrains := satAdd 0xFFFF x.retrains 1 }
    Becomes (.retrainLink n) s { e with can := { d.can with linkEvents := (n, d.now) :: d.can.linkEvents } }) ∧
  ((d.port n).personality ≠ .dsp → Becomes (.retrainLink n) s d ∧ Becomes (.secondaryBusReset n) s d ∧ Becomes (.linkDisable n on) s d) ∧
  ((d.port n).personality = .dsp → steersOut n d = false → x.dpc = false → lstateUp x.lstate = true →
    Gives (.secondaryBusReset n) s fun t => (t.pci n).lstate = .hotReset ∧
      (t.bridge k).bridgeControl = (d.bridge k).bridgeControl ||| 0x40 ∧ (∀ i ∈ t.items, i.egress ≠ n) ∧ t.ports = d.ports) ∧
  ((d.port n).personality = .dsp → steersOut n d = false → x.dpc = false → bitOf (d.bridge k).linkControl 4 = false →
    Gives (.linkDisable n true) s fun t => (t.pci n).lstate = .disabled ∧ (t.bridge k).linkControl = (d.bridge k).linkControl + 16 ∧
      (∀ i ∈ t.items, i.egress ≠ n) ∧ t.ports = d.ports) ∧
  ((d.port n).personality = .dsp → steersOut n d = false → x.dpc = false → (d.port n).enabled = true →
    bitOf (d.bridge k).linkControl 4 = true → Gives (.linkDisable n false) s fun t => (t.pci n).lstate = .detect ∧
      (t.bridge k).linkControl = (d.bridge k).linkControl - 16 ∧ t.items = d.items ∧ t.ports = d.ports) ∧
  ((d.port n).personality = .dsp → steersOut n d = true → bitOf (d.bridge k).linkControl 4 ≠ on →
    let p := (d.port n).holder
    let e := d.setPart p { d.part p with blockedCfg := satAdd 0xFFFF (d.part p).blockedCfg 1 }
    Becomes (.linkDisable n on) s e ∧ Becomes (.secondaryBusReset n) s e)

/-- R41, R315, R316, R319, R326: the slot's presence, attention button, WAKE_N and CLKREQ_N inputs, PERST_N_OUT released
PERST_DELAY_MS after power-good, and the slot's power controller. -/
def Obligations.PcieSlotEvents : Prop := ∀ (s : State) (n k : Nat) (level : Bool),
  let d := s.dev
  let x := s.dev.pci n
  ((d.port n).personality = .dsp → pinOf n 6 d = some k → Gives (.presenceChange n level) s fun t =>
    (t.pci n).prsnt = !level ∧ (t.pci n).sbLevel.getLsbD k = level ∧
    (lstateUp x.lstate = false → x.prsnt = level → (t.pci n).presenceChanged = true) ∧ t.ports = d.ports ∧ t.bridges = d.bridges) ∧
  ((d.port n).personality = .dsp → pinOf n 6 d = none → Becomes (.presenceChange n level) s d) ∧
  (n < 96 → (d.port n).personality ≠ .dsp → Becomes (.presenceChange n level) s (d.setPci n { x with stray := x.stray + 1 })) ∧
  ((d.port n).personality = .dsp → pinOf n 9 d = some k →
    Becomes (.attentionButton n) s (d.setPci n { x with buttonPressed := true })) ∧
  (pinOf n 9 d = none → Becomes (.attentionButton n) s d) ∧
  ((d.port n).personality = .dsp → pinOf n 4 d = some k → Gives (.wakeNIn n) s fun t =>
    (t.pci n).wakeIn = true ∧ (∀ u, uspOf (d.port n).holder d = some u → (t.pci u).wakeOut =
      (decide ((d.pci u).lstate = .l2) && (pinOf u 5 d).isSome)) ∧ t.ports = d.ports) ∧
  (pinOf n 4 d = none → Becomes (.wakeNIn n) s d) ∧
  (pciePort n d = true → pinOf n 3 d = some k → Becomes (.clkreqNChange n level) s (d.setPci n { x with clkreq := level })) ∧
  (pinOf n 3 d = none → Becomes (.clkreqNChange n level) s d) ∧
  (∀ t0, x.pgAt = some t0 → (d.port n).personality = .dsp → x.perstOut = true → (∀ c ∈ gangOf n d, (d.channel c).pg = true) →
    (t0 + x.perstDelayMs * msNs ≤ d.now → Gives (.perstDelayExpiry n) s fun t => (t.pci n).perstOut = false ∧ t.ports = d.ports ∧
      (x.dpc = false → (d.port n).enabled = true → bitOf (d.bridge (portKey n d)).linkControl 4 = false → (t.pci n).lstate = .detect)) ∧
    (d.now < t0 + x.perstDelayMs * msNs → Becomes (.perstDelayExpiry n) s d)) ∧
  (x.pgAt = none → Becomes (.perstDelayExpiry n) s d) ∧
  ((d.port n).hotplug = false → Becomes (.powerControllerControl n level) s d) ∧
  (∀ c, (d.port n).personality = .dsp → (d.port n).hotplug = true → gangOf n d = [c] →
    ((d.channel c).state = .on → Gives (.powerControllerControl n true) s fun t => (t.channel c).state = .shutdown) ∧
    ((d.channel c).state = .off → canSwitchOn [c] d = true →
      Gives (.powerControllerControl n false) s fun t => (t.channel c).state = .precharge) ∧
    (canSwitchOn [c] d = false → Becomes (.powerControllerControl n false) s (portRaise n 0x10 (d.setPci n { x with powerFault := true }))))

/-- R321, R322, R324, R325, R554: a completion time-out at a DSP answers the request with a synthetic completion;
PME_Turn_Off, ASPM L1 and the PTM dialog at a USP; DPC and its release. -/
def Obligations.PcieErrorsAndPower : Prop := ∀ (s : State) (n p reason : Nat) (off : BitVec 64) (t0 : Track),
  let d := s.dev
  let x := s.dev.pci n
  (d.tracks = [t0] → t0.answered = false → t0.port = n → n < 96 → (d.port n).personality = .dsp → t0.fn = none → t0.window = none →
    t0.nearFab = none →
    (t0.sentAt + x.cplTimeoutMs * msNs ≤ d.now → Gives (.cplTimeout t0.id) s fun t =>
      t.tracks = [{ t0 with answered := true, held := [] }] ∧ Output.item t0.nearPort (synthTlp t0) none ∈ t.out ∧
      (t.pci n).cplTimeouts = satAdd 0xFFFF x.cplTimeouts 1 ∧ t.fab.cntSynth = satAdd 0xFFFFFFFF d.fab.cntSynth 1 ∧
      t.items = d.items ∧ t.ports = d.ports) ∧
    (d.now < t0.sentAt + x.cplTimeoutMs * msNs → Becomes (.cplTimeout t0.id) s d)) ∧
  (d.tracks = [] → Becomes (.cplTimeout n) s d) ∧
  (uspOf p d = some n → linkUp n d = true → Gives (.pmeTurnOff p) s fun t => (t.pci n).lstate = .l2 ∧ (t.pci n).pmeAck = true ∧
    Output.pcieMessage n 0x1B ∈ t.out ∧ t.ports = d.ports ∧
    ∀ m ∈ broadcastPorts p d, (t.pci m).lstate = .l2 ∧ Output.pcieMessage m 0x19 ∈ t.out) ∧
  (uspOf p d = some n → linkUp n d = false → Becomes (.pmeTurnOff p) s d) ∧
  (uspOf p d = none → Becomes (.pmeTurnOff p) s d) ∧
  ((d.port n).personality = .usp → x.ptmEnable = true → linkUp n d = true → isDue (.ptmDialog n) 1000000 d = true →
    Becomes (.ptmDialog n off) s (ranNow (.ptmDialog n) (d.setPci n { x with ptmOfs := off }))) ∧
  (x.ptmEnable = false ∨ isDue (.ptmDialog n) 1000000 d = false → Becomes (.ptmDialog n off) s d) ∧
  ((d.port n).personality = .usp → x.lstate = .l0 → bitOf (d.bridge (upstreamKey (d.port n).holder)).linkControl 1 = true →
    (∀ m ∈ portsOf (d.port n).holder d, (d.port m).personality = .dsp → resting m d = true) →
    (∀ i ∈ d.items, i.part ≠ (d.port n).holder) → tget 0 d.insideAt (d.port n).holder + 10000 ≤ d.now →
    Becomes (.aspmL1Entry n) s (d.setPci n { x with lstate := .l1 })) ∧
  (x.lstate ≠ .l0 ∨ d.now < tget 0 d.insideAt (d.port n).holder + 10000 → Becomes (.aspmL1Entry n) s d) ∧
  (n < 96 → (d.port n).personality = .dsp → x.dpc = false → Gives (.dpcTrigger n reason) s fun t => (t.pci n).dpc = true ∧
    (t.pci n).dpcReason = reason ∧ (t.pci n).lstate = .dpc ∧ (t.pci n).intStatus.getLsbD 3 = true ∧ (∀ i ∈ t.items, i.egress ≠ n) ∧
    t.ports = d.ports) ∧
  ((d.port n).personality = .dsp → x.dpc = true → Becomes (.dpcTrigger n reason) s d) ∧
  (n < 96 → (d.port n).personality ≠ .dsp → Becomes (.dpcTrigger n reason) s (d.setPci n { x with stray := x.stray + 1 })) ∧
  ((d.port n).personality = .dsp → x.dpc = true → (d.port n).enabled = true →
    Gives (.dpcTriggerStatusClear n) s fun t => (t.pci n).dpc = false ∧ (t.pci n).dpcReason = 0 ∧ t.items = d.items ∧ t.ports = d.ports ∧
      (t.pci n).lstate = (if bitOf (d.bridge (portKey n d)).linkControl 4 = true then .disabled else .detect)) ∧
  (x.dpc = false → Becomes (.dpcTriggerStatusClear n) s d)

/-! ## The S96's own functions (chapter 13) -/

/-- R371 to R373, Table 13.4: the steps of a function-level reset of one VF: silence, the RESET entry of the tailings
journal, release; each only from the step before it; an FLR of the management function does nothing here. -/
def Obligations.FunctionLevelReset : Prop := ∀ (s : State) (v : Nat),
  let d := s.dev
  let f := Fn.vf v
  let x := s.dev.func f
  (fnExists f d = true → x.flr = .idle → Gives (.initiateFunctionLevelReset f) s fun t =>
    (t.func f).flr = .silencing ∧ (t.func f).vfEnable = false ∧ (∀ k ∈ t.tracks, k.fn = some f → k.answered = true) ∧ t.ports = d.ports ∧
    t.qps = d.qps) ∧
  (x.flr ≠ .idle → Becomes (.initiateFunctionLevelReset f) s d) ∧
  Becomes (.initiateFunctionLevelReset .mgr) s d ∧
  (x.flr = .silencing → Gives (.flrSilence f) s fun t => (∀ a ∈ t.issued, a.fn = some f → a ∉ d.issued) ∧
    (∀ i ∈ t.items, i.fn = some f → i.stage = .replay ∨ i.cls = 2) ∧
    (∀ i ∈ d.items, (∀ j ∈ d.items, j.id = i.id → j.fn ≠ some f) → i ∈ t.items) ∧ (t.func f).flr = .silencing ∧ t.ports = d.ports) ∧
  (x.flr ≠ .silencing → Becomes (.flrSilence f) s d ∧ Becomes (.flrResetEntry f) s d) ∧
  (x.flr = .silencing → d.items = [] → d.qps = [] → (∀ a ∈ d.issued, a.fn ≠ some f) →
    Gives (.flrResetEntry f) s fun t => (t.func f).flr = .releasing ∧
    (uspOf (if (d.journal (fnPart f d)).viaMgr then 0 else fnPart f d) d = none →
      (t.journal (fnPart f d)).lost = satAdd 0xFFFFFFFF (d.journal (fnPart f d)).lost 1) ∧ t.ports = d.ports) ∧
  (x.flr = .releasing → Gives (.flrRelease f) s fun t =>
    t.func f = { funcReset with lateCpl := x.lateCpl, oldTags := x.oldTags, flrEnded := x.flrEnded } ∧
    (∀ e ∈ t.qps, e.2.fn ≠ f) ∧ (∀ e ∈ t.cqs, e.2.fn ≠ f) ∧ (∀ e ∈ t.regions, e.2.fn = f → e.2.inUse = false) ∧
    (∀ e ∈ t.ats, e.fn ≠ f) ∧ t.ports = d.ports ∧
    ((∀ e ∈ d.kme.execs, e.cmd.source.transport ≠ 6) → t.items = d.items)) ∧
  (x.flr ≠ .releasing → Becomes (.flrRelease f) s d)

/-- R364, R366, R368, R369, R376: the translation cache: clearing ATS Enable, invalidation and its completion, an answer that
nothing waits for; a completion time-out of a function's own request; a vector that is unmasked sends what was pending. -/
def Obligations.TranslationsAndVectors : Prop := ∀ (s : State) (f : Fn) (page pages tag target id v : Nat) (rd wr : Bool),
  let d := s.dev
  let x := s.dev.func f
  (x.atsEnable = true → Gives (.atsEnableClear f) s fun t => t.func f = { x with atsEnable := false } ∧
    t.ats = d.ats.filter (fun e => decide (e.fn ≠ f)) ∧ t.atsAsks = d.atsAsks.filter (fun a => decide (a.fn ≠ f)) ∧ t.qps = d.qps) ∧
  (x.atsEnable = false → Becomes (.atsEnableClear f) s d) ∧
  (f ≠ .mgr → (d.invals.length < 32 ∨ x.flr ≠ .idle) → Gives (.invalidateRequest f page pages tag) s fun t =>
    (∀ e, e ∈ t.ats ↔ e ∈ d.ats ∧ ¬(e.fn = f ∧ overlapsPages e.page e.pages page pages = true)) ∧
    (x.flr = .idle → ∃ w, t.invals = d.invals ++ [w] ∧ w.fn = f ∧ w.page = page ∧ w.pages = pages ∧ w.tag = tag) ∧
    (x.flr ≠ .idle → t.invals = d.invals ∧ Output.ats f 1 page tag ∈ t.out) ∧ t.qps = d.qps) ∧
  (f ≠ .mgr → 32 ≤ d.invals.length → x.flr = .idle → Becomes (.invalidateRequest f page pages tag) s
    { d with invalWaits := d.invalWaits ++ [(f, page, pages, tag)] }) ∧
  (∀ w, d.invals = [w] → w.fn = f → w.tag = tag →
    ((∀ n ∈ w.waitFor, stillOut d n = false) → underEntries f w.gone d = [] → d.invalWaits = [] → Becomes (.invalidateCompletion f tag) s
      { d with invals := [], out := .ats f 1 w.page tag :: d.out }) ∧
    ((∃ n ∈ w.waitFor, stillOut d n = true) ∨ underEntries f w.gone d ≠ [] → Becomes (.invalidateCompletion f tag) s d)) ∧
  (d.invals = [] → Becomes (.invalidateCompletion f tag) s d) ∧
  (x.atsEnable = false → Becomes (.translationCompletion f page pages target rd wr) s d) ∧
  (x.atsEnable = true → x.flr = .idle → d.atsAsks = [] →
    Becomes (.translationCompletion f page pages target rd wr) s (fnError f 16 false d) ∧
    Gives (.translationCompletion f page pages target rd wr) s fun t => (t.func f).aerUncor = x.aerUncor ||| 2 ^ 16 ∧ t.qps = d.qps ∧
      t.items = d.items ∧ (bitOf x.aerUncorMask 16 = true → t.out = d.out) ∧
      ∀ u ∈ (uspOf (fnPart f d) d).toList, linkUp u d = true → bitOf x.aerUncorMask 16 = false → bitOf (severityOf f d) 16 = false →
        bitOf x.devControl 1 = true → Output.pcieMessage u 0x31 ∈ t.out) ∧
  (∀ a, x.atsEnable = true → x.flr = .idle → d.atsAsks = [a] → a.fn = f → a.use = 0 → page ≤ a.page → a.page < page + pages →
    d.invals = [] → Gives (.translationCompletion f page pages target rd wr) s fun t =>
      t.atsAsks = [] ∧ t.ats.head? = some { fn := f, page := page, pages := pages, target := target, read := rd, write := wr } ∧
      t.qps = d.qps ∧ t.items = d.items) ∧
  (∀ k, d.tracks = [k] → k.id = id → k.fn = some f → k.answered = false → d.qps = [] →
    (k.sentAt + x.cplTimeoutNs ≤ d.now → Becomes (.functionCompletionTimeout id) s
      { fnError f 14 false { d with tracks := [{ k with answered := true }] } with
        atsAsks := if k.kind = Kind.transReq then
          d.atsAsks.filter (fun a => !(decide (a.fn = f) && decide (a.page = k.addr / 4096))) else d.atsAsks }) ∧
    (d.now < k.sentAt + x.cplTimeoutNs → Becomes (.functionCompletionTimeout id) s d)) ∧
  (d.tracks = [] → Becomes (.functionCompletionTimeout id) s d) ∧
  (let k := fnKey f * 2048 + v
   let e := tget msixReset d.msix k
   v < vectorCount f →
     Becomes (.vectorUnmask f v) s { d with
       msix := tset msixReset d.msix k { e with masked := false, pending := false },
       issued := if e.pending then d.issued ++
         [{ port := 100, tlp := requestTlp .memWrite f e.addr 4 (natLe 4 e.data.toNat) d, fab := none,
                                                  rma := none, fn := some f }] else d.issued }) ∧
  (vectorCount f ≤ v → Becomes (.vectorUnmask f v) s d)

/-! ## Health, faults and throttling (chapter 16, R541 to R544) -/

/-- R447 to R449, R541, R542: the canary grades ten inputs every 100 ms of device time: a higher input raises the grade at
once, and grade 3 stays; the baseline window ends after 10 s; throttling rises and falls one step per update, up to 12; an
emergency sets it to 16. -/
def Obligations.CanaryAndThrottle : Prop := ∀ (s : State) (x : CanarySample) (tj power hot : Nat),
  let d := s.dev
  let th := s.dev.throttle
  (d.clk.mainLock = true → d.devTime.toNat % 100000000 = 0 → isDue .canary 1 d = true → Gives (.canaryEvaluation x) s fun t =>
    t.can.grades.length = 10 ∧ (d.can.grade ≤ maxOf t.can.grades → t.can.grade = maxOf t.can.grades) ∧
    (d.can.grade = 3 → t.can.grade = 3) ∧ t.can.eccCorr = satAdd 0xFFFFFFFF d.can.eccCorr x.corrected ∧ t.can.mramWear = x.wear ∧
    (950 ≤ x.wear → d.can.grade ≤ 3 → t.can.grade = 3 ∧ t.can.repl = true) ∧ t.ports = d.ports ∧ t.items = d.items) ∧
  (d.devTime.toNat % 100000000 ≠ 0 ∨ isDue .canary 1 d = false → Becomes (.canaryEvaluation x) s d) ∧
  (∀ t0, d.can.firstEval = some t0 →
    (t0 + 10000000000 ≤ d.now → Becomes .baselineEnd s { d with can := { d.can with baseline := false } }) ∧
    (d.now < t0 + 10000000000 → Becomes .baselineEnd s d)) ∧
  (d.can.firstEval = none → Becomes .baselineEnd s d) ∧
  (th.updatedAt + msNs ≤ d.now → th.emergency = false → Gives (.throttleUpdate tj power hot) s fun t =>
    (112 ≤ tj ∨ 2850 < power → t.throttle.level = min (th.level + 1) (max 12 th.level)) ∧
    (tj ≤ 108 → power ≤ 2750 → t.throttle.level = th.level - 1) ∧
    (108 < tj → tj < 112 → power ≤ 2850 → t.throttle.level = th.level) ∧ t.throttle.emergency = false ∧
    t.throttle.updatedAt = d.now ∧ t.throttle.tjMax = min tj 0xFF ∧ t.ports = d.ports) ∧
  (th.updatedAt + msNs ≤ d.now → th.emergency = true → Gives (.throttleUpdate tj power hot) s fun t =>
    t.throttle.level = (if tj ≤ 115 then 12 else th.level) ∧ t.throttle.emergency = decide (115 < tj)) ∧
  (d.now < th.updatedAt + msNs → Becomes (.throttleUpdate tj power hot) s d) ∧
  (125 ≤ tj → Gives (.thermalEmergency tj) s fun t => t.throttle.level = 16 ∧ t.throttle.emergency = true ∧
    t.throttle.entries = (if th.level = 0 then satAdd 0xFFFF th.entries 1 else th.entries) ∧ t.ports = d.ports) ∧
  (tj < 125 → Becomes (.thermalEmergency tj) s d)

/-- R437 to R440, R442 to R445: rows retired and spared, ECC errors of an item, a descriptor and a context, the device-level
fault, shaft errors and failed lanes, and the lockstep mismatch, which restarts the KME. -/
def Obligations.FaultsAreContained : Prop := ∀ (s : State) (m row busy id dir lane code : Nat) (unc : Bool),
  let d := s.dev
  (d.can.plans = [] → m < 9 → Gives (.rowRetirement m row busy true) s fun t =>
    t.can = { d.can with plans := [{ memory := m, row := row, busy := min busy 16 }] } ∧ t.ports = d.ports ∧ t.items = d.items) ∧
  (d.can.plans = [] → 9 ≤ m → (sparesOf m d).used < spareLimit m → Gives (.rowRetirement m row busy unc) s fun t =>
    (sparesOf m t).used = (sparesOf m d).used + 1 ∧ t.can.retired = d.can.retired + 1 ∧ t.can.intStatus.getLsbD 2 = true ∧
    t.can.eccCorr = (if unc then d.can.eccCorr else satAdd 0xFFFFFFFF d.can.eccCorr 1)) ∧
  (∀ p : RowPlan, d.can.plans = [p] → p.memory = m → p.row = row → (sparesOf m d).used < spareLimit m →
    Gives (.rowSpared m row) s fun t =>
    t.can.plans = [] ∧ (sparesOf m t).used = (sparesOf m d).used + 1 ∧ t.items = d.items) ∧
  (d.can.plans = [] → Becomes (.rowSpared m row) s d) ∧
  (∀ i, findItem id d = some i → i.rma = none → Gives (.itemEccError id) s fun t =>
    t.items = d.items.map (fun j => if j.id = i.id then { i with tlp := { i.tlp with poisoned := true } } else j) ∧
    t.can.eccItem = satAdd 0xFFFF d.can.eccItem 1 ∧ t.can.deviceFault = d.can.deviceFault ∧ t.ports = d.ports) ∧
  (∀ i, findItem id d = some i → Gives (.descriptorEccError id true) s fun t =>
    (∀ j ∈ t.items, j.id ≠ id) ∧ t.can.eccItem = satAdd 0xFFFF d.can.eccItem 1 ∧ t.can.deviceFault = d.can.deviceFault ∧
      t.ports = d.ports) ∧
  (∀ i, findItem id d = some i → Gives (.descriptorEccError id false) s fun t =>
    (∀ j ∈ t.items, j.id ≠ id) ∧ t.can.deviceFault = true ∧ t.can.fault = true ∧ t.can.grade = 3) ∧
  (findItem id d = none → Becomes (.itemEccError id) s d ∧ Becomes (.descriptorEccError id unc) s d) ∧
  (∀ q, d.qp id = some q → q.state = .rts → Gives (.contextEccError .context id) s fun t =>
    (∃ q', t.qp id = some q' ∧ q'.state = .error ∧ q'.errorStatus = 7) ∧ t.can.eccStruct = satAdd 0xFFFF d.can.eccStruct 1 ∧
    (t.func q.fn).aerUncor = (d.func q.fn).aerUncor ||| 2 ^ 22 ∧ t.can.intStatus.getLsbD 4 = true ∧
      t.can.deviceFault = d.can.deviceFault) ∧
  ((d.region id).inUse = false → Becomes (.contextEccError .memoryRegion id) s d) ∧
  (∀ e : AtsEntry, d.ats = [e] → Gives (.contextEccError .translation 0) s fun t => t.ats = [] ∧
    t.can.eccStruct = satAdd 0xFFFF d.can.eccStruct 1 ∧ t.qps = d.qps ∧ t.items = d.items) ∧
  (d.ats = [] → Becomes (.contextEccError .translation id) s d) ∧
  Gives (.deviceLevelFault (.window id)) s (fun t => entryLost (.window id) t = true ∧ t.can.grade = 3 ∧ t.windows = d.windows ∧
    t.items = d.items) ∧
  Gives (.deviceLevelFault (.other code)) s (fun t => t.can.deviceFault = true ∧ t.can.fault = true ∧ t.can.grade = 3 ∧
    t.can.intStatus.getLsbD 3 = true ∧ t.can.eccStruct = satAdd 0xFFFF d.can.eccStruct 1 ∧ t.ports = d.ports ∧ t.items = d.items) ∧
  (dir < 8 → (shaftOf dir d).spares < 32 → Gives (.shaftLaneFailure dir lane) s fun t =>
    (shaftOf dir t).spares = (shaftOf dir d).spares + 1 ∧ (shaftOf dir t).failed = (shaftOf dir d).failed ∧ t.items = d.items) ∧
  (dir < 8 → (shaftOf dir d).errors = [] → Gives (.shaftCrcError dir lane) s fun t =>
    (shaftOf dir t).errors = [(lane, d.now)] ∧ (shaftOf dir t).replays = (shaftOf dir d).replays + 1 ∧
    (shaftOf dir t).spares = (shaftOf dir d).spares ∧ t.items = d.items) ∧
  (dir < 8 → 7 ≤ ((shaftOf dir d).errors.filter (fun e => decide (d.now < e.2 + msNs) && decide (e.1 = lane))).length →
    32 ≤ (shaftOf dir d).spares → Gives (.shaftCrcError dir lane) s fun t =>
      (shaftOf dir t).failed = (shaftOf dir d).failed + 1 ∧ (∀ e ∈ (shaftOf dir t).errors, e.1 ≠ lane) ∧ t.items = d.items) ∧
  (8 ≤ dir → Becomes (.shaftCrcError dir lane) s d ∧ Becomes (.shaftLaneFailure dir lane) s d) ∧
  (d.kme.running = true → Gives .lockstepMismatch s fun t => t.kme.execs = [] ∧ t.kme.lock = none ∧ t.adit.level = 0 ∧
    t.ports = d.ports ∧ t.parts = d.parts) ∧
  (d.kme.running = false → Becomes .lockstepMismatch s d)

/-! ## RMA (chapter 9) -/

/-- R253, R254, R257, R261, R263 to R265, R282 to R284: the tenant commands on a PF's or VF's own objects: the doorbell page,
CQ, QP and region that are made, a QP's way to RTS and to ERROR, and their end. -/
def Obligations.RmaTenantCommands : Prop := ∀ (s : State) (c : Cmd) (n : Nat),
  (c.source.transport = 1 ∨ c.source.transport = 2) → NoTarget c → Unbacked s.dev →
  let d := s.dev
  let f := tenantFn c
  let p := c.params
  (∀ g, Ready 0x7108 c d → p = [0, 0, 0, 0] → lowest (fun k => !pageHeld f k d) 0 (pageCount f) = some g →
    Replies (.dbAlloc c) 0x7108 c s (ansOk (natLe 2 g ++ [0, 0])) fun e => { e with dbPages := tset 0 e.dbPages (pageKey f g) 1 }) ∧
  (Ready 0x7104 c d → p.length = 16 → u64 p 0 % 4096 = 0 → powerIn (u32 p 8) 256 4194304 = true → u16 p 12 = 0xFFFF →
    pageHeld f (u16 p 14) d = true → freeContext (fnPart f d) d = some n →
    Replies (.cqCreate c) 0x7104 c s (ansOk (natLe 4 n)) fun e => e.putCq n
      { fn := f, base := u64 p 0, depth := u32 p 8, vector := 0xFFFF, dbPage := u16 p 14, prod := 0, ci := 0, armed := false,
        noticeOf := [], lastUse := 0 }) ∧
  (∀ x, Ready 0x7105 c d → p = natLe 4 n → d.cq n = some x → n < 2 ^ 32 → x.fn = f → d.qps = [] →
    Replies (.cqDestroy c) 0x7105 c s (ansOk []) fun e => { e with cqs := terase n e.cqs }) ∧
  (∀ x, Ready 0x7101 c d → p.length = 32 → u32 p 4 = u32 p 0 → d.cq (u32 p 0) = some x → x.fn = f → u64 p 8 % 4096 = 0 →
    powerIn (u32 p 16) 64 65536 = true → pageHeld f (u16 p 22) d = true → u8 p 26 < 8 → zeros p 27 5 = true →
    freeContext (fnPart f d) d = some n → cqCommitted (u32 p 0) d + (u32 p 16 + u16 p 20) ≤ x.depth →
    Replies (.qpCreate c) 0x7101 c s (ansOk (natLe 4 n)) fun e => e.putQp n (newQp f p e)) ∧
  (∀ q, Ready 0x7102 c d → p.length = 28 → u32 p 0 = n → d.qp n = some q → q.fn = f → u8 p 4 = 2 → q.state = .init →
    u8 p 5 = d.glb.fid → d.glb.fid < 32 → u8 p 6 ≤ 15 → u8 p 7 ≤ 15 → u32 p 8 < 2 ^ 24 → u32 p 12 < 2 ^ 24 → u32 p 16 < 2 ^ 24 →
    u16 p 20 = 0 → u16 p 22 = 0 → u16 p 24 = 0 → zeros p 26 2 = true →
    Replies (.qpModify c) 0x7102 c s (ansOk []) fun e => e.putQp n { q with
      state := .rts, dstFid := u8 p 5, dstQpn := u32 p 8, retryLimit := if u8 p 6 = 0 then q.retryLimit else u8 p 6, rnrLimit := u8 p 7,
      nextPsn := u32 p 12, epsn := u32 p 16, progressAt := e.now, epsnAt := e.now, retries := 0, rnrRetries := 0 }) ∧
  (∀ q, Ready 0x7102 c d → p = natLe 4 n ++ [3] ++ List.replicate 23 0 → n < 2 ^ 32 → d.qp n = some q → q.fn = f → q.state = .rts →
    Replies (.qpModify c) 0x7102 c s (ansOk []) (toError n 0 none)) ∧
  (∀ q, Ready 0x7103 c d → p = natLe 4 n → n < 2 ^ 32 → d.qp n = some q → q.fn = f → q.state = .error →
    (q.completed = q.sqPi → Replies (.qpDestroy c) 0x7103 c s (ansOk []) fun e =>
      { markApplied 0x7103 c e with qps := terase n e.qps }) ∧
    (q.completed ≠ q.sqPi → Starts (.qpDestroy c) 0x7103 c s (markApplied 0x7103 c))) ∧
  (∀ i, Ready 0x7106 c d → p.length = 24 → 0 < u64 p 8 → u64 p 8 ≤ 2 ^ 42 → u8 p 18 < 16 → zeros p 19 5 = true →
    freeRegion d = some i →
    (regionsOf (fnPart f d) d).length < (poolOf (fnPart f d) d).regLimit →
    pageSum (regionsOf (fnPart f d) d) + ceilDiv (u64 p 0 % 4096 + u64 p 8) 4096 ≤ (poolOf (fnPart f d) d).pageLimit →
    pageSum (regionsIn d) + ceilDiv (u64 p 0 % 4096 + u64 p 8) 4096 ≤ 2 ^ 30 →
    let x := newRegion f p (d.region i)
    x.inUse = true ∧ x.base = u64 p 0 ∧ x.length = u64 p 8 ∧ x.rights = u8 p 18 ∧
    ((d.region i).used = true → x.variant = ((d.region i).variant + 1) % 256) ∧
    Replies (.regRegister c) 0x7106 c s (ansOk (natLe 4 (i * 256 + x.variant))) fun e => e.setRegion i x) ∧
  (∀ x : Region, Ready 0x7107 c d → p = natLe 4 n → n < 2 ^ 32 → d.region (n / 256) = x → x.inUse = true →
    x.variant = n % 256 → x.fn = f →
    let act := fun e => markApplied 0x7107 c (e.setRegion (n / 256) { x with inUse := false })
    (regionBusy (n / 256) d = false → Replies (.regDeregister c) 0x7107 c s (ansOk []) act) ∧
    (regionBusy (n / 256) d = true → Starts (.regDeregister c) 0x7107 c s act))

/-- R251, R253, R285: the manager's commands: VFs made and given back from the top, a partition's limits, the backing store,
and slots set to zero, at once or LONG. -/
def Obligations.RmaManagerCommands : Prop := ∀ (s : State) (c : Cmd) (p v : Nat),
  let d := s.dev
  (Ready 0x0701 c d → c.params = [] → c.param0 = 0 → c.target = BitVec.ofNat _ p → 1 ≤ p → p ≤ 48 → (d.part p).state ≠ .free →
    (d.func (.pf p)).flr = .idle → (d.func (.pf p)).vfEnable = false → (vfsOf p d).length < 256 → d.vfPart.length < 4096 →
    lowest (fun v => !d.vfPart.any fun e => decide (e.1 = v)) 0 4096 = some v →
    let i := (vfsOf p d).length
    let after := tinsert v p d.vfPart
    Replies (.rmaVfCreate c) 0x0701 c s (ansOk (natLe 2 v ++ natLe 2 i ++ natLe 2 (4096 - after.length) ++ [0, 0]))
      fun e => { e with vfPart := after, vfIndex := tset 0 e.vfIndex v i, funcs := terase (64 + v) e.funcs }) ∧
  (Ready 0x0701 c d → c.params = [] → c.param0 = 0 → c.target = BitVec.ofNat _ p → 1 ≤ p → p ≤ 48 → (d.part p).state ≠ .free →
    (d.func (.pf p)).flr ≠ .idle → Starts (.rmaVfCreate c) 0x0701 c s id) ∧
  (Ready 0x0702 c d → c.params = [] → c.param0 = 0 → c.target = BitVec.ofNat _ v → v < 4096 → (v, p) ∈ d.vfPart → tget 0 d.vfPart v = p →
    tget 0 d.vfIndex v + 1 = (vfsOf p d).length → (d.func (.pf p)).vfEnable = false →
    Replies (.rmaVfDestroy c) 0x0702 c s (ansOk []) (dropVf v)) ∧
  (∀ x y z, Ready 0x0703 c d → c.param0 = 0 → c.target = BitVec.ofNat _ p → 1 ≤ p → p ≤ 48 → (d.part p).state ≠ .free →
    c.params = natLe 4 x ++ natLe 4 y ++ natLe 4 z → x ≤ 16777216 → y ≤ 16777216 → z ≤ 2 ^ 30 → contextsOf p d ≤ x →
    (regionsOf p d).length ≤ y → pageSum (regionsOf p d) ≤ z →
    Replies (.rmaPoolSet c) 0x0703 c s
      (ansOk (natLe 4 (contextsOf p d) ++ natLe 4 (regionsOf p d).length ++ natLe 4 (pageSum (regionsOf p d))))
      fun e => { e with pools := tset poolReset e.pools p { ctxLimit := x, regLimit := y, pageLimit := z } }) ∧
  (∀ a b x y, Ready 0x0704 c d → NoTarget c → a % 4096 = 0 → b % 4096 = 0 → a < 2 ^ 64 → b < 2 ^ 64 → x % 65536 = 0 → y % 65536 = 0 →
    1048576 ≤ x → x ≤ 16777216 → 524288 ≤ y → y ≤ 16777216 → d.qps = [] → d.cqs = [] → regionsIn d = [] →
    c.params = natLe 8 a ++ natLe 8 b ++ natLe 4 x ++ natLe 4 y ++ List.replicate 8 0 →
    Replies (.rmaBackingSet c) 0x0704 c s (ansOk (natLe 4 (x / 65536 + y)))
      fun e => { e with rma := { e.rma with ctxBase := a, regBase := b, ctxCount := x, regCount := y } }) ∧
  (∀ first count, Ready 0x0705 c d → NoTarget c → c.params = [0, 0, 0, 0] ++ natLe 4 first ++ natLe 4 count → first +
    count ≤ contextSpace d →
    first + count < 2 ^ 32 →
    (count ≤ 65536 → d.qps = [] → d.cqs = [] → Replies (.ctxZero c) 0x0705 c s (ansOk (natLe 4 count ++ [0, 0, 0, 0]))
      fun e => { e with out := .zeroSlots false first count :: e.out }) ∧
    (65536 < count → Starts (.ctxZero c) 0x0705 c s fun e => acceptLong 0x0705 c (markApplied 0x0705 c e)))

/-- R262, R263, R265, R362, Table 13.6: a doorbell moves SQ_PI, or CQ_CI and ARM; one that names an object not bound to its
page, or would exceed the ring, is ignored and counted; none acts during an FLR or with Memory Space Enable 0. -/
def Obligations.DoorbellsMoveTheIndices : Prop := ∀ (s : State) (f : Fn) (page n pi : Nat), n < 2 ^ 24 → pi < 2 ^ 32 →
  let d := s.dev
  let x := s.dev.func f
  let data := natLe 4 n ++ natLe 4 pi
  let bad := { d with rma := { d.rma with cntBadDb := satAdd 0xFFFFFFFF d.rma.cntBadDb 1 } }
  let live := x.flr = .idle ∧ d.fenced (fnPart f d) = false ∧ x.mse = true ∧ x.d3hot = false
  (∀ q, live → d.qp n = some q → q.fn = f → q.dbPage = page → q.state ≠ .reset → ahead pi q.freed ≤ q.sqDepth →
    ahead q.sqPi q.freed ≤ ahead pi q.freed → Becomes (.sqDoorbell f (page * 4096) data) s (d.putQp n { q with sqPi := pi })) ∧
  (∀ q, live → d.qp n = some q → (q.fn ≠ f ∨ q.dbPage ≠ page ∨ q.sqDepth < ahead pi q.freed) →
    Becomes (.sqDoorbell f (page * 4096) data) s bad) ∧
  (live → d.qp n = none → Becomes (.sqDoorbell f (page * 4096) data) s bad) ∧
  (live → Becomes (.sqDoorbell f (page * 4096) (natLe 4 n)) s (fnError f 15 false bad)) ∧
  (∀ (q : Cq) (arm : Nat), live → d.cq n = some q → q.fn = f → q.dbPage = page → ahead pi q.ci ≤ ahead q.prod q.ci →
    (∀ k ∈ q.noticeOf, k = 0) →
    Becomes (.cqDoorbell f (page * 4096 + 8) (natLe 4 (n + 2 ^ 24 * natOfBool arm) ++ natLe 4 pi)) s
      (d.putCq n { q with ci := pi, noticeOf := q.noticeOf.drop (ahead pi q.ci), armed := q.armed || arm })) ∧
  (∀ q : Cq, live → d.cq n = some q → (q.fn ≠ f ∨ q.dbPage ≠ page ∨ ahead q.prod q.ci < ahead pi q.ci) →
    Becomes (.cqDoorbell f (page * 4096 + 8) data) s bad) ∧
  (x.flr ≠ .idle → Becomes (.sqDoorbell f (page * 4096) data) s d ∧ Becomes (.cqDoorbell f (page * 4096 + 8) data) s d) ∧
  (x.flr = .idle → d.fenced (fnPart f d) = false → x.mse = false →
    Becomes (.sqDoorbell f (page * 4096) data) s (fnError f 20 true d) ∧ Becomes (.cqDoorbell f (page * 4096 + 8) data) s (fnError f 20 true d))

/-- R262, R266, R268 to R271, R279: the requester: an entry is fetched and its first item sent; an ACK completes what it
covers; NAKs and time-outs count retries and make segments due; a failing request takes the QP to ERROR, where the rest is
flushed. -/
def Obligations.RmaRequester : Prop := ∀ (s : State) (n : Nat) (q : Qp) (b : List Byte) (h : RmaHdr) (seg : SentSeg) (map : Nat),
  Unbacked s.dev → Running n q s.dev →
  let d := s.dev
  let w := wqeOf b
  let slot := q.sqBase + q.fetched % q.sqDepth * 64
  let mine := h.dstQpn = n ∧ fromPeer q h = true ∧ q.unacked = [seg] ∧ seg.hdr.psn = h.psn ∧ h.psn < 2 ^ 24 ∧
    isWriteOp seg.hdr.op = true ∧
    oldestPsn q = h.psn ∧ (∀ r ∈ q.reqs, reqDone q r = false)
  (Reaches q.fn d → q.reqs = [] → q.unacked = [] → q.fetched ≠ q.sqPi → d.fenced q.part = false → q.reading ≠ some (slot, 64) →
    Gives (.rmaSegmentSend n (some b) []) s fun t => (∃ q', t.qp n = some q' ∧ q'.reading = some (slot, 64) ∧ q'.reqs = [] ∧
      q'.fetched = q.fetched) ∧ (∃ a ∈ t.issued, a.port = 96 + n % 4 ∧ a.fn = some q.fn ∧ a.tlp.kind = .memRead ∧ a.tlp.addr = slot) ∧
      t.items = d.items) ∧
  (Reaches q.fn d → q.reqs = [] → q.unacked = [] → q.fetched ≠ q.sqPi → d.fenced q.part = false → q.reading = some (slot, 64) →
    (accessOut q.fn slot 64 d = true → Gives (.rmaSegmentSend n (some b) []) s fun t => t.issued = d.issued ∧
      ∃ q', t.qp n = some q' ∧ q'.reqs = [] ∧ q'.fetched = q.fetched) ∧
    (accessOut q.fn slot 64 d = false → q.nextPsn < 2 ^ 24 → w.op = 1 → w.length = 0 → w.flags = 0 →
      keyAdmits q w.localKey none w.localAddr 0 d = true →
      Gives (.rmaSegmentSend n (some b) []) s fun t => (∃ q' x, t.qp n = some q' ∧ q'.unacked = [x] ∧ x.hdr.psn = q.nextPsn ∧
        x.hdr.address = w.remoteAddr ∧ x.hdr.last = true ∧ (∃ a ∈ t.issued, a.port = 96 + n % 4 ∧ a.rma = some x.hdr) ∧
        q'.fetched = (q.fetched + 1) % 2 ^ 32 ∧ q'.nextPsn = (q.nextPsn + 1) % 2 ^ 24) ∧ t.items = d.items) ∧
    (accessOut q.fn slot 64 d = false →
      Gives (.rmaSegmentSend n none []) s fun t => ∃ q', t.qp n = some q' ∧ q'.state = .error ∧ q'.errorStatus = 7)) ∧
  (fnEnabled q.fn d = false → Becomes (.rmaSegmentSend n (some b) []) s d) ∧
  (∀ r, h.dstQpn = n → fromPeer q h = true → q.unacked = [seg] → isWriteOp seg.hdr.op = true → seg.hdr.psn < 2 ^ 24 → q.reqs = [r] →
    isWriteOp r.wqe.op = true → r.sent = r.psns → r.wqe.flags = 0 → q.nextPsn = psnAdd seg.hdr.psn 1 → h.psn = q.nextPsn →
    Gives (.rmaAck h map) s fun t => (∃ q', t.qp n = some q' ∧ q'.unacked = [] ∧ q'.reqs = [] ∧
      q'.completed = (q.completed + 1) % 2 ^ 32 ∧ q'.state = .rts) ∧ t.items = d.items) ∧
  (h.dstQpn = n → fromPeer q h = false → Becomes (.rmaAck h map) s d ∧ Becomes (.nakMissing h map) s d ∧ Becomes (.nakRnr h) s d ∧
    Becomes (.nakAccess h) s d ∧ Becomes (.readResp h) s d) ∧
  (mine → seg.dueAt = none → q.retries < q.retryLimit → Gives (.nakMissing h 0) s fun t => ∃ q', t.qp n = some q' ∧
    q'.retries = q.retries + 1 ∧ q'.progressAt = d.now ∧ q'.state = .rts) ∧
  (mine → q.retryLimit ≤ q.retries → Gives (.nakMissing h 0) s fun t => ∃ q', t.qp n = some q' ∧ q'.state = .error ∧ q'.errorStatus = 5) ∧
  (mine → h.msgPsn = h.psn → q.rnrLimit = 0 → Gives (.nakRnr h) s fun t => ∃ q', t.qp n = some q' ∧ q'.rnrRetries = q.rnrRetries + 1 ∧
    q'.unacked.map (·.dueAt) = [some (d.now + q.rnrDelayUs * 1000)] ∧ q'.state = .rts) ∧
  (mine → q.rnrLimit ≠ 0 → q.rnrLimit ≤ q.rnrRetries → Gives (.nakRnr h) s fun t => ∃ q', t.qp n = some q' ∧ q'.state = .error ∧
    q'.errorStatus = 5) ∧
  (qpRuns q d = true → q.unacked = [seg] → seg.dueAt = some d.now → Gives (.rnrDelayExpiry n) s fun t =>
    (∃ a ∈ t.issued, a.port = 96 + n % 4 ∧ a.rma = some { seg.hdr with retx := true }) ∧
      (∃ q' x, t.qp n = some q' ∧ q'.unacked = [x] ∧ x.dueAt = none ∧
      x.hdr = { seg.hdr with retx := true } ∧ q'.retries = q.retries)) ∧
  (q.unacked = [] → Becomes (.rnrDelayExpiry n) s d ∧ Becomes (.rmaAckTimeout n) s d) ∧
  (mine → Gives (.nakAccess h) s fun t => ∃ q', t.qp n = some q' ∧ q'.state = .error ∧
    q'.errorStatus = (if h.syndrome = 3 then 3 else if h.syndrome = 4 then 4 else 8)) ∧
  (q.unacked ≠ [] → q.progressAt + q.ackTimeout * 10000 ≤ d.now → Gives (.rmaAckTimeout n) s fun t => ∃ q', t.qp n = some q' ∧
    q'.retries = q.retries + 1 ∧ (q.retryLimit ≤ q.retries → q'.state = .error ∧ q'.errorStatus = 5)) ∧
  (d.now < q.progressAt + q.ackTimeout * 10000 → Becomes (.rmaAckTimeout n) s d) ∧
  (∀ r, Reaches q.fn d → h.dstQpn = n → fromPeer q h = true → q.reqs = [r] → r.wqe.op = 3 → r.psns = 1 → r.sent = 1 → r.placed = [] →
    r.wqe.flags = 0 → h.psn = r.firstPsn → h.psn < 2 ^ 24 → h.msgOffset = 0 → h.last = true → h.totalLen = r.wqe.length →
    messageCuts r.wqe.localAddr r.wqe.length = [(r.wqe.localAddr, r.wqe.length)] → 0 < r.wqe.length →
    (h.data.length = r.wqe.length → keyAdmits q r.wqe.localKey (some localWrite) r.wqe.localAddr r.wqe.length d = true →
      Gives (.readResp h) s fun t => (∃ a ∈ t.issued, a.port = 96 + n % 4 ∧ a.fn = some q.fn ∧ a.tlp.kind = .memWrite ∧
          a.tlp.addr = r.wqe.localAddr ∧ a.tlp.data = h.data) ∧
        (∃ q', t.qp n = some q' ∧ q'.reqs = [{ r with placed := [h.psn] }] ∧ q'.completed = q.completed ∧ q'.state = .rts) ∧
        t.items = d.items) ∧
    (h.data.length ≠ r.wqe.length → Gives (.readResp h) s fun t => ∃ q', t.qp n = some q' ∧ q'.state = .error ∧ q'.errorStatus = 9)) ∧
  (∀ r, q.reqs = [r] → q.unacked = [] → q.fetched = q.sqPi → r.wqe.op = 3 → r.psns = 1 → r.sent = 1 → r.placed = [r.firstPsn] →
    r.wqe.flags = 0 → fnEnabled q.fn d = true →
    Gives (.rmaSegmentSend n none []) s fun t => ∃ q', t.qp n = some q' ∧ q'.state = .rts ∧
      (accessOut q.fn r.wqe.localAddr r.wqe.length d = false → q'.reqs = [] ∧ q'.completed = (q.completed + 1) % 2 ^ 32) ∧
      (accessOut q.fn r.wqe.localAddr r.wqe.length d = true → q'.reqs = [r] ∧ q'.completed = q.completed)) ∧
  Becomes (.qpFlush n []) s d

/-- R279: in ERROR the request that caused it completes with its own status, every other with FLUSHED, signaled or not. -/
def Obligations.QpFlushCompletesEveryRequest : Prop := ∀ (s : State) (n : Nat) (q : Qp) (c : Cq) (r : WorkReq),
  let d := s.dev
  d.qps = [(n, q)] → q.state = .error → q.reqs = [r] → r.psns ≠ 0 → d.cq q.cqn = some c → c.armed = false → Reaches c.fn d →
  (∀ e ∈ d.kme.execs, e.op ≠ 0x7103) →
  let status := if q.errorPsn = some r.firstPsn ∧ q.errorStatus ≠ 0 then q.errorStatus else 1
  let entry := cqeBytes r.wqe.wrId n r.wqe.op (movedBytes q r) 0 status (if c.prod / c.depth % 2 = 0 then 1 else 0) r.firstPsn
  Gives (.qpFlush n []) s fun t =>
    (∃ q', t.qp n = some q' ∧ q'.reqs = [] ∧ q'.completed = (q.completed + 1) % 2 ^ 32 ∧ q'.freed = q'.completed ∧ q'.state = .error) ∧
    (∃ c', t.cq q.cqn = some c' ∧ c'.prod = (c.prod + 1) % 2 ^ 32) ∧
    (∃ a ∈ t.issued, a.port = 96 + n % 4 ∧ a.fn = some c.fn ∧ a.tlp.kind = .memWrite ∧ a.tlp.addr = c.base + c.prod % c.depth * 32 ∧
      a.tlp.data = entry) ∧ t.items = d.items

/-- Table 9.6, R253, R255, R272 to R277: the responder: what is not for a running QP is stray; a duplicate is acknowledged
and not placed again; beyond the window only an ACK; a bad key is NAK_ACCESS; an accepted write is placed, and EPSN passes it
when it is complete; ACK and NAK_MISSING by time; the fetches of the backing store. -/
def Obligations.RmaResponder : Prop := ∀ (s : State) (n : Nat) (q : Qp) (h : RmaHdr) (x : RxSeg) (t0 : Nat) (region : Bool) (m : MissWait),
  let d := s.dev
  let sent := fun (a : RmaHdr) (t : Device) => ∃ x ∈ t.issued, x.port = 96 + n % 4 ∧ x.rma = some a
  (Unbacked d → Running n q d →
    let mine := h.dstQpn = n ∧ fromPeer q h = true ∧ (d.func q.fn).flr = .idle ∧ d.fenced q.part = false ∧ h.psn < 2 ^ 24 ∧
      q.epsn < 2 ^ 24
    (h.dstQpn ≠ n ∨ fromPeer q h = false ∨ d.fenced q.part = true →
      Becomes (.responderArrival h) s { d with rma := { d.rma with cntStray := satAdd 0xFFFFFFFF d.rma.cntStray 1 } }) ∧
    (mine → isWriteOp h.op = true → q.epsn = psnAdd h.psn 1 → Gives (.responderArrival h) s fun t =>
      t.rma.cntDup = satAdd 0xFFFFFFFF d.rma.cntDup 1 ∧ sent (ackHdr n 0 q.epsn q d) t ∧
      (∀ q', t.qp n = some q' → q'.rx = q.rx ∧ q'.epsn = q.epsn) ∧ t.items = d.items) ∧
    (mine → q.rx = [] → h.psn = psnAdd q.epsn 256 → Gives (.responderArrival h) s fun t =>
      t.rma.cntBeyond = satAdd 0xFFFFFFFF d.rma.cntBeyond 1 ∧ sent (ackHdr n 0 q.epsn q d) t) ∧
    (mine → q.rx = [] → h.psn = q.epsn → keyAdmits q h.key (some (remoteRight h)) h.address (remoteLen h) d = false →
      Gives (.responderArrival h) s fun t => sent (ackHdr n 3 q.epsn q d) t ∧
        (∃ q', t.qp n = some q' ∧ q'.state = .error ∧ q'.epsn = q.epsn)) ∧
    (mine → Reaches q.fn d → q.rx = [] → h.psn = q.epsn → h.op = 1 → 0 < h.data.length →
      keyAdmits q h.key (some remoteWrite) h.address h.data.length d = true → Gives (.responderArrival h) s fun t =>
        (∃ a ∈ t.issued, a.port = 96 + n % 4 ∧ a.fn = some q.fn ∧ a.tlp.kind = .memWrite ∧ a.tlp.addr = h.address ∧ a.tlp.data = h.data) ∧
        (∃ q', t.qp n = some q' ∧ q'.rx = [{ hdr := h, psns := 1, complete := false }] ∧ q'.epsn = q.epsn ∧ q'.state = .rts) ∧
        t.items = d.items) ∧
    (q.rx = [x] → x.complete = false → x.hdr.psn = q.epsn → x.psns = 1 → x.hdr.op = 1 → x.hdr.last = true → q.msgBytes = 0 →
      x.hdr.totalLen = x.hdr.data.length → fnEnabled q.fn d = true → d.atsAsks = [] →
      (∀ y ∈ d.kme.execs, y.cmd.source.transport ≠ 6) →
      (accessOut q.fn x.hdr.address x.hdr.data.length d = true → Becomes (.segmentComplete n q.epsn []) s d) ∧
      (accessOut q.fn x.hdr.address x.hdr.data.length d = false → Gives (.segmentComplete n q.epsn []) s fun t =>
        (∃ q', t.qp n = some q' ∧ q'.rx = [] ∧ q'.epsn = psnAdd q.epsn 1 ∧ q'.state = .rts ∧ q'.sinceAck = 0) ∧
        (∃ a, sent a t ∧ a.op = 8 ∧ a.syndrome = 0 ∧ a.psn = psnAdd q.epsn 1) ∧ t.items = d.items)) ∧
    (q.rx = [] → q.rereads = [] → Becomes (.segmentComplete n q.epsn []) s d) ∧
    (q.uncoveredAt = some t0 → t0 + 1000 ≤ d.now → Gives (.rmaAckSend n) s fun t => sent (ackHdr n 0 q.epsn q d) t ∧
      t.qp n = some { q with sinceAck := 0, uncoveredAt := none }) ∧
    (q.uncoveredAt = some t0 → d.now < t0 + 1000 → Becomes (.rmaAckSend n) s d) ∧
    (q.uncoveredAt = none → Becomes (.rmaAckSend n) s d) ∧
    (q.rx = [x] → x.hdr.psn ≠ q.epsn → q.nakAt = none → q.epsnAt + q.reasmTimeout * 10000 ≤ d.now → Gives (.reasmTimeout n) s fun t =>
      (∃ a, sent a t ∧ a.syndrome = 1 ∧ a.psn = q.epsn) ∧ (∃ q', t.qp n = some q' ∧ q'.nakAt = some d.now)) ∧
    (q.rx = [] → Becomes (.reasmTimeout n) s d) ∧
    Gives (.placementFault n) s (fun t => sent (ackHdr n 5 q.epsn q d) t ∧
      (∃ q', t.qp n = some q' ∧ q'.state = .error ∧ q'.errorStatus = 0 ∧ q'.rx = q.rx) ∧ t.rma.intStatus.getLsbD 1 = true ∧
      t.items = d.items)) ∧
  (d.qp n = none → Becomes (.placementFault n) s d) ∧
  (d.missWait = [m] → m.region = region → m.number = n → m.hdr.op = 0 → (usesOf region d).length < residentSlots region d →
    Gives (.backingFetch region n) s fun t => t.missWait = [] ∧ t.rma.cntEvict = d.rma.cntEvict ∧ t.items = d.items) ∧
  (d.missWait = [] → Becomes (.backingFetch region n) s d ∧ Becomes (.backingStall region n) s d) ∧
  (d.missWait = [m] → m.region = region → m.number = n → m.since + msNs ≤ d.now →
    Becomes (.backingStall region n) s { d with rma := { d.rma with intStatus := d.rma.intStatus ||| 1 } })

/-! ## Fabric mode (chapter 8) -/

/-- R219, R221, R222, R235, R240, R246 to R249: the fabric commands: a route with one path, the answer of FAB_TOPOLOGY, a
journal that is set or removed, the time actions, the guard time and VL map. -/
def Obligations.FabricCommands : Prop := ∀ (s : State) (c : Cmd) (k n w : Nat) (h : HeldAdvert),
  let d := s.dev
  let p := c.params
  let j := s.dev.journal k
  (∀ r : FabRoute, ((pathsChanged k (d.setRoute k r)).route k).paths = r.paths) ∧
  (Ready 0x0601 c d → c.target = BitVec.ofNat _ k → c.param0 = 0 → k < 32 → k ≠ d.glb.fid → n < 96 → (d.port n).personality = .pfl →
    (d.pfl n).state ≠ .conflict → w ≤ 15 → p = [0, 1, 0, 0, BitVec.ofNat 8 n, BitVec.ofNat 8 w] ++ List.replicate 10 0 →
    let g := fun e => pathsChanged k (e.setRoute k
      { adapt := false, sampled := 0, buckets := (e.route k).buckets, deal := (e.route k).deal, died := (e.route k).died,
        paths := [{ port := n, weight := w, withdrawn := (d.route k).paths.any (fun y => decide (y.port = n) && y.withdrawn),
                    samples := [] }] })
    Replies (.fabRouteSet c) 0x0601 c s (ansOk (natLe 4 (routeStateWord k (g (markBegun 0x0601 c d))))) g) ∧
  (Ready 0x0602 c d → c.target = BitVec.ofNat _ 0xFF → c.param0 = 0 → p = [] → (∀ a ∈ d.fab.adverts, a.adv.fid < 32) →
    Replies (.fabTopology c) 0x0602 c s
      (ansOk (natLe 4 d.fab.reach.toNat ++ natLe 1 d.fab.masterFid ++ natLe 1 d.fab.hops ++ natLe 2 0)) id) ∧
  (Ready 0x0602 c d → c.target = BitVec.ofNat _ k → k < 32 → c.param0 = 0 → p = [] → d.fab.adverts = [h] → h.adv.fid = k →
    Replies (.fabTopology c) 0x0602 c s (ansOk (advertBytes h.adv)) id) ∧
  (Ready 0x0603 c d → c.target = BitVec.ofNat _ k → c.param0 = 0 → k ≤ 48 → (d.part k).state ≠ .free → p.length = 32 →
    u64 p 0 % 4096 = 0 →
    u64 p 8 % 4 = 0 → u32 p 16 ≠ 0 → journalSize (u32 p 16) = true → 1 ≤ u16 p 20 → u16 p 20 ≤ 1024 → u16 p 22 ≤ 32768 →
      u16 p 24 = 0xFFFF →
    u8 p 26 < 2 → zeros p 27 5 = true → j.entries = 0 → journalMoves j (journalAsked p j) = true →
    journalFits (journalAsked p j) (journalSources k d) = true →
    let g := fun e => giveSlots (e.setJournal k { journalAsked p j with index := 0, prod := 0, cons := 0, owed := [] })
    Replies (.fabJournalSet c) 0x0603 c s (ansOk (journalResult k (g (markBegun 0x0603 c d)))) g) ∧
  (Ready 0x0603 c d → c.target = BitVec.ofNat _ k → c.param0 = 0 → k ≤ 48 → (d.part k).state ≠ .free → p = List.replicate 32 0 →
    journalHeld k d = 0 → portsOf k d = [] →
    let g := fun e => giveSlots (e.setJournal k { journalNone with lost := j.lost })
    Replies (.fabJournalSet c) 0x0603 c s (ansOk (journalResult k (g (markBegun 0x0603 c d)))) g) ∧
  (let res := fun e : Device => ansOk (natLe 8 e.devTime.toNat ++ natLe 4 (timeStatusWord e) ++ natLe 4 (timeOffsetWord e))
   NoTarget c → Ready 0x0604 c d →
     (p = List.replicate 16 0 → Replies (.fabTime c) 0x0604 c s (res d) id) ∧
     (∀ prio : Byte, p = [1, prio] ++ List.replicate 14 0 →
       let g := fun e : Device => electMaster { e with fab := { e.fab with priority := prio.toNat } }
       Replies (.fabTime c) 0x0604 c s (res (g d)) g) ∧
     (∀ t < 2 ^ 64, p = [2, 0, 0, 0, 0, 0, 0, 0] ++ natLe 8 t → isMaster d = true →
       Replies (.fabTime c) 0x0604 c s (res { d with devTime := BitVec.ofNat 64 t }) fun e => { e with devTime := BitVec.ofNat 64 t })) ∧
  (NoTarget c → Ready 0x0605 c d → n ≤ 500 → (∀ q < 8, w / 4 ^ q % 4 ≠ 3) → w < 2 ^ 16 → p = natLe 2 n ++ natLe 2 w ++ [0, 0, 0, 0] →
    Replies (.fabParamSet c) 0x0605 c s (ansOk []) fun e => { e with fab := { e.fab with guardUs := n, vlMap := w } })

/-- R215 to R217, R221 to R224, R231: adverts sent, held, refused as old or as a duplicate, and expired; a FID that stops
being reachable; a path withdrawn and restored; a dead path's buckets moved and guarded; the load samples. -/
def Obligations.FabricTopologyEvents : Prop := ∀ (s : State) (n fid path b : Nat) (a : Advert) (h : HeldAdvert) (reach : Bool) (x : Bucket),
  let d := s.dev
  let f := s.dev.fab
  (f.advDue = true ∨ f.advSentAt + 100000 ≤ d.now → Gives .topoSend s fun t => t.fab.advSeq = (f.advSeq + 1) % 65536 ∧
    t.fab.advSentAt = d.now ∧
    t.fab.advDue = false ∧ (∀ m ∈ activePfl d, ∃ i ∈ t.items, i.egress = m ∧ i.queue = 7 ∧ i.tlp.kind = .topo ∧
      i.tlp.data = advertBytes { ownAdvert d with seq := t.fab.advSeq }) ∧
    (∀ i ∈ d.items, i ∈ t.items) ∧ t.ports = d.ports) ∧
  (f.advDue = false → d.now < f.advSentAt + 100000 → Becomes .topoSend s d) ∧
  (pflLive n d = false → Becomes (.topo n a) s d ∧ Becomes (.route n fid reach) s d) ∧
  (a.fid = d.glb.fid → a.serial = d.glb.serial → Becomes (.topo n a) s d) ∧
  (pflLive n d = true → a.fid < 32 → a.fid ≠ d.glb.fid → (∀ y ∈ f.adverts, y.adv.fid ≠ a.fid) → Gives (.topo n a) s fun t =>
    t.fab.adverts = f.adverts ++ [{ adv := a, port := n, heldAt := d.now }] ∧
    (hasLivePath a.fid d = true → t.fab.reach.getLsbD a.fid = true) ∧ t.fab.dup = f.dup ∧ t.ports = d.ports) ∧
  (f.adverts = [h] → h.adv.fid = a.fid → a.fid ≠ d.glb.fid → h.adv.serial = a.serial → newerSeq h.adv.seq a.seq = false →
    Becomes (.topo n a) s d) ∧
  (pflLive n d = true → a.fid < 32 → f.adverts = [h] → h.adv.fid = a.fid → a.fid ≠ d.glb.fid → h.adv.serial < a.serial →
    Becomes (.topo n a) s { d with fab := { f with dup := f.dup ||| BitVec.ofNat 32 (2 ^ a.fid), intStatus := f.intStatus ||| 8 } }) ∧
  (f.adverts = [h] → h.adv.fid = fid → fid < 32 →
    (h.heldAt + 300000 ≤ d.now → Gives (.advertExpiry fid) s fun t => t.fab.adverts = [] ∧ t.fab.reach.getLsbD fid = false ∧
      t.ports = d.ports) ∧
    (d.now < h.heldAt + 300000 → Becomes (.advertExpiry fid) s d)) ∧
  (32 ≤ fid → Becomes (.fidUnreachable fid) s d) ∧
  (fid < 32 → hasLivePath fid d = false → f.reach.getLsbD fid = true → (∀ k ∈ d.tracks, k.window = none) →
    Gives (.fidUnreachable fid) s fun t =>
    t.fab.reach.getLsbD fid = false ∧ t.fab.intStatus.getLsbD 0 = true ∧ (∀ k ∈ t.tracks, k.fid = some fid → k.answered = true) ∧
    t.ports = d.ports) ∧
  (pflLive n d = true → fid < 32 → fid ≠ d.glb.fid → Gives (.route n fid reach) s fun t =>
    (t.route fid).paths = (d.route fid).paths.map (fun y => if y.port = n then { y with withdrawn := !reach } else y) ∧
      t.ports = d.ports) ∧
  ((d.route fid).paths[path]? = none → Becomes (.pathDeath fid path) s d) ∧
  (∀ y, (d.route fid).paths[path]? = some y → pathLive y d = true → Becomes (.pathDeath fid path) s d) ∧
  (∀ y, (d.route fid).paths[path]? = some y → pathLive y d = false → fid < 32 → Gives (.pathDeath fid path) s fun t =>
    (t.route fid).paths = (d.route fid).paths ∧
    (∀ e ∈ (t.route fid).buckets, ∃ e0 ∈ (d.route fid).buckets, e0.1 = e.1 ∧
      (e.2 = e0.2 ∨ e.2 = { e0.2 with path := e.2.path, guardUntil := d.now + f.guardUs * 1000 })) ∧ t.ports = d.ports) ∧
  ((d.route fid).buckets = [(b, x)] → x.guardUntil ≤ d.now → d.now < x.lastSent + f.guardUs * 1000 →
    Becomes (.routeGuardExpiry fid b) s (d.setRoute fid { d.route fid with buckets := [(b, { x with guardUntil := 0 })] })) ∧
  ((d.route fid).buckets = [(b, x)] → d.now < x.guardUntil → Becomes (.routeGuardExpiry fid b) s d) ∧
  ((d.route fid).buckets = [] → Becomes (.routeGuardExpiry fid b) s d) ∧
  (∀ r y, f.routes = [(fid, r)] → r.paths = [y] → isDue .pathLoad 1000 d = true →
    Becomes .pathLoadSample s (ranNow .pathLoad { d with fab := { f with
      routes := [(fid, { r with sampled := min 1000 (r.sampled + 1),
                                paths := [{ y with samples := (pathLoad y.port d :: y.samples).take 1000 }] })] } })) ∧
  (isDue .pathLoad 1000 d = false → Becomes .pathLoadSample s d)

/-- R240 to R243: a time request every 10 µs to the parent, its answer, the offset and what it does to the device time, the
end of holdover, and the loss of the parent's link, after which a device that hears nobody is the master, unless its PRIORITY
is 255. -/
def Obligations.FabricTime : Prop := ∀ (s : State) (n seq t2 t3 : Nat) (locked : Bool),
  let d := s.dev
  let f := s.dev.fab
  let x := s.dev.pfl n
  let twice : Int := ((t2 : Int) - x.timeT1) - ((d.devTime.toNat : Int) - t3)
  (f.parentPort = n → n ≠ 0x7F → pflLive n d = true → f.reqAt + 10000 ≤ d.now → Gives .timeReq s fun t =>
    t.pfl n = { x with timeSeq := (x.timeSeq + 1) % 256, ctl := x.ctl ++ [Ctl.timeReq ((x.timeSeq + 1) % 256)] } ∧ t.fab.reqAt = d.now ∧
    t.items = d.items) ∧
  (f.parentPort = 0x7F ∨ d.now < f.reqAt + 10000 → Becomes .timeReq s d) ∧
  (pflLive n d = true → Becomes (.timeReqAnswer n seq) s (d.setPfl n { x with ctl := x.ctl ++ [Ctl.timeResp seq d.devTime.toNat] })) ∧
  (pflLive n d = false → Becomes (.timeReqAnswer n seq) s d) ∧
  (f.parentPort ≠ n ∨ x.timeSeq ≠ seq → Becomes (.timeResp n seq locked t2 t3) s d) ∧
  (f.parentPort = n → x.timeSeq = seq → Gives (.timeResp n seq locked t2 t3) s fun t => t.fab.offsetPs = twice * 500 ∧
    (twice.natAbs ≤ 2000 → t.devTime = d.devTime ∧ t.fab.slew = twice.tdiv 2) ∧
    (2000 < twice.natAbs → t.devTime = BitVec.ofNat 64 (((d.devTime.toNat : Int) + twice.tdiv 2) % 2 ^ 64).toNat ∧ t.fab.slew = 0) ∧
    (locked = false → t.fab.timeLocked = false) ∧
    (locked = true → f.goodOffsets = 15 → twice.natAbs ≤ 2 → t.fab.timeLocked = true) ∧ t.items = d.items ∧ t.ports = d.ports) ∧
  (f.holdover = true → f.holdoverAt + msNs ≤ d.now → Gives .holdoverExpiry s fun t => t.fab.timeLocked = false ∧
    (f.timeLocked = true → t.fab.intStatus.getLsbD 6 = true) ∧ t.devTime = d.devTime) ∧
  (f.holdover = false ∨ d.now < f.holdoverAt + msNs → Becomes .holdoverExpiry s d) ∧
  (f.parentPort = n → n ≠ 0x7F → pflLive n d = false → freshAdverts d = [] → Gives .parentLinkFail s fun t => t.fab.parentPort = 0x7F ∧
    (f.priority < 255 → t.fab.masterFid = d.glb.fid ∧ t.fab.masterValid = true ∧ t.fab.timeLocked = true) ∧
    (255 ≤ f.priority → t.fab.masterValid = false ∧ t.fab.holdover = true ∧ t.fab.holdoverAt = d.now)) ∧
  (pflLive f.parentPort d = true → Becomes .parentLinkFail s d)

/-! ## Egress scheduling, shaping and sampling (chapter 10) -/

/-- R288 to R296, R299 to R303, R309, R287: SHP_SET takes effect at a refill, or for a QP at once in its answer; the refill
of a shaped queue; the UpdateFCs; the depth and delay samples. -/
def Obligations.ShaperAndSampling : Prop := ∀ (s : State) (c : Cmd) (n q cls h k : Nat) (e : EQueue),
  let d := s.dev
  let p := c.params
  let x := s.dev.pci n
  (Ready 0x0801 c d → c.target = BitVec.ofNat _ n → c.param0 = 0 → portExists n d = true → p.length = 32 → u8 p 0 = 0 →
    u8 p 1 = 1 → u8 p 2 < 2 →
    u32 p 4 ≤ 2048000 → u32 p 8 = 0 → u32 p 12 ≤ 2048000 → u16 p 16 = 64 → u16 p 18 = 64 → u16 p 20 = 64 → zeros p 22 2 = true →
    u32 p 24 = 0 → zeros p 28 4 = true →
    Starts (.shpSet c) 0x0801 c s fun t => markApplied 0x0801 c (t.setEqueue n 0 { t.equeue n 0 with next := some (shapeAsked p) })) ∧
  (∀ w : Qp, Ready 0x0801 c d → c.target = BitVec.ofNat _ n → n < 2 ^ 16 → c.param0 = 0 → d.qps = [(n, w)] → p.length = 32 →
    u8 p 0 = 1 → u8 p 1 = 0 →
    u8 p 2 < 2 → u32 p 4 ≤ 2048000 → u32 p 8 = 0 → u32 p 12 ≤ 2048000 → u16 p 16 = 64 → u16 p 18 = 64 → u16 p 20 = 64 →
      zeros p 22 2 = true →
    u32 p 24 = 0 → zeros p 28 4 = true → Replies (.shpSet c) 0x0801 c s (ansOk (natLe 8 d.devTime.toNat))
      fun t => { t with qps := [(n, { w with shape := { w.shape with next := some (shapeAsked p) } })] }) ∧
  (Ready 0x0802 c d → NoTarget c → p.length = 48 → u8 p 42 = 1 → zeros p 43 5 = true → 0 < u32 p 20 → u32 p 20 ≤ 1000000 →
    maskOf p 24 = 1 →
    ∃ r, r.on = true ∧ r.entries = 0 ∧ r.intervalUs = u32 p 20 ∧ r.lost = d.shp.ring.lost ∧
      Replies (.shpSampleSet c) 0x0802 c s (ansOk [0, 0, 0, 0]) fun t =>
        { t with shp := { t.shp with ring := r, portMask := 1, regOnly := true } }) ∧
  ((d.shp.refills + 1) * 125 ≤ d.now → d.equeues = [(n * 8 + q, e)] → q < 8 → Gives .shaperRefill s fun t =>
    t.shp.refills = d.shp.refills + 1 ∧ t.equeue n q = refill (candidate n q d).isSome e ∧
    (e.next = none → e.cfg.shaped = true → 0 < e.cfg.cir → (t.equeue n q).c = min (levelBound e.cfg.cbs) (e.c + (e.cfg.cir : Int))) ∧
    ((∀ y ∈ d.kme.execs, y.cmd.source.transport ≠ 6) → t.items = d.items) ∧ t.ports = d.ports) ∧
  (d.now < (d.shp.refills + 1) * 125 → Becomes .shaperRefill s d) ∧
  (cls < 3 → lstateUp x.lstate = true → Becomes (.updatefc n cls h k) s (d.setPci n
    { x with txHdr := x.txHdr.set cls (x.txHdr.getD cls 0 + h), txData := x.txData.set cls (x.txData.getD cls 0 + k) })) ∧
  (lstateUp x.lstate = false → Becomes (.updatefc n cls h k) s d ∧ Becomes (.updatefcRefresh n cls) s d) ∧
  (shaftHolds false n d = true → Becomes (.updatefcRefresh n cls) s d) ∧
  (0 < cls → cls < 3 → lstateUp x.lstate = true → shaftHolds false n d = false → Gives (.updatefcRefresh n cls) s fun t =>
    Output.updateFc n cls (x.owedHdr.getD cls 0) (x.owed.getD cls 0) ∈ t.out ∧ (t.pci n).owed = x.owed.set cls 0 ∧
    (t.pci n).fcSentAt = x.fcSentAt.set cls d.now ∧ (t.pci n).txHdr = x.txHdr ∧ t.items = d.items) ∧
  (let r := d.shp.ring
   let due := d.devTime.toNat / (r.intervalUs * 1000)
   (r.on = true → r.lastMultiple < due → d.shp.regOnly = true → sampledPorts d.shp.portMask d = [n] → Gives .shpSample s fun t =>
     (∀ q < 8, (t.equeue n q).depth = queueDepth n q d ∧ (t.equeue n q).delay = headDelay n q d ∧
       (t.equeue n q).cfg = (d.equeue n q).cfg) ∧
     t.shp.ring = { r with lastMultiple := due } ∧ t.items = d.items) ∧
   (r.on = false ∨ due ≤ r.lastMultiple → Becomes .shpSample s d))

/-- R63, R122, R235, R287 to R290, R303, R466: the chosen item starts to send, at the cost of its queue's levels; when its
last cell has left, it is out of the device, a request being tracked until its completion; a ring's consumed count is read. -/
def Obligations.ItemsLeave : Prop := ∀ (s : State) (n q id : Nat) (i : Item) (v : W32),
  let d := s.dev
  ((d.eport n).sending ≠ none → Becomes (.egressSelection n) s d) ∧
  (chooseQueue n d = none → Becomes (.egressSelection n) s d) ∧
  ((d.eport n).sending = none → chooseQueue n d = some (q, i, false) → proxied i d = false → tagRefused n i d = false →
    i.tlp.poisoned = false →
    Gives (.egressSelection n) s fun t => (t.eport n).sending = some i.id ∧ (t.eport n).lastQ = q ∧
      t.items = d.items.map (fun j => if j.id = i.id then { i with stage := .sending } else j) ∧
      t.equeue n q = (if (d.equeue n q).cfg.shaped then debit (payloadLen i.tlp + (d.eport n).overhead) (d.equeue n q)
        else d.equeue n q) ∧
      t.ports = d.ports) ∧
  (findItem id d = none → Becomes (.itemEgress id) s d) ∧
  (findItem id d = some i → (i.stage ≠ .sending ∨ 0 < i.inCells + i.holdCells) → Becomes (.itemEgress id) s d) ∧
  (findItem id d = some i → i.stage = .sending → i.inCells + i.holdCells = 0 → i.egress = n → n < 96 → (d.port n).personality ≠ .pfl →
    i.rma = none → Gives (.itemEgress id) s fun t => Output.item n i.tlp none ∈ t.out ∧ (∀ j ∈ t.items, j.id ≠ id) ∧
      (t.eport n).sending = none ∧ (i.cls ≠ 1 → t.tracks = d.tracks) ∧
      (i.cls = 1 → ∃ k, t.tracks = d.tracks ++ [k] ∧ k.id = id ∧ k.port = n ∧ k.rid = i.tlp.reqId ∧ k.tag = i.tlp.tag ∧ k.sentAt = d.now ∧
        k.answered = false) ∧ t.ports = d.ports) ∧
  (findItem id d = some i → i.stage = .sending → i.inCells + i.holdCells = 0 → i.egress = n → n < 96 → (d.port n).personality = .pfl →
    i.fab ≠ none → i.rma = none → Gives (.itemEgress id) s fun t =>
      (∃ f, Output.item n i.tlp (some f) ∈ t.out ∧ some { f with hops := f.hops - 1, queue := (i.fab.map (·.queue)).getD 0 } = i.fab) ∧
      (∃ j ∈ t.items, j.id = id ∧ j.stage = .replay) ∧ (t.eport n).sending = none) ∧
  (let g := (uspOf 0 d).getD 0x7F
   let r := d.shp.ring
   let asked := ranNow (.consPoll 64) { d with out := .hostRead g r.consAddr 4 :: d.out }
   linkUp g d = true → r.entries ≠ 0 → (r.prod ≠ r.cons → isDue (.consPoll 64) 100000 d = true →
     (takesCons r.cons r.prod v = true →
       Becomes (.consAddrPoll 64 (some v)) s { asked with shp := { d.shp with ring := { r with cons := v } } }) ∧
     (takesCons r.cons r.prod v = false → Becomes (.consAddrPoll 64 (some v)) s asked) ∧
     Becomes (.consAddrPoll 64 none) s asked) ∧
    (r.prod = r.cons ∨ isDue (.consPoll 64) 100000 d = false → Becomes (.consAddrPoll 64 (some v)) s d)) ∧
  (∀ p ≤ 48, (d.journal p).entries = 0 → Becomes (.consAddrPoll p (some v)) s d) ∧
  (∀ p ≤ 48, ((d.journal p).prod = (d.journal p).cons ∨ isDue (.consPoll p) 100000 d = false) → slotBlocked p d = false →
    Becomes (.consAddrPoll p (some v)) s d) ∧
  (∀ p ≤ 48, ∀ u, journalPort p (d.journal p) d = some u → linkUp u d = true → (d.journal p).entries ≠ 0 →
    ((d.journal p).prod ≠ (d.journal p).cons ∧ isDue (.consPoll p) 100000 d = true ∨ slotBlocked p d = true) →
    takesCons (d.journal p).cons (d.journal p).prod v = true → Gives (.consAddrPoll p (some v)) s fun t =>
      t.journal p = { d.journal p with cons := v, owed := (d.journal p).owed.drop (v - (d.journal p).cons).toNat } ∧ t.ports = d.ports)

/-! ## Slot power (chapter 15) -/

/-- R430 to R432, Tables 15.3, 15.7: the commands of a channel whose gang is itself alone: settings, switching on (after
SHUTDOWN if one runs) and off, and the sample. -/
def Obligations.SlotPowerCommands : Prop := ∀ (s : State) (c : Cmd) (n : Nat), c.target = BitVec.ofNat _ n → n < 48 → c.param0 = 0 →
  let d := s.dev
  let x := s.dev.channel n
  (Ready 0x0901 c d → (∀ a ∈ spwConfigChecks c d, a = none) →
    let y := spwSettings c.params x
    let z := if y.fitted && !x.fitted then { y with state := .off } else y
    Replies (.spwConfig c) 0x0901 c s (ansOk (natLe 4 (spwStateWord z))) fun e => e.setChannel n z) ∧
  (Ready 0x0902 c d → c.params = [] → gangWith n d = [n] →
    (canSwitchOn [n] d = false → Replies (.spwOn c) 0x0902 c s ansNo id) ∧
    (canSwitchOn [n] d = true → (x.state = .off ∨ x.state = .wait ∨ x.state = .latched) →
      Replies (.spwOn c) 0x0902 c s (ansOk (natLe 4 (spwStateWord ((switchOn n d).channel n)))) (switchOn n)) ∧
    (canSwitchOn [n] d = true → x.state = .shutdown → Starts (.spwOn c) 0x0902 c s fun e =>
      e.setChannel n { x with retriesLeft := x.retryCount, onAfter := true })) ∧
  (x.state = .off ∨ x.state = .wait ∨ x.state = .latched → ((switchOn n d).channel n).state = .precharge ∧
    ((switchOn n d).channel n).retriesLeft = x.retryCount ∧ ((switchOn n d).channel n).enteredAt = d.now) ∧
  (Ready 0x0903 c d → c.params = [] → gangWith n d = [n] →
    (x.state = .on → Starts (.spwOff c) 0x0903 c s fun e => markApplied 0x0903 c (shutChannel n e)) ∧
    (x.state = .latched → Replies (.spwOff c) 0x0903 c s (ansOk (natLe 4 (spwStateWord { x with state := .off,
                                                                                                enteredAt := d.now, waitUntil := none })))
      fun e => e.setChannel n { x with state := .off, enteredAt := d.now, waitUntil := none })) ∧
  (∀ flags : Byte, Ready 0x0904 c d → flags.toNat < 4 → c.params = [flags, 0, 0, 0] →
    Replies (.spwRead c) 0x0904 c s
      (ansOk (natLe 4 (spwStateWord x) ++ natLe 4 (spwCurrentWord x) ++ natLe 4 (spwVoltWord x) ++ natLe 4 (spwSenseWord x) ++
        natLe 4 (spwAvgWord x) ++ natLe 8 (spwEnergy x) ++ natLe 4 (spwTripWord x) ++ natLe 4 (twos 32 x.tripI) ++ natLe 4 (feedWord d) ++
        natLe 8 d.devTime.toNat))
      fun e => e.setChannel n { x with energy := if bitOf flags.toNat 0 then 0 else x.energy,
                                       tripValid := x.tripValid && !bitOf flags.toNat 1 })

/-- R413, R415, R416, R420 to R423: a trip of a channel that stands alone: the gate off, power-good withdrawn, the trip
recorded, WAIT with one retry less or LATCHED without one; UV and OV use no retry; a channel that is off does not trip; the
order of the states up to ON.
R416, R424 to R426: the early warning after two low feed samples, and its release; a sample's current, energy and fault
timer, which a quiet run resets. -/
def Obligations.SlotPowerTripsAndSamples : Prop :=
  (∀ (s : State) (ch : Nat),
    let d := s.dev
    let x := s.dev.channel ch
    let tripped := fun (cause : Nat) (t : Device) => (t.channel ch).tripCause = cause ∧ (t.channel ch).tripValid = true ∧
      (t.channel ch).tripState = spwCode x.state ∧ (t.channel ch).trips = satAdd 0xFFFF x.trips 1 ∧ (t.channel ch).pg = false ∧
      Output.gate ch 0 ∈ t.out ∧ t.ports = d.ports
    let retries := fun (t : Device) => if 0 < x.retriesLeft then (t.channel ch).state = .wait ∧
      (t.channel ch).retriesLeft = x.retriesLeft - 1 ∧
        (t.channel ch).waitUntil = some (d.now + max (x.retryMinMs * msNs) ((d.now - x.attemptAt) * (25 * 2 ^ x.retryDuty - 1)))
      else (t.channel ch).state = .latched ∧ (t.channel ch).intStatus.getLsbD 4 = true
    (x.fitted = true → gangOf (channelPort ch d) d = [ch] →
      (spwActive x.state = true →
        Gives (.fastTrip ch) s (fun t => tripped 1 t ∧ retries t) ∧ Gives (.faultTimerExpiry ch) s (fun t => tripped 3 t ∧ retries t) ∧
        Gives (.inputOv ch) s (fun t => tripped 2 t ∧ (t.channel ch).state = .wait ∧ (t.channel ch).retriesLeft = x.retriesLeft ∧
          (t.channel ch).waitUntil = none) ∧
        Gives (.inputUv ch) s (fun t => tripped 4 t ∧ (t.channel ch).state = .wait ∧ (t.channel ch).retriesLeft = x.retriesLeft ∧
          (t.channel ch).waitUntil = none)) ∧
      (x.state = .on → Gives (.gateFault ch) s fun t => tripped 5 t ∧ retries t) ∧
      (x.state = .precharge → x.enteredAt + 2000000 ≤ d.now → Gives (.prechargeTimeout ch) s fun t => tripped 5 t ∧ retries t) ∧
      (x.state = .ramp → x.enteredAt + 2 * x.vin * 4000 / x.rampRate + 5000000 ≤ d.now → Gives (.rampTimeout ch) s fun t =>
        tripped 6 t ∧ retries t) ∧
      (x.state = .wait → (∃ w, x.waitUntil = some w ∧ w ≤ d.now) →
        Gives (.retryWaitExpiry ch) s fun t => (t.channel ch).state = .precharge ∧
        (t.channel ch).retriesLeft = x.retriesLeft ∧ Output.gate ch 1 ∈ t.out) ∧
      (x.state = .wait → x.waitUntil = none → x.uvTh + 200 ≤ x.vin → x.vin + 200 ≤ x.ovTh → x.enteredAt + 100000000 ≤ d.now →
        Gives (.inputRecovery ch) s fun t => (t.channel ch).state = .precharge ∧ Output.gate ch 1 ∈ t.out)) ∧
    (x.state = .off → Becomes (.fastTrip ch) s d ∧ Becomes (.inputOv ch) s d ∧ Becomes (.inputUv ch) s d ∧
      Becomes (.faultTimerExpiry ch) s d ∧
      Becomes (.gateFault ch) s d ∧ Becomes (.prechargeDone ch) s d ∧ Becomes (.prechargeTimeout ch) s d ∧ Becomes (.rampDone ch) s d ∧
      Becomes (.rampTimeout ch) s d ∧ Becomes (.powerGood ch) s d ∧ Becomes (.retryWaitExpiry ch) s d ∧ Becomes (.inputRecovery ch) s d ∧
      Becomes (.retryRestore ch) s d ∧ Becomes (.shutdownDone ch) s d) ∧
    (x.state = .precharge → Becomes (.prechargeDone ch) s (d.setChannel ch { x with state := .ramp, enteredAt := d.now })) ∧
    (x.state = .ramp → Becomes (.rampDone ch) s (d.setChannel ch { x with state := .qualify, enteredAt := d.now })) ∧
    (x.state = .qualify → x.timerUs = 0 → x.timerRun = false → x.ilim = false → x.enteredAt + x.pgDelayUs * 1000 ≤ d.now →
      (d.port (channelPort ch d)).personality ≠ .dsp → Becomes (.powerGood ch) s
        (d.setChannel ch { x with state := .on, enteredAt := d.now, pg := true, intStatus := x.intStatus ||| 2 })) ∧
    (x.state = .on → x.enteredAt + 10000000000 ≤ d.now →
      Becomes (.retryRestore ch) s (d.setChannel ch { x with retriesLeft := x.retryCount })) ∧
    (x.state = .shutdown → x.onAfter = false → (∀ e ∈ d.kme.execs, e.op ≠ 0x0902 ∧ e.op ≠ 0x0903) → Becomes (.shutdownDone ch) s
      { d.setChannel ch { x with state := .off, enteredAt := d.now } with out := .gate ch 0 :: d.out }) ∧
    (x.state = .shutdown → x.onAfter = true → Gives (.shutdownDone ch) s fun t => (t.channel ch).state = .precharge ∧
      (t.channel ch).onAfter = false ∧ Output.gate ch 1 ∈ t.out)) ∧
  (∀ (s : State) (ch a b vg vin vout vgs : Nat) (v : Int) (il : Bool), ch < 48 →
    let d := s.dev
    let x := s.dev.channel ch
    (isDue .feedSample 10000 d = true → Gives (.feedSample a b vg) s fun t => t.feeds = { vinA := a, vinB := b, vgate := vg } ∧ t.ports = d.ports ∧ t.items = d.items ∧
      (x.fitted = true → x.warnEn = true → x.warn = false → x.lowFeed = 1 → (∀ y ∈ channelFeeds x a b, y < x.warnTh) →
        (t.channel ch).warn = true ∧ (t.channel ch).intStatus = x.intStatus ||| 8 ∧ (t.channel ch).state = x.state) ∧
      (x.fitted = true → x.warnEn = true → x.lowFeed = 0 → x.warn = false → (t.channel ch).warn = false) ∧
      (x.fitted = false → t.channel ch = x)) ∧
    (isDue .feedSample 10000 d = false → Becomes (.feedSample a b vg) s d) ∧
    (isDue (.channelSample ch) 10000 d = true → x.fitted = true → x.accN = 0 → Gives (.channelSample ch v vin vout vgs il) s fun t =>
      (t.channel ch).iMa = roundDiv (v * 2500) x.rsense ∧ (t.channel ch).vin = vin ∧ (t.channel ch).vout = vout ∧
      (t.channel ch).energy = x.energy + (vout : Int) * roundDiv (v * 2500) x.rsense ∧ (t.channel ch).state = x.state ∧
      (spwActive x.state = true → il = true → (t.channel ch).timerUs = x.timerUs + 10 ∧ (t.channel ch).timerRun = true) ∧
      (il = false → v < (x.vCb * 100 : Nat) → (t.channel ch).timerUs = x.timerUs ∧ (t.channel ch).timerRun = false) ∧ t.ports = d.ports) ∧
    (isDue (.channelSample ch) 10000 d = true → x.fitted = false →
      Becomes (.channelSample ch v vin vout vgs il) s (ranNow (.channelSample ch) (d.setChannel ch x))) ∧
    (isDue (.channelSample ch) 10000 d = false → Becomes (.channelSample ch v vin vout vgs il) s d) ∧
    (x.timerRun = false → Becomes (.faultTimerReset ch) s (d.setChannel ch { x with timerUs := 0 })) ∧
    (x.timerRun = true → Becomes (.faultTimerReset ch) s d))

/-! ## The adit port (chapter 19) -/

/-- R506, R507, R509 to R511: the monitor's own commands: help at level 0, a rate of R506, the challenge and its one attempt,
three wrong responses that bar unlocking, lock, raw mode; a line that is no command, or is not allowed, is answered with its
error alone.
R511 to R513: peek, poke, lanes, eye, tally and canary read what the registers show; info and log issue a packet whose
reply they print. -/
def Obligations.AditMonitorCommands : Prop :=
  (∀ (s : State) (rate n resp : Nat) (line : List Char), s.dev.kme.running = true →
    s.dev.adit.raw = false →
    let d := s.dev
    let a := s.dev.adit
    let r := { d with adit := { a with lastRx := d.now } }
    let set := fun (x : Adit) (e : Device) => { e with adit := { x with lastRx := d.now } }
    (a.level = 0 → Becomes .help s (sayOk ["help", "info", "baud", "unlock", "lock"] r)) ∧
    (baudRates.contains rate = true → Gives (.baud rate) s fun t => t.adit = { a with lastRx := d.now, baud := rate } ∧
      Output.text "OK" ∈ t.out ∧ t.ports = d.ports) ∧
    (baudRates.contains rate = false → Becomes (.baud rate) s (sayErr 2 r)) ∧
    Becomes .lock s (sayOk [] (set { a with level := 0 } d)) ∧
    (a.barredAt = none →
      Gives (.unlock none none) s (fun t => (∃ v, t.adit.challenge = some v) ∧ t.adit.level = a.level ∧ t.adit.wrong = a.wrong) ∧
      Gives (.unlock (some 1) none) s (fun t => t.adit.level = 1) ∧
      (2 ≤ n → n ≤ 3 → resp < 2 ^ 32 →
        (∀ h : Nat, a.challenge = some h → resp = unlockResponse h n d → Becomes (.unlock (some n) (some resp)) s
          (sayOk [] (set { a with challenge := none, level := n } d))) ∧
        ((∀ h : Nat, a.challenge = some h → resp ≠ unlockResponse h n d) → Becomes (.unlock (some n) (some resp)) s
          (sayErr 6 (set { a with challenge := none, wrong := a.wrong + 1, barredAt := if 2 ≤ a.wrong then some d.now else none } d))))) ∧
    (a.barredAt ≠ none → Becomes (.unlock (some 1) none) s (sayErr 6 r)) ∧
    (2 ≤ a.level → Becomes .raw s { set { a with raw := true } d with out := .text "OK" :: d.out }) ∧
    (a.level < 2 → Becomes .raw s (sayErr 3 r)) ∧
    (parseLine line = .inr n → ¬(lineWords line [] = [] ∧ line.length ≤ 255) →
      Becomes (.aditTextLine line) s (sayErr n { r with out := .text (String.ofList line) :: d.out })) ∧
    (parseLine line = .inl .lock → Becomes (.aditTextLine line) s
      (sayOk [] { set { a with level := 0 } d with out := .text (String.ofList line) :: d.out }))) ∧
  (∀ (s : State) (addr k : Nat) (v : W32), s.dev.kme.running = true → s.dev.adit.raw = false →
    let d := s.dev
    let r := { d with adit := { s.dev.adit with lastRx := d.now } }
    let cmd := fun (params : List Byte) =>
      { source := { transport := 5, inst := d.adit.level }, flags := 0, seq := d.adit.seq + 1, target := 0, param0 := 0,
        params := params : Cmd }
    (1 ≤ d.adit.level → inDbg addr = false → ∀ x e, regDefined addr r = true → regRead addr r = some (x, e) → Becomes (.peek addr 1) s
      (sayOk [hex32 addr ++ ": " ++ hex32 x] e)) ∧
    (1 ≤ d.adit.level → inDbg addr = false → regDefined addr r = false → Becomes (.peek addr 1) s (sayErr 4 r) ) ∧
    (d.adit.level = 0 → Becomes (.peek addr 1) s (sayErr 3 r)) ∧
    (2 ≤ d.adit.level → inDbg addr = false →
      (regDefined addr r = true → Becomes (.poke addr v) s (sayOk [] (regWrite addr v r))) ∧
      (regDefined addr r = false → Becomes (.poke addr v) s (sayErr 4 r))) ∧
    (d.adit.level < 2 → Becomes (.poke addr v) s (sayErr 3 r) ∧ (k < 384 → Becomes (.eye k) s (sayErr 3 r))) ∧
    (1 ≤ d.adit.level → k < 384 → Becomes (.lanes k 1) s (sayOk [laneLine k r] r)) ∧
    (2 ≤ d.adit.level → k < 384 → Gives (.eye k) s fun t => (t.lane k).eyeDone = true ∧ (t.lane k).intStatus = (d.lane k).intStatus ||| 2 ∧
      (t.lane k).rate = (d.lane k).rate ∧ Output.text "OK" ∈ t.out ∧ t.ports = d.ports) ∧
    (1 ≤ d.adit.level → Gives .tally s fun t => Output.text ("TOTAL " ++ toString d.xbr.reclaimedTotal) ∈ t.out ∧ Output.text "OK" ∈ t.out ∧
      t.xbr = d.xbr) ∧
    (1 ≤ d.adit.level → Gives .canary s fun t => Output.text (words ["GRADE", toString d.can.grade, "CAUSE",
      toString d.can.cause]) ∈ t.out ∧
      Output.text "OK" ∈ t.out ∧ t.can = d.can) ∧
    (d.adit.level = 0 → Becomes .tally s (sayErr 3 r) ∧ Becomes .canary s (sayErr 3 r) ∧ Becomes (.log 1) s (sayErr 3 r)) ∧
    (d.kme.execs = [] → mayAdmit 0x0101 (cmd []) d = true → holdingFull (cmd []).source d = false → commandChecks 0x0101 (cmd []) d = none →
      Gives .info s fun t => t.adit.waiting = none ∧ t.adit.seq = d.adit.seq + 1 ∧ t.kme.execs = [] ∧
        Output.text (words ["SERIAL", hex64 d.glb.serial.toNat]) ∈ t.out ∧ Output.text "OK" ∈ t.out ∧ t.ports = d.ports) ∧
    (let p := natLe 4 ((d.can.nextSeq + 2 ^ 32 - 1) % 2 ^ 32) ++ natLe 2 1 ++ [0, 0]
     1 ≤ d.adit.level → d.kme.execs = [] → mayAdmit 0x0B02 (cmd p) d = true → holdingFull (cmd p).source d = false →
       commandChecks 0x0B02 (cmd p) d = none → Gives (.log 1) s fun t => t.adit.waiting = none ∧ t.adit.seq = d.adit.seq + 1 ∧
         t.kme.execs = [] ∧ Output.text "OK" ∈ t.out ∧ t.can = d.can ∧ t.ports = d.ports))

/-- R506, R509, R510, R514: an empty raw frame returns to text mode, a break to text, 115,200 baud and level 0; the level
falls after 600 s without input, and unlocking is allowed again 60 s after it was barred; while the KME's firmware does not
run nothing is heard. -/
def Obligations.AditSessionEnds : Prop := ∀ (s : State) (t0 : Nat) (frame : List Byte),
  let d := s.dev
  let a := s.dev.adit
  (d.kme.running = true →
    (a.raw = true → Becomes (.rawFrame []) s (prompt { d with adit := { a with lastRx := d.now, raw := false } })) ∧
    (a.raw = true → frame ≠ [] → frameShort { transport := 5, inst := a.level } frame = true →
      Becomes (.rawFrame frame) s (discardFrame { transport := 5, inst := a.level } { d with adit := { a with lastRx := d.now } })) ∧
    (a.raw = false → Becomes (.rawFrame frame) s { d with adit := { a with lastRx := d.now } }) ∧
    Becomes .aditBreak s (prompt { d with adit := { a with raw := false, baud := 115200, level := 0 } })) ∧
  (d.kme.running = false → Becomes .aditBreak s d ∧ Becomes (.rawFrame frame) s d ∧ Becomes .lock s d) ∧
  (a.lastRx + 600000000000 ≤ d.now → Becomes .aditIdleTimeout s { d with adit := { a with level := 0 } }) ∧
  (d.now < a.lastRx + 600000000000 → Becomes .aditIdleTimeout s d) ∧
  (a.barredAt = some t0 → t0 + 60000000000 ≤ d.now →
    Becomes .unlockBarExpiry s { d with adit := { a with barredAt := none, wrong := 0 } }) ∧
  (a.barredAt = some t0 → d.now < t0 + 60000000000 → Becomes .unlockBarExpiry s d) ∧
  (a.barredAt = none → Becomes .unlockBarExpiry s d)

/-! ## Registers and configuration space (chapters 0, 4, 11, 13, 14) -/

/-- R4, R6, R118, R385, R407, R478: a write of an address without a register is logged as an Unsupported Request; status
registers are write-1-to-clear, masks take the value written, read-only registers ignore it; the doorbell registers of a
window in its target partition's area; the request area of a mailbox; CLK_CTL.SWITCH takes the other reference input when it
is valid. -/
def Obligations.RegisterWrites : Prop := ∀ (s : State) (a n k w off : Nat) (v : W32),
  let d := s.dev
  let c := s.dev.clk
  let x := s.dev.pci n
  let e := s.dev.window w
  Becomes (.glbIntMaskWrite v) s { d with glb := { d.glb with intMask := v.setWidth 14 } } ∧
  Becomes (.registerWrite 0x14 v) s { d with glb := { d.glb with intMask := v.setWidth 14 } } ∧
  Becomes (.registerWrite 0x18 v) s { d with glb := { d.glb with alertEn := v.setWidth 14 } } ∧
  (a < 2 ^ 32 → regDefined a d = false → Becomes (.registerWrite a v) s (fnError .mgr 20 true d)) ∧
  (a < 0x10000 → a ≠ 0x14 → a ≠ 0x18 → regDefined a d → Becomes (.registerWrite a v) s d) ∧
  Becomes (.registerWrite 0x10030 v) s { d with clk := { c with intStatus := c.intStatus &&& ~~~ (v.setWidth 4) } } ∧
  Becomes (.registerWrite 0x10034 v) s { d with clk := { c with intMask := v.setWidth 4 } } ∧
  (n < 101 →
    Becomes (.registerWrite (0x100000 + 0x1000 * n + 0x40) v) s
      (if portExists n d then d.setPci n { x with intStatus := x.intStatus &&& ~~~ (v.setWidth 5) } else d) ∧
    Becomes (.registerWrite (0x100000 + 0x1000 * n + 0x44) v) s
      (if portExists n d then d.setPci n { x with intMask := v.setWidth 5 } else d)) ∧
  (k < 64 → w < 512 → off = 2 ^ 32 + 0x4000 * k + 0x1000 + 8 * w →
    (e.valid = true → e.dstPart = k →
      Becomes (.registerWrite off v) s (d.setWindow w { e with dbStatus := e.dbStatus &&& ~~~ v }) ∧
      Becomes (.registerWrite (off + 4) v) s (d.setWindow w { e with dbMask := v })) ∧
    (e.valid = false ∨ e.dstPart ≠ k → Becomes (.registerWrite off v) s d ∧ Becomes (.registerWrite (off + 4) v) s d)) ∧
  (k < 8192 → off < 0x1000 → fnOfKey k ∈ mailboxes d →
    let m := d.mailbox (fnOfKey k)
    Becomes (.registerWrite (2 ^ 33 + 0x4000 * k + off) v) s
      (d.setMailbox (fnOfKey k) { m with mem := memWrite m.mem off (natLe 4 v.toNat) })) ∧
  ((if c.activeB then c.aValid else c.bValid) = true → Gives .switch s fun t =>
    t.clk = { c with activeB := !c.activeB, switches := satAdd 0xFFFF c.switches 1, intStatus := c.intStatus ||| 1 } ∧
    t.ports = d.ports ∧ t.pcie = d.pcie ∧ t.lanes = d.lanes ∧ t.plk = d.plk) ∧
  ((if c.activeB then c.aValid else c.bValid) = false → Becomes .switch s d)

/-- R85, R86, R89, R98, R102, R371: configuration accesses of hosts. A bridge or VF that is absent is an Unsupported Request;
a field written to a bridge is in force when the write is answered, and reads back; the upstream device captures its bus
number; a function in FLR answers Request Retry Status; an access below a DSP goes out to it, but not behind a fence or a
link that is down, and not where VFs are steered out; of a steered VF identities and BARs are emulated, other fields pass to
the real function. -/
def Obligations.ConfigurationAccesses : Prop := ∀ (s : State) (p bus k n v rid func : Nat) (f : CfgField) (g : Option Nat) (e : Steer),
  let d := s.dev
  let b := d.bridge (bridgeKey p k)
  let u := d.bridge (bridgeKey p 100)
  let front := d.setPart p { d.part p with capturedBus := bus % 256 }
  (k ≠ 100 → bridgeExists p k d = false → Becomes (.vbridgeConfigRead p (.downstream k) f) s (cfgReply p .ur 0 d) ∧
    Becomes (.vbridgeConfigWrite p bus (.downstream k) f v) s (cfgReply p .ur 0 d)) ∧
  (k ≠ 100 → bridgeExists p k d →
    Becomes (.vbridgeConfigRead p (.downstream k) .memBase) s (cfgReply p .sc b.memBase d) ∧
    Becomes (.vbridgeConfigWrite p bus (.downstream k) .memBase v) s
      (cfgReply p .sc 0 (d.setBridge (bridgeKey p k) { b with memBase := v % 2 ^ 32 })) ∧
    Becomes (.vbridgeConfigWrite p bus (.downstream k) .command v) s
      (cfgReply p .sc 0 (d.setBridge (bridgeKey p k) { b with iose := bitOf v 0, mse := bitOf v 1, bme := bitOf v 2 })) ∧
    (hostsPort p k d = some n → (d.port n).personality = .dsp → steersOut n d → b.secondary ≠ v % 256 →
      Becomes (.vbridgeConfigWrite p bus (.downstream k) .secondaryBus v) s (cfgReply p .sc 0 (countBlocked p d))) ∧
    (hostsPort p k d = none → Becomes (.vbridgeConfigWrite p bus (.downstream k) .secondaryBus v) s
      (cfgReply p .sc 0 (d.setBridge (bridgeKey p k) { b with secondary := v % 256 })))) ∧
  (bridgeExists p 100 d → Becomes (.vbridgeConfigWrite p bus .upstream .memLimit v) s
    (cfgReply p .sc 0 (front.setBridge (bridgeKey p 100) { u with memLimit := v % 2 ^ 32 }))) ∧
  (vfAnswers p n d = false → Becomes (.vbridgeConfigRead p (.vf n) f) s (cfgReply p .ur 0 d)) ∧
  (vfAnswers p n d → (d.func (.vf n)).flr ≠ .idle → Becomes (.vbridgeConfigRead p (.vf n) f) s (cfgReply p .crs 0 d) ∧
    Becomes (.vbridgeConfigWrite p bus (.vf n) f v) s (cfgReply p .crs 0 d)) ∧
  (vfAnswers p n d → (d.func (.vf n)).flr = .idle →
    Becomes (.vbridgeConfigRead p (.vf n) .atsControl) s (cfgReply p .sc (32768 * natOfBool (d.func (.vf n)).atsEnable) d) ∧
    (bitOf v 0 → Becomes (.vbridgeConfigWrite p bus (.vf n) .devControlFlr v) s (cfgReply p .sc 0 (startFlr (.vf n) d)))) ∧
  ((d.port n).personality ≠ .dsp ∨ (d.port n).holder ≠ p →
    Becomes (.vbridgeConfigRead p (.endpoint n rid) f) s (cfgReply p .ur 0 d) ∧
    Becomes (.vbridgeConfigWrite p bus (.endpoint n rid) f v) s (cfgReply p .ur 0 d)) ∧
  ((d.port n).personality = .dsp → (d.port n).holder = p →
    (linkUp n d = false → Becomes (.vbridgeConfigRead p (.endpoint n rid) f) s (cfgReply p .ur 0 d)) ∧
    (d.fenced p → linkUp n d → Becomes (.vbridgeConfigRead p (.endpoint n rid) f) s (cfgReply p .crs 0 d)) ∧
    (d.fenced p = false → linkUp n d →
      Becomes (.vbridgeConfigRead p (.endpoint n rid) f) s (emit (.config n rid f none) d) ∧
      (protectedWrite n rid f v d → Becomes (.vbridgeConfigWrite p bus (.endpoint n rid) f v) s (cfgReply p .ca 0 (countBlocked p d))) ∧
      (protectedWrite n rid f v d = false → Becomes (.vbridgeConfigWrite p bus (.endpoint n rid) f v) s
        (emit (.config n rid f (some v))
          { d with sriov := tset sriovNone d.sriov (sriovKey n rid) (learnSriov f v (d.sriovOf n rid)) })))) ∧
  ((∀ x ∈ d.steers ++ d.homeSteers, ¬ (x.2.part = p ∧ x.2.bridge = k ∧ x.2.func = func)) →
    Becomes (.steeredVfConfigAccess p k func f g) s (cfgReply p .ur 0 d)) ∧
  (d.steers = [(n, e)] → e.part = p → e.bridge = k → e.func = func → entryLost (.steer n) d →
    Becomes (.steeredVfConfigAccess p k func f g) s (cfgReply p .ur 0 d)) ∧
  (d.steers = [(n, e)] → e.part = p → e.bridge = k → e.func = func → entryLost (.steer n) d = false →
    (d.fenced p ∨ e.fenced ∨ d.now < e.retryUntil → Becomes (.steeredVfConfigAccess p k func f g) s (cfgReply p .crs 0 d)) ∧
    (d.fenced p = false → e.fenced = false → e.retryUntil ≤ d.now →
      Becomes (.steeredVfConfigAccess p k func .deviceId none) s (cfgReply p .sc (pfOf e d).vfDevice d) ∧
      Becomes (.steeredVfConfigAccess p k func .headerType none) s (cfgReply p .sc 0 d) ∧
      Becomes (.steeredVfConfigAccess p k func .command (some v)) s
        (cfgReply p .sc 0 (d.setSteer n { e with mse := bitOf v 1, bme := bitOf v 2 })) ∧
      (linkUp e.port d → Becomes (.steeredVfConfigAccess p k func .maxPayload g) s (emit (.config e.port e.realRid .maxPayload g) d)) ∧
      (linkUp e.port d = false → Becomes (.steeredVfConfigAccess p k func .maxPayload g) s (cfgReply p .ur 0 d))))

/-- R313: a steering bridge reports the Link Status of the real DSP; writes to its Link Control and Secondary Bus Reset
change the bridge's own fields only. -/
def Obligations.SteeringBridgeLeavesTheLink : Prop := ∀ (s : State) (p bus k n v : Nat),
  k < 96 → bridgeExists p k s.dev → hostsPort p k s.dev = none →
  (∀ x ∈ s.dev.steers, x.2.part = p → x.2.bridge = k → x.2.port = n) → (∃ x ∈ s.dev.steers, x.2.part = p ∧ x.2.bridge = k) →
  Becomes (.vbridgeConfigRead p (.downstream k) .linkStatus) s (cfgReply p .sc (linkStatusWord n (bridgeKey p k) s.dev) s.dev) ∧
  (∃ t, Becomes (.vbridgeConfigWrite p bus (.downstream k) .linkControl v) s (cfgReply p .sc 0 { s.dev with bridges := t })) ∧
  (∃ t, Becomes (.vbridgeConfigWrite p bus (.downstream k) .bridgeControl v) s (cfgReply p .sc 0 { s.dev with bridges := t }))

/-! ## The block as a whole -/

/-- A step with a command in front runs that command on the state with the rest of the queue. -/
def Obligations.StepRunsFront : Prop := ∀ (c : Instr) (rest : List Instr) (s : State),
  step { s with pending := c :: rest } = exec c { s with pending := rest }

/-- R480: with no command waiting, a step lets one nanosecond pass (DESIGN CHOICE, log entry 3): elapsed time by 1, device
time by 1 while the MAIN PLL is locked and nothing is slewed, and by nothing while it is not locked. Routing, partitions and
contexts stay. -/
def Obligations.IdleStepLetsTimePass : Prop := ∀ s : State, s.pending = [] → s.dev.kme.execs = [] →
  ∃ t, step s = .next t ∧ t.pending = [] ∧ t.dev.now = s.dev.now + 1 ∧
    (s.dev.clk.mainLock = true → s.dev.fab.slew = 0 → t.dev.devTime = s.dev.devTime + 1) ∧
    (s.dev.clk.mainLock = false → t.dev.devTime = s.dev.devTime) ∧
    t.dev.parts = s.dev.parts ∧ t.dev.ports = s.dev.ports ∧ t.dev.pcie = s.dev.pcie ∧ t.dev.plk = s.dev.plk ∧ t.dev.segs = s.dev.segs ∧
    t.dev.windows = s.dev.windows ∧ t.dev.items = s.dev.items ∧ t.dev.qps = s.dev.qps ∧ t.dev.cqs = s.dev.cqs ∧
    t.dev.spw = s.dev.spw ∧ t.dev.mbx = s.dev.mbx ∧ t.dev.kme = s.dev.kme

/-- R381: ALERT_N is released after reset. -/
def Obligations.ResetReleasesAlert : Prop := State.reset.alertWf

/-- R381, R407: every step, whatever waits, answers a next state; in it ALERT_N is low only while an enabled summary bit is
1, and low when an enabled one became 1; when a summary bit became both 1 and unmasked, vector 1 of the management function
has been sent, or is pending where it is masked. -/
def Obligations.EveryStepSignalsTheHost : Prop := ∀ s : State, s.alertWf → ∃ t, step s = .next t ∧ t.pending = s.pending.tail ∧
  t.alertWf ∧
  (summaryBits t.dev &&& ~~~ summaryBits s.dev &&& t.dev.glb.alertEn ≠ 0 → t.dev.glb.alertLow = true) ∧
  ((summaryBits t.dev &&& ~~~ t.dev.glb.intMask) &&& ~~~ (summaryBits s.dev &&& ~~~ s.dev.glb.intMask) ≠ 0 →
    let e := tget msixReset t.dev.msix 1
    (e.masked = true → e.pending = true) ∧
    (e.masked = false → ∃ a, t.dev.issued.getLast? = some a ∧ a.port = 100 ∧ a.fn = some .mgr ∧ a.tlp.kind = .memWrite ∧
      a.tlp.addr = e.addr ∧
      a.tlp.data = natLe 4 e.data.toNat))

/-- R24, R402: whatever the state, each of the device's commands and events has its effect and answers a next state; the
commands that wait are not touched. None stops the device. -/
def Obligations.EveryCommandCompletes : Prop := ∀ (i : Instr) (s : State), ∃ t, exec i s = .next t ∧ t.pending = s.pending

/-- R24, R392, R394, R396, R398: every command packet passes the arbiter. One that has begun, and one that waits for
admission, changes nothing; one that waits under another source's lock on a byte-stream transport is answered BUSY_LOCKED;
one that fails a check of R398 is admitted and answered, and has no effect. -/
def Obligations.PacketsPassTheArbiter : Prop := ∀ (i : Instr) (op : Nat) (c : Cmd) (s : State), rowPacket i = some (op, c) →
  (∀ e, execOf op c s.dev = some e → e.begun = true → Becomes i s s.dev) ∧
  (execOf op c s.dev = none →
    (mayAdmit op c s.dev = false →
      (lockedOut c.source s.dev && streamSource c.source) = false → Becomes i s s.dev) ∧
    (mayAdmit op c s.dev = false →
      (lockedOut c.source s.dev && streamSource c.source) = true → Becomes i s (answerLocked op c s.dev)) ∧
    (∀ a, mayAdmit op c s.dev = true → commandChecks op c s.dev = some a → Becomes i s (finish op c a (admitCommand op c s.dev)))) ∧
  (kmeBusy s.dev = true → mayAdmit op c s.dev = false)

/-- R288: a queue is eligible when it is unshaped, or when its peak level is above 0 and its committed level or its steep
credit is; its QUEUE register shows it. -/
def Obligations.QueueEligibility : Prop := ∀ (d : Device) (n q : Nat), n < 101 → q < 8 → (portExists n d = true ∨ 96 ≤ n) →
  let e := d.equeue n q
  (queueEligible e = true ↔ e.cfg.shaped = false ∨ (0 < e.p ∧ (0 < e.c ∨ 0 < e.s))) ∧
  (∃ v, regWord (0xA01000 + 0x200 * n + 0x40 * q) d = some v ∧ v.testBit 1 = queueEligible e)

/-- R510: the level of the adit monitor is 0 after the lock command, 600 s without a received character, a break, a KME
restart, and a warm or cold reset. -/
def Obligations.AditLevelReturnsToZero : Prop := ∀ (s : State) (x : Straps) (n : Nat) (vdd : Bool),
  (s.dev.kme.running = true → s.dev.adit.raw = false → Gives .lock s fun t => t.adit.level = 0) ∧
  (s.dev.adit.lastRx + 600000000000 ≤ s.dev.now → Gives .aditIdleTimeout s fun t => t.adit.level = 0) ∧
  (s.dev.kme.running = true → Gives .aditBreak s fun t => t.adit.level = 0) ∧
  Gives .kmeRestart s (fun t => t.adit.level = 0) ∧
  (resetDue false s.dev = true → Gives .warmReset s fun t => t.adit.level = 0) ∧
  ((s.dev.port n).personality = .usp → (pinOf n 2 s.dev).isSome → (s.dev.pci n).perstIn = false → n = s.dev.glb.mgrPort →
    (s.dev.port n).holder = 0 → s.dev.clk.strapPerstWarm = true → Gives (.perstNIn n) s fun t => t.adit.level = 0) ∧
  (resetDue true s.dev = true → Gives (.coldReset x) s fun t => t.adit.level = 0) ∧
  (s.dev.clk.phase ≠ .held → Gives (.porNLow vdd) s fun t => t.adit.level = 0)
end

