-- ==== Sys2Proof/Laws/Step.lean ====
section
/-! SUPPORT. Laws/Step.lean: what every meaning and every packet does, said once for the statements about single rows. -/

namespace Sys2Proof.Machine

/-- A meaning that ends with a device answers the next state with that device. -/
theorem done_becomes {i : Instr} {s : State} {d d' : Device} (hx : exec i s = done s d) (h : d = d') : Becomes i s d' := by
  subst h; exact hx

/-- A meaning that ends with a device gives what holds of it after the interrupt outputs. -/
theorem done_gives {i : Instr} {s : State} {d : Device} {P : Device → Prop} (hx : exec i s = done s d) (h : P (notify s.dev d)) :
    Gives i s P := ⟨_, hx, rfl, h⟩

/-- A packet that is ready is executed. -/
theorem runPacket_ready {op : Nat} {f : Device → Device × Option Ans} {c : Cmd} {d : Device} (h : Ready op c d) :
    runPacket op f c d = execute op f c d := by
  obtain ⟨⟨e, he, hb⟩, -⟩ := h
  simp [runPacket, he, hb]

/-- No failure meets a packet that is ready. -/
theorem ready_hwFails {op : Nat} {c : Cmd} {d : Device} (h : Ready op c d) (a : Option Ans) : hwFails c a = false := by
  simp [hwFails, h.2.1]

/-- A ready packet whose effect answers at once. -/
theorem packet_replies {i : Instr} {op : Nat} {c : Cmd} {s : State} {a : Ans} {f : Device → Device}
    {g : Device → Device × Option Ans} (hx : exec i s = done s (runPacket op g c s.dev)) (h : Ready op c s.dev)
    (hg : g (markBegun op c s.dev) = (f (markBegun op c s.dev), some a)) : Replies i op c s a f := by
  refine done_becomes hx ?_
  simp [runPacket_ready h, execute, ready_hwFails h, hg]

/-- A ready packet whose answer waits for an event. -/
theorem packet_starts {i : Instr} {op : Nat} {c : Cmd} {s : State} {f : Device → Device}
    {g : Device → Device × Option Ans} (hx : exec i s = done s (runPacket op g c s.dev)) (h : Ready op c s.dev)
    (hg : g (markBegun op c s.dev) = (f (markBegun op c s.dev), none)) : Starts i op c s f := by
  refine done_becomes hx ?_
  simp [runPacket_ready h, execute, ready_hwFails h, hg]

/-- A packet whose checks pass does its own effect. -/
theorem checked_pass {l : List (Option Ans)} {act : Device → Device × Option Ans} {d : Device} (h : firstFail l = none) :
    checked l act d = act d := by simp [checked, h]

/-- A packet that fails a check changes nothing. -/
theorem checked_fail {l : List (Option Ans)} {act : Device → Device × Option Ans} {d : Device} {a : Ans} (h : firstFail l = some a) :
    checked l act d = (d, some a) := by simp [checked, h]

/-- A vector's message changes what waits to be issued, or its pending bit. -/
theorem sendVectorAt_frame (n : Nat) (f : Fn) (v : Nat) (d : Device) :
    ∃ i m, sendVectorAt n f v d = { d with issued := i, msix := m } := by
  unfold sendVectorAt
  simp only
  split
  · split
    · exact ⟨_, _, rfl⟩
    · exact ⟨_, _, rfl⟩
  · exact ⟨_, _, rfl⟩

theorem sendVector_frame (f : Fn) (v : Nat) (d : Device) : ∃ i m, sendVector f v d = { d with issued := i, msix := m } :=
  sendVectorAt_frame 100 f v d

/-- What ALERT_N's rule can change. -/
theorem alertStep_frame (so sn : BitVec 14) (d : Device) :
    ∃ a, alertStep so sn d = { d with glb := { d.glb with alertLow := a } } := by
  unfold alertStep
  split
  · exact ⟨_, rfl⟩
  · split
    · exact ⟨_, rfl⟩
    · exact ⟨d.glb.alertLow, rfl⟩

/-- What the interrupt outputs of a change can change: what waits to be issued, pending bits, ALERT_N. -/
theorem notify_frame (old new : Device) :
    ∃ i m a, notify old new = { new with issued := i, msix := m, glb := { new.glb with alertLow := a } } := by
  unfold notify
  split
  · obtain ⟨a, ha⟩ := alertStep_frame (summaryBits old) (summaryBits new) new
    exact ⟨new.issued, new.msix, a, ha⟩
  · obtain ⟨o, m, hv⟩ := sendVector_frame .mgr 1 new
    obtain ⟨a, ha⟩ := alertStep_frame (summaryBits old) (summaryBits new) (sendVector .mgr 1 new)
    refine ⟨o, m, a, ?_⟩
    rw [ha, hv]

end Sys2Proof.Machine
end

