-- ==== Sys2Proof/Laws/Ops.lean ====
section
/-! SUPPORT. Laws/Ops.lean: what the shared operations for counting, reporting and recording can change. -/

namespace Sys2Proof.Machine

/-- A black-box record concerns the black box alone. -/
theorem blackBoxRecord_frame (k o c : Nat) (l : List Nat) (d : Device) :
    ∃ x b, blackBoxRecord k o c l d = { d with can := x, blackBox := b } := by
  unfold blackBoxRecord
  simp only
  split <;> exact ⟨_, _, rfl⟩

/-- The record adds no interrupt and leaves the grade. -/
theorem blackBoxRecord_can (k o c : Nat) (l : List Nat) (d : Device) :
    (blackBoxRecord k o c l d).can.intStatus = d.can.intStatus ∧ (blackBoxRecord k o c l d).can.intMask = d.can.intMask ∧
    (blackBoxRecord k o c l d).can.grade = d.can.grade := by
  unfold blackBoxRecord
  simp only
  split <;> exact ⟨rfl, rfl, rfl⟩

/-- A change of grade concerns the canary and the black box. -/
theorem setGrade_frame (g i : Nat) (d : Device) : ∃ x b, setGrade g i d = { d with can := x, blackBox := b } := by
  unfold setGrade
  simp only
  split
  · exact ⟨d.can, d.blackBox, rfl⟩
  · obtain ⟨x, b, h⟩ := blackBoxRecord_frame 1 0 i [] { d with can := { d.can with grade := g } }
    rw [h]
    exact ⟨_, _, rfl⟩

/-- Tagging an item concerns the counters. -/
theorem tagItem_frame (i : Nat) (o : Option Nat) (d : Device) : ∃ k c, tagItem i o d = { d with counters := k, cnt := c } := by
  unfold tagItem
  split
  · exact ⟨_, d.cnt, rfl⟩
  · exact ⟨d.counters, _, rfl⟩

/-- Counting an occurrence concerns the counters. -/
theorem countEvent_frame (o : Occurrence) (i : Option Nat) (d : Device) :
    ∃ k c, countEvent o i d = { d with counters := k, cnt := c } := by
  unfold countEvent
  simp only
  split
  · rename_i i k l h
    obtain ⟨x, c, h⟩ := tagItem_frame i (some k)
      { countOnly o d with cnt := { (countOnly o d).cnt with tagOwed := (countOnly o d).cnt.tagOwed.filter fun x =>
          !((d.cnt.tagOwed.filter fun k => counterHit k (d.counter k) o).contains x) } }
    exact ⟨x, c, h⟩
  · exact ⟨_, d.cnt, rfl⟩

theorem countPort_frame (e p q c r n : Nat) (d : Device) : ∃ k x, countPort e p q c r n d = { d with counters := k, cnt := x } :=
  countEvent_frame _ _ d
theorem countGlobal_frame (e p n : Nat) (d : Device) : ∃ k x, countGlobal e p n d = { d with counters := k, cnt := x } :=
  countEvent_frame _ _ d
theorem countFixed_frame (p j n : Nat) (d : Device) : ∃ k, countFixed p j n d = { d with counters := k } := ⟨_, rfl⟩

/-- A completion toward another device is an output, or lost. -/
theorem emitAway_frame (h : FabHdr) (c : Tlp) (d : Device) : ∃ o, emitAway h c d = { d with out := o } := by
  unfold emitAway
  split
  · exact ⟨_, rfl⟩
  · exact ⟨d.out, rfl⟩

/-- A completion that the device sends is an output, or an item toward one of its own functions. -/
theorem emitCpl_frame (i : Item) (c : Tlp) (b : Bool) (d : Device) :
    ∃ o t n, emitCpl i c b d = { d with out := o, items := t, nextId := n } := by
  have near : ∃ o t n, (if 96 ≤ i.ingress then
      { d with items := d.items ++ [ownCpl (trackOf i d) c i.ingress none d], nextId := d.nextId + 1 }
    else emit (.item i.ingress c none) d) = { d with out := o, items := t, nextId := n } := by
    split
    · exact ⟨d.out, _, _, rfl⟩
    · exact ⟨_, d.items, d.nextId, rfl⟩
  unfold emitCpl
  simp only
  split
  · split
    · exact near
    · rename_i f _ _
      obtain ⟨o, h⟩ := emitAway_frame (ownFab f f.srcFid i.egress b d) c d
      exact ⟨o, d.items, d.nextId, h⟩
  · exact near

/-- A journal entry that is lost concerns the journal and the fabric's status. -/
theorem journalLost_frame (p : Nat) (d : Device) : ∃ j f, journalLost p d = { d with journals := j, fab := f } := ⟨_, _, rfl⟩

/-- A journal entry concerns the journal, the fabric's status, the outputs, what waits to be issued, the vectors and the
counters. -/
theorem journalWrite_frame (p src : Nat) (e : JournalEntry) (d : Device) :
    ∃ j f o i m k c, journalWrite p src e d =
      { d with journals := j, fab := f, out := o, issued := i, msix := m, counters := k, cnt := c } := by
  unfold journalWrite
  simp only
  split
  · exact ⟨_, _, d.out, d.issued, d.msix, d.counters, d.cnt, rfl⟩
  · rename_i u hu
    split
    · exact ⟨_, _, d.out, d.issued, d.msix, d.counters, d.cnt, rfl⟩
    · obtain ⟨k, c, hk⟩ := countGlobal_frame 0x107 p 1
        ((emit (.hostWrite u ((d.journal p).base + ((d.journal p).index % (d.journal p).entries) * 32)
            (entryBytes e d.devTime.toNat (natOfBool (decide ((d.journal p).index / (d.journal p).entries % 2 = 0))))) d).setJournal p
          { d.journal p with index := (d.journal p).index + 1, prod := (d.journal p).prod + 1, owed := (d.journal p).owed ++ [src] })
      rw [hk]
      split
      · obtain ⟨i, m, hv⟩ := sendVector_frame (if (d.journal p).viaMgr then .mgr else function1 p) (d.journal p).vector
          { ((emit (.hostWrite u ((d.journal p).base + ((d.journal p).index % (d.journal p).entries) * 32)
              (entryBytes e d.devTime.toNat (natOfBool (decide ((d.journal p).index / (d.journal p).entries % 2 = 0))))) d).setJournal p
            { d.journal p with index := (d.journal p).index + 1, prod := (d.journal p).prod + 1, owed := (d.journal p).owed ++ [src] })
            with counters := k, cnt := c }
        rw [hv]
        exact ⟨_, d.fab, _, i, m, k, c, rfl⟩
      · exact ⟨_, d.fab, _, d.issued, d.msix, k, c, rfl⟩

/-- Logging a synthetic completion concerns the fabric's counts and the counters. -/
theorem logSynth_frame (r f p n : Nat) (d : Device) : ∃ x k c, logSynth r f p n d = { d with fab := x, counters := k, cnt := c } := by
  unfold logSynth
  simp only
  generalize (if d.fab.intStatus.getLsbD 2 = true then d.fab.synthInfo else { reqId := r, fid := f, port := p }) = i
  obtain ⟨k, c, h⟩ := countGlobal_frame 0x108 n 1
    (fabRaise 0x04 { d with fab := { d.fab with cntSynth := satAdd 0xFFFFFFFF d.fab.cntSynth 1, synthInfo := i } })
  rw [h]
  exact ⟨_, k, c, rfl⟩

end Sys2Proof.Machine
end

