-- ==== Sys2Proof/Laws/Kme.lean ====
section
/-! SUPPORT. Laws/Kme.lean: what every command packet, and every row of the table, can do: said once. -/

namespace Sys2Proof.Machine

/-- Every row of the table answers a next state. -/
theorem exec_done (i : Instr) (s : State) : ∃ d, exec i s = done s d := by
  cases i <;> exact ⟨_, rfl⟩

/-- A row that is a command packet is run as one. -/
theorem rowPacket_run {i : Instr} {op : Nat} {c : Cmd} (s : State) (h : rowPacket i = some (op, c)) :
    ∃ f, exec i s = done s (runPacket op f c s.dev) := by
  cases i <;> simp only [rowPacket, Option.some.injEq, Prod.mk.injEq, reduceCtorEq] at h <;>
    (obtain ⟨rfl, rfl⟩ := h; exact ⟨_, rfl⟩)

/-- The five things that running a packet can be (R24, R394, R396, R398). -/
theorem runPacket_cases (op : Nat) (f : Device → Device × Option Ans) (c : Cmd) (d : Device) :
    runPacket op f c d = d ∨ runPacket op f c d = execute op f c d ∨
    (mayAdmit op c d = true ∧ commandChecks op c d = none ∧ runPacket op f c d = execute op f c (admitCommand op c d)) ∨
    (∃ a, mayAdmit op c d = true ∧ commandChecks op c d = some a ∧ runPacket op f c d = finish op c a (admitCommand op c d)) ∨
    (mayAdmit op c d = false ∧ runPacket op f c d = answerLocked op c d) := by
  unfold runPacket
  split
  · split
    · exact .inl rfl
    · exact .inr (.inl rfl)
  · by_cases hm : mayAdmit op c d = true
    · rw [if_pos hm]
      cases hc : commandChecks op c d with
      | none => exact .inr (.inr (.inl ⟨hm, rfl, by simp [admitAndCheck, hc]⟩))
      | some a => exact .inr (.inr (.inr (.inl ⟨a, hm, rfl, by simp [admitAndCheck, hc]⟩)))
    · rw [if_neg hm]
      split
      · exact .inr (.inr (.inr (.inr ⟨by simpa using hm, rfl⟩)))
      · exact .inl rfl

/-- While a command that has not replied occupies the KME, nothing is admitted. -/
theorem busy_mayAdmit {op : Nat} {c : Cmd} {d : Device} (h : kmeBusy d = true) : mayAdmit op c d = false := by
  simp [mayAdmit, h]

/-- Marking a command as begun concerns the KME alone. -/
@[simp] theorem markBegun_ports (op : Nat) (c : Cmd) (d : Device) : (markBegun op c d).ports = d.ports := rfl
@[simp] theorem markBegun_parts (op : Nat) (c : Cmd) (d : Device) : (markBegun op c d).parts = d.parts := rfl
@[simp] theorem markBegun_segs (op : Nat) (c : Cmd) (d : Device) : (markBegun op c d).segs = d.segs := rfl
@[simp] theorem markBegun_windows (op : Nat) (c : Cmd) (d : Device) : (markBegun op c d).windows = d.windows := rfl
@[simp] theorem markBegun_items (op : Nat) (c : Cmd) (d : Device) : (markBegun op c d).items = d.items := rfl
@[simp] theorem markBegun_clk (op : Nat) (c : Cmd) (d : Device) : (markBegun op c d).clk = d.clk := rfl
@[simp] theorem markBegun_glb (op : Nat) (c : Cmd) (d : Device) : (markBegun op c d).glb = d.glb := rfl
@[simp] theorem markBegun_now (op : Nat) (c : Cmd) (d : Device) : (markBegun op c d).now = d.now := rfl
@[simp] theorem markBegun_devTime (op : Nat) (c : Cmd) (d : Device) : (markBegun op c d).devTime = d.devTime := rfl

/-- What answering a command can change: the KME, mailboxes, vectors, outputs, what waits to be issued, the items that carry
answers to relayed commands, the adit session, and the counters; everything else stays. -/
def AnswersOnly (d d' : Device) : Prop := ∃ k m x o a i t n v w,
  d' = { d with kme := k, mbx := m, msix := x, out := o, adit := a, issued := i, items := t, nextId := n, counters := v, cnt := w }

theorem answersOnly_refl (d : Device) : AnswersOnly d d := ⟨_, _, _, _, _, _, _, _, _, _, rfl⟩
theorem answersOnly_trans {a b c : Device} (h : AnswersOnly a b) (g : AnswersOnly b c) : AnswersOnly a c := by
  obtain ⟨k, m, x, o, a, i, t, n, v, w, rfl⟩ := h
  obtain ⟨k', m', x', o', a', i', t', n', v', w', rfl⟩ := g
  exact ⟨_, _, _, _, _, _, _, _, _, _, rfl⟩

/-- What is emitted is an answer. -/
theorem emit_answers (o : Output) (d : Device) : AnswersOnly d (emit o d) :=
  ⟨d.kme, d.mbx, d.msix, _, d.adit, d.issued, d.items, d.nextId, d.counters, d.cnt, rfl⟩

theorem sendVector_answers (f : Fn) (v : Nat) (d : Device) : AnswersOnly d (sendVector f v d) := by
  obtain ⟨i, m, h⟩ := sendVector_frame f v d
  exact ⟨d.kme, d.mbx, m, d.out, d.adit, i, d.items, d.nextId, d.counters, d.cnt, h⟩

theorem mbxRaise_answers (f : Fn) (b : BitVec 5) (d : Device) : AnswersOnly d (mbxRaise f b d) := by
  unfold mbxRaise
  simp only
  split
  · exact ⟨_, _, _, _, _, _, _, _, _, _, rfl⟩
  · exact answersOnly_trans ⟨_, _, _, _, _, _, _, _, _, _, rfl⟩ (sendVector_answers f 0 _)

theorem sendMgmt_answers (c f : Nat) (b : List Byte) (d : Device) : AnswersOnly d (sendMgmt c f b d) := by
  unfold sendMgmt
  split
  · exact ⟨_, _, _, _, _, _, _, _, _, _, rfl⟩
  · exact answersOnly_refl d

theorem sendMessage_answers (s : Source) (k : Nat) (b : List Byte) (d : Device) : AnswersOnly d (sendMessage s k b d) := by
  unfold sendMessage
  simp only
  split
  · exact answersOnly_trans (emit_answers _ d) (sendMgmt_answers 2 s.inst b _)
  · split <;> exact ⟨_, _, _, _, _, _, _, _, _, _, rfl⟩

theorem sendTimes_answers (s : Source) (k : Nat) (b : List Byte) (n : Nat) (d : Device) : AnswersOnly d (sendTimes s k b n d) := by
  induction n generalizing d with
  | zero => exact answersOnly_refl d
  | succ n ih => exact answersOnly_trans (sendMessage_answers s k b d) (ih _)

theorem storeAnswer_answers (c : Cmd) (op : Nat) (n f : Bool) (b : List Byte) (d : Device) :
    AnswersOnly d (storeAnswer c op n f b d) := by
  unfold storeAnswer
  split
  · exact answersOnly_refl d
  · split
    · exact ⟨_, _, _, _, _, _, _, _, _, _, rfl⟩
    · exact answersOnly_refl d

theorem mailboxReply_answers (f : Fn) (op : Nat) (c : Cmd) (a : Ans) (g : Nat) (d : Device) :
    AnswersOnly d (mailboxReply f op c a g d) := by
  unfold mailboxReply
  simp only
  split
  · exact ⟨_, _, _, _, _, _, _, _, _, _, rfl⟩
  · exact answersOnly_trans ⟨_, _, _, _, _, _, _, _, _, _, rfl⟩ (mbxRaise_answers f 0x02 _)

theorem mailboxNotice_answers (f : Fn) (op : Nat) (c : Cmd) (a : Ans) (g : Nat) (d : Device) :
    AnswersOnly d (mailboxNotice f op c a g d) := by
  unfold mailboxNotice
  simp only
  split
  · exact ⟨_, _, _, _, _, _, _, _, _, _, rfl⟩
  · exact answersOnly_trans ⟨_, _, _, _, _, _, _, _, _, _, rfl⟩ (mbxRaise_answers f 0x04 _)

theorem sayLines_answers (l : List String) (d : Device) : AnswersOnly d (sayLines l d) := by
  unfold sayLines
  induction l generalizing d with
  | nil => exact answersOnly_refl d
  | cons x l ih => exact answersOnly_trans (emit_answers _ d) (ih (emit (.text x) d))

theorem prompt_answers (d : Device) : AnswersOnly d (prompt d) := emit_answers _ d

theorem sayOk_answers (l : List String) (d : Device) : AnswersOnly d (sayOk l d) :=
  answersOnly_trans (sayLines_answers _ d) (prompt_answers _)

theorem sayAnswer_answers (w : TextWait) (a : Ans) (d : Device) : AnswersOnly d (sayAnswer w a d) := by
  unfold sayAnswer
  simp only
  split
  · split
    · exact answersOnly_trans ⟨_, _, _, _, _, _, _, _, _, _, rfl⟩ (sayOk_answers _ _)
    · exact answersOnly_trans ⟨_, _, _, _, _, _, _, _, _, _, rfl⟩ (sayOk_answers _ _)
  · exact answersOnly_trans ⟨_, _, _, _, _, _, _, _, _, _, rfl⟩ (answersOnly_trans (sayLines_answers _ _) (prompt_answers _))

/-- Delivering an answer only answers. -/
theorem deliver_answers (op : Nat) (c : Cmd) (a : Ans) (n f : Bool) (d : Device) : AnswersOnly d (deliver op c a n f d) := by
  unfold deliver
  simp only
  split
  · split
    · exact mailboxNotice_answers _ op c a _ d
    · exact mailboxReply_answers _ op c a _ d
  · split
    · exact answersOnly_refl d
    · split
      · exact storeAnswer_answers c op n f _ d
      · split
        · exact answersOnly_trans (storeAnswer_answers c op n f _ d) (sayLines_answers _ _)
        · split
          · exact answersOnly_trans (storeAnswer_answers c op n f _ d) (sayAnswer_answers _ a _)
          · exact answersOnly_trans (storeAnswer_answers c op n f _ d) (sendTimes_answers _ _ _ _ _)

theorem lockAtReply_answers (c : Cmd) (d : Device) : AnswersOnly d (lockAtReply c d) := by
  unfold lockAtReply
  split
  · exact answersOnly_refl d
  · split
    · split <;> exact ⟨_, _, _, _, _, _, _, _, _, _, rfl⟩
    · exact answersOnly_refl d

/-- The final answer of a command changes nothing but what answering can change. -/
theorem finish_answers (op : Nat) (c : Cmd) (a : Ans) (d : Device) : AnswersOnly d (finish op c a d) := by
  unfold finish
  simp only
  refine answersOnly_trans ?_ (deliver_answers op c _ _ true _)
  split
  · split
    · exact ⟨_, _, _, _, _, _, _, _, _, _, rfl⟩
    · exact answersOnly_trans ⟨_, _, _, _, _, _, _, _, _, _, rfl⟩ (lockAtReply_answers c _)
  · exact answersOnly_trans ⟨_, _, _, _, _, _, _, _, _, _, rfl⟩ (lockAtReply_answers c _)

/-- Nor does ACCEPTED. -/
theorem acceptLong_answers (op : Nat) (c : Cmd) (d : Device) : AnswersOnly d (acceptLong op c d) := by
  unfold acceptLong
  split
  · exact answersOnly_refl d
  · exact answersOnly_trans (answersOnly_trans ⟨_, _, _, _, _, _, _, _, _, _,
    rfl⟩ (lockAtReply_answers c _)) (deliver_answers op c _ false false _)

/-- Counting an admission only answers. -/
theorem countGlobal_answers (e p n : Nat) (d : Device) : AnswersOnly d (countGlobal e p n d) := by
  obtain ⟨v, w, h⟩ := countGlobal_frame e p n d
  exact ⟨d.kme, d.mbx, d.msix, d.out, d.adit, d.issued, d.items, d.nextId, v, w, h⟩

/-- The lock bits of a command concern the KME. -/
theorem applyLockBits_answers (c : Cmd) (d : Device) : AnswersOnly d (applyLockBits c d) := by
  unfold applyLockBits
  repeat' split
  all_goals first | exact answersOnly_refl d | exact ⟨_, _, _, _, _, _, _, _, _, _, rfl⟩

/-- Admission concerns the KME, and is counted. -/
theorem admitCommand_answers (op : Nat) (c : Cmd) (d : Device) : AnswersOnly d (admitCommand op c d) :=
  answersOnly_trans (answersOnly_trans ⟨_, d.mbx, d.msix, d.out, d.adit, d.issued, d.items, d.nextId, d.counters, d.cnt, rfl⟩
    (countGlobal_answers 0x100 0x3F 1 _)) (applyLockBits_answers c _)

/-- What a packet's own effect keeps, its run keeps: for a property that answering does not touch. -/
theorem runPacket_keeps {P : Device → Prop} (hP : ∀ a b, AnswersOnly a b → P a → P b) {op : Nat} {f : Device → Device × Option Ans}
    (hf : ∀ d, P d → P (f d).1) (c : Cmd) (d : Device) (h : P d) : P (runPacket op f c d) := by
  have hexec : ∀ d, P d → P (execute op f c d) := by
    intro d h
    have hb : P (markBegun op c d) := hP d _ ⟨_, _, _, _, _, _, _, _, _, _, rfl⟩ h
    unfold execute
    split
    · exact hP _ _ (finish_answers op c _ _) hb
    · split
      · rename_i d' a heq
        have := hf _ hb
        rw [heq] at this
        exact hP d' _ (finish_answers op c a d') this
      · rename_i d' heq
        have := hf _ hb
        rw [heq] at this
        exact this
  rcases runPacket_cases op f c d with e | e | ⟨-, -, e⟩ | ⟨a, -, -, e⟩ | ⟨-, e⟩ <;> rw [e]
  · exact h
  · exact hexec d h
  · exact hexec _ (hP d _ (admitCommand_answers op c d) h)
  · exact hP _ _ (finish_answers op c a _) (hP d _ (admitCommand_answers op c d) h)
  · unfold answerLocked
    split
    · exact h
    · exact hP d _ (sendMessage_answers _ _ _ _) h

end Sys2Proof.Machine
end

