-- ==== Sys2Proof/Laws/State.lean ====
section
/-! SUPPORT. Laws/State.lean: each update of one object leaves every other piece of state as it was. -/

namespace Sys2Proof.Machine

@[simp] theorem Device.setPort_now (d a b) : (Device.setPort d a b).now = d.now := rfl
@[simp] theorem Device.setPort_devTime (d a b) : (Device.setPort d a b).devTime = d.devTime := rfl
@[simp] theorem Device.setPort_freeCount (d a b) : (Device.setPort d a b).freeCount = d.freeCount := rfl
@[simp] theorem Device.setPort_out (d a b) : (Device.setPort d a b).out = d.out := rfl
@[simp] theorem Device.setPort_lastRun (d a b) : (Device.setPort d a b).lastRun = d.lastRun := rfl
@[simp] theorem Device.setPort_insideAt (d a b) : (Device.setPort d a b).insideAt = d.insideAt := rfl
@[simp] theorem Device.setPort_hiLatch (d a b) : (Device.setPort d a b).hiLatch = d.hiLatch := rfl
@[simp] theorem Device.setPort_glb (d a b) : (Device.setPort d a b).glb = d.glb := rfl
@[simp] theorem Device.setPort_kme (d a b) : (Device.setPort d a b).kme = d.kme := rfl
@[simp] theorem Device.setPort_mbx (d a b) : (Device.setPort d a b).mbx = d.mbx := rfl
@[simp] theorem Device.setPort_msix (d a b) : (Device.setPort d a b).msix = d.msix := rfl
@[simp] theorem Device.setPort_clk (d a b) : (Device.setPort d a b).clk = d.clk := rfl
@[simp] theorem Device.setPort_snapshots (d a b) : (Device.setPort d a b).snapshots = d.snapshots := rfl
@[simp] theorem Device.setPort_bootRecord (d a b) : (Device.setPort d a b).bootRecord = d.bootRecord := rfl
@[simp] theorem Device.setPort_blackBox (d a b) : (Device.setPort d a b).blackBox = d.blackBox := rfl
@[simp] theorem Device.setPort_adit (d a b) : (Device.setPort d a b).adit = d.adit := rfl
@[simp] theorem Device.setPort_bufs (d a b) : (Device.setPort d a b).bufs = d.bufs := rfl
@[simp] theorem Device.setPort_locks (d a b) : (Device.setPort d a b).locks = d.locks := rfl
@[simp] theorem Device.setPort_xbr (d a b) : (Device.setPort d a b).xbr = d.xbr := rfl
@[simp] theorem Device.setPort_parts (d a b) : (Device.setPort d a b).parts = d.parts := rfl
@[simp] theorem Device.setPort_steers (d a b) : (Device.setPort d a b).steers = d.steers := rfl
@[simp] theorem Device.setPort_sriov (d a b) : (Device.setPort d a b).sriov = d.sriov := rfl
@[simp] theorem Device.setPort_bridges (d a b) : (Device.setPort d a b).bridges = d.bridges := rfl
@[simp] theorem Device.setPort_segs (d a b) : (Device.setPort d a b).segs = d.segs := rfl
@[simp] theorem Device.setPort_act (d a b) : (Device.setPort d a b).act = d.act := rfl
@[simp] theorem Device.setPort_windows (d a b) : (Device.setPort d a b).windows = d.windows := rfl
@[simp] theorem Device.setPort_ntw (d a b) : (Device.setPort d a b).ntw = d.ntw := rfl
@[simp] theorem Device.setPort_dbWaits (d a b) : (Device.setPort d a b).dbWaits = d.dbWaits := rfl
@[simp] theorem Device.setPort_tlm (d a b) : (Device.setPort d a b).tlm = d.tlm := rfl
@[simp] theorem Device.setPort_funcs (d a b) : (Device.setPort d a b).funcs = d.funcs := rfl
@[simp] theorem Device.setPort_ats (d a b) : (Device.setPort d a b).ats = d.ats := rfl
@[simp] theorem Device.setPort_invals (d a b) : (Device.setPort d a b).invals = d.invals := rfl
@[simp] theorem Device.setPort_invalWaits (d a b) : (Device.setPort d a b).invalWaits = d.invalWaits := rfl
@[simp] theorem Device.setPort_atsAsks (d a b) : (Device.setPort d a b).atsAsks = d.atsAsks := rfl
@[simp] theorem Device.setPort_vfPart (d a b) : (Device.setPort d a b).vfPart = d.vfPart := rfl
@[simp] theorem Device.setPort_vfIndex (d a b) : (Device.setPort d a b).vfIndex = d.vfIndex := rfl
@[simp] theorem Device.setPort_remotes (d a b) : (Device.setPort d a b).remotes = d.remotes := rfl
@[simp] theorem Device.setPort_homeSteers (d a b) : (Device.setPort d a b).homeSteers = d.homeSteers := rfl
@[simp] theorem Device.setPort_items (d a b) : (Device.setPort d a b).items = d.items := rfl
@[simp] theorem Device.setPort_issued (d a b) : (Device.setPort d a b).issued = d.issued := rfl
@[simp] theorem Device.setPort_nextId (d a b) : (Device.setPort d a b).nextId = d.nextId := rfl
@[simp] theorem Device.setPort_tracks (d a b) : (Device.setPort d a b).tracks = d.tracks := rfl
@[simp] theorem Device.setPort_journals (d a b) : (Device.setPort d a b).journals = d.journals := rfl
@[simp] theorem Device.setPort_pcie (d a b) : (Device.setPort d a b).pcie = d.pcie := rfl
@[simp] theorem Device.setPort_qps (d a b) : (Device.setPort d a b).qps = d.qps := rfl
@[simp] theorem Device.setPort_cqs (d a b) : (Device.setPort d a b).cqs = d.cqs := rfl
@[simp] theorem Device.setPort_regions (d a b) : (Device.setPort d a b).regions = d.regions := rfl
@[simp] theorem Device.setPort_dbPages (d a b) : (Device.setPort d a b).dbPages = d.dbPages := rfl
@[simp] theorem Device.setPort_pools (d a b) : (Device.setPort d a b).pools = d.pools := rfl
@[simp] theorem Device.setPort_missWait (d a b) : (Device.setPort d a b).missWait = d.missWait := rfl
@[simp] theorem Device.setPort_rma (d a b) : (Device.setPort d a b).rma = d.rma := rfl
@[simp] theorem Device.setPort_equeues (d a b) : (Device.setPort d a b).equeues = d.equeues := rfl
@[simp] theorem Device.setPort_eports (d a b) : (Device.setPort d a b).eports = d.eports := rfl
@[simp] theorem Device.setPort_shp (d a b) : (Device.setPort d a b).shp = d.shp := rfl
@[simp] theorem Device.setPort_plk (d a b) : (Device.setPort d a b).plk = d.plk := rfl
@[simp] theorem Device.setPort_lanes (d a b) : (Device.setPort d a b).lanes = d.lanes := rfl
@[simp] theorem Device.setPort_clockPairs (d a b) : (Device.setPort d a b).clockPairs = d.clockPairs := rfl
@[simp] theorem Device.setPort_eqRecords (d a b) : (Device.setPort d a b).eqRecords = d.eqRecords := rfl
@[simp] theorem Device.setPort_upAt (d a b) : (Device.setPort d a b).upAt = d.upAt := rfl
@[simp] theorem Device.setPort_wokeAt (d a b) : (Device.setPort d a b).wokeAt = d.wokeAt := rfl
@[simp] theorem Device.setPort_fab (d a b) : (Device.setPort d a b).fab = d.fab := rfl
@[simp] theorem Device.setPort_spw (d a b) : (Device.setPort d a b).spw = d.spw := rfl
@[simp] theorem Device.setPort_feeds (d a b) : (Device.setPort d a b).feeds = d.feeds := rfl
@[simp] theorem Device.setPort_can (d a b) : (Device.setPort d a b).can = d.can := rfl
@[simp] theorem Device.setPort_throttle (d a b) : (Device.setPort d a b).throttle = d.throttle := rfl
@[simp] theorem Device.setPort_counters (d a b) : (Device.setPort d a b).counters = d.counters := rfl
@[simp] theorem Device.setPort_cnt (d a b) : (Device.setPort d a b).cnt = d.cnt := rfl
@[simp] theorem Device.setPort_jtag (d a b) : (Device.setPort d a b).jtag = d.jtag := rfl
@[simp] theorem Device.setBuf_now (d a b) : (Device.setBuf d a b).now = d.now := rfl
@[simp] theorem Device.setBuf_devTime (d a b) : (Device.setBuf d a b).devTime = d.devTime := rfl
@[simp] theorem Device.setBuf_freeCount (d a b) : (Device.setBuf d a b).freeCount = d.freeCount := rfl
@[simp] theorem Device.setBuf_out (d a b) : (Device.setBuf d a b).out = d.out := rfl
@[simp] theorem Device.setBuf_lastRun (d a b) : (Device.setBuf d a b).lastRun = d.lastRun := rfl
@[simp] theorem Device.setBuf_insideAt (d a b) : (Device.setBuf d a b).insideAt = d.insideAt := rfl
@[simp] theorem Device.setBuf_hiLatch (d a b) : (Device.setBuf d a b).hiLatch = d.hiLatch := rfl
@[simp] theorem Device.setBuf_glb (d a b) : (Device.setBuf d a b).glb = d.glb := rfl
@[simp] theorem Device.setBuf_kme (d a b) : (Device.setBuf d a b).kme = d.kme := rfl
@[simp] theorem Device.setBuf_mbx (d a b) : (Device.setBuf d a b).mbx = d.mbx := rfl
@[simp] theorem Device.setBuf_msix (d a b) : (Device.setBuf d a b).msix = d.msix := rfl
@[simp] theorem Device.setBuf_clk (d a b) : (Device.setBuf d a b).clk = d.clk := rfl
@[simp] theorem Device.setBuf_snapshots (d a b) : (Device.setBuf d a b).snapshots = d.snapshots := rfl
@[simp] theorem Device.setBuf_bootRecord (d a b) : (Device.setBuf d a b).bootRecord = d.bootRecord := rfl
@[simp] theorem Device.setBuf_blackBox (d a b) : (Device.setBuf d a b).blackBox = d.blackBox := rfl
@[simp] theorem Device.setBuf_adit (d a b) : (Device.setBuf d a b).adit = d.adit := rfl
@[simp] theorem Device.setBuf_ports (d a b) : (Device.setBuf d a b).ports = d.ports := rfl
@[simp] theorem Device.setBuf_locks (d a b) : (Device.setBuf d a b).locks = d.locks := rfl
@[simp] theorem Device.setBuf_xbr (d a b) : (Device.setBuf d a b).xbr = d.xbr := rfl
@[simp] theorem Device.setBuf_parts (d a b) : (Device.setBuf d a b).parts = d.parts := rfl
@[simp] theorem Device.setBuf_steers (d a b) : (Device.setBuf d a b).steers = d.steers := rfl
@[simp] theorem Device.setBuf_sriov (d a b) : (Device.setBuf d a b).sriov = d.sriov := rfl
@[simp] theorem Device.setBuf_bridges (d a b) : (Device.setBuf d a b).bridges = d.bridges := rfl
@[simp] theorem Device.setBuf_segs (d a b) : (Device.setBuf d a b).segs = d.segs := rfl
@[simp] theorem Device.setBuf_act (d a b) : (Device.setBuf d a b).act = d.act := rfl
@[simp] theorem Device.setBuf_windows (d a b) : (Device.setBuf d a b).windows = d.windows := rfl
@[simp] theorem Device.setBuf_ntw (d a b) : (Device.setBuf d a b).ntw = d.ntw := rfl
@[simp] theorem Device.setBuf_dbWaits (d a b) : (Device.setBuf d a b).dbWaits = d.dbWaits := rfl
@[simp] theorem Device.setBuf_tlm (d a b) : (Device.setBuf d a b).tlm = d.tlm := rfl
@[simp] theorem Device.setBuf_funcs (d a b) : (Device.setBuf d a b).funcs = d.funcs := rfl
@[simp] theorem Device.setBuf_ats (d a b) : (Device.setBuf d a b).ats = d.ats := rfl
@[simp] theorem Device.setBuf_invals (d a b) : (Device.setBuf d a b).invals = d.invals := rfl
@[simp] theorem Device.setBuf_invalWaits (d a b) : (Device.setBuf d a b).invalWaits = d.invalWaits := rfl
@[simp] theorem Device.setBuf_atsAsks (d a b) : (Device.setBuf d a b).atsAsks = d.atsAsks := rfl
@[simp] theorem Device.setBuf_vfPart (d a b) : (Device.setBuf d a b).vfPart = d.vfPart := rfl
@[simp] theorem Device.setBuf_vfIndex (d a b) : (Device.setBuf d a b).vfIndex = d.vfIndex := rfl
@[simp] theorem Device.setBuf_remotes (d a b) : (Device.setBuf d a b).remotes = d.remotes := rfl
@[simp] theorem Device.setBuf_homeSteers (d a b) : (Device.setBuf d a b).homeSteers = d.homeSteers := rfl
@[simp] theorem Device.setBuf_items (d a b) : (Device.setBuf d a b).items = d.items := rfl
@[simp] theorem Device.setBuf_issued (d a b) : (Device.setBuf d a b).issued = d.issued := rfl
@[simp] theorem Device.setBuf_nextId (d a b) : (Device.setBuf d a b).nextId = d.nextId := rfl
@[simp] theorem Device.setBuf_tracks (d a b) : (Device.setBuf d a b).tracks = d.tracks := rfl
@[simp] theorem Device.setBuf_journals (d a b) : (Device.setBuf d a b).journals = d.journals := rfl
@[simp] theorem Device.setBuf_pcie (d a b) : (Device.setBuf d a b).pcie = d.pcie := rfl
@[simp] theorem Device.setBuf_qps (d a b) : (Device.setBuf d a b).qps = d.qps := rfl
@[simp] theorem Device.setBuf_cqs (d a b) : (Device.setBuf d a b).cqs = d.cqs := rfl
@[simp] theorem Device.setBuf_regions (d a b) : (Device.setBuf d a b).regions = d.regions := rfl
@[simp] theorem Device.setBuf_dbPages (d a b) : (Device.setBuf d a b).dbPages = d.dbPages := rfl
@[simp] theorem Device.setBuf_pools (d a b) : (Device.setBuf d a b).pools = d.pools := rfl
@[simp] theorem Device.setBuf_missWait (d a b) : (Device.setBuf d a b).missWait = d.missWait := rfl
@[simp] theorem Device.setBuf_rma (d a b) : (Device.setBuf d a b).rma = d.rma := rfl
@[simp] theorem Device.setBuf_equeues (d a b) : (Device.setBuf d a b).equeues = d.equeues := rfl
@[simp] theorem Device.setBuf_eports (d a b) : (Device.setBuf d a b).eports = d.eports := rfl
@[simp] theorem Device.setBuf_shp (d a b) : (Device.setBuf d a b).shp = d.shp := rfl
@[simp] theorem Device.setBuf_plk (d a b) : (Device.setBuf d a b).plk = d.plk := rfl
@[simp] theorem Device.setBuf_lanes (d a b) : (Device.setBuf d a b).lanes = d.lanes := rfl
@[simp] theorem Device.setBuf_clockPairs (d a b) : (Device.setBuf d a b).clockPairs = d.clockPairs := rfl
@[simp] theorem Device.setBuf_eqRecords (d a b) : (Device.setBuf d a b).eqRecords = d.eqRecords := rfl
@[simp] theorem Device.setBuf_upAt (d a b) : (Device.setBuf d a b).upAt = d.upAt := rfl
@[simp] theorem Device.setBuf_wokeAt (d a b) : (Device.setBuf d a b).wokeAt = d.wokeAt := rfl
@[simp] theorem Device.setBuf_fab (d a b) : (Device.setBuf d a b).fab = d.fab := rfl
@[simp] theorem Device.setBuf_spw (d a b) : (Device.setBuf d a b).spw = d.spw := rfl
@[simp] theorem Device.setBuf_feeds (d a b) : (Device.setBuf d a b).feeds = d.feeds := rfl
@[simp] theorem Device.setBuf_can (d a b) : (Device.setBuf d a b).can = d.can := rfl
@[simp] theorem Device.setBuf_throttle (d a b) : (Device.setBuf d a b).throttle = d.throttle := rfl
@[simp] theorem Device.setBuf_counters (d a b) : (Device.setBuf d a b).counters = d.counters := rfl
@[simp] theorem Device.setBuf_cnt (d a b) : (Device.setBuf d a b).cnt = d.cnt := rfl
@[simp] theorem Device.setBuf_jtag (d a b) : (Device.setBuf d a b).jtag = d.jtag := rfl
@[simp] theorem Device.setLock_now (d a b) : (Device.setLock d a b).now = d.now := rfl
@[simp] theorem Device.setLock_devTime (d a b) : (Device.setLock d a b).devTime = d.devTime := rfl
@[simp] theorem Device.setLock_freeCount (d a b) : (Device.setLock d a b).freeCount = d.freeCount := rfl
@[simp] theorem Device.setLock_out (d a b) : (Device.setLock d a b).out = d.out := rfl
@[simp] theorem Device.setLock_lastRun (d a b) : (Device.setLock d a b).lastRun = d.lastRun := rfl
@[simp] theorem Device.setLock_insideAt (d a b) : (Device.setLock d a b).insideAt = d.insideAt := rfl
@[simp] theorem Device.setLock_hiLatch (d a b) : (Device.setLock d a b).hiLatch = d.hiLatch := rfl
@[simp] theorem Device.setLock_glb (d a b) : (Device.setLock d a b).glb = d.glb := rfl
@[simp] theorem Device.setLock_kme (d a b) : (Device.setLock d a b).kme = d.kme := rfl
@[simp] theorem Device.setLock_mbx (d a b) : (Device.setLock d a b).mbx = d.mbx := rfl
@[simp] theorem Device.setLock_msix (d a b) : (Device.setLock d a b).msix = d.msix := rfl
@[simp] theorem Device.setLock_clk (d a b) : (Device.setLock d a b).clk = d.clk := rfl
@[simp] theorem Device.setLock_snapshots (d a b) : (Device.setLock d a b).snapshots = d.snapshots := rfl
@[simp] theorem Device.setLock_bootRecord (d a b) : (Device.setLock d a b).bootRecord = d.bootRecord := rfl
@[simp] theorem Device.setLock_blackBox (d a b) : (Device.setLock d a b).blackBox = d.blackBox := rfl
@[simp] theorem Device.setLock_adit (d a b) : (Device.setLock d a b).adit = d.adit := rfl
@[simp] theorem Device.setLock_ports (d a b) : (Device.setLock d a b).ports = d.ports := rfl
@[simp] theorem Device.setLock_bufs (d a b) : (Device.setLock d a b).bufs = d.bufs := rfl
@[simp] theorem Device.setLock_xbr (d a b) : (Device.setLock d a b).xbr = d.xbr := rfl
@[simp] theorem Device.setLock_parts (d a b) : (Device.setLock d a b).parts = d.parts := rfl
@[simp] theorem Device.setLock_steers (d a b) : (Device.setLock d a b).steers = d.steers := rfl
@[simp] theorem Device.setLock_sriov (d a b) : (Device.setLock d a b).sriov = d.sriov := rfl
@[simp] theorem Device.setLock_bridges (d a b) : (Device.setLock d a b).bridges = d.bridges := rfl
@[simp] theorem Device.setLock_segs (d a b) : (Device.setLock d a b).segs = d.segs := rfl
@[simp] theorem Device.setLock_act (d a b) : (Device.setLock d a b).act = d.act := rfl
@[simp] theorem Device.setLock_windows (d a b) : (Device.setLock d a b).windows = d.windows := rfl
@[simp] theorem Device.setLock_ntw (d a b) : (Device.setLock d a b).ntw = d.ntw := rfl
@[simp] theorem Device.setLock_dbWaits (d a b) : (Device.setLock d a b).dbWaits = d.dbWaits := rfl
@[simp] theorem Device.setLock_tlm (d a b) : (Device.setLock d a b).tlm = d.tlm := rfl
@[simp] theorem Device.setLock_funcs (d a b) : (Device.setLock d a b).funcs = d.funcs := rfl
@[simp] theorem Device.setLock_ats (d a b) : (Device.setLock d a b).ats = d.ats := rfl
@[simp] theorem Device.setLock_invals (d a b) : (Device.setLock d a b).invals = d.invals := rfl
@[simp] theorem Device.setLock_invalWaits (d a b) : (Device.setLock d a b).invalWaits = d.invalWaits := rfl
@[simp] theorem Device.setLock_atsAsks (d a b) : (Device.setLock d a b).atsAsks = d.atsAsks := rfl
@[simp] theorem Device.setLock_vfPart (d a b) : (Device.setLock d a b).vfPart = d.vfPart := rfl
@[simp] theorem Device.setLock_vfIndex (d a b) : (Device.setLock d a b).vfIndex = d.vfIndex := rfl
@[simp] theorem Device.setLock_remotes (d a b) : (Device.setLock d a b).remotes = d.remotes := rfl
@[simp] theorem Device.setLock_homeSteers (d a b) : (Device.setLock d a b).homeSteers = d.homeSteers := rfl
@[simp] theorem Device.setLock_items (d a b) : (Device.setLock d a b).items = d.items := rfl
@[simp] theorem Device.setLock_issued (d a b) : (Device.setLock d a b).issued = d.issued := rfl
@[simp] theorem Device.setLock_nextId (d a b) : (Device.setLock d a b).nextId = d.nextId := rfl
@[simp] theorem Device.setLock_tracks (d a b) : (Device.setLock d a b).tracks = d.tracks := rfl
@[simp] theorem Device.setLock_journals (d a b) : (Device.setLock d a b).journals = d.journals := rfl
@[simp] theorem Device.setLock_pcie (d a b) : (Device.setLock d a b).pcie = d.pcie := rfl
@[simp] theorem Device.setLock_qps (d a b) : (Device.setLock d a b).qps = d.qps := rfl
@[simp] theorem Device.setLock_cqs (d a b) : (Device.setLock d a b).cqs = d.cqs := rfl
@[simp] theorem Device.setLock_regions (d a b) : (Device.setLock d a b).regions = d.regions := rfl
@[simp] theorem Device.setLock_dbPages (d a b) : (Device.setLock d a b).dbPages = d.dbPages := rfl
@[simp] theorem Device.setLock_pools (d a b) : (Device.setLock d a b).pools = d.pools := rfl
@[simp] theorem Device.setLock_missWait (d a b) : (Device.setLock d a b).missWait = d.missWait := rfl
@[simp] theorem Device.setLock_rma (d a b) : (Device.setLock d a b).rma = d.rma := rfl
@[simp] theorem Device.setLock_equeues (d a b) : (Device.setLock d a b).equeues = d.equeues := rfl
@[simp] theorem Device.setLock_eports (d a b) : (Device.setLock d a b).eports = d.eports := rfl
@[simp] theorem Device.setLock_shp (d a b) : (Device.setLock d a b).shp = d.shp := rfl
@[simp] theorem Device.setLock_plk (d a b) : (Device.setLock d a b).plk = d.plk := rfl
@[simp] theorem Device.setLock_lanes (d a b) : (Device.setLock d a b).lanes = d.lanes := rfl
@[simp] theorem Device.setLock_clockPairs (d a b) : (Device.setLock d a b).clockPairs = d.clockPairs := rfl
@[simp] theorem Device.setLock_eqRecords (d a b) : (Device.setLock d a b).eqRecords = d.eqRecords := rfl
@[simp] theorem Device.setLock_upAt (d a b) : (Device.setLock d a b).upAt = d.upAt := rfl
@[simp] theorem Device.setLock_wokeAt (d a b) : (Device.setLock d a b).wokeAt = d.wokeAt := rfl
@[simp] theorem Device.setLock_fab (d a b) : (Device.setLock d a b).fab = d.fab := rfl
@[simp] theorem Device.setLock_spw (d a b) : (Device.setLock d a b).spw = d.spw := rfl
@[simp] theorem Device.setLock_feeds (d a b) : (Device.setLock d a b).feeds = d.feeds := rfl
@[simp] theorem Device.setLock_can (d a b) : (Device.setLock d a b).can = d.can := rfl
@[simp] theorem Device.setLock_throttle (d a b) : (Device.setLock d a b).throttle = d.throttle := rfl
@[simp] theorem Device.setLock_counters (d a b) : (Device.setLock d a b).counters = d.counters := rfl
@[simp] theorem Device.setLock_cnt (d a b) : (Device.setLock d a b).cnt = d.cnt := rfl
@[simp] theorem Device.setLock_jtag (d a b) : (Device.setLock d a b).jtag = d.jtag := rfl
@[simp] theorem Device.setPart_now (d a b) : (Device.setPart d a b).now = d.now := rfl
@[simp] theorem Device.setPart_devTime (d a b) : (Device.setPart d a b).devTime = d.devTime := rfl
@[simp] theorem Device.setPart_freeCount (d a b) : (Device.setPart d a b).freeCount = d.freeCount := rfl
@[simp] theorem Device.setPart_out (d a b) : (Device.setPart d a b).out = d.out := rfl
@[simp] theorem Device.setPart_lastRun (d a b) : (Device.setPart d a b).lastRun = d.lastRun := rfl
@[simp] theorem Device.setPart_insideAt (d a b) : (Device.setPart d a b).insideAt = d.insideAt := rfl
@[simp] theorem Device.setPart_hiLatch (d a b) : (Device.setPart d a b).hiLatch = d.hiLatch := rfl
@[simp] theorem Device.setPart_glb (d a b) : (Device.setPart d a b).glb = d.glb := rfl
@[simp] theorem Device.setPart_kme (d a b) : (Device.setPart d a b).kme = d.kme := rfl
@[simp] theorem Device.setPart_mbx (d a b) : (Device.setPart d a b).mbx = d.mbx := rfl
@[simp] theorem Device.setPart_msix (d a b) : (Device.setPart d a b).msix = d.msix := rfl
@[simp] theorem Device.setPart_clk (d a b) : (Device.setPart d a b).clk = d.clk := rfl
@[simp] theorem Device.setPart_snapshots (d a b) : (Device.setPart d a b).snapshots = d.snapshots := rfl
@[simp] theorem Device.setPart_bootRecord (d a b) : (Device.setPart d a b).bootRecord = d.bootRecord := rfl
@[simp] theorem Device.setPart_blackBox (d a b) : (Device.setPart d a b).blackBox = d.blackBox := rfl
@[simp] theorem Device.setPart_adit (d a b) : (Device.setPart d a b).adit = d.adit := rfl
@[simp] theorem Device.setPart_ports (d a b) : (Device.setPart d a b).ports = d.ports := rfl
@[simp] theorem Device.setPart_bufs (d a b) : (Device.setPart d a b).bufs = d.bufs := rfl
@[simp] theorem Device.setPart_locks (d a b) : (Device.setPart d a b).locks = d.locks := rfl
@[simp] theorem Device.setPart_xbr (d a b) : (Device.setPart d a b).xbr = d.xbr := rfl
@[simp] theorem Device.setPart_steers (d a b) : (Device.setPart d a b).steers = d.steers := rfl
@[simp] theorem Device.setPart_sriov (d a b) : (Device.setPart d a b).sriov = d.sriov := rfl
@[simp] theorem Device.setPart_bridges (d a b) : (Device.setPart d a b).bridges = d.bridges := rfl
@[simp] theorem Device.setPart_segs (d a b) : (Device.setPart d a b).segs = d.segs := rfl
@[simp] theorem Device.setPart_act (d a b) : (Device.setPart d a b).act = d.act := rfl
@[simp] theorem Device.setPart_windows (d a b) : (Device.setPart d a b).windows = d.windows := rfl
@[simp] theorem Device.setPart_ntw (d a b) : (Device.setPart d a b).ntw = d.ntw := rfl
@[simp] theorem Device.setPart_dbWaits (d a b) : (Device.setPart d a b).dbWaits = d.dbWaits := rfl
@[simp] theorem Device.setPart_tlm (d a b) : (Device.setPart d a b).tlm = d.tlm := rfl
@[simp] theorem Device.setPart_funcs (d a b) : (Device.setPart d a b).funcs = d.funcs := rfl
@[simp] theorem Device.setPart_ats (d a b) : (Device.setPart d a b).ats = d.ats := rfl
@[simp] theorem Device.setPart_invals (d a b) : (Device.setPart d a b).invals = d.invals := rfl
@[simp] theorem Device.setPart_invalWaits (d a b) : (Device.setPart d a b).invalWaits = d.invalWaits := rfl
@[simp] theorem Device.setPart_atsAsks (d a b) : (Device.setPart d a b).atsAsks = d.atsAsks := rfl
@[simp] theorem Device.setPart_vfPart (d a b) : (Device.setPart d a b).vfPart = d.vfPart := rfl
@[simp] theorem Device.setPart_vfIndex (d a b) : (Device.setPart d a b).vfIndex = d.vfIndex := rfl
@[simp] theorem Device.setPart_remotes (d a b) : (Device.setPart d a b).remotes = d.remotes := rfl
@[simp] theorem Device.setPart_homeSteers (d a b) : (Device.setPart d a b).homeSteers = d.homeSteers := rfl
@[simp] theorem Device.setPart_items (d a b) : (Device.setPart d a b).items = d.items := rfl
@[simp] theorem Device.setPart_issued (d a b) : (Device.setPart d a b).issued = d.issued := rfl
@[simp] theorem Device.setPart_nextId (d a b) : (Device.setPart d a b).nextId = d.nextId := rfl
@[simp] theorem Device.setPart_tracks (d a b) : (Device.setPart d a b).tracks = d.tracks := rfl
@[simp] theorem Device.setPart_journals (d a b) : (Device.setPart d a b).journals = d.journals := rfl
@[simp] theorem Device.setPart_pcie (d a b) : (Device.setPart d a b).pcie = d.pcie := rfl
@[simp] theorem Device.setPart_qps (d a b) : (Device.setPart d a b).qps = d.qps := rfl
@[simp] theorem Device.setPart_cqs (d a b) : (Device.setPart d a b).cqs = d.cqs := rfl
@[simp] theorem Device.setPart_regions (d a b) : (Device.setPart d a b).regions = d.regions := rfl
@[simp] theorem Device.setPart_dbPages (d a b) : (Device.setPart d a b).dbPages = d.dbPages := rfl
@[simp] theorem Device.setPart_pools (d a b) : (Device.setPart d a b).pools = d.pools := rfl
@[simp] theorem Device.setPart_missWait (d a b) : (Device.setPart d a b).missWait = d.missWait := rfl
@[simp] theorem Device.setPart_rma (d a b) : (Device.setPart d a b).rma = d.rma := rfl
@[simp] theorem Device.setPart_equeues (d a b) : (Device.setPart d a b).equeues = d.equeues := rfl
@[simp] theorem Device.setPart_eports (d a b) : (Device.setPart d a b).eports = d.eports := rfl
@[simp] theorem Device.setPart_shp (d a b) : (Device.setPart d a b).shp = d.shp := rfl
@[simp] theorem Device.setPart_plk (d a b) : (Device.setPart d a b).plk = d.plk := rfl
@[simp] theorem Device.setPart_lanes (d a b) : (Device.setPart d a b).lanes = d.lanes := rfl
@[simp] theorem Device.setPart_clockPairs (d a b) : (Device.setPart d a b).clockPairs = d.clockPairs := rfl
@[simp] theorem Device.setPart_eqRecords (d a b) : (Device.setPart d a b).eqRecords = d.eqRecords := rfl
@[simp] theorem Device.setPart_upAt (d a b) : (Device.setPart d a b).upAt = d.upAt := rfl
@[simp] theorem Device.setPart_wokeAt (d a b) : (Device.setPart d a b).wokeAt = d.wokeAt := rfl
@[simp] theorem Device.setPart_fab (d a b) : (Device.setPart d a b).fab = d.fab := rfl
@[simp] theorem Device.setPart_spw (d a b) : (Device.setPart d a b).spw = d.spw := rfl
@[simp] theorem Device.setPart_feeds (d a b) : (Device.setPart d a b).feeds = d.feeds := rfl
@[simp] theorem Device.setPart_can (d a b) : (Device.setPart d a b).can = d.can := rfl
@[simp] theorem Device.setPart_throttle (d a b) : (Device.setPart d a b).throttle = d.throttle := rfl
@[simp] theorem Device.setPart_counters (d a b) : (Device.setPart d a b).counters = d.counters := rfl
@[simp] theorem Device.setPart_cnt (d a b) : (Device.setPart d a b).cnt = d.cnt := rfl
@[simp] theorem Device.setPart_jtag (d a b) : (Device.setPart d a b).jtag = d.jtag := rfl
@[simp] theorem Device.setSeg_now (d a b) : (Device.setSeg d a b).now = d.now := rfl
@[simp] theorem Device.setSeg_devTime (d a b) : (Device.setSeg d a b).devTime = d.devTime := rfl
@[simp] theorem Device.setSeg_freeCount (d a b) : (Device.setSeg d a b).freeCount = d.freeCount := rfl
@[simp] theorem Device.setSeg_out (d a b) : (Device.setSeg d a b).out = d.out := rfl
@[simp] theorem Device.setSeg_lastRun (d a b) : (Device.setSeg d a b).lastRun = d.lastRun := rfl
@[simp] theorem Device.setSeg_insideAt (d a b) : (Device.setSeg d a b).insideAt = d.insideAt := rfl
@[simp] theorem Device.setSeg_hiLatch (d a b) : (Device.setSeg d a b).hiLatch = d.hiLatch := rfl
@[simp] theorem Device.setSeg_glb (d a b) : (Device.setSeg d a b).glb = d.glb := rfl
@[simp] theorem Device.setSeg_kme (d a b) : (Device.setSeg d a b).kme = d.kme := rfl
@[simp] theorem Device.setSeg_mbx (d a b) : (Device.setSeg d a b).mbx = d.mbx := rfl
@[simp] theorem Device.setSeg_msix (d a b) : (Device.setSeg d a b).msix = d.msix := rfl
@[simp] theorem Device.setSeg_clk (d a b) : (Device.setSeg d a b).clk = d.clk := rfl
@[simp] theorem Device.setSeg_snapshots (d a b) : (Device.setSeg d a b).snapshots = d.snapshots := rfl
@[simp] theorem Device.setSeg_bootRecord (d a b) : (Device.setSeg d a b).bootRecord = d.bootRecord := rfl
@[simp] theorem Device.setSeg_blackBox (d a b) : (Device.setSeg d a b).blackBox = d.blackBox := rfl
@[simp] theorem Device.setSeg_adit (d a b) : (Device.setSeg d a b).adit = d.adit := rfl
@[simp] theorem Device.setSeg_ports (d a b) : (Device.setSeg d a b).ports = d.ports := rfl
@[simp] theorem Device.setSeg_bufs (d a b) : (Device.setSeg d a b).bufs = d.bufs := rfl
@[simp] theorem Device.setSeg_locks (d a b) : (Device.setSeg d a b).locks = d.locks := rfl
@[simp] theorem Device.setSeg_xbr (d a b) : (Device.setSeg d a b).xbr = d.xbr := rfl
@[simp] theorem Device.setSeg_parts (d a b) : (Device.setSeg d a b).parts = d.parts := rfl
@[simp] theorem Device.setSeg_steers (d a b) : (Device.setSeg d a b).steers = d.steers := rfl
@[simp] theorem Device.setSeg_sriov (d a b) : (Device.setSeg d a b).sriov = d.sriov := rfl
@[simp] theorem Device.setSeg_bridges (d a b) : (Device.setSeg d a b).bridges = d.bridges := rfl
@[simp] theorem Device.setSeg_act (d a b) : (Device.setSeg d a b).act = d.act := rfl
@[simp] theorem Device.setSeg_windows (d a b) : (Device.setSeg d a b).windows = d.windows := rfl
@[simp] theorem Device.setSeg_ntw (d a b) : (Device.setSeg d a b).ntw = d.ntw := rfl
@[simp] theorem Device.setSeg_dbWaits (d a b) : (Device.setSeg d a b).dbWaits = d.dbWaits := rfl
@[simp] theorem Device.setSeg_tlm (d a b) : (Device.setSeg d a b).tlm = d.tlm := rfl
@[simp] theorem Device.setSeg_funcs (d a b) : (Device.setSeg d a b).funcs = d.funcs := rfl
@[simp] theorem Device.setSeg_ats (d a b) : (Device.setSeg d a b).ats = d.ats := rfl
@[simp] theorem Device.setSeg_invals (d a b) : (Device.setSeg d a b).invals = d.invals := rfl
@[simp] theorem Device.setSeg_invalWaits (d a b) : (Device.setSeg d a b).invalWaits = d.invalWaits := rfl
@[simp] theorem Device.setSeg_atsAsks (d a b) : (Device.setSeg d a b).atsAsks = d.atsAsks := rfl
@[simp] theorem Device.setSeg_vfPart (d a b) : (Device.setSeg d a b).vfPart = d.vfPart := rfl
@[simp] theorem Device.setSeg_vfIndex (d a b) : (Device.setSeg d a b).vfIndex = d.vfIndex := rfl
@[simp] theorem Device.setSeg_remotes (d a b) : (Device.setSeg d a b).remotes = d.remotes := rfl
@[simp] theorem Device.setSeg_homeSteers (d a b) : (Device.setSeg d a b).homeSteers = d.homeSteers := rfl
@[simp] theorem Device.setSeg_items (d a b) : (Device.setSeg d a b).items = d.items := rfl
@[simp] theorem Device.setSeg_issued (d a b) : (Device.setSeg d a b).issued = d.issued := rfl
@[simp] theorem Device.setSeg_nextId (d a b) : (Device.setSeg d a b).nextId = d.nextId := rfl
@[simp] theorem Device.setSeg_tracks (d a b) : (Device.setSeg d a b).tracks = d.tracks := rfl
@[simp] theorem Device.setSeg_journals (d a b) : (Device.setSeg d a b).journals = d.journals := rfl
@[simp] theorem Device.setSeg_pcie (d a b) : (Device.setSeg d a b).pcie = d.pcie := rfl
@[simp] theorem Device.setSeg_qps (d a b) : (Device.setSeg d a b).qps = d.qps := rfl
@[simp] theorem Device.setSeg_cqs (d a b) : (Device.setSeg d a b).cqs = d.cqs := rfl
@[simp] theorem Device.setSeg_regions (d a b) : (Device.setSeg d a b).regions = d.regions := rfl
@[simp] theorem Device.setSeg_dbPages (d a b) : (Device.setSeg d a b).dbPages = d.dbPages := rfl
@[simp] theorem Device.setSeg_pools (d a b) : (Device.setSeg d a b).pools = d.pools := rfl
@[simp] theorem Device.setSeg_missWait (d a b) : (Device.setSeg d a b).missWait = d.missWait := rfl
@[simp] theorem Device.setSeg_rma (d a b) : (Device.setSeg d a b).rma = d.rma := rfl
@[simp] theorem Device.setSeg_equeues (d a b) : (Device.setSeg d a b).equeues = d.equeues := rfl
@[simp] theorem Device.setSeg_eports (d a b) : (Device.setSeg d a b).eports = d.eports := rfl
@[simp] theorem Device.setSeg_shp (d a b) : (Device.setSeg d a b).shp = d.shp := rfl
@[simp] theorem Device.setSeg_plk (d a b) : (Device.setSeg d a b).plk = d.plk := rfl
@[simp] theorem Device.setSeg_lanes (d a b) : (Device.setSeg d a b).lanes = d.lanes := rfl
@[simp] theorem Device.setSeg_clockPairs (d a b) : (Device.setSeg d a b).clockPairs = d.clockPairs := rfl
@[simp] theorem Device.setSeg_eqRecords (d a b) : (Device.setSeg d a b).eqRecords = d.eqRecords := rfl
@[simp] theorem Device.setSeg_upAt (d a b) : (Device.setSeg d a b).upAt = d.upAt := rfl
@[simp] theorem Device.setSeg_wokeAt (d a b) : (Device.setSeg d a b).wokeAt = d.wokeAt := rfl
@[simp] theorem Device.setSeg_fab (d a b) : (Device.setSeg d a b).fab = d.fab := rfl
@[simp] theorem Device.setSeg_spw (d a b) : (Device.setSeg d a b).spw = d.spw := rfl
@[simp] theorem Device.setSeg_feeds (d a b) : (Device.setSeg d a b).feeds = d.feeds := rfl
@[simp] theorem Device.setSeg_can (d a b) : (Device.setSeg d a b).can = d.can := rfl
@[simp] theorem Device.setSeg_throttle (d a b) : (Device.setSeg d a b).throttle = d.throttle := rfl
@[simp] theorem Device.setSeg_counters (d a b) : (Device.setSeg d a b).counters = d.counters := rfl
@[simp] theorem Device.setSeg_cnt (d a b) : (Device.setSeg d a b).cnt = d.cnt := rfl
@[simp] theorem Device.setSeg_jtag (d a b) : (Device.setSeg d a b).jtag = d.jtag := rfl
@[simp] theorem Device.setWindow_now (d a b) : (Device.setWindow d a b).now = d.now := rfl
@[simp] theorem Device.setWindow_devTime (d a b) : (Device.setWindow d a b).devTime = d.devTime := rfl
@[simp] theorem Device.setWindow_freeCount (d a b) : (Device.setWindow d a b).freeCount = d.freeCount := rfl
@[simp] theorem Device.setWindow_out (d a b) : (Device.setWindow d a b).out = d.out := rfl
@[simp] theorem Device.setWindow_lastRun (d a b) : (Device.setWindow d a b).lastRun = d.lastRun := rfl
@[simp] theorem Device.setWindow_insideAt (d a b) : (Device.setWindow d a b).insideAt = d.insideAt := rfl
@[simp] theorem Device.setWindow_hiLatch (d a b) : (Device.setWindow d a b).hiLatch = d.hiLatch := rfl
@[simp] theorem Device.setWindow_glb (d a b) : (Device.setWindow d a b).glb = d.glb := rfl
@[simp] theorem Device.setWindow_kme (d a b) : (Device.setWindow d a b).kme = d.kme := rfl
@[simp] theorem Device.setWindow_mbx (d a b) : (Device.setWindow d a b).mbx = d.mbx := rfl
@[simp] theorem Device.setWindow_msix (d a b) : (Device.setWindow d a b).msix = d.msix := rfl
@[simp] theorem Device.setWindow_clk (d a b) : (Device.setWindow d a b).clk = d.clk := rfl
@[simp] theorem Device.setWindow_snapshots (d a b) : (Device.setWindow d a b).snapshots = d.snapshots := rfl
@[simp] theorem Device.setWindow_bootRecord (d a b) : (Device.setWindow d a b).bootRecord = d.bootRecord := rfl
@[simp] theorem Device.setWindow_blackBox (d a b) : (Device.setWindow d a b).blackBox = d.blackBox := rfl
@[simp] theorem Device.setWindow_adit (d a b) : (Device.setWindow d a b).adit = d.adit := rfl
@[simp] theorem Device.setWindow_ports (d a b) : (Device.setWindow d a b).ports = d.ports := rfl
@[simp] theorem Device.setWindow_bufs (d a b) : (Device.setWindow d a b).bufs = d.bufs := rfl
@[simp] theorem Device.setWindow_locks (d a b) : (Device.setWindow d a b).locks = d.locks := rfl
@[simp] theorem Device.setWindow_xbr (d a b) : (Device.setWindow d a b).xbr = d.xbr := rfl
@[simp] theorem Device.setWindow_parts (d a b) : (Device.setWindow d a b).parts = d.parts := rfl
@[simp] theorem Device.setWindow_steers (d a b) : (Device.setWindow d a b).steers = d.steers := rfl
@[simp] theorem Device.setWindow_sriov (d a b) : (Device.setWindow d a b).sriov = d.sriov := rfl
@[simp] theorem Device.setWindow_bridges (d a b) : (Device.setWindow d a b).bridges = d.bridges := rfl
@[simp] theorem Device.setWindow_segs (d a b) : (Device.setWindow d a b).segs = d.segs := rfl
@[simp] theorem Device.setWindow_act (d a b) : (Device.setWindow d a b).act = d.act := rfl
@[simp] theorem Device.setWindow_ntw (d a b) : (Device.setWindow d a b).ntw = d.ntw := rfl
@[simp] theorem Device.setWindow_dbWaits (d a b) : (Device.setWindow d a b).dbWaits = d.dbWaits := rfl
@[simp] theorem Device.setWindow_tlm (d a b) : (Device.setWindow d a b).tlm = d.tlm := rfl
@[simp] theorem Device.setWindow_funcs (d a b) : (Device.setWindow d a b).funcs = d.funcs := rfl
@[simp] theorem Device.setWindow_ats (d a b) : (Device.setWindow d a b).ats = d.ats := rfl
@[simp] theorem Device.setWindow_invals (d a b) : (Device.setWindow d a b).invals = d.invals := rfl
@[simp] theorem Device.setWindow_invalWaits (d a b) : (Device.setWindow d a b).invalWaits = d.invalWaits := rfl
@[simp] theorem Device.setWindow_atsAsks (d a b) : (Device.setWindow d a b).atsAsks = d.atsAsks := rfl
@[simp] theorem Device.setWindow_vfPart (d a b) : (Device.setWindow d a b).vfPart = d.vfPart := rfl
@[simp] theorem Device.setWindow_vfIndex (d a b) : (Device.setWindow d a b).vfIndex = d.vfIndex := rfl
@[simp] theorem Device.setWindow_remotes (d a b) : (Device.setWindow d a b).remotes = d.remotes := rfl
@[simp] theorem Device.setWindow_homeSteers (d a b) : (Device.setWindow d a b).homeSteers = d.homeSteers := rfl
@[simp] theorem Device.setWindow_items (d a b) : (Device.setWindow d a b).items = d.items := rfl
@[simp] theorem Device.setWindow_issued (d a b) : (Device.setWindow d a b).issued = d.issued := rfl
@[simp] theorem Device.setWindow_nextId (d a b) : (Device.setWindow d a b).nextId = d.nextId := rfl
@[simp] theorem Device.setWindow_tracks (d a b) : (Device.setWindow d a b).tracks = d.tracks := rfl
@[simp] theorem Device.setWindow_journals (d a b) : (Device.setWindow d a b).journals = d.journals := rfl
@[simp] theorem Device.setWindow_pcie (d a b) : (Device.setWindow d a b).pcie = d.pcie := rfl
@[simp] theorem Device.setWindow_qps (d a b) : (Device.setWindow d a b).qps = d.qps := rfl
@[simp] theorem Device.setWindow_cqs (d a b) : (Device.setWindow d a b).cqs = d.cqs := rfl
@[simp] theorem Device.setWindow_regions (d a b) : (Device.setWindow d a b).regions = d.regions := rfl
@[simp] theorem Device.setWindow_dbPages (d a b) : (Device.setWindow d a b).dbPages = d.dbPages := rfl
@[simp] theorem Device.setWindow_pools (d a b) : (Device.setWindow d a b).pools = d.pools := rfl
@[simp] theorem Device.setWindow_missWait (d a b) : (Device.setWindow d a b).missWait = d.missWait := rfl
@[simp] theorem Device.setWindow_rma (d a b) : (Device.setWindow d a b).rma = d.rma := rfl
@[simp] theorem Device.setWindow_equeues (d a b) : (Device.setWindow d a b).equeues = d.equeues := rfl
@[simp] theorem Device.setWindow_eports (d a b) : (Device.setWindow d a b).eports = d.eports := rfl
@[simp] theorem Device.setWindow_shp (d a b) : (Device.setWindow d a b).shp = d.shp := rfl
@[simp] theorem Device.setWindow_plk (d a b) : (Device.setWindow d a b).plk = d.plk := rfl
@[simp] theorem Device.setWindow_lanes (d a b) : (Device.setWindow d a b).lanes = d.lanes := rfl
@[simp] theorem Device.setWindow_clockPairs (d a b) : (Device.setWindow d a b).clockPairs = d.clockPairs := rfl
@[simp] theorem Device.setWindow_eqRecords (d a b) : (Device.setWindow d a b).eqRecords = d.eqRecords := rfl
@[simp] theorem Device.setWindow_upAt (d a b) : (Device.setWindow d a b).upAt = d.upAt := rfl
@[simp] theorem Device.setWindow_wokeAt (d a b) : (Device.setWindow d a b).wokeAt = d.wokeAt := rfl
@[simp] theorem Device.setWindow_fab (d a b) : (Device.setWindow d a b).fab = d.fab := rfl
@[simp] theorem Device.setWindow_spw (d a b) : (Device.setWindow d a b).spw = d.spw := rfl
@[simp] theorem Device.setWindow_feeds (d a b) : (Device.setWindow d a b).feeds = d.feeds := rfl
@[simp] theorem Device.setWindow_can (d a b) : (Device.setWindow d a b).can = d.can := rfl
@[simp] theorem Device.setWindow_throttle (d a b) : (Device.setWindow d a b).throttle = d.throttle := rfl
@[simp] theorem Device.setWindow_counters (d a b) : (Device.setWindow d a b).counters = d.counters := rfl
@[simp] theorem Device.setWindow_cnt (d a b) : (Device.setWindow d a b).cnt = d.cnt := rfl
@[simp] theorem Device.setWindow_jtag (d a b) : (Device.setWindow d a b).jtag = d.jtag := rfl
@[simp] theorem Device.setMailbox_now (d a b) : (Device.setMailbox d a b).now = d.now := rfl
@[simp] theorem Device.setMailbox_devTime (d a b) : (Device.setMailbox d a b).devTime = d.devTime := rfl
@[simp] theorem Device.setMailbox_freeCount (d a b) : (Device.setMailbox d a b).freeCount = d.freeCount := rfl
@[simp] theorem Device.setMailbox_out (d a b) : (Device.setMailbox d a b).out = d.out := rfl
@[simp] theorem Device.setMailbox_lastRun (d a b) : (Device.setMailbox d a b).lastRun = d.lastRun := rfl
@[simp] theorem Device.setMailbox_insideAt (d a b) : (Device.setMailbox d a b).insideAt = d.insideAt := rfl
@[simp] theorem Device.setMailbox_hiLatch (d a b) : (Device.setMailbox d a b).hiLatch = d.hiLatch := rfl
@[simp] theorem Device.setMailbox_glb (d a b) : (Device.setMailbox d a b).glb = d.glb := rfl
@[simp] theorem Device.setMailbox_kme (d a b) : (Device.setMailbox d a b).kme = d.kme := rfl
@[simp] theorem Device.setMailbox_msix (d a b) : (Device.setMailbox d a b).msix = d.msix := rfl
@[simp] theorem Device.setMailbox_clk (d a b) : (Device.setMailbox d a b).clk = d.clk := rfl
@[simp] theorem Device.setMailbox_snapshots (d a b) : (Device.setMailbox d a b).snapshots = d.snapshots := rfl
@[simp] theorem Device.setMailbox_bootRecord (d a b) : (Device.setMailbox d a b).bootRecord = d.bootRecord := rfl
@[simp] theorem Device.setMailbox_blackBox (d a b) : (Device.setMailbox d a b).blackBox = d.blackBox := rfl
@[simp] theorem Device.setMailbox_adit (d a b) : (Device.setMailbox d a b).adit = d.adit := rfl
@[simp] theorem Device.setMailbox_ports (d a b) : (Device.setMailbox d a b).ports = d.ports := rfl
@[simp] theorem Device.setMailbox_bufs (d a b) : (Device.setMailbox d a b).bufs = d.bufs := rfl
@[simp] theorem Device.setMailbox_locks (d a b) : (Device.setMailbox d a b).locks = d.locks := rfl
@[simp] theorem Device.setMailbox_xbr (d a b) : (Device.setMailbox d a b).xbr = d.xbr := rfl
@[simp] theorem Device.setMailbox_parts (d a b) : (Device.setMailbox d a b).parts = d.parts := rfl
@[simp] theorem Device.setMailbox_steers (d a b) : (Device.setMailbox d a b).steers = d.steers := rfl
@[simp] theorem Device.setMailbox_sriov (d a b) : (Device.setMailbox d a b).sriov = d.sriov := rfl
@[simp] theorem Device.setMailbox_bridges (d a b) : (Device.setMailbox d a b).bridges = d.bridges := rfl
@[simp] theorem Device.setMailbox_segs (d a b) : (Device.setMailbox d a b).segs = d.segs := rfl
@[simp] theorem Device.setMailbox_act (d a b) : (Device.setMailbox d a b).act = d.act := rfl
@[simp] theorem Device.setMailbox_windows (d a b) : (Device.setMailbox d a b).windows = d.windows := rfl
@[simp] theorem Device.setMailbox_ntw (d a b) : (Device.setMailbox d a b).ntw = d.ntw := rfl
@[simp] theorem Device.setMailbox_dbWaits (d a b) : (Device.setMailbox d a b).dbWaits = d.dbWaits := rfl
@[simp] theorem Device.setMailbox_tlm (d a b) : (Device.setMailbox d a b).tlm = d.tlm := rfl
@[simp] theorem Device.setMailbox_funcs (d a b) : (Device.setMailbox d a b).funcs = d.funcs := rfl
@[simp] theorem Device.setMailbox_ats (d a b) : (Device.setMailbox d a b).ats = d.ats := rfl
@[simp] theorem Device.setMailbox_invals (d a b) : (Device.setMailbox d a b).invals = d.invals := rfl
@[simp] theorem Device.setMailbox_invalWaits (d a b) : (Device.setMailbox d a b).invalWaits = d.invalWaits := rfl
@[simp] theorem Device.setMailbox_atsAsks (d a b) : (Device.setMailbox d a b).atsAsks = d.atsAsks := rfl
@[simp] theorem Device.setMailbox_vfPart (d a b) : (Device.setMailbox d a b).vfPart = d.vfPart := rfl
@[simp] theorem Device.setMailbox_vfIndex (d a b) : (Device.setMailbox d a b).vfIndex = d.vfIndex := rfl
@[simp] theorem Device.setMailbox_remotes (d a b) : (Device.setMailbox d a b).remotes = d.remotes := rfl
@[simp] theorem Device.setMailbox_homeSteers (d a b) : (Device.setMailbox d a b).homeSteers = d.homeSteers := rfl
@[simp] theorem Device.setMailbox_items (d a b) : (Device.setMailbox d a b).items = d.items := rfl
@[simp] theorem Device.setMailbox_issued (d a b) : (Device.setMailbox d a b).issued = d.issued := rfl
@[simp] theorem Device.setMailbox_nextId (d a b) : (Device.setMailbox d a b).nextId = d.nextId := rfl
@[simp] theorem Device.setMailbox_tracks (d a b) : (Device.setMailbox d a b).tracks = d.tracks := rfl
@[simp] theorem Device.setMailbox_journals (d a b) : (Device.setMailbox d a b).journals = d.journals := rfl
@[simp] theorem Device.setMailbox_pcie (d a b) : (Device.setMailbox d a b).pcie = d.pcie := rfl
@[simp] theorem Device.setMailbox_qps (d a b) : (Device.setMailbox d a b).qps = d.qps := rfl
@[simp] theorem Device.setMailbox_cqs (d a b) : (Device.setMailbox d a b).cqs = d.cqs := rfl
@[simp] theorem Device.setMailbox_regions (d a b) : (Device.setMailbox d a b).regions = d.regions := rfl
@[simp] theorem Device.setMailbox_dbPages (d a b) : (Device.setMailbox d a b).dbPages = d.dbPages := rfl
@[simp] theorem Device.setMailbox_pools (d a b) : (Device.setMailbox d a b).pools = d.pools := rfl
@[simp] theorem Device.setMailbox_missWait (d a b) : (Device.setMailbox d a b).missWait = d.missWait := rfl
@[simp] theorem Device.setMailbox_rma (d a b) : (Device.setMailbox d a b).rma = d.rma := rfl
@[simp] theorem Device.setMailbox_equeues (d a b) : (Device.setMailbox d a b).equeues = d.equeues := rfl
@[simp] theorem Device.setMailbox_eports (d a b) : (Device.setMailbox d a b).eports = d.eports := rfl
@[simp] theorem Device.setMailbox_shp (d a b) : (Device.setMailbox d a b).shp = d.shp := rfl
@[simp] theorem Device.setMailbox_plk (d a b) : (Device.setMailbox d a b).plk = d.plk := rfl
@[simp] theorem Device.setMailbox_lanes (d a b) : (Device.setMailbox d a b).lanes = d.lanes := rfl
@[simp] theorem Device.setMailbox_clockPairs (d a b) : (Device.setMailbox d a b).clockPairs = d.clockPairs := rfl
@[simp] theorem Device.setMailbox_eqRecords (d a b) : (Device.setMailbox d a b).eqRecords = d.eqRecords := rfl
@[simp] theorem Device.setMailbox_upAt (d a b) : (Device.setMailbox d a b).upAt = d.upAt := rfl
@[simp] theorem Device.setMailbox_wokeAt (d a b) : (Device.setMailbox d a b).wokeAt = d.wokeAt := rfl
@[simp] theorem Device.setMailbox_fab (d a b) : (Device.setMailbox d a b).fab = d.fab := rfl
@[simp] theorem Device.setMailbox_spw (d a b) : (Device.setMailbox d a b).spw = d.spw := rfl
@[simp] theorem Device.setMailbox_feeds (d a b) : (Device.setMailbox d a b).feeds = d.feeds := rfl
@[simp] theorem Device.setMailbox_can (d a b) : (Device.setMailbox d a b).can = d.can := rfl
@[simp] theorem Device.setMailbox_throttle (d a b) : (Device.setMailbox d a b).throttle = d.throttle := rfl
@[simp] theorem Device.setMailbox_counters (d a b) : (Device.setMailbox d a b).counters = d.counters := rfl
@[simp] theorem Device.setMailbox_cnt (d a b) : (Device.setMailbox d a b).cnt = d.cnt := rfl
@[simp] theorem Device.setMailbox_jtag (d a b) : (Device.setMailbox d a b).jtag = d.jtag := rfl
@[simp] theorem Device.setFunc_now (d a b) : (Device.setFunc d a b).now = d.now := rfl
@[simp] theorem Device.setFunc_devTime (d a b) : (Device.setFunc d a b).devTime = d.devTime := rfl
@[simp] theorem Device.setFunc_freeCount (d a b) : (Device.setFunc d a b).freeCount = d.freeCount := rfl
@[simp] theorem Device.setFunc_out (d a b) : (Device.setFunc d a b).out = d.out := rfl
@[simp] theorem Device.setFunc_lastRun (d a b) : (Device.setFunc d a b).lastRun = d.lastRun := rfl
@[simp] theorem Device.setFunc_insideAt (d a b) : (Device.setFunc d a b).insideAt = d.insideAt := rfl
@[simp] theorem Device.setFunc_hiLatch (d a b) : (Device.setFunc d a b).hiLatch = d.hiLatch := rfl
@[simp] theorem Device.setFunc_glb (d a b) : (Device.setFunc d a b).glb = d.glb := rfl
@[simp] theorem Device.setFunc_kme (d a b) : (Device.setFunc d a b).kme = d.kme := rfl
@[simp] theorem Device.setFunc_mbx (d a b) : (Device.setFunc d a b).mbx = d.mbx := rfl
@[simp] theorem Device.setFunc_msix (d a b) : (Device.setFunc d a b).msix = d.msix := rfl
@[simp] theorem Device.setFunc_clk (d a b) : (Device.setFunc d a b).clk = d.clk := rfl
@[simp] theorem Device.setFunc_snapshots (d a b) : (Device.setFunc d a b).snapshots = d.snapshots := rfl
@[simp] theorem Device.setFunc_bootRecord (d a b) : (Device.setFunc d a b).bootRecord = d.bootRecord := rfl
@[simp] theorem Device.setFunc_blackBox (d a b) : (Device.setFunc d a b).blackBox = d.blackBox := rfl
@[simp] theorem Device.setFunc_adit (d a b) : (Device.setFunc d a b).adit = d.adit := rfl
@[simp] theorem Device.setFunc_ports (d a b) : (Device.setFunc d a b).ports = d.ports := rfl
@[simp] theorem Device.setFunc_bufs (d a b) : (Device.setFunc d a b).bufs = d.bufs := rfl
@[simp] theorem Device.setFunc_locks (d a b) : (Device.setFunc d a b).locks = d.locks := rfl
@[simp] theorem Device.setFunc_xbr (d a b) : (Device.setFunc d a b).xbr = d.xbr := rfl
@[simp] theorem Device.setFunc_parts (d a b) : (Device.setFunc d a b).parts = d.parts := rfl
@[simp] theorem Device.setFunc_steers (d a b) : (Device.setFunc d a b).steers = d.steers := rfl
@[simp] theorem Device.setFunc_sriov (d a b) : (Device.setFunc d a b).sriov = d.sriov := rfl
@[simp] theorem Device.setFunc_bridges (d a b) : (Device.setFunc d a b).bridges = d.bridges := rfl
@[simp] theorem Device.setFunc_segs (d a b) : (Device.setFunc d a b).segs = d.segs := rfl
@[simp] theorem Device.setFunc_act (d a b) : (Device.setFunc d a b).act = d.act := rfl
@[simp] theorem Device.setFunc_windows (d a b) : (Device.setFunc d a b).windows = d.windows := rfl
@[simp] theorem Device.setFunc_ntw (d a b) : (Device.setFunc d a b).ntw = d.ntw := rfl
@[simp] theorem Device.setFunc_dbWaits (d a b) : (Device.setFunc d a b).dbWaits = d.dbWaits := rfl
@[simp] theorem Device.setFunc_tlm (d a b) : (Device.setFunc d a b).tlm = d.tlm := rfl
@[simp] theorem Device.setFunc_ats (d a b) : (Device.setFunc d a b).ats = d.ats := rfl
@[simp] theorem Device.setFunc_invals (d a b) : (Device.setFunc d a b).invals = d.invals := rfl
@[simp] theorem Device.setFunc_invalWaits (d a b) : (Device.setFunc d a b).invalWaits = d.invalWaits := rfl
@[simp] theorem Device.setFunc_atsAsks (d a b) : (Device.setFunc d a b).atsAsks = d.atsAsks := rfl
@[simp] theorem Device.setFunc_vfPart (d a b) : (Device.setFunc d a b).vfPart = d.vfPart := rfl
@[simp] theorem Device.setFunc_vfIndex (d a b) : (Device.setFunc d a b).vfIndex = d.vfIndex := rfl
@[simp] theorem Device.setFunc_remotes (d a b) : (Device.setFunc d a b).remotes = d.remotes := rfl
@[simp] theorem Device.setFunc_homeSteers (d a b) : (Device.setFunc d a b).homeSteers = d.homeSteers := rfl
@[simp] theorem Device.setFunc_items (d a b) : (Device.setFunc d a b).items = d.items := rfl
@[simp] theorem Device.setFunc_issued (d a b) : (Device.setFunc d a b).issued = d.issued := rfl
@[simp] theorem Device.setFunc_nextId (d a b) : (Device.setFunc d a b).nextId = d.nextId := rfl
@[simp] theorem Device.setFunc_tracks (d a b) : (Device.setFunc d a b).tracks = d.tracks := rfl
@[simp] theorem Device.setFunc_journals (d a b) : (Device.setFunc d a b).journals = d.journals := rfl
@[simp] theorem Device.setFunc_pcie (d a b) : (Device.setFunc d a b).pcie = d.pcie := rfl
@[simp] theorem Device.setFunc_qps (d a b) : (Device.setFunc d a b).qps = d.qps := rfl
@[simp] theorem Device.setFunc_cqs (d a b) : (Device.setFunc d a b).cqs = d.cqs := rfl
@[simp] theorem Device.setFunc_regions (d a b) : (Device.setFunc d a b).regions = d.regions := rfl
@[simp] theorem Device.setFunc_dbPages (d a b) : (Device.setFunc d a b).dbPages = d.dbPages := rfl
@[simp] theorem Device.setFunc_pools (d a b) : (Device.setFunc d a b).pools = d.pools := rfl
@[simp] theorem Device.setFunc_missWait (d a b) : (Device.setFunc d a b).missWait = d.missWait := rfl
@[simp] theorem Device.setFunc_rma (d a b) : (Device.setFunc d a b).rma = d.rma := rfl
@[simp] theorem Device.setFunc_equeues (d a b) : (Device.setFunc d a b).equeues = d.equeues := rfl
@[simp] theorem Device.setFunc_eports (d a b) : (Device.setFunc d a b).eports = d.eports := rfl
@[simp] theorem Device.setFunc_shp (d a b) : (Device.setFunc d a b).shp = d.shp := rfl
@[simp] theorem Device.setFunc_plk (d a b) : (Device.setFunc d a b).plk = d.plk := rfl
@[simp] theorem Device.setFunc_lanes (d a b) : (Device.setFunc d a b).lanes = d.lanes := rfl
@[simp] theorem Device.setFunc_clockPairs (d a b) : (Device.setFunc d a b).clockPairs = d.clockPairs := rfl
@[simp] theorem Device.setFunc_eqRecords (d a b) : (Device.setFunc d a b).eqRecords = d.eqRecords := rfl
@[simp] theorem Device.setFunc_upAt (d a b) : (Device.setFunc d a b).upAt = d.upAt := rfl
@[simp] theorem Device.setFunc_wokeAt (d a b) : (Device.setFunc d a b).wokeAt = d.wokeAt := rfl
@[simp] theorem Device.setFunc_fab (d a b) : (Device.setFunc d a b).fab = d.fab := rfl
@[simp] theorem Device.setFunc_spw (d a b) : (Device.setFunc d a b).spw = d.spw := rfl
@[simp] theorem Device.setFunc_feeds (d a b) : (Device.setFunc d a b).feeds = d.feeds := rfl
@[simp] theorem Device.setFunc_can (d a b) : (Device.setFunc d a b).can = d.can := rfl
@[simp] theorem Device.setFunc_throttle (d a b) : (Device.setFunc d a b).throttle = d.throttle := rfl
@[simp] theorem Device.setFunc_counters (d a b) : (Device.setFunc d a b).counters = d.counters := rfl
@[simp] theorem Device.setFunc_cnt (d a b) : (Device.setFunc d a b).cnt = d.cnt := rfl
@[simp] theorem Device.setFunc_jtag (d a b) : (Device.setFunc d a b).jtag = d.jtag := rfl
@[simp] theorem Device.setPci_now (d a b) : (Device.setPci d a b).now = d.now := rfl
@[simp] theorem Device.setPci_devTime (d a b) : (Device.setPci d a b).devTime = d.devTime := rfl
@[simp] theorem Device.setPci_freeCount (d a b) : (Device.setPci d a b).freeCount = d.freeCount := rfl
@[simp] theorem Device.setPci_out (d a b) : (Device.setPci d a b).out = d.out := rfl
@[simp] theorem Device.setPci_lastRun (d a b) : (Device.setPci d a b).lastRun = d.lastRun := rfl
@[simp] theorem Device.setPci_insideAt (d a b) : (Device.setPci d a b).insideAt = d.insideAt := rfl
@[simp] theorem Device.setPci_hiLatch (d a b) : (Device.setPci d a b).hiLatch = d.hiLatch := rfl
@[simp] theorem Device.setPci_glb (d a b) : (Device.setPci d a b).glb = d.glb := rfl
@[simp] theorem Device.setPci_kme (d a b) : (Device.setPci d a b).kme = d.kme := rfl
@[simp] theorem Device.setPci_mbx (d a b) : (Device.setPci d a b).mbx = d.mbx := rfl
@[simp] theorem Device.setPci_msix (d a b) : (Device.setPci d a b).msix = d.msix := rfl
@[simp] theorem Device.setPci_clk (d a b) : (Device.setPci d a b).clk = d.clk := rfl
@[simp] theorem Device.setPci_snapshots (d a b) : (Device.setPci d a b).snapshots = d.snapshots := rfl
@[simp] theorem Device.setPci_bootRecord (d a b) : (Device.setPci d a b).bootRecord = d.bootRecord := rfl
@[simp] theorem Device.setPci_blackBox (d a b) : (Device.setPci d a b).blackBox = d.blackBox := rfl
@[simp] theorem Device.setPci_adit (d a b) : (Device.setPci d a b).adit = d.adit := rfl
@[simp] theorem Device.setPci_ports (d a b) : (Device.setPci d a b).ports = d.ports := rfl
@[simp] theorem Device.setPci_bufs (d a b) : (Device.setPci d a b).bufs = d.bufs := rfl
@[simp] theorem Device.setPci_locks (d a b) : (Device.setPci d a b).locks = d.locks := rfl
@[simp] theorem Device.setPci_xbr (d a b) : (Device.setPci d a b).xbr = d.xbr := rfl
@[simp] theorem Device.setPci_parts (d a b) : (Device.setPci d a b).parts = d.parts := rfl
@[simp] theorem Device.setPci_steers (d a b) : (Device.setPci d a b).steers = d.steers := rfl
@[simp] theorem Device.setPci_sriov (d a b) : (Device.setPci d a b).sriov = d.sriov := rfl
@[simp] theorem Device.setPci_bridges (d a b) : (Device.setPci d a b).bridges = d.bridges := rfl
@[simp] theorem Device.setPci_segs (d a b) : (Device.setPci d a b).segs = d.segs := rfl
@[simp] theorem Device.setPci_act (d a b) : (Device.setPci d a b).act = d.act := rfl
@[simp] theorem Device.setPci_windows (d a b) : (Device.setPci d a b).windows = d.windows := rfl
@[simp] theorem Device.setPci_ntw (d a b) : (Device.setPci d a b).ntw = d.ntw := rfl
@[simp] theorem Device.setPci_dbWaits (d a b) : (Device.setPci d a b).dbWaits = d.dbWaits := rfl
@[simp] theorem Device.setPci_tlm (d a b) : (Device.setPci d a b).tlm = d.tlm := rfl
@[simp] theorem Device.setPci_funcs (d a b) : (Device.setPci d a b).funcs = d.funcs := rfl
@[simp] theorem Device.setPci_ats (d a b) : (Device.setPci d a b).ats = d.ats := rfl
@[simp] theorem Device.setPci_invals (d a b) : (Device.setPci d a b).invals = d.invals := rfl
@[simp] theorem Device.setPci_invalWaits (d a b) : (Device.setPci d a b).invalWaits = d.invalWaits := rfl
@[simp] theorem Device.setPci_atsAsks (d a b) : (Device.setPci d a b).atsAsks = d.atsAsks := rfl
@[simp] theorem Device.setPci_vfPart (d a b) : (Device.setPci d a b).vfPart = d.vfPart := rfl
@[simp] theorem Device.setPci_vfIndex (d a b) : (Device.setPci d a b).vfIndex = d.vfIndex := rfl
@[simp] theorem Device.setPci_remotes (d a b) : (Device.setPci d a b).remotes = d.remotes := rfl
@[simp] theorem Device.setPci_homeSteers (d a b) : (Device.setPci d a b).homeSteers = d.homeSteers := rfl
@[simp] theorem Device.setPci_items (d a b) : (Device.setPci d a b).items = d.items := rfl
@[simp] theorem Device.setPci_issued (d a b) : (Device.setPci d a b).issued = d.issued := rfl
@[simp] theorem Device.setPci_nextId (d a b) : (Device.setPci d a b).nextId = d.nextId := rfl
@[simp] theorem Device.setPci_tracks (d a b) : (Device.setPci d a b).tracks = d.tracks := rfl
@[simp] theorem Device.setPci_journals (d a b) : (Device.setPci d a b).journals = d.journals := rfl
@[simp] theorem Device.setPci_qps (d a b) : (Device.setPci d a b).qps = d.qps := rfl
@[simp] theorem Device.setPci_cqs (d a b) : (Device.setPci d a b).cqs = d.cqs := rfl
@[simp] theorem Device.setPci_regions (d a b) : (Device.setPci d a b).regions = d.regions := rfl
@[simp] theorem Device.setPci_dbPages (d a b) : (Device.setPci d a b).dbPages = d.dbPages := rfl
@[simp] theorem Device.setPci_pools (d a b) : (Device.setPci d a b).pools = d.pools := rfl
@[simp] theorem Device.setPci_missWait (d a b) : (Device.setPci d a b).missWait = d.missWait := rfl
@[simp] theorem Device.setPci_rma (d a b) : (Device.setPci d a b).rma = d.rma := rfl
@[simp] theorem Device.setPci_equeues (d a b) : (Device.setPci d a b).equeues = d.equeues := rfl
@[simp] theorem Device.setPci_eports (d a b) : (Device.setPci d a b).eports = d.eports := rfl
@[simp] theorem Device.setPci_shp (d a b) : (Device.setPci d a b).shp = d.shp := rfl
@[simp] theorem Device.setPci_plk (d a b) : (Device.setPci d a b).plk = d.plk := rfl
@[simp] theorem Device.setPci_lanes (d a b) : (Device.setPci d a b).lanes = d.lanes := rfl
@[simp] theorem Device.setPci_clockPairs (d a b) : (Device.setPci d a b).clockPairs = d.clockPairs := rfl
@[simp] theorem Device.setPci_eqRecords (d a b) : (Device.setPci d a b).eqRecords = d.eqRecords := rfl
@[simp] theorem Device.setPci_upAt (d a b) : (Device.setPci d a b).upAt = d.upAt := rfl
@[simp] theorem Device.setPci_wokeAt (d a b) : (Device.setPci d a b).wokeAt = d.wokeAt := rfl
@[simp] theorem Device.setPci_fab (d a b) : (Device.setPci d a b).fab = d.fab := rfl
@[simp] theorem Device.setPci_spw (d a b) : (Device.setPci d a b).spw = d.spw := rfl
@[simp] theorem Device.setPci_feeds (d a b) : (Device.setPci d a b).feeds = d.feeds := rfl
@[simp] theorem Device.setPci_can (d a b) : (Device.setPci d a b).can = d.can := rfl
@[simp] theorem Device.setPci_throttle (d a b) : (Device.setPci d a b).throttle = d.throttle := rfl
@[simp] theorem Device.setPci_counters (d a b) : (Device.setPci d a b).counters = d.counters := rfl
@[simp] theorem Device.setPci_cnt (d a b) : (Device.setPci d a b).cnt = d.cnt := rfl
@[simp] theorem Device.setPci_jtag (d a b) : (Device.setPci d a b).jtag = d.jtag := rfl
@[simp] theorem Device.setPfl_now (d a b) : (Device.setPfl d a b).now = d.now := rfl
@[simp] theorem Device.setPfl_devTime (d a b) : (Device.setPfl d a b).devTime = d.devTime := rfl
@[simp] theorem Device.setPfl_freeCount (d a b) : (Device.setPfl d a b).freeCount = d.freeCount := rfl
@[simp] theorem Device.setPfl_out (d a b) : (Device.setPfl d a b).out = d.out := rfl
@[simp] theorem Device.setPfl_lastRun (d a b) : (Device.setPfl d a b).lastRun = d.lastRun := rfl
@[simp] theorem Device.setPfl_insideAt (d a b) : (Device.setPfl d a b).insideAt = d.insideAt := rfl
@[simp] theorem Device.setPfl_hiLatch (d a b) : (Device.setPfl d a b).hiLatch = d.hiLatch := rfl
@[simp] theorem Device.setPfl_glb (d a b) : (Device.setPfl d a b).glb = d.glb := rfl
@[simp] theorem Device.setPfl_kme (d a b) : (Device.setPfl d a b).kme = d.kme := rfl
@[simp] theorem Device.setPfl_mbx (d a b) : (Device.setPfl d a b).mbx = d.mbx := rfl
@[simp] theorem Device.setPfl_msix (d a b) : (Device.setPfl d a b).msix = d.msix := rfl
@[simp] theorem Device.setPfl_clk (d a b) : (Device.setPfl d a b).clk = d.clk := rfl
@[simp] theorem Device.setPfl_snapshots (d a b) : (Device.setPfl d a b).snapshots = d.snapshots := rfl
@[simp] theorem Device.setPfl_bootRecord (d a b) : (Device.setPfl d a b).bootRecord = d.bootRecord := rfl
@[simp] theorem Device.setPfl_blackBox (d a b) : (Device.setPfl d a b).blackBox = d.blackBox := rfl
@[simp] theorem Device.setPfl_adit (d a b) : (Device.setPfl d a b).adit = d.adit := rfl
@[simp] theorem Device.setPfl_ports (d a b) : (Device.setPfl d a b).ports = d.ports := rfl
@[simp] theorem Device.setPfl_bufs (d a b) : (Device.setPfl d a b).bufs = d.bufs := rfl
@[simp] theorem Device.setPfl_locks (d a b) : (Device.setPfl d a b).locks = d.locks := rfl
@[simp] theorem Device.setPfl_xbr (d a b) : (Device.setPfl d a b).xbr = d.xbr := rfl
@[simp] theorem Device.setPfl_parts (d a b) : (Device.setPfl d a b).parts = d.parts := rfl
@[simp] theorem Device.setPfl_steers (d a b) : (Device.setPfl d a b).steers = d.steers := rfl
@[simp] theorem Device.setPfl_sriov (d a b) : (Device.setPfl d a b).sriov = d.sriov := rfl
@[simp] theorem Device.setPfl_bridges (d a b) : (Device.setPfl d a b).bridges = d.bridges := rfl
@[simp] theorem Device.setPfl_segs (d a b) : (Device.setPfl d a b).segs = d.segs := rfl
@[simp] theorem Device.setPfl_act (d a b) : (Device.setPfl d a b).act = d.act := rfl
@[simp] theorem Device.setPfl_windows (d a b) : (Device.setPfl d a b).windows = d.windows := rfl
@[simp] theorem Device.setPfl_ntw (d a b) : (Device.setPfl d a b).ntw = d.ntw := rfl
@[simp] theorem Device.setPfl_dbWaits (d a b) : (Device.setPfl d a b).dbWaits = d.dbWaits := rfl
@[simp] theorem Device.setPfl_tlm (d a b) : (Device.setPfl d a b).tlm = d.tlm := rfl
@[simp] theorem Device.setPfl_funcs (d a b) : (Device.setPfl d a b).funcs = d.funcs := rfl
@[simp] theorem Device.setPfl_ats (d a b) : (Device.setPfl d a b).ats = d.ats := rfl
@[simp] theorem Device.setPfl_invals (d a b) : (Device.setPfl d a b).invals = d.invals := rfl
@[simp] theorem Device.setPfl_invalWaits (d a b) : (Device.setPfl d a b).invalWaits = d.invalWaits := rfl
@[simp] theorem Device.setPfl_atsAsks (d a b) : (Device.setPfl d a b).atsAsks = d.atsAsks := rfl
@[simp] theorem Device.setPfl_vfPart (d a b) : (Device.setPfl d a b).vfPart = d.vfPart := rfl
@[simp] theorem Device.setPfl_vfIndex (d a b) : (Device.setPfl d a b).vfIndex = d.vfIndex := rfl
@[simp] theorem Device.setPfl_remotes (d a b) : (Device.setPfl d a b).remotes = d.remotes := rfl
@[simp] theorem Device.setPfl_homeSteers (d a b) : (Device.setPfl d a b).homeSteers = d.homeSteers := rfl
@[simp] theorem Device.setPfl_items (d a b) : (Device.setPfl d a b).items = d.items := rfl
@[simp] theorem Device.setPfl_issued (d a b) : (Device.setPfl d a b).issued = d.issued := rfl
@[simp] theorem Device.setPfl_nextId (d a b) : (Device.setPfl d a b).nextId = d.nextId := rfl
@[simp] theorem Device.setPfl_tracks (d a b) : (Device.setPfl d a b).tracks = d.tracks := rfl
@[simp] theorem Device.setPfl_journals (d a b) : (Device.setPfl d a b).journals = d.journals := rfl
@[simp] theorem Device.setPfl_pcie (d a b) : (Device.setPfl d a b).pcie = d.pcie := rfl
@[simp] theorem Device.setPfl_qps (d a b) : (Device.setPfl d a b).qps = d.qps := rfl
@[simp] theorem Device.setPfl_cqs (d a b) : (Device.setPfl d a b).cqs = d.cqs := rfl
@[simp] theorem Device.setPfl_regions (d a b) : (Device.setPfl d a b).regions = d.regions := rfl
@[simp] theorem Device.setPfl_dbPages (d a b) : (Device.setPfl d a b).dbPages = d.dbPages := rfl
@[simp] theorem Device.setPfl_pools (d a b) : (Device.setPfl d a b).pools = d.pools := rfl
@[simp] theorem Device.setPfl_missWait (d a b) : (Device.setPfl d a b).missWait = d.missWait := rfl
@[simp] theorem Device.setPfl_rma (d a b) : (Device.setPfl d a b).rma = d.rma := rfl
@[simp] theorem Device.setPfl_equeues (d a b) : (Device.setPfl d a b).equeues = d.equeues := rfl
@[simp] theorem Device.setPfl_eports (d a b) : (Device.setPfl d a b).eports = d.eports := rfl
@[simp] theorem Device.setPfl_shp (d a b) : (Device.setPfl d a b).shp = d.shp := rfl
@[simp] theorem Device.setPfl_lanes (d a b) : (Device.setPfl d a b).lanes = d.lanes := rfl
@[simp] theorem Device.setPfl_clockPairs (d a b) : (Device.setPfl d a b).clockPairs = d.clockPairs := rfl
@[simp] theorem Device.setPfl_eqRecords (d a b) : (Device.setPfl d a b).eqRecords = d.eqRecords := rfl
@[simp] theorem Device.setPfl_upAt (d a b) : (Device.setPfl d a b).upAt = d.upAt := rfl
@[simp] theorem Device.setPfl_wokeAt (d a b) : (Device.setPfl d a b).wokeAt = d.wokeAt := rfl
@[simp] theorem Device.setPfl_fab (d a b) : (Device.setPfl d a b).fab = d.fab := rfl
@[simp] theorem Device.setPfl_spw (d a b) : (Device.setPfl d a b).spw = d.spw := rfl
@[simp] theorem Device.setPfl_feeds (d a b) : (Device.setPfl d a b).feeds = d.feeds := rfl
@[simp] theorem Device.setPfl_can (d a b) : (Device.setPfl d a b).can = d.can := rfl
@[simp] theorem Device.setPfl_throttle (d a b) : (Device.setPfl d a b).throttle = d.throttle := rfl
@[simp] theorem Device.setPfl_counters (d a b) : (Device.setPfl d a b).counters = d.counters := rfl
@[simp] theorem Device.setPfl_cnt (d a b) : (Device.setPfl d a b).cnt = d.cnt := rfl
@[simp] theorem Device.setPfl_jtag (d a b) : (Device.setPfl d a b).jtag = d.jtag := rfl
@[simp] theorem Device.setLane_now (d a b) : (Device.setLane d a b).now = d.now := rfl
@[simp] theorem Device.setLane_devTime (d a b) : (Device.setLane d a b).devTime = d.devTime := rfl
@[simp] theorem Device.setLane_freeCount (d a b) : (Device.setLane d a b).freeCount = d.freeCount := rfl
@[simp] theorem Device.setLane_out (d a b) : (Device.setLane d a b).out = d.out := rfl
@[simp] theorem Device.setLane_lastRun (d a b) : (Device.setLane d a b).lastRun = d.lastRun := rfl
@[simp] theorem Device.setLane_insideAt (d a b) : (Device.setLane d a b).insideAt = d.insideAt := rfl
@[simp] theorem Device.setLane_hiLatch (d a b) : (Device.setLane d a b).hiLatch = d.hiLatch := rfl
@[simp] theorem Device.setLane_glb (d a b) : (Device.setLane d a b).glb = d.glb := rfl
@[simp] theorem Device.setLane_kme (d a b) : (Device.setLane d a b).kme = d.kme := rfl
@[simp] theorem Device.setLane_mbx (d a b) : (Device.setLane d a b).mbx = d.mbx := rfl
@[simp] theorem Device.setLane_msix (d a b) : (Device.setLane d a b).msix = d.msix := rfl
@[simp] theorem Device.setLane_clk (d a b) : (Device.setLane d a b).clk = d.clk := rfl
@[simp] theorem Device.setLane_snapshots (d a b) : (Device.setLane d a b).snapshots = d.snapshots := rfl
@[simp] theorem Device.setLane_bootRecord (d a b) : (Device.setLane d a b).bootRecord = d.bootRecord := rfl
@[simp] theorem Device.setLane_blackBox (d a b) : (Device.setLane d a b).blackBox = d.blackBox := rfl
@[simp] theorem Device.setLane_adit (d a b) : (Device.setLane d a b).adit = d.adit := rfl
@[simp] theorem Device.setLane_ports (d a b) : (Device.setLane d a b).ports = d.ports := rfl
@[simp] theorem Device.setLane_bufs (d a b) : (Device.setLane d a b).bufs = d.bufs := rfl
@[simp] theorem Device.setLane_locks (d a b) : (Device.setLane d a b).locks = d.locks := rfl
@[simp] theorem Device.setLane_xbr (d a b) : (Device.setLane d a b).xbr = d.xbr := rfl
@[simp] theorem Device.setLane_parts (d a b) : (Device.setLane d a b).parts = d.parts := rfl
@[simp] theorem Device.setLane_steers (d a b) : (Device.setLane d a b).steers = d.steers := rfl
@[simp] theorem Device.setLane_sriov (d a b) : (Device.setLane d a b).sriov = d.sriov := rfl
@[simp] theorem Device.setLane_bridges (d a b) : (Device.setLane d a b).bridges = d.bridges := rfl
@[simp] theorem Device.setLane_segs (d a b) : (Device.setLane d a b).segs = d.segs := rfl
@[simp] theorem Device.setLane_act (d a b) : (Device.setLane d a b).act = d.act := rfl
@[simp] theorem Device.setLane_windows (d a b) : (Device.setLane d a b).windows = d.windows := rfl
@[simp] theorem Device.setLane_ntw (d a b) : (Device.setLane d a b).ntw = d.ntw := rfl
@[simp] theorem Device.setLane_dbWaits (d a b) : (Device.setLane d a b).dbWaits = d.dbWaits := rfl
@[simp] theorem Device.setLane_tlm (d a b) : (Device.setLane d a b).tlm = d.tlm := rfl
@[simp] theorem Device.setLane_funcs (d a b) : (Device.setLane d a b).funcs = d.funcs := rfl
@[simp] theorem Device.setLane_ats (d a b) : (Device.setLane d a b).ats = d.ats := rfl
@[simp] theorem Device.setLane_invals (d a b) : (Device.setLane d a b).invals = d.invals := rfl
@[simp] theorem Device.setLane_invalWaits (d a b) : (Device.setLane d a b).invalWaits = d.invalWaits := rfl
@[simp] theorem Device.setLane_atsAsks (d a b) : (Device.setLane d a b).atsAsks = d.atsAsks := rfl
@[simp] theorem Device.setLane_vfPart (d a b) : (Device.setLane d a b).vfPart = d.vfPart := rfl
@[simp] theorem Device.setLane_vfIndex (d a b) : (Device.setLane d a b).vfIndex = d.vfIndex := rfl
@[simp] theorem Device.setLane_remotes (d a b) : (Device.setLane d a b).remotes = d.remotes := rfl
@[simp] theorem Device.setLane_homeSteers (d a b) : (Device.setLane d a b).homeSteers = d.homeSteers := rfl
@[simp] theorem Device.setLane_items (d a b) : (Device.setLane d a b).items = d.items := rfl
@[simp] theorem Device.setLane_issued (d a b) : (Device.setLane d a b).issued = d.issued := rfl
@[simp] theorem Device.setLane_nextId (d a b) : (Device.setLane d a b).nextId = d.nextId := rfl
@[simp] theorem Device.setLane_tracks (d a b) : (Device.setLane d a b).tracks = d.tracks := rfl
@[simp] theorem Device.setLane_journals (d a b) : (Device.setLane d a b).journals = d.journals := rfl
@[simp] theorem Device.setLane_pcie (d a b) : (Device.setLane d a b).pcie = d.pcie := rfl
@[simp] theorem Device.setLane_qps (d a b) : (Device.setLane d a b).qps = d.qps := rfl
@[simp] theorem Device.setLane_cqs (d a b) : (Device.setLane d a b).cqs = d.cqs := rfl
@[simp] theorem Device.setLane_regions (d a b) : (Device.setLane d a b).regions = d.regions := rfl
@[simp] theorem Device.setLane_dbPages (d a b) : (Device.setLane d a b).dbPages = d.dbPages := rfl
@[simp] theorem Device.setLane_pools (d a b) : (Device.setLane d a b).pools = d.pools := rfl
@[simp] theorem Device.setLane_missWait (d a b) : (Device.setLane d a b).missWait = d.missWait := rfl
@[simp] theorem Device.setLane_rma (d a b) : (Device.setLane d a b).rma = d.rma := rfl
@[simp] theorem Device.setLane_equeues (d a b) : (Device.setLane d a b).equeues = d.equeues := rfl
@[simp] theorem Device.setLane_eports (d a b) : (Device.setLane d a b).eports = d.eports := rfl
@[simp] theorem Device.setLane_shp (d a b) : (Device.setLane d a b).shp = d.shp := rfl
@[simp] theorem Device.setLane_plk (d a b) : (Device.setLane d a b).plk = d.plk := rfl
@[simp] theorem Device.setLane_clockPairs (d a b) : (Device.setLane d a b).clockPairs = d.clockPairs := rfl
@[simp] theorem Device.setLane_eqRecords (d a b) : (Device.setLane d a b).eqRecords = d.eqRecords := rfl
@[simp] theorem Device.setLane_upAt (d a b) : (Device.setLane d a b).upAt = d.upAt := rfl
@[simp] theorem Device.setLane_wokeAt (d a b) : (Device.setLane d a b).wokeAt = d.wokeAt := rfl
@[simp] theorem Device.setLane_fab (d a b) : (Device.setLane d a b).fab = d.fab := rfl
@[simp] theorem Device.setLane_spw (d a b) : (Device.setLane d a b).spw = d.spw := rfl
@[simp] theorem Device.setLane_feeds (d a b) : (Device.setLane d a b).feeds = d.feeds := rfl
@[simp] theorem Device.setLane_can (d a b) : (Device.setLane d a b).can = d.can := rfl
@[simp] theorem Device.setLane_throttle (d a b) : (Device.setLane d a b).throttle = d.throttle := rfl
@[simp] theorem Device.setLane_counters (d a b) : (Device.setLane d a b).counters = d.counters := rfl
@[simp] theorem Device.setLane_cnt (d a b) : (Device.setLane d a b).cnt = d.cnt := rfl
@[simp] theorem Device.setLane_jtag (d a b) : (Device.setLane d a b).jtag = d.jtag := rfl
@[simp] theorem Device.setBridge_now (d a b) : (Device.setBridge d a b).now = d.now := rfl
@[simp] theorem Device.setBridge_devTime (d a b) : (Device.setBridge d a b).devTime = d.devTime := rfl
@[simp] theorem Device.setBridge_freeCount (d a b) : (Device.setBridge d a b).freeCount = d.freeCount := rfl
@[simp] theorem Device.setBridge_out (d a b) : (Device.setBridge d a b).out = d.out := rfl
@[simp] theorem Device.setBridge_lastRun (d a b) : (Device.setBridge d a b).lastRun = d.lastRun := rfl
@[simp] theorem Device.setBridge_insideAt (d a b) : (Device.setBridge d a b).insideAt = d.insideAt := rfl
@[simp] theorem Device.setBridge_hiLatch (d a b) : (Device.setBridge d a b).hiLatch = d.hiLatch := rfl
@[simp] theorem Device.setBridge_glb (d a b) : (Device.setBridge d a b).glb = d.glb := rfl
@[simp] theorem Device.setBridge_kme (d a b) : (Device.setBridge d a b).kme = d.kme := rfl
@[simp] theorem Device.setBridge_mbx (d a b) : (Device.setBridge d a b).mbx = d.mbx := rfl
@[simp] theorem Device.setBridge_msix (d a b) : (Device.setBridge d a b).msix = d.msix := rfl
@[simp] theorem Device.setBridge_clk (d a b) : (Device.setBridge d a b).clk = d.clk := rfl
@[simp] theorem Device.setBridge_snapshots (d a b) : (Device.setBridge d a b).snapshots = d.snapshots := rfl
@[simp] theorem Device.setBridge_bootRecord (d a b) : (Device.setBridge d a b).bootRecord = d.bootRecord := rfl
@[simp] theorem Device.setBridge_blackBox (d a b) : (Device.setBridge d a b).blackBox = d.blackBox := rfl
@[simp] theorem Device.setBridge_adit (d a b) : (Device.setBridge d a b).adit = d.adit := rfl
@[simp] theorem Device.setBridge_ports (d a b) : (Device.setBridge d a b).ports = d.ports := rfl
@[simp] theorem Device.setBridge_bufs (d a b) : (Device.setBridge d a b).bufs = d.bufs := rfl
@[simp] theorem Device.setBridge_locks (d a b) : (Device.setBridge d a b).locks = d.locks := rfl
@[simp] theorem Device.setBridge_xbr (d a b) : (Device.setBridge d a b).xbr = d.xbr := rfl
@[simp] theorem Device.setBridge_parts (d a b) : (Device.setBridge d a b).parts = d.parts := rfl
@[simp] theorem Device.setBridge_steers (d a b) : (Device.setBridge d a b).steers = d.steers := rfl
@[simp] theorem Device.setBridge_sriov (d a b) : (Device.setBridge d a b).sriov = d.sriov := rfl
@[simp] theorem Device.setBridge_segs (d a b) : (Device.setBridge d a b).segs = d.segs := rfl
@[simp] theorem Device.setBridge_act (d a b) : (Device.setBridge d a b).act = d.act := rfl
@[simp] theorem Device.setBridge_windows (d a b) : (Device.setBridge d a b).windows = d.windows := rfl
@[simp] theorem Device.setBridge_ntw (d a b) : (Device.setBridge d a b).ntw = d.ntw := rfl
@[simp] theorem Device.setBridge_dbWaits (d a b) : (Device.setBridge d a b).dbWaits = d.dbWaits := rfl
@[simp] theorem Device.setBridge_tlm (d a b) : (Device.setBridge d a b).tlm = d.tlm := rfl
@[simp] theorem Device.setBridge_funcs (d a b) : (Device.setBridge d a b).funcs = d.funcs := rfl
@[simp] theorem Device.setBridge_ats (d a b) : (Device.setBridge d a b).ats = d.ats := rfl
@[simp] theorem Device.setBridge_invals (d a b) : (Device.setBridge d a b).invals = d.invals := rfl
@[simp] theorem Device.setBridge_invalWaits (d a b) : (Device.setBridge d a b).invalWaits = d.invalWaits := rfl
@[simp] theorem Device.setBridge_atsAsks (d a b) : (Device.setBridge d a b).atsAsks = d.atsAsks := rfl
@[simp] theorem Device.setBridge_vfPart (d a b) : (Device.setBridge d a b).vfPart = d.vfPart := rfl
@[simp] theorem Device.setBridge_vfIndex (d a b) : (Device.setBridge d a b).vfIndex = d.vfIndex := rfl
@[simp] theorem Device.setBridge_remotes (d a b) : (Device.setBridge d a b).remotes = d.remotes := rfl
@[simp] theorem Device.setBridge_homeSteers (d a b) : (Device.setBridge d a b).homeSteers = d.homeSteers := rfl
@[simp] theorem Device.setBridge_items (d a b) : (Device.setBridge d a b).items = d.items := rfl
@[simp] theorem Device.setBridge_issued (d a b) : (Device.setBridge d a b).issued = d.issued := rfl
@[simp] theorem Device.setBridge_nextId (d a b) : (Device.setBridge d a b).nextId = d.nextId := rfl
@[simp] theorem Device.setBridge_tracks (d a b) : (Device.setBridge d a b).tracks = d.tracks := rfl
@[simp] theorem Device.setBridge_journals (d a b) : (Device.setBridge d a b).journals = d.journals := rfl
@[simp] theorem Device.setBridge_pcie (d a b) : (Device.setBridge d a b).pcie = d.pcie := rfl
@[simp] theorem Device.setBridge_qps (d a b) : (Device.setBridge d a b).qps = d.qps := rfl
@[simp] theorem Device.setBridge_cqs (d a b) : (Device.setBridge d a b).cqs = d.cqs := rfl
@[simp] theorem Device.setBridge_regions (d a b) : (Device.setBridge d a b).regions = d.regions := rfl
@[simp] theorem Device.setBridge_dbPages (d a b) : (Device.setBridge d a b).dbPages = d.dbPages := rfl
@[simp] theorem Device.setBridge_pools (d a b) : (Device.setBridge d a b).pools = d.pools := rfl
@[simp] theorem Device.setBridge_missWait (d a b) : (Device.setBridge d a b).missWait = d.missWait := rfl
@[simp] theorem Device.setBridge_rma (d a b) : (Device.setBridge d a b).rma = d.rma := rfl
@[simp] theorem Device.setBridge_equeues (d a b) : (Device.setBridge d a b).equeues = d.equeues := rfl
@[simp] theorem Device.setBridge_eports (d a b) : (Device.setBridge d a b).eports = d.eports := rfl
@[simp] theorem Device.setBridge_shp (d a b) : (Device.setBridge d a b).shp = d.shp := rfl
@[simp] theorem Device.setBridge_plk (d a b) : (Device.setBridge d a b).plk = d.plk := rfl
@[simp] theorem Device.setBridge_lanes (d a b) : (Device.setBridge d a b).lanes = d.lanes := rfl
@[simp] theorem Device.setBridge_clockPairs (d a b) : (Device.setBridge d a b).clockPairs = d.clockPairs := rfl
@[simp] theorem Device.setBridge_eqRecords (d a b) : (Device.setBridge d a b).eqRecords = d.eqRecords := rfl
@[simp] theorem Device.setBridge_upAt (d a b) : (Device.setBridge d a b).upAt = d.upAt := rfl
@[simp] theorem Device.setBridge_wokeAt (d a b) : (Device.setBridge d a b).wokeAt = d.wokeAt := rfl
@[simp] theorem Device.setBridge_fab (d a b) : (Device.setBridge d a b).fab = d.fab := rfl
@[simp] theorem Device.setBridge_spw (d a b) : (Device.setBridge d a b).spw = d.spw := rfl
@[simp] theorem Device.setBridge_feeds (d a b) : (Device.setBridge d a b).feeds = d.feeds := rfl
@[simp] theorem Device.setBridge_can (d a b) : (Device.setBridge d a b).can = d.can := rfl
@[simp] theorem Device.setBridge_throttle (d a b) : (Device.setBridge d a b).throttle = d.throttle := rfl
@[simp] theorem Device.setBridge_counters (d a b) : (Device.setBridge d a b).counters = d.counters := rfl
@[simp] theorem Device.setBridge_cnt (d a b) : (Device.setBridge d a b).cnt = d.cnt := rfl
@[simp] theorem Device.setBridge_jtag (d a b) : (Device.setBridge d a b).jtag = d.jtag := rfl
@[simp] theorem Device.setChannel_now (d a b) : (Device.setChannel d a b).now = d.now := rfl
@[simp] theorem Device.setChannel_devTime (d a b) : (Device.setChannel d a b).devTime = d.devTime := rfl
@[simp] theorem Device.setChannel_freeCount (d a b) : (Device.setChannel d a b).freeCount = d.freeCount := rfl
@[simp] theorem Device.setChannel_out (d a b) : (Device.setChannel d a b).out = d.out := rfl
@[simp] theorem Device.setChannel_lastRun (d a b) : (Device.setChannel d a b).lastRun = d.lastRun := rfl
@[simp] theorem Device.setChannel_insideAt (d a b) : (Device.setChannel d a b).insideAt = d.insideAt := rfl
@[simp] theorem Device.setChannel_hiLatch (d a b) : (Device.setChannel d a b).hiLatch = d.hiLatch := rfl
@[simp] theorem Device.setChannel_glb (d a b) : (Device.setChannel d a b).glb = d.glb := rfl
@[simp] theorem Device.setChannel_kme (d a b) : (Device.setChannel d a b).kme = d.kme := rfl
@[simp] theorem Device.setChannel_mbx (d a b) : (Device.setChannel d a b).mbx = d.mbx := rfl
@[simp] theorem Device.setChannel_msix (d a b) : (Device.setChannel d a b).msix = d.msix := rfl
@[simp] theorem Device.setChannel_clk (d a b) : (Device.setChannel d a b).clk = d.clk := rfl
@[simp] theorem Device.setChannel_snapshots (d a b) : (Device.setChannel d a b).snapshots = d.snapshots := rfl
@[simp] theorem Device.setChannel_bootRecord (d a b) : (Device.setChannel d a b).bootRecord = d.bootRecord := rfl
@[simp] theorem Device.setChannel_blackBox (d a b) : (Device.setChannel d a b).blackBox = d.blackBox := rfl
@[simp] theorem Device.setChannel_adit (d a b) : (Device.setChannel d a b).adit = d.adit := rfl
@[simp] theorem Device.setChannel_ports (d a b) : (Device.setChannel d a b).ports = d.ports := rfl
@[simp] theorem Device.setChannel_bufs (d a b) : (Device.setChannel d a b).bufs = d.bufs := rfl
@[simp] theorem Device.setChannel_locks (d a b) : (Device.setChannel d a b).locks = d.locks := rfl
@[simp] theorem Device.setChannel_xbr (d a b) : (Device.setChannel d a b).xbr = d.xbr := rfl
@[simp] theorem Device.setChannel_parts (d a b) : (Device.setChannel d a b).parts = d.parts := rfl
@[simp] theorem Device.setChannel_steers (d a b) : (Device.setChannel d a b).steers = d.steers := rfl
@[simp] theorem Device.setChannel_sriov (d a b) : (Device.setChannel d a b).sriov = d.sriov := rfl
@[simp] theorem Device.setChannel_bridges (d a b) : (Device.setChannel d a b).bridges = d.bridges := rfl
@[simp] theorem Device.setChannel_segs (d a b) : (Device.setChannel d a b).segs = d.segs := rfl
@[simp] theorem Device.setChannel_act (d a b) : (Device.setChannel d a b).act = d.act := rfl
@[simp] theorem Device.setChannel_windows (d a b) : (Device.setChannel d a b).windows = d.windows := rfl
@[simp] theorem Device.setChannel_ntw (d a b) : (Device.setChannel d a b).ntw = d.ntw := rfl
@[simp] theorem Device.setChannel_dbWaits (d a b) : (Device.setChannel d a b).dbWaits = d.dbWaits := rfl
@[simp] theorem Device.setChannel_tlm (d a b) : (Device.setChannel d a b).tlm = d.tlm := rfl
@[simp] theorem Device.setChannel_funcs (d a b) : (Device.setChannel d a b).funcs = d.funcs := rfl
@[simp] theorem Device.setChannel_ats (d a b) : (Device.setChannel d a b).ats = d.ats := rfl
@[simp] theorem Device.setChannel_invals (d a b) : (Device.setChannel d a b).invals = d.invals := rfl
@[simp] theorem Device.setChannel_invalWaits (d a b) : (Device.setChannel d a b).invalWaits = d.invalWaits := rfl
@[simp] theorem Device.setChannel_atsAsks (d a b) : (Device.setChannel d a b).atsAsks = d.atsAsks := rfl
@[simp] theorem Device.setChannel_vfPart (d a b) : (Device.setChannel d a b).vfPart = d.vfPart := rfl
@[simp] theorem Device.setChannel_vfIndex (d a b) : (Device.setChannel d a b).vfIndex = d.vfIndex := rfl
@[simp] theorem Device.setChannel_remotes (d a b) : (Device.setChannel d a b).remotes = d.remotes := rfl
@[simp] theorem Device.setChannel_homeSteers (d a b) : (Device.setChannel d a b).homeSteers = d.homeSteers := rfl
@[simp] theorem Device.setChannel_items (d a b) : (Device.setChannel d a b).items = d.items := rfl
@[simp] theorem Device.setChannel_issued (d a b) : (Device.setChannel d a b).issued = d.issued := rfl
@[simp] theorem Device.setChannel_nextId (d a b) : (Device.setChannel d a b).nextId = d.nextId := rfl
@[simp] theorem Device.setChannel_tracks (d a b) : (Device.setChannel d a b).tracks = d.tracks := rfl
@[simp] theorem Device.setChannel_journals (d a b) : (Device.setChannel d a b).journals = d.journals := rfl
@[simp] theorem Device.setChannel_pcie (d a b) : (Device.setChannel d a b).pcie = d.pcie := rfl
@[simp] theorem Device.setChannel_qps (d a b) : (Device.setChannel d a b).qps = d.qps := rfl
@[simp] theorem Device.setChannel_cqs (d a b) : (Device.setChannel d a b).cqs = d.cqs := rfl
@[simp] theorem Device.setChannel_regions (d a b) : (Device.setChannel d a b).regions = d.regions := rfl
@[simp] theorem Device.setChannel_dbPages (d a b) : (Device.setChannel d a b).dbPages = d.dbPages := rfl
@[simp] theorem Device.setChannel_pools (d a b) : (Device.setChannel d a b).pools = d.pools := rfl
@[simp] theorem Device.setChannel_missWait (d a b) : (Device.setChannel d a b).missWait = d.missWait := rfl
@[simp] theorem Device.setChannel_rma (d a b) : (Device.setChannel d a b).rma = d.rma := rfl
@[simp] theorem Device.setChannel_equeues (d a b) : (Device.setChannel d a b).equeues = d.equeues := rfl
@[simp] theorem Device.setChannel_eports (d a b) : (Device.setChannel d a b).eports = d.eports := rfl
@[simp] theorem Device.setChannel_shp (d a b) : (Device.setChannel d a b).shp = d.shp := rfl
@[simp] theorem Device.setChannel_plk (d a b) : (Device.setChannel d a b).plk = d.plk := rfl
@[simp] theorem Device.setChannel_lanes (d a b) : (Device.setChannel d a b).lanes = d.lanes := rfl
@[simp] theorem Device.setChannel_clockPairs (d a b) : (Device.setChannel d a b).clockPairs = d.clockPairs := rfl
@[simp] theorem Device.setChannel_eqRecords (d a b) : (Device.setChannel d a b).eqRecords = d.eqRecords := rfl
@[simp] theorem Device.setChannel_upAt (d a b) : (Device.setChannel d a b).upAt = d.upAt := rfl
@[simp] theorem Device.setChannel_wokeAt (d a b) : (Device.setChannel d a b).wokeAt = d.wokeAt := rfl
@[simp] theorem Device.setChannel_fab (d a b) : (Device.setChannel d a b).fab = d.fab := rfl
@[simp] theorem Device.setChannel_feeds (d a b) : (Device.setChannel d a b).feeds = d.feeds := rfl
@[simp] theorem Device.setChannel_can (d a b) : (Device.setChannel d a b).can = d.can := rfl
@[simp] theorem Device.setChannel_throttle (d a b) : (Device.setChannel d a b).throttle = d.throttle := rfl
@[simp] theorem Device.setChannel_counters (d a b) : (Device.setChannel d a b).counters = d.counters := rfl
@[simp] theorem Device.setChannel_cnt (d a b) : (Device.setChannel d a b).cnt = d.cnt := rfl
@[simp] theorem Device.setChannel_jtag (d a b) : (Device.setChannel d a b).jtag = d.jtag := rfl
@[simp] theorem Device.setJournal_now (d a b) : (Device.setJournal d a b).now = d.now := rfl
@[simp] theorem Device.setJournal_devTime (d a b) : (Device.setJournal d a b).devTime = d.devTime := rfl
@[simp] theorem Device.setJournal_freeCount (d a b) : (Device.setJournal d a b).freeCount = d.freeCount := rfl
@[simp] theorem Device.setJournal_out (d a b) : (Device.setJournal d a b).out = d.out := rfl
@[simp] theorem Device.setJournal_lastRun (d a b) : (Device.setJournal d a b).lastRun = d.lastRun := rfl
@[simp] theorem Device.setJournal_insideAt (d a b) : (Device.setJournal d a b).insideAt = d.insideAt := rfl
@[simp] theorem Device.setJournal_hiLatch (d a b) : (Device.setJournal d a b).hiLatch = d.hiLatch := rfl
@[simp] theorem Device.setJournal_glb (d a b) : (Device.setJournal d a b).glb = d.glb := rfl
@[simp] theorem Device.setJournal_kme (d a b) : (Device.setJournal d a b).kme = d.kme := rfl
@[simp] theorem Device.setJournal_mbx (d a b) : (Device.setJournal d a b).mbx = d.mbx := rfl
@[simp] theorem Device.setJournal_msix (d a b) : (Device.setJournal d a b).msix = d.msix := rfl
@[simp] theorem Device.setJournal_clk (d a b) : (Device.setJournal d a b).clk = d.clk := rfl
@[simp] theorem Device.setJournal_snapshots (d a b) : (Device.setJournal d a b).snapshots = d.snapshots := rfl
@[simp] theorem Device.setJournal_bootRecord (d a b) : (Device.setJournal d a b).bootRecord = d.bootRecord := rfl
@[simp] theorem Device.setJournal_blackBox (d a b) : (Device.setJournal d a b).blackBox = d.blackBox := rfl
@[simp] theorem Device.setJournal_adit (d a b) : (Device.setJournal d a b).adit = d.adit := rfl
@[simp] theorem Device.setJournal_ports (d a b) : (Device.setJournal d a b).ports = d.ports := rfl
@[simp] theorem Device.setJournal_bufs (d a b) : (Device.setJournal d a b).bufs = d.bufs := rfl
@[simp] theorem Device.setJournal_locks (d a b) : (Device.setJournal d a b).locks = d.locks := rfl
@[simp] theorem Device.setJournal_xbr (d a b) : (Device.setJournal d a b).xbr = d.xbr := rfl
@[simp] theorem Device.setJournal_parts (d a b) : (Device.setJournal d a b).parts = d.parts := rfl
@[simp] theorem Device.setJournal_steers (d a b) : (Device.setJournal d a b).steers = d.steers := rfl
@[simp] theorem Device.setJournal_sriov (d a b) : (Device.setJournal d a b).sriov = d.sriov := rfl
@[simp] theorem Device.setJournal_bridges (d a b) : (Device.setJournal d a b).bridges = d.bridges := rfl
@[simp] theorem Device.setJournal_segs (d a b) : (Device.setJournal d a b).segs = d.segs := rfl
@[simp] theorem Device.setJournal_act (d a b) : (Device.setJournal d a b).act = d.act := rfl
@[simp] theorem Device.setJournal_windows (d a b) : (Device.setJournal d a b).windows = d.windows := rfl
@[simp] theorem Device.setJournal_ntw (d a b) : (Device.setJournal d a b).ntw = d.ntw := rfl
@[simp] theorem Device.setJournal_dbWaits (d a b) : (Device.setJournal d a b).dbWaits = d.dbWaits := rfl
@[simp] theorem Device.setJournal_tlm (d a b) : (Device.setJournal d a b).tlm = d.tlm := rfl
@[simp] theorem Device.setJournal_funcs (d a b) : (Device.setJournal d a b).funcs = d.funcs := rfl
@[simp] theorem Device.setJournal_ats (d a b) : (Device.setJournal d a b).ats = d.ats := rfl
@[simp] theorem Device.setJournal_invals (d a b) : (Device.setJournal d a b).invals = d.invals := rfl
@[simp] theorem Device.setJournal_invalWaits (d a b) : (Device.setJournal d a b).invalWaits = d.invalWaits := rfl
@[simp] theorem Device.setJournal_atsAsks (d a b) : (Device.setJournal d a b).atsAsks = d.atsAsks := rfl
@[simp] theorem Device.setJournal_vfPart (d a b) : (Device.setJournal d a b).vfPart = d.vfPart := rfl
@[simp] theorem Device.setJournal_vfIndex (d a b) : (Device.setJournal d a b).vfIndex = d.vfIndex := rfl
@[simp] theorem Device.setJournal_remotes (d a b) : (Device.setJournal d a b).remotes = d.remotes := rfl
@[simp] theorem Device.setJournal_homeSteers (d a b) : (Device.setJournal d a b).homeSteers = d.homeSteers := rfl
@[simp] theorem Device.setJournal_items (d a b) : (Device.setJournal d a b).items = d.items := rfl
@[simp] theorem Device.setJournal_issued (d a b) : (Device.setJournal d a b).issued = d.issued := rfl
@[simp] theorem Device.setJournal_nextId (d a b) : (Device.setJournal d a b).nextId = d.nextId := rfl
@[simp] theorem Device.setJournal_tracks (d a b) : (Device.setJournal d a b).tracks = d.tracks := rfl
@[simp] theorem Device.setJournal_pcie (d a b) : (Device.setJournal d a b).pcie = d.pcie := rfl
@[simp] theorem Device.setJournal_qps (d a b) : (Device.setJournal d a b).qps = d.qps := rfl
@[simp] theorem Device.setJournal_cqs (d a b) : (Device.setJournal d a b).cqs = d.cqs := rfl
@[simp] theorem Device.setJournal_regions (d a b) : (Device.setJournal d a b).regions = d.regions := rfl
@[simp] theorem Device.setJournal_dbPages (d a b) : (Device.setJournal d a b).dbPages = d.dbPages := rfl
@[simp] theorem Device.setJournal_pools (d a b) : (Device.setJournal d a b).pools = d.pools := rfl
@[simp] theorem Device.setJournal_missWait (d a b) : (Device.setJournal d a b).missWait = d.missWait := rfl
@[simp] theorem Device.setJournal_rma (d a b) : (Device.setJournal d a b).rma = d.rma := rfl
@[simp] theorem Device.setJournal_equeues (d a b) : (Device.setJournal d a b).equeues = d.equeues := rfl
@[simp] theorem Device.setJournal_eports (d a b) : (Device.setJournal d a b).eports = d.eports := rfl
@[simp] theorem Device.setJournal_shp (d a b) : (Device.setJournal d a b).shp = d.shp := rfl
@[simp] theorem Device.setJournal_plk (d a b) : (Device.setJournal d a b).plk = d.plk := rfl
@[simp] theorem Device.setJournal_lanes (d a b) : (Device.setJournal d a b).lanes = d.lanes := rfl
@[simp] theorem Device.setJournal_clockPairs (d a b) : (Device.setJournal d a b).clockPairs = d.clockPairs := rfl
@[simp] theorem Device.setJournal_eqRecords (d a b) : (Device.setJournal d a b).eqRecords = d.eqRecords := rfl
@[simp] theorem Device.setJournal_upAt (d a b) : (Device.setJournal d a b).upAt = d.upAt := rfl
@[simp] theorem Device.setJournal_wokeAt (d a b) : (Device.setJournal d a b).wokeAt = d.wokeAt := rfl
@[simp] theorem Device.setJournal_fab (d a b) : (Device.setJournal d a b).fab = d.fab := rfl
@[simp] theorem Device.setJournal_spw (d a b) : (Device.setJournal d a b).spw = d.spw := rfl
@[simp] theorem Device.setJournal_feeds (d a b) : (Device.setJournal d a b).feeds = d.feeds := rfl
@[simp] theorem Device.setJournal_can (d a b) : (Device.setJournal d a b).can = d.can := rfl
@[simp] theorem Device.setJournal_throttle (d a b) : (Device.setJournal d a b).throttle = d.throttle := rfl
@[simp] theorem Device.setJournal_counters (d a b) : (Device.setJournal d a b).counters = d.counters := rfl
@[simp] theorem Device.setJournal_cnt (d a b) : (Device.setJournal d a b).cnt = d.cnt := rfl
@[simp] theorem Device.setJournal_jtag (d a b) : (Device.setJournal d a b).jtag = d.jtag := rfl
@[simp] theorem Device.setRoute_now (d a b) : (Device.setRoute d a b).now = d.now := rfl
@[simp] theorem Device.setRoute_devTime (d a b) : (Device.setRoute d a b).devTime = d.devTime := rfl
@[simp] theorem Device.setRoute_freeCount (d a b) : (Device.setRoute d a b).freeCount = d.freeCount := rfl
@[simp] theorem Device.setRoute_out (d a b) : (Device.setRoute d a b).out = d.out := rfl
@[simp] theorem Device.setRoute_lastRun (d a b) : (Device.setRoute d a b).lastRun = d.lastRun := rfl
@[simp] theorem Device.setRoute_insideAt (d a b) : (Device.setRoute d a b).insideAt = d.insideAt := rfl
@[simp] theorem Device.setRoute_hiLatch (d a b) : (Device.setRoute d a b).hiLatch = d.hiLatch := rfl
@[simp] theorem Device.setRoute_glb (d a b) : (Device.setRoute d a b).glb = d.glb := rfl
@[simp] theorem Device.setRoute_kme (d a b) : (Device.setRoute d a b).kme = d.kme := rfl
@[simp] theorem Device.setRoute_mbx (d a b) : (Device.setRoute d a b).mbx = d.mbx := rfl
@[simp] theorem Device.setRoute_msix (d a b) : (Device.setRoute d a b).msix = d.msix := rfl
@[simp] theorem Device.setRoute_clk (d a b) : (Device.setRoute d a b).clk = d.clk := rfl
@[simp] theorem Device.setRoute_snapshots (d a b) : (Device.setRoute d a b).snapshots = d.snapshots := rfl
@[simp] theorem Device.setRoute_bootRecord (d a b) : (Device.setRoute d a b).bootRecord = d.bootRecord := rfl
@[simp] theorem Device.setRoute_blackBox (d a b) : (Device.setRoute d a b).blackBox = d.blackBox := rfl
@[simp] theorem Device.setRoute_adit (d a b) : (Device.setRoute d a b).adit = d.adit := rfl
@[simp] theorem Device.setRoute_ports (d a b) : (Device.setRoute d a b).ports = d.ports := rfl
@[simp] theorem Device.setRoute_bufs (d a b) : (Device.setRoute d a b).bufs = d.bufs := rfl
@[simp] theorem Device.setRoute_locks (d a b) : (Device.setRoute d a b).locks = d.locks := rfl
@[simp] theorem Device.setRoute_xbr (d a b) : (Device.setRoute d a b).xbr = d.xbr := rfl
@[simp] theorem Device.setRoute_parts (d a b) : (Device.setRoute d a b).parts = d.parts := rfl
@[simp] theorem Device.setRoute_steers (d a b) : (Device.setRoute d a b).steers = d.steers := rfl
@[simp] theorem Device.setRoute_sriov (d a b) : (Device.setRoute d a b).sriov = d.sriov := rfl
@[simp] theorem Device.setRoute_bridges (d a b) : (Device.setRoute d a b).bridges = d.bridges := rfl
@[simp] theorem Device.setRoute_segs (d a b) : (Device.setRoute d a b).segs = d.segs := rfl
@[simp] theorem Device.setRoute_act (d a b) : (Device.setRoute d a b).act = d.act := rfl
@[simp] theorem Device.setRoute_windows (d a b) : (Device.setRoute d a b).windows = d.windows := rfl
@[simp] theorem Device.setRoute_ntw (d a b) : (Device.setRoute d a b).ntw = d.ntw := rfl
@[simp] theorem Device.setRoute_dbWaits (d a b) : (Device.setRoute d a b).dbWaits = d.dbWaits := rfl
@[simp] theorem Device.setRoute_tlm (d a b) : (Device.setRoute d a b).tlm = d.tlm := rfl
@[simp] theorem Device.setRoute_funcs (d a b) : (Device.setRoute d a b).funcs = d.funcs := rfl
@[simp] theorem Device.setRoute_ats (d a b) : (Device.setRoute d a b).ats = d.ats := rfl
@[simp] theorem Device.setRoute_invals (d a b) : (Device.setRoute d a b).invals = d.invals := rfl
@[simp] theorem Device.setRoute_invalWaits (d a b) : (Device.setRoute d a b).invalWaits = d.invalWaits := rfl
@[simp] theorem Device.setRoute_atsAsks (d a b) : (Device.setRoute d a b).atsAsks = d.atsAsks := rfl
@[simp] theorem Device.setRoute_vfPart (d a b) : (Device.setRoute d a b).vfPart = d.vfPart := rfl
@[simp] theorem Device.setRoute_vfIndex (d a b) : (Device.setRoute d a b).vfIndex = d.vfIndex := rfl
@[simp] theorem Device.setRoute_remotes (d a b) : (Device.setRoute d a b).remotes = d.remotes := rfl
@[simp] theorem Device.setRoute_homeSteers (d a b) : (Device.setRoute d a b).homeSteers = d.homeSteers := rfl
@[simp] theorem Device.setRoute_items (d a b) : (Device.setRoute d a b).items = d.items := rfl
@[simp] theorem Device.setRoute_issued (d a b) : (Device.setRoute d a b).issued = d.issued := rfl
@[simp] theorem Device.setRoute_nextId (d a b) : (Device.setRoute d a b).nextId = d.nextId := rfl
@[simp] theorem Device.setRoute_tracks (d a b) : (Device.setRoute d a b).tracks = d.tracks := rfl
@[simp] theorem Device.setRoute_journals (d a b) : (Device.setRoute d a b).journals = d.journals := rfl
@[simp] theorem Device.setRoute_pcie (d a b) : (Device.setRoute d a b).pcie = d.pcie := rfl
@[simp] theorem Device.setRoute_qps (d a b) : (Device.setRoute d a b).qps = d.qps := rfl
@[simp] theorem Device.setRoute_cqs (d a b) : (Device.setRoute d a b).cqs = d.cqs := rfl
@[simp] theorem Device.setRoute_regions (d a b) : (Device.setRoute d a b).regions = d.regions := rfl
@[simp] theorem Device.setRoute_dbPages (d a b) : (Device.setRoute d a b).dbPages = d.dbPages := rfl
@[simp] theorem Device.setRoute_pools (d a b) : (Device.setRoute d a b).pools = d.pools := rfl
@[simp] theorem Device.setRoute_missWait (d a b) : (Device.setRoute d a b).missWait = d.missWait := rfl
@[simp] theorem Device.setRoute_rma (d a b) : (Device.setRoute d a b).rma = d.rma := rfl
@[simp] theorem Device.setRoute_equeues (d a b) : (Device.setRoute d a b).equeues = d.equeues := rfl
@[simp] theorem Device.setRoute_eports (d a b) : (Device.setRoute d a b).eports = d.eports := rfl
@[simp] theorem Device.setRoute_shp (d a b) : (Device.setRoute d a b).shp = d.shp := rfl
@[simp] theorem Device.setRoute_plk (d a b) : (Device.setRoute d a b).plk = d.plk := rfl
@[simp] theorem Device.setRoute_lanes (d a b) : (Device.setRoute d a b).lanes = d.lanes := rfl
@[simp] theorem Device.setRoute_clockPairs (d a b) : (Device.setRoute d a b).clockPairs = d.clockPairs := rfl
@[simp] theorem Device.setRoute_eqRecords (d a b) : (Device.setRoute d a b).eqRecords = d.eqRecords := rfl
@[simp] theorem Device.setRoute_upAt (d a b) : (Device.setRoute d a b).upAt = d.upAt := rfl
@[simp] theorem Device.setRoute_wokeAt (d a b) : (Device.setRoute d a b).wokeAt = d.wokeAt := rfl
@[simp] theorem Device.setRoute_spw (d a b) : (Device.setRoute d a b).spw = d.spw := rfl
@[simp] theorem Device.setRoute_feeds (d a b) : (Device.setRoute d a b).feeds = d.feeds := rfl
@[simp] theorem Device.setRoute_can (d a b) : (Device.setRoute d a b).can = d.can := rfl
@[simp] theorem Device.setRoute_throttle (d a b) : (Device.setRoute d a b).throttle = d.throttle := rfl
@[simp] theorem Device.setRoute_counters (d a b) : (Device.setRoute d a b).counters = d.counters := rfl
@[simp] theorem Device.setRoute_cnt (d a b) : (Device.setRoute d a b).cnt = d.cnt := rfl
@[simp] theorem Device.setRoute_jtag (d a b) : (Device.setRoute d a b).jtag = d.jtag := rfl
@[simp] theorem Device.setSteer_now (d a b) : (Device.setSteer d a b).now = d.now := rfl
@[simp] theorem Device.setSteer_devTime (d a b) : (Device.setSteer d a b).devTime = d.devTime := rfl
@[simp] theorem Device.setSteer_freeCount (d a b) : (Device.setSteer d a b).freeCount = d.freeCount := rfl
@[simp] theorem Device.setSteer_out (d a b) : (Device.setSteer d a b).out = d.out := rfl
@[simp] theorem Device.setSteer_lastRun (d a b) : (Device.setSteer d a b).lastRun = d.lastRun := rfl
@[simp] theorem Device.setSteer_insideAt (d a b) : (Device.setSteer d a b).insideAt = d.insideAt := rfl
@[simp] theorem Device.setSteer_hiLatch (d a b) : (Device.setSteer d a b).hiLatch = d.hiLatch := rfl
@[simp] theorem Device.setSteer_glb (d a b) : (Device.setSteer d a b).glb = d.glb := rfl
@[simp] theorem Device.setSteer_kme (d a b) : (Device.setSteer d a b).kme = d.kme := rfl
@[simp] theorem Device.setSteer_mbx (d a b) : (Device.setSteer d a b).mbx = d.mbx := rfl
@[simp] theorem Device.setSteer_msix (d a b) : (Device.setSteer d a b).msix = d.msix := rfl
@[simp] theorem Device.setSteer_clk (d a b) : (Device.setSteer d a b).clk = d.clk := rfl
@[simp] theorem Device.setSteer_snapshots (d a b) : (Device.setSteer d a b).snapshots = d.snapshots := rfl
@[simp] theorem Device.setSteer_bootRecord (d a b) : (Device.setSteer d a b).bootRecord = d.bootRecord := rfl
@[simp] theorem Device.setSteer_blackBox (d a b) : (Device.setSteer d a b).blackBox = d.blackBox := rfl
@[simp] theorem Device.setSteer_adit (d a b) : (Device.setSteer d a b).adit = d.adit := rfl
@[simp] theorem Device.setSteer_ports (d a b) : (Device.setSteer d a b).ports = d.ports := rfl
@[simp] theorem Device.setSteer_bufs (d a b) : (Device.setSteer d a b).bufs = d.bufs := rfl
@[simp] theorem Device.setSteer_locks (d a b) : (Device.setSteer d a b).locks = d.locks := rfl
@[simp] theorem Device.setSteer_xbr (d a b) : (Device.setSteer d a b).xbr = d.xbr := rfl
@[simp] theorem Device.setSteer_parts (d a b) : (Device.setSteer d a b).parts = d.parts := rfl
@[simp] theorem Device.setSteer_sriov (d a b) : (Device.setSteer d a b).sriov = d.sriov := rfl
@[simp] theorem Device.setSteer_bridges (d a b) : (Device.setSteer d a b).bridges = d.bridges := rfl
@[simp] theorem Device.setSteer_segs (d a b) : (Device.setSteer d a b).segs = d.segs := rfl
@[simp] theorem Device.setSteer_act (d a b) : (Device.setSteer d a b).act = d.act := rfl
@[simp] theorem Device.setSteer_windows (d a b) : (Device.setSteer d a b).windows = d.windows := rfl
@[simp] theorem Device.setSteer_ntw (d a b) : (Device.setSteer d a b).ntw = d.ntw := rfl
@[simp] theorem Device.setSteer_dbWaits (d a b) : (Device.setSteer d a b).dbWaits = d.dbWaits := rfl
@[simp] theorem Device.setSteer_tlm (d a b) : (Device.setSteer d a b).tlm = d.tlm := rfl
@[simp] theorem Device.setSteer_funcs (d a b) : (Device.setSteer d a b).funcs = d.funcs := rfl
@[simp] theorem Device.setSteer_ats (d a b) : (Device.setSteer d a b).ats = d.ats := rfl
@[simp] theorem Device.setSteer_invals (d a b) : (Device.setSteer d a b).invals = d.invals := rfl
@[simp] theorem Device.setSteer_invalWaits (d a b) : (Device.setSteer d a b).invalWaits = d.invalWaits := rfl
@[simp] theorem Device.setSteer_atsAsks (d a b) : (Device.setSteer d a b).atsAsks = d.atsAsks := rfl
@[simp] theorem Device.setSteer_vfPart (d a b) : (Device.setSteer d a b).vfPart = d.vfPart := rfl
@[simp] theorem Device.setSteer_vfIndex (d a b) : (Device.setSteer d a b).vfIndex = d.vfIndex := rfl
@[simp] theorem Device.setSteer_remotes (d a b) : (Device.setSteer d a b).remotes = d.remotes := rfl
@[simp] theorem Device.setSteer_homeSteers (d a b) : (Device.setSteer d a b).homeSteers = d.homeSteers := rfl
@[simp] theorem Device.setSteer_items (d a b) : (Device.setSteer d a b).items = d.items := rfl
@[simp] theorem Device.setSteer_issued (d a b) : (Device.setSteer d a b).issued = d.issued := rfl
@[simp] theorem Device.setSteer_nextId (d a b) : (Device.setSteer d a b).nextId = d.nextId := rfl
@[simp] theorem Device.setSteer_tracks (d a b) : (Device.setSteer d a b).tracks = d.tracks := rfl
@[simp] theorem Device.setSteer_journals (d a b) : (Device.setSteer d a b).journals = d.journals := rfl
@[simp] theorem Device.setSteer_pcie (d a b) : (Device.setSteer d a b).pcie = d.pcie := rfl
@[simp] theorem Device.setSteer_qps (d a b) : (Device.setSteer d a b).qps = d.qps := rfl
@[simp] theorem Device.setSteer_cqs (d a b) : (Device.setSteer d a b).cqs = d.cqs := rfl
@[simp] theorem Device.setSteer_regions (d a b) : (Device.setSteer d a b).regions = d.regions := rfl
@[simp] theorem Device.setSteer_dbPages (d a b) : (Device.setSteer d a b).dbPages = d.dbPages := rfl
@[simp] theorem Device.setSteer_pools (d a b) : (Device.setSteer d a b).pools = d.pools := rfl
@[simp] theorem Device.setSteer_missWait (d a b) : (Device.setSteer d a b).missWait = d.missWait := rfl
@[simp] theorem Device.setSteer_rma (d a b) : (Device.setSteer d a b).rma = d.rma := rfl
@[simp] theorem Device.setSteer_equeues (d a b) : (Device.setSteer d a b).equeues = d.equeues := rfl
@[simp] theorem Device.setSteer_eports (d a b) : (Device.setSteer d a b).eports = d.eports := rfl
@[simp] theorem Device.setSteer_shp (d a b) : (Device.setSteer d a b).shp = d.shp := rfl
@[simp] theorem Device.setSteer_plk (d a b) : (Device.setSteer d a b).plk = d.plk := rfl
@[simp] theorem Device.setSteer_lanes (d a b) : (Device.setSteer d a b).lanes = d.lanes := rfl
@[simp] theorem Device.setSteer_clockPairs (d a b) : (Device.setSteer d a b).clockPairs = d.clockPairs := rfl
@[simp] theorem Device.setSteer_eqRecords (d a b) : (Device.setSteer d a b).eqRecords = d.eqRecords := rfl
@[simp] theorem Device.setSteer_upAt (d a b) : (Device.setSteer d a b).upAt = d.upAt := rfl
@[simp] theorem Device.setSteer_wokeAt (d a b) : (Device.setSteer d a b).wokeAt = d.wokeAt := rfl
@[simp] theorem Device.setSteer_fab (d a b) : (Device.setSteer d a b).fab = d.fab := rfl
@[simp] theorem Device.setSteer_spw (d a b) : (Device.setSteer d a b).spw = d.spw := rfl
@[simp] theorem Device.setSteer_feeds (d a b) : (Device.setSteer d a b).feeds = d.feeds := rfl
@[simp] theorem Device.setSteer_can (d a b) : (Device.setSteer d a b).can = d.can := rfl
@[simp] theorem Device.setSteer_throttle (d a b) : (Device.setSteer d a b).throttle = d.throttle := rfl
@[simp] theorem Device.setSteer_counters (d a b) : (Device.setSteer d a b).counters = d.counters := rfl
@[simp] theorem Device.setSteer_cnt (d a b) : (Device.setSteer d a b).cnt = d.cnt := rfl
@[simp] theorem Device.setSteer_jtag (d a b) : (Device.setSteer d a b).jtag = d.jtag := rfl
@[simp] theorem Device.setEport_now (d a b) : (Device.setEport d a b).now = d.now := rfl
@[simp] theorem Device.setEport_devTime (d a b) : (Device.setEport d a b).devTime = d.devTime := rfl
@[simp] theorem Device.setEport_freeCount (d a b) : (Device.setEport d a b).freeCount = d.freeCount := rfl
@[simp] theorem Device.setEport_out (d a b) : (Device.setEport d a b).out = d.out := rfl
@[simp] theorem Device.setEport_lastRun (d a b) : (Device.setEport d a b).lastRun = d.lastRun := rfl
@[simp] theorem Device.setEport_insideAt (d a b) : (Device.setEport d a b).insideAt = d.insideAt := rfl
@[simp] theorem Device.setEport_hiLatch (d a b) : (Device.setEport d a b).hiLatch = d.hiLatch := rfl
@[simp] theorem Device.setEport_glb (d a b) : (Device.setEport d a b).glb = d.glb := rfl
@[simp] theorem Device.setEport_kme (d a b) : (Device.setEport d a b).kme = d.kme := rfl
@[simp] theorem Device.setEport_mbx (d a b) : (Device.setEport d a b).mbx = d.mbx := rfl
@[simp] theorem Device.setEport_msix (d a b) : (Device.setEport d a b).msix = d.msix := rfl
@[simp] theorem Device.setEport_clk (d a b) : (Device.setEport d a b).clk = d.clk := rfl
@[simp] theorem Device.setEport_snapshots (d a b) : (Device.setEport d a b).snapshots = d.snapshots := rfl
@[simp] theorem Device.setEport_bootRecord (d a b) : (Device.setEport d a b).bootRecord = d.bootRecord := rfl
@[simp] theorem Device.setEport_blackBox (d a b) : (Device.setEport d a b).blackBox = d.blackBox := rfl
@[simp] theorem Device.setEport_adit (d a b) : (Device.setEport d a b).adit = d.adit := rfl
@[simp] theorem Device.setEport_ports (d a b) : (Device.setEport d a b).ports = d.ports := rfl
@[simp] theorem Device.setEport_bufs (d a b) : (Device.setEport d a b).bufs = d.bufs := rfl
@[simp] theorem Device.setEport_locks (d a b) : (Device.setEport d a b).locks = d.locks := rfl
@[simp] theorem Device.setEport_xbr (d a b) : (Device.setEport d a b).xbr = d.xbr := rfl
@[simp] theorem Device.setEport_parts (d a b) : (Device.setEport d a b).parts = d.parts := rfl
@[simp] theorem Device.setEport_steers (d a b) : (Device.setEport d a b).steers = d.steers := rfl
@[simp] theorem Device.setEport_sriov (d a b) : (Device.setEport d a b).sriov = d.sriov := rfl
@[simp] theorem Device.setEport_bridges (d a b) : (Device.setEport d a b).bridges = d.bridges := rfl
@[simp] theorem Device.setEport_segs (d a b) : (Device.setEport d a b).segs = d.segs := rfl
@[simp] theorem Device.setEport_act (d a b) : (Device.setEport d a b).act = d.act := rfl
@[simp] theorem Device.setEport_windows (d a b) : (Device.setEport d a b).windows = d.windows := rfl
@[simp] theorem Device.setEport_ntw (d a b) : (Device.setEport d a b).ntw = d.ntw := rfl
@[simp] theorem Device.setEport_dbWaits (d a b) : (Device.setEport d a b).dbWaits = d.dbWaits := rfl
@[simp] theorem Device.setEport_tlm (d a b) : (Device.setEport d a b).tlm = d.tlm := rfl
@[simp] theorem Device.setEport_funcs (d a b) : (Device.setEport d a b).funcs = d.funcs := rfl
@[simp] theorem Device.setEport_ats (d a b) : (Device.setEport d a b).ats = d.ats := rfl
@[simp] theorem Device.setEport_invals (d a b) : (Device.setEport d a b).invals = d.invals := rfl
@[simp] theorem Device.setEport_invalWaits (d a b) : (Device.setEport d a b).invalWaits = d.invalWaits := rfl
@[simp] theorem Device.setEport_atsAsks (d a b) : (Device.setEport d a b).atsAsks = d.atsAsks := rfl
@[simp] theorem Device.setEport_vfPart (d a b) : (Device.setEport d a b).vfPart = d.vfPart := rfl
@[simp] theorem Device.setEport_vfIndex (d a b) : (Device.setEport d a b).vfIndex = d.vfIndex := rfl
@[simp] theorem Device.setEport_remotes (d a b) : (Device.setEport d a b).remotes = d.remotes := rfl
@[simp] theorem Device.setEport_homeSteers (d a b) : (Device.setEport d a b).homeSteers = d.homeSteers := rfl
@[simp] theorem Device.setEport_items (d a b) : (Device.setEport d a b).items = d.items := rfl
@[simp] theorem Device.setEport_issued (d a b) : (Device.setEport d a b).issued = d.issued := rfl
@[simp] theorem Device.setEport_nextId (d a b) : (Device.setEport d a b).nextId = d.nextId := rfl
@[simp] theorem Device.setEport_tracks (d a b) : (Device.setEport d a b).tracks = d.tracks := rfl
@[simp] theorem Device.setEport_journals (d a b) : (Device.setEport d a b).journals = d.journals := rfl
@[simp] theorem Device.setEport_pcie (d a b) : (Device.setEport d a b).pcie = d.pcie := rfl
@[simp] theorem Device.setEport_qps (d a b) : (Device.setEport d a b).qps = d.qps := rfl
@[simp] theorem Device.setEport_cqs (d a b) : (Device.setEport d a b).cqs = d.cqs := rfl
@[simp] theorem Device.setEport_regions (d a b) : (Device.setEport d a b).regions = d.regions := rfl
@[simp] theorem Device.setEport_dbPages (d a b) : (Device.setEport d a b).dbPages = d.dbPages := rfl
@[simp] theorem Device.setEport_pools (d a b) : (Device.setEport d a b).pools = d.pools := rfl
@[simp] theorem Device.setEport_missWait (d a b) : (Device.setEport d a b).missWait = d.missWait := rfl
@[simp] theorem Device.setEport_rma (d a b) : (Device.setEport d a b).rma = d.rma := rfl
@[simp] theorem Device.setEport_equeues (d a b) : (Device.setEport d a b).equeues = d.equeues := rfl
@[simp] theorem Device.setEport_shp (d a b) : (Device.setEport d a b).shp = d.shp := rfl
@[simp] theorem Device.setEport_plk (d a b) : (Device.setEport d a b).plk = d.plk := rfl
@[simp] theorem Device.setEport_lanes (d a b) : (Device.setEport d a b).lanes = d.lanes := rfl
@[simp] theorem Device.setEport_clockPairs (d a b) : (Device.setEport d a b).clockPairs = d.clockPairs := rfl
@[simp] theorem Device.setEport_eqRecords (d a b) : (Device.setEport d a b).eqRecords = d.eqRecords := rfl
@[simp] theorem Device.setEport_upAt (d a b) : (Device.setEport d a b).upAt = d.upAt := rfl
@[simp] theorem Device.setEport_wokeAt (d a b) : (Device.setEport d a b).wokeAt = d.wokeAt := rfl
@[simp] theorem Device.setEport_fab (d a b) : (Device.setEport d a b).fab = d.fab := rfl
@[simp] theorem Device.setEport_spw (d a b) : (Device.setEport d a b).spw = d.spw := rfl
@[simp] theorem Device.setEport_feeds (d a b) : (Device.setEport d a b).feeds = d.feeds := rfl
@[simp] theorem Device.setEport_can (d a b) : (Device.setEport d a b).can = d.can := rfl
@[simp] theorem Device.setEport_throttle (d a b) : (Device.setEport d a b).throttle = d.throttle := rfl
@[simp] theorem Device.setEport_counters (d a b) : (Device.setEport d a b).counters = d.counters := rfl
@[simp] theorem Device.setEport_cnt (d a b) : (Device.setEport d a b).cnt = d.cnt := rfl
@[simp] theorem Device.setEport_jtag (d a b) : (Device.setEport d a b).jtag = d.jtag := rfl
@[simp] theorem Device.setEqueue_now (d a b c) : (Device.setEqueue d a b c).now = d.now := rfl
@[simp] theorem Device.setEqueue_devTime (d a b c) : (Device.setEqueue d a b c).devTime = d.devTime := rfl
@[simp] theorem Device.setEqueue_freeCount (d a b c) : (Device.setEqueue d a b c).freeCount = d.freeCount := rfl
@[simp] theorem Device.setEqueue_out (d a b c) : (Device.setEqueue d a b c).out = d.out := rfl
@[simp] theorem Device.setEqueue_lastRun (d a b c) : (Device.setEqueue d a b c).lastRun = d.lastRun := rfl
@[simp] theorem Device.setEqueue_insideAt (d a b c) : (Device.setEqueue d a b c).insideAt = d.insideAt := rfl
@[simp] theorem Device.setEqueue_hiLatch (d a b c) : (Device.setEqueue d a b c).hiLatch = d.hiLatch := rfl
@[simp] theorem Device.setEqueue_glb (d a b c) : (Device.setEqueue d a b c).glb = d.glb := rfl
@[simp] theorem Device.setEqueue_kme (d a b c) : (Device.setEqueue d a b c).kme = d.kme := rfl
@[simp] theorem Device.setEqueue_mbx (d a b c) : (Device.setEqueue d a b c).mbx = d.mbx := rfl
@[simp] theorem Device.setEqueue_msix (d a b c) : (Device.setEqueue d a b c).msix = d.msix := rfl
@[simp] theorem Device.setEqueue_clk (d a b c) : (Device.setEqueue d a b c).clk = d.clk := rfl
@[simp] theorem Device.setEqueue_snapshots (d a b c) : (Device.setEqueue d a b c).snapshots = d.snapshots := rfl
@[simp] theorem Device.setEqueue_bootRecord (d a b c) : (Device.setEqueue d a b c).bootRecord = d.bootRecord := rfl
@[simp] theorem Device.setEqueue_blackBox (d a b c) : (Device.setEqueue d a b c).blackBox = d.blackBox := rfl
@[simp] theorem Device.setEqueue_adit (d a b c) : (Device.setEqueue d a b c).adit = d.adit := rfl
@[simp] theorem Device.setEqueue_ports (d a b c) : (Device.setEqueue d a b c).ports = d.ports := rfl
@[simp] theorem Device.setEqueue_bufs (d a b c) : (Device.setEqueue d a b c).bufs = d.bufs := rfl
@[simp] theorem Device.setEqueue_locks (d a b c) : (Device.setEqueue d a b c).locks = d.locks := rfl
@[simp] theorem Device.setEqueue_xbr (d a b c) : (Device.setEqueue d a b c).xbr = d.xbr := rfl
@[simp] theorem Device.setEqueue_parts (d a b c) : (Device.setEqueue d a b c).parts = d.parts := rfl
@[simp] theorem Device.setEqueue_steers (d a b c) : (Device.setEqueue d a b c).steers = d.steers := rfl
@[simp] theorem Device.setEqueue_sriov (d a b c) : (Device.setEqueue d a b c).sriov = d.sriov := rfl
@[simp] theorem Device.setEqueue_bridges (d a b c) : (Device.setEqueue d a b c).bridges = d.bridges := rfl
@[simp] theorem Device.setEqueue_segs (d a b c) : (Device.setEqueue d a b c).segs = d.segs := rfl
@[simp] theorem Device.setEqueue_act (d a b c) : (Device.setEqueue d a b c).act = d.act := rfl
@[simp] theorem Device.setEqueue_windows (d a b c) : (Device.setEqueue d a b c).windows = d.windows := rfl
@[simp] theorem Device.setEqueue_ntw (d a b c) : (Device.setEqueue d a b c).ntw = d.ntw := rfl
@[simp] theorem Device.setEqueue_dbWaits (d a b c) : (Device.setEqueue d a b c).dbWaits = d.dbWaits := rfl
@[simp] theorem Device.setEqueue_tlm (d a b c) : (Device.setEqueue d a b c).tlm = d.tlm := rfl
@[simp] theorem Device.setEqueue_funcs (d a b c) : (Device.setEqueue d a b c).funcs = d.funcs := rfl
@[simp] theorem Device.setEqueue_ats (d a b c) : (Device.setEqueue d a b c).ats = d.ats := rfl
@[simp] theorem Device.setEqueue_invals (d a b c) : (Device.setEqueue d a b c).invals = d.invals := rfl
@[simp] theorem Device.setEqueue_invalWaits (d a b c) : (Device.setEqueue d a b c).invalWaits = d.invalWaits := rfl
@[simp] theorem Device.setEqueue_atsAsks (d a b c) : (Device.setEqueue d a b c).atsAsks = d.atsAsks := rfl
@[simp] theorem Device.setEqueue_vfPart (d a b c) : (Device.setEqueue d a b c).vfPart = d.vfPart := rfl
@[simp] theorem Device.setEqueue_vfIndex (d a b c) : (Device.setEqueue d a b c).vfIndex = d.vfIndex := rfl
@[simp] theorem Device.setEqueue_remotes (d a b c) : (Device.setEqueue d a b c).remotes = d.remotes := rfl
@[simp] theorem Device.setEqueue_homeSteers (d a b c) : (Device.setEqueue d a b c).homeSteers = d.homeSteers := rfl
@[simp] theorem Device.setEqueue_items (d a b c) : (Device.setEqueue d a b c).items = d.items := rfl
@[simp] theorem Device.setEqueue_issued (d a b c) : (Device.setEqueue d a b c).issued = d.issued := rfl
@[simp] theorem Device.setEqueue_nextId (d a b c) : (Device.setEqueue d a b c).nextId = d.nextId := rfl
@[simp] theorem Device.setEqueue_tracks (d a b c) : (Device.setEqueue d a b c).tracks = d.tracks := rfl
@[simp] theorem Device.setEqueue_journals (d a b c) : (Device.setEqueue d a b c).journals = d.journals := rfl
@[simp] theorem Device.setEqueue_pcie (d a b c) : (Device.setEqueue d a b c).pcie = d.pcie := rfl
@[simp] theorem Device.setEqueue_qps (d a b c) : (Device.setEqueue d a b c).qps = d.qps := rfl
@[simp] theorem Device.setEqueue_cqs (d a b c) : (Device.setEqueue d a b c).cqs = d.cqs := rfl
@[simp] theorem Device.setEqueue_regions (d a b c) : (Device.setEqueue d a b c).regions = d.regions := rfl
@[simp] theorem Device.setEqueue_dbPages (d a b c) : (Device.setEqueue d a b c).dbPages = d.dbPages := rfl
@[simp] theorem Device.setEqueue_pools (d a b c) : (Device.setEqueue d a b c).pools = d.pools := rfl
@[simp] theorem Device.setEqueue_missWait (d a b c) : (Device.setEqueue d a b c).missWait = d.missWait := rfl
@[simp] theorem Device.setEqueue_rma (d a b c) : (Device.setEqueue d a b c).rma = d.rma := rfl
@[simp] theorem Device.setEqueue_eports (d a b c) : (Device.setEqueue d a b c).eports = d.eports := rfl
@[simp] theorem Device.setEqueue_shp (d a b c) : (Device.setEqueue d a b c).shp = d.shp := rfl
@[simp] theorem Device.setEqueue_plk (d a b c) : (Device.setEqueue d a b c).plk = d.plk := rfl
@[simp] theorem Device.setEqueue_lanes (d a b c) : (Device.setEqueue d a b c).lanes = d.lanes := rfl
@[simp] theorem Device.setEqueue_clockPairs (d a b c) : (Device.setEqueue d a b c).clockPairs = d.clockPairs := rfl
@[simp] theorem Device.setEqueue_eqRecords (d a b c) : (Device.setEqueue d a b c).eqRecords = d.eqRecords := rfl
@[simp] theorem Device.setEqueue_upAt (d a b c) : (Device.setEqueue d a b c).upAt = d.upAt := rfl
@[simp] theorem Device.setEqueue_wokeAt (d a b c) : (Device.setEqueue d a b c).wokeAt = d.wokeAt := rfl
@[simp] theorem Device.setEqueue_fab (d a b c) : (Device.setEqueue d a b c).fab = d.fab := rfl
@[simp] theorem Device.setEqueue_spw (d a b c) : (Device.setEqueue d a b c).spw = d.spw := rfl
@[simp] theorem Device.setEqueue_feeds (d a b c) : (Device.setEqueue d a b c).feeds = d.feeds := rfl
@[simp] theorem Device.setEqueue_can (d a b c) : (Device.setEqueue d a b c).can = d.can := rfl
@[simp] theorem Device.setEqueue_throttle (d a b c) : (Device.setEqueue d a b c).throttle = d.throttle := rfl
@[simp] theorem Device.setEqueue_counters (d a b c) : (Device.setEqueue d a b c).counters = d.counters := rfl
@[simp] theorem Device.setEqueue_cnt (d a b c) : (Device.setEqueue d a b c).cnt = d.cnt := rfl
@[simp] theorem Device.setEqueue_jtag (d a b c) : (Device.setEqueue d a b c).jtag = d.jtag := rfl
@[simp] theorem Device.setCounter_now (d a b) : (Device.setCounter d a b).now = d.now := rfl
@[simp] theorem Device.setCounter_devTime (d a b) : (Device.setCounter d a b).devTime = d.devTime := rfl
@[simp] theorem Device.setCounter_freeCount (d a b) : (Device.setCounter d a b).freeCount = d.freeCount := rfl
@[simp] theorem Device.setCounter_out (d a b) : (Device.setCounter d a b).out = d.out := rfl
@[simp] theorem Device.setCounter_lastRun (d a b) : (Device.setCounter d a b).lastRun = d.lastRun := rfl
@[simp] theorem Device.setCounter_insideAt (d a b) : (Device.setCounter d a b).insideAt = d.insideAt := rfl
@[simp] theorem Device.setCounter_hiLatch (d a b) : (Device.setCounter d a b).hiLatch = d.hiLatch := rfl
@[simp] theorem Device.setCounter_glb (d a b) : (Device.setCounter d a b).glb = d.glb := rfl
@[simp] theorem Device.setCounter_kme (d a b) : (Device.setCounter d a b).kme = d.kme := rfl
@[simp] theorem Device.setCounter_mbx (d a b) : (Device.setCounter d a b).mbx = d.mbx := rfl
@[simp] theorem Device.setCounter_msix (d a b) : (Device.setCounter d a b).msix = d.msix := rfl
@[simp] theorem Device.setCounter_clk (d a b) : (Device.setCounter d a b).clk = d.clk := rfl
@[simp] theorem Device.setCounter_snapshots (d a b) : (Device.setCounter d a b).snapshots = d.snapshots := rfl
@[simp] theorem Device.setCounter_bootRecord (d a b) : (Device.setCounter d a b).bootRecord = d.bootRecord := rfl
@[simp] theorem Device.setCounter_blackBox (d a b) : (Device.setCounter d a b).blackBox = d.blackBox := rfl
@[simp] theorem Device.setCounter_adit (d a b) : (Device.setCounter d a b).adit = d.adit := rfl
@[simp] theorem Device.setCounter_ports (d a b) : (Device.setCounter d a b).ports = d.ports := rfl
@[simp] theorem Device.setCounter_bufs (d a b) : (Device.setCounter d a b).bufs = d.bufs := rfl
@[simp] theorem Device.setCounter_locks (d a b) : (Device.setCounter d a b).locks = d.locks := rfl
@[simp] theorem Device.setCounter_xbr (d a b) : (Device.setCounter d a b).xbr = d.xbr := rfl
@[simp] theorem Device.setCounter_parts (d a b) : (Device.setCounter d a b).parts = d.parts := rfl
@[simp] theorem Device.setCounter_steers (d a b) : (Device.setCounter d a b).steers = d.steers := rfl
@[simp] theorem Device.setCounter_sriov (d a b) : (Device.setCounter d a b).sriov = d.sriov := rfl
@[simp] theorem Device.setCounter_bridges (d a b) : (Device.setCounter d a b).bridges = d.bridges := rfl
@[simp] theorem Device.setCounter_segs (d a b) : (Device.setCounter d a b).segs = d.segs := rfl
@[simp] theorem Device.setCounter_act (d a b) : (Device.setCounter d a b).act = d.act := rfl
@[simp] theorem Device.setCounter_windows (d a b) : (Device.setCounter d a b).windows = d.windows := rfl
@[simp] theorem Device.setCounter_ntw (d a b) : (Device.setCounter d a b).ntw = d.ntw := rfl
@[simp] theorem Device.setCounter_dbWaits (d a b) : (Device.setCounter d a b).dbWaits = d.dbWaits := rfl
@[simp] theorem Device.setCounter_tlm (d a b) : (Device.setCounter d a b).tlm = d.tlm := rfl
@[simp] theorem Device.setCounter_funcs (d a b) : (Device.setCounter d a b).funcs = d.funcs := rfl
@[simp] theorem Device.setCounter_ats (d a b) : (Device.setCounter d a b).ats = d.ats := rfl
@[simp] theorem Device.setCounter_invals (d a b) : (Device.setCounter d a b).invals = d.invals := rfl
@[simp] theorem Device.setCounter_invalWaits (d a b) : (Device.setCounter d a b).invalWaits = d.invalWaits := rfl
@[simp] theorem Device.setCounter_atsAsks (d a b) : (Device.setCounter d a b).atsAsks = d.atsAsks := rfl
@[simp] theorem Device.setCounter_vfPart (d a b) : (Device.setCounter d a b).vfPart = d.vfPart := rfl
@[simp] theorem Device.setCounter_vfIndex (d a b) : (Device.setCounter d a b).vfIndex = d.vfIndex := rfl
@[simp] theorem Device.setCounter_remotes (d a b) : (Device.setCounter d a b).remotes = d.remotes := rfl
@[simp] theorem Device.setCounter_homeSteers (d a b) : (Device.setCounter d a b).homeSteers = d.homeSteers := rfl
@[simp] theorem Device.setCounter_items (d a b) : (Device.setCounter d a b).items = d.items := rfl
@[simp] theorem Device.setCounter_issued (d a b) : (Device.setCounter d a b).issued = d.issued := rfl
@[simp] theorem Device.setCounter_nextId (d a b) : (Device.setCounter d a b).nextId = d.nextId := rfl
@[simp] theorem Device.setCounter_tracks (d a b) : (Device.setCounter d a b).tracks = d.tracks := rfl
@[simp] theorem Device.setCounter_journals (d a b) : (Device.setCounter d a b).journals = d.journals := rfl
@[simp] theorem Device.setCounter_pcie (d a b) : (Device.setCounter d a b).pcie = d.pcie := rfl
@[simp] theorem Device.setCounter_qps (d a b) : (Device.setCounter d a b).qps = d.qps := rfl
@[simp] theorem Device.setCounter_cqs (d a b) : (Device.setCounter d a b).cqs = d.cqs := rfl
@[simp] theorem Device.setCounter_regions (d a b) : (Device.setCounter d a b).regions = d.regions := rfl
@[simp] theorem Device.setCounter_dbPages (d a b) : (Device.setCounter d a b).dbPages = d.dbPages := rfl
@[simp] theorem Device.setCounter_pools (d a b) : (Device.setCounter d a b).pools = d.pools := rfl
@[simp] theorem Device.setCounter_missWait (d a b) : (Device.setCounter d a b).missWait = d.missWait := rfl
@[simp] theorem Device.setCounter_rma (d a b) : (Device.setCounter d a b).rma = d.rma := rfl
@[simp] theorem Device.setCounter_equeues (d a b) : (Device.setCounter d a b).equeues = d.equeues := rfl
@[simp] theorem Device.setCounter_eports (d a b) : (Device.setCounter d a b).eports = d.eports := rfl
@[simp] theorem Device.setCounter_shp (d a b) : (Device.setCounter d a b).shp = d.shp := rfl
@[simp] theorem Device.setCounter_plk (d a b) : (Device.setCounter d a b).plk = d.plk := rfl
@[simp] theorem Device.setCounter_lanes (d a b) : (Device.setCounter d a b).lanes = d.lanes := rfl
@[simp] theorem Device.setCounter_clockPairs (d a b) : (Device.setCounter d a b).clockPairs = d.clockPairs := rfl
@[simp] theorem Device.setCounter_eqRecords (d a b) : (Device.setCounter d a b).eqRecords = d.eqRecords := rfl
@[simp] theorem Device.setCounter_upAt (d a b) : (Device.setCounter d a b).upAt = d.upAt := rfl
@[simp] theorem Device.setCounter_wokeAt (d a b) : (Device.setCounter d a b).wokeAt = d.wokeAt := rfl
@[simp] theorem Device.setCounter_fab (d a b) : (Device.setCounter d a b).fab = d.fab := rfl
@[simp] theorem Device.setCounter_spw (d a b) : (Device.setCounter d a b).spw = d.spw := rfl
@[simp] theorem Device.setCounter_feeds (d a b) : (Device.setCounter d a b).feeds = d.feeds := rfl
@[simp] theorem Device.setCounter_can (d a b) : (Device.setCounter d a b).can = d.can := rfl
@[simp] theorem Device.setCounter_throttle (d a b) : (Device.setCounter d a b).throttle = d.throttle := rfl
@[simp] theorem Device.setCounter_cnt (d a b) : (Device.setCounter d a b).cnt = d.cnt := rfl
@[simp] theorem Device.setCounter_jtag (d a b) : (Device.setCounter d a b).jtag = d.jtag := rfl
@[simp] theorem Device.setPair_now (d a b) : (Device.setPair d a b).now = d.now := rfl
@[simp] theorem Device.setPair_devTime (d a b) : (Device.setPair d a b).devTime = d.devTime := rfl
@[simp] theorem Device.setPair_freeCount (d a b) : (Device.setPair d a b).freeCount = d.freeCount := rfl
@[simp] theorem Device.setPair_out (d a b) : (Device.setPair d a b).out = d.out := rfl
@[simp] theorem Device.setPair_lastRun (d a b) : (Device.setPair d a b).lastRun = d.lastRun := rfl
@[simp] theorem Device.setPair_insideAt (d a b) : (Device.setPair d a b).insideAt = d.insideAt := rfl
@[simp] theorem Device.setPair_hiLatch (d a b) : (Device.setPair d a b).hiLatch = d.hiLatch := rfl
@[simp] theorem Device.setPair_glb (d a b) : (Device.setPair d a b).glb = d.glb := rfl
@[simp] theorem Device.setPair_kme (d a b) : (Device.setPair d a b).kme = d.kme := rfl
@[simp] theorem Device.setPair_mbx (d a b) : (Device.setPair d a b).mbx = d.mbx := rfl
@[simp] theorem Device.setPair_msix (d a b) : (Device.setPair d a b).msix = d.msix := rfl
@[simp] theorem Device.setPair_clk (d a b) : (Device.setPair d a b).clk = d.clk := rfl
@[simp] theorem Device.setPair_snapshots (d a b) : (Device.setPair d a b).snapshots = d.snapshots := rfl
@[simp] theorem Device.setPair_bootRecord (d a b) : (Device.setPair d a b).bootRecord = d.bootRecord := rfl
@[simp] theorem Device.setPair_blackBox (d a b) : (Device.setPair d a b).blackBox = d.blackBox := rfl
@[simp] theorem Device.setPair_adit (d a b) : (Device.setPair d a b).adit = d.adit := rfl
@[simp] theorem Device.setPair_ports (d a b) : (Device.setPair d a b).ports = d.ports := rfl
@[simp] theorem Device.setPair_bufs (d a b) : (Device.setPair d a b).bufs = d.bufs := rfl
@[simp] theorem Device.setPair_locks (d a b) : (Device.setPair d a b).locks = d.locks := rfl
@[simp] theorem Device.setPair_xbr (d a b) : (Device.setPair d a b).xbr = d.xbr := rfl
@[simp] theorem Device.setPair_parts (d a b) : (Device.setPair d a b).parts = d.parts := rfl
@[simp] theorem Device.setPair_steers (d a b) : (Device.setPair d a b).steers = d.steers := rfl
@[simp] theorem Device.setPair_sriov (d a b) : (Device.setPair d a b).sriov = d.sriov := rfl
@[simp] theorem Device.setPair_bridges (d a b) : (Device.setPair d a b).bridges = d.bridges := rfl
@[simp] theorem Device.setPair_segs (d a b) : (Device.setPair d a b).segs = d.segs := rfl
@[simp] theorem Device.setPair_act (d a b) : (Device.setPair d a b).act = d.act := rfl
@[simp] theorem Device.setPair_windows (d a b) : (Device.setPair d a b).windows = d.windows := rfl
@[simp] theorem Device.setPair_ntw (d a b) : (Device.setPair d a b).ntw = d.ntw := rfl
@[simp] theorem Device.setPair_dbWaits (d a b) : (Device.setPair d a b).dbWaits = d.dbWaits := rfl
@[simp] theorem Device.setPair_tlm (d a b) : (Device.setPair d a b).tlm = d.tlm := rfl
@[simp] theorem Device.setPair_funcs (d a b) : (Device.setPair d a b).funcs = d.funcs := rfl
@[simp] theorem Device.setPair_ats (d a b) : (Device.setPair d a b).ats = d.ats := rfl
@[simp] theorem Device.setPair_invals (d a b) : (Device.setPair d a b).invals = d.invals := rfl
@[simp] theorem Device.setPair_invalWaits (d a b) : (Device.setPair d a b).invalWaits = d.invalWaits := rfl
@[simp] theorem Device.setPair_atsAsks (d a b) : (Device.setPair d a b).atsAsks = d.atsAsks := rfl
@[simp] theorem Device.setPair_vfPart (d a b) : (Device.setPair d a b).vfPart = d.vfPart := rfl
@[simp] theorem Device.setPair_vfIndex (d a b) : (Device.setPair d a b).vfIndex = d.vfIndex := rfl
@[simp] theorem Device.setPair_remotes (d a b) : (Device.setPair d a b).remotes = d.remotes := rfl
@[simp] theorem Device.setPair_homeSteers (d a b) : (Device.setPair d a b).homeSteers = d.homeSteers := rfl
@[simp] theorem Device.setPair_items (d a b) : (Device.setPair d a b).items = d.items := rfl
@[simp] theorem Device.setPair_issued (d a b) : (Device.setPair d a b).issued = d.issued := rfl
@[simp] theorem Device.setPair_nextId (d a b) : (Device.setPair d a b).nextId = d.nextId := rfl
@[simp] theorem Device.setPair_tracks (d a b) : (Device.setPair d a b).tracks = d.tracks := rfl
@[simp] theorem Device.setPair_journals (d a b) : (Device.setPair d a b).journals = d.journals := rfl
@[simp] theorem Device.setPair_pcie (d a b) : (Device.setPair d a b).pcie = d.pcie := rfl
@[simp] theorem Device.setPair_qps (d a b) : (Device.setPair d a b).qps = d.qps := rfl
@[simp] theorem Device.setPair_cqs (d a b) : (Device.setPair d a b).cqs = d.cqs := rfl
@[simp] theorem Device.setPair_regions (d a b) : (Device.setPair d a b).regions = d.regions := rfl
@[simp] theorem Device.setPair_dbPages (d a b) : (Device.setPair d a b).dbPages = d.dbPages := rfl
@[simp] theorem Device.setPair_pools (d a b) : (Device.setPair d a b).pools = d.pools := rfl
@[simp] theorem Device.setPair_missWait (d a b) : (Device.setPair d a b).missWait = d.missWait := rfl
@[simp] theorem Device.setPair_rma (d a b) : (Device.setPair d a b).rma = d.rma := rfl
@[simp] theorem Device.setPair_equeues (d a b) : (Device.setPair d a b).equeues = d.equeues := rfl
@[simp] theorem Device.setPair_eports (d a b) : (Device.setPair d a b).eports = d.eports := rfl
@[simp] theorem Device.setPair_shp (d a b) : (Device.setPair d a b).shp = d.shp := rfl
@[simp] theorem Device.setPair_plk (d a b) : (Device.setPair d a b).plk = d.plk := rfl
@[simp] theorem Device.setPair_lanes (d a b) : (Device.setPair d a b).lanes = d.lanes := rfl
@[simp] theorem Device.setPair_eqRecords (d a b) : (Device.setPair d a b).eqRecords = d.eqRecords := rfl
@[simp] theorem Device.setPair_upAt (d a b) : (Device.setPair d a b).upAt = d.upAt := rfl
@[simp] theorem Device.setPair_wokeAt (d a b) : (Device.setPair d a b).wokeAt = d.wokeAt := rfl
@[simp] theorem Device.setPair_fab (d a b) : (Device.setPair d a b).fab = d.fab := rfl
@[simp] theorem Device.setPair_spw (d a b) : (Device.setPair d a b).spw = d.spw := rfl
@[simp] theorem Device.setPair_feeds (d a b) : (Device.setPair d a b).feeds = d.feeds := rfl
@[simp] theorem Device.setPair_can (d a b) : (Device.setPair d a b).can = d.can := rfl
@[simp] theorem Device.setPair_throttle (d a b) : (Device.setPair d a b).throttle = d.throttle := rfl
@[simp] theorem Device.setPair_counters (d a b) : (Device.setPair d a b).counters = d.counters := rfl
@[simp] theorem Device.setPair_cnt (d a b) : (Device.setPair d a b).cnt = d.cnt := rfl
@[simp] theorem Device.setPair_jtag (d a b) : (Device.setPair d a b).jtag = d.jtag := rfl
@[simp] theorem Device.setTlm_now (d a b) : (Device.setTlm d a b).now = d.now := rfl
@[simp] theorem Device.setTlm_devTime (d a b) : (Device.setTlm d a b).devTime = d.devTime := rfl
@[simp] theorem Device.setTlm_freeCount (d a b) : (Device.setTlm d a b).freeCount = d.freeCount := rfl
@[simp] theorem Device.setTlm_out (d a b) : (Device.setTlm d a b).out = d.out := rfl
@[simp] theorem Device.setTlm_lastRun (d a b) : (Device.setTlm d a b).lastRun = d.lastRun := rfl
@[simp] theorem Device.setTlm_insideAt (d a b) : (Device.setTlm d a b).insideAt = d.insideAt := rfl
@[simp] theorem Device.setTlm_hiLatch (d a b) : (Device.setTlm d a b).hiLatch = d.hiLatch := rfl
@[simp] theorem Device.setTlm_glb (d a b) : (Device.setTlm d a b).glb = d.glb := rfl
@[simp] theorem Device.setTlm_kme (d a b) : (Device.setTlm d a b).kme = d.kme := rfl
@[simp] theorem Device.setTlm_mbx (d a b) : (Device.setTlm d a b).mbx = d.mbx := rfl
@[simp] theorem Device.setTlm_msix (d a b) : (Device.setTlm d a b).msix = d.msix := rfl
@[simp] theorem Device.setTlm_clk (d a b) : (Device.setTlm d a b).clk = d.clk := rfl
@[simp] theorem Device.setTlm_snapshots (d a b) : (Device.setTlm d a b).snapshots = d.snapshots := rfl
@[simp] theorem Device.setTlm_bootRecord (d a b) : (Device.setTlm d a b).bootRecord = d.bootRecord := rfl
@[simp] theorem Device.setTlm_blackBox (d a b) : (Device.setTlm d a b).blackBox = d.blackBox := rfl
@[simp] theorem Device.setTlm_adit (d a b) : (Device.setTlm d a b).adit = d.adit := rfl
@[simp] theorem Device.setTlm_ports (d a b) : (Device.setTlm d a b).ports = d.ports := rfl
@[simp] theorem Device.setTlm_bufs (d a b) : (Device.setTlm d a b).bufs = d.bufs := rfl
@[simp] theorem Device.setTlm_locks (d a b) : (Device.setTlm d a b).locks = d.locks := rfl
@[simp] theorem Device.setTlm_xbr (d a b) : (Device.setTlm d a b).xbr = d.xbr := rfl
@[simp] theorem Device.setTlm_parts (d a b) : (Device.setTlm d a b).parts = d.parts := rfl
@[simp] theorem Device.setTlm_steers (d a b) : (Device.setTlm d a b).steers = d.steers := rfl
@[simp] theorem Device.setTlm_sriov (d a b) : (Device.setTlm d a b).sriov = d.sriov := rfl
@[simp] theorem Device.setTlm_bridges (d a b) : (Device.setTlm d a b).bridges = d.bridges := rfl
@[simp] theorem Device.setTlm_segs (d a b) : (Device.setTlm d a b).segs = d.segs := rfl
@[simp] theorem Device.setTlm_act (d a b) : (Device.setTlm d a b).act = d.act := rfl
@[simp] theorem Device.setTlm_windows (d a b) : (Device.setTlm d a b).windows = d.windows := rfl
@[simp] theorem Device.setTlm_ntw (d a b) : (Device.setTlm d a b).ntw = d.ntw := rfl
@[simp] theorem Device.setTlm_dbWaits (d a b) : (Device.setTlm d a b).dbWaits = d.dbWaits := rfl
@[simp] theorem Device.setTlm_funcs (d a b) : (Device.setTlm d a b).funcs = d.funcs := rfl
@[simp] theorem Device.setTlm_ats (d a b) : (Device.setTlm d a b).ats = d.ats := rfl
@[simp] theorem Device.setTlm_invals (d a b) : (Device.setTlm d a b).invals = d.invals := rfl
@[simp] theorem Device.setTlm_invalWaits (d a b) : (Device.setTlm d a b).invalWaits = d.invalWaits := rfl
@[simp] theorem Device.setTlm_atsAsks (d a b) : (Device.setTlm d a b).atsAsks = d.atsAsks := rfl
@[simp] theorem Device.setTlm_vfPart (d a b) : (Device.setTlm d a b).vfPart = d.vfPart := rfl
@[simp] theorem Device.setTlm_vfIndex (d a b) : (Device.setTlm d a b).vfIndex = d.vfIndex := rfl
@[simp] theorem Device.setTlm_remotes (d a b) : (Device.setTlm d a b).remotes = d.remotes := rfl
@[simp] theorem Device.setTlm_homeSteers (d a b) : (Device.setTlm d a b).homeSteers = d.homeSteers := rfl
@[simp] theorem Device.setTlm_items (d a b) : (Device.setTlm d a b).items = d.items := rfl
@[simp] theorem Device.setTlm_issued (d a b) : (Device.setTlm d a b).issued = d.issued := rfl
@[simp] theorem Device.setTlm_nextId (d a b) : (Device.setTlm d a b).nextId = d.nextId := rfl
@[simp] theorem Device.setTlm_tracks (d a b) : (Device.setTlm d a b).tracks = d.tracks := rfl
@[simp] theorem Device.setTlm_journals (d a b) : (Device.setTlm d a b).journals = d.journals := rfl
@[simp] theorem Device.setTlm_pcie (d a b) : (Device.setTlm d a b).pcie = d.pcie := rfl
@[simp] theorem Device.setTlm_qps (d a b) : (Device.setTlm d a b).qps = d.qps := rfl
@[simp] theorem Device.setTlm_cqs (d a b) : (Device.setTlm d a b).cqs = d.cqs := rfl
@[simp] theorem Device.setTlm_regions (d a b) : (Device.setTlm d a b).regions = d.regions := rfl
@[simp] theorem Device.setTlm_dbPages (d a b) : (Device.setTlm d a b).dbPages = d.dbPages := rfl
@[simp] theorem Device.setTlm_pools (d a b) : (Device.setTlm d a b).pools = d.pools := rfl
@[simp] theorem Device.setTlm_missWait (d a b) : (Device.setTlm d a b).missWait = d.missWait := rfl
@[simp] theorem Device.setTlm_rma (d a b) : (Device.setTlm d a b).rma = d.rma := rfl
@[simp] theorem Device.setTlm_equeues (d a b) : (Device.setTlm d a b).equeues = d.equeues := rfl
@[simp] theorem Device.setTlm_eports (d a b) : (Device.setTlm d a b).eports = d.eports := rfl
@[simp] theorem Device.setTlm_shp (d a b) : (Device.setTlm d a b).shp = d.shp := rfl
@[simp] theorem Device.setTlm_plk (d a b) : (Device.setTlm d a b).plk = d.plk := rfl
@[simp] theorem Device.setTlm_lanes (d a b) : (Device.setTlm d a b).lanes = d.lanes := rfl
@[simp] theorem Device.setTlm_clockPairs (d a b) : (Device.setTlm d a b).clockPairs = d.clockPairs := rfl
@[simp] theorem Device.setTlm_eqRecords (d a b) : (Device.setTlm d a b).eqRecords = d.eqRecords := rfl
@[simp] theorem Device.setTlm_upAt (d a b) : (Device.setTlm d a b).upAt = d.upAt := rfl
@[simp] theorem Device.setTlm_wokeAt (d a b) : (Device.setTlm d a b).wokeAt = d.wokeAt := rfl
@[simp] theorem Device.setTlm_fab (d a b) : (Device.setTlm d a b).fab = d.fab := rfl
@[simp] theorem Device.setTlm_spw (d a b) : (Device.setTlm d a b).spw = d.spw := rfl
@[simp] theorem Device.setTlm_feeds (d a b) : (Device.setTlm d a b).feeds = d.feeds := rfl
@[simp] theorem Device.setTlm_can (d a b) : (Device.setTlm d a b).can = d.can := rfl
@[simp] theorem Device.setTlm_throttle (d a b) : (Device.setTlm d a b).throttle = d.throttle := rfl
@[simp] theorem Device.setTlm_counters (d a b) : (Device.setTlm d a b).counters = d.counters := rfl
@[simp] theorem Device.setTlm_cnt (d a b) : (Device.setTlm d a b).cnt = d.cnt := rfl
@[simp] theorem Device.setTlm_jtag (d a b) : (Device.setTlm d a b).jtag = d.jtag := rfl
@[simp] theorem emit_now (o d) : (emit o d).now = d.now := rfl
@[simp] theorem Device.freed_now (d : Device) : d.freed.now = d.now := rfl
@[simp] theorem emit_devTime (o d) : (emit o d).devTime = d.devTime := rfl
@[simp] theorem Device.freed_devTime (d : Device) : d.freed.devTime = d.devTime := rfl
@[simp] theorem emit_freeCount (o d) : (emit o d).freeCount = d.freeCount := rfl
@[simp] theorem Device.freed_out (d : Device) : d.freed.out = d.out := rfl
@[simp] theorem emit_lastRun (o d) : (emit o d).lastRun = d.lastRun := rfl
@[simp] theorem Device.freed_lastRun (d : Device) : d.freed.lastRun = d.lastRun := rfl
@[simp] theorem emit_insideAt (o d) : (emit o d).insideAt = d.insideAt := rfl
@[simp] theorem Device.freed_insideAt (d : Device) : d.freed.insideAt = d.insideAt := rfl
@[simp] theorem emit_hiLatch (o d) : (emit o d).hiLatch = d.hiLatch := rfl
@[simp] theorem Device.freed_hiLatch (d : Device) : d.freed.hiLatch = d.hiLatch := rfl
@[simp] theorem emit_glb (o d) : (emit o d).glb = d.glb := rfl
@[simp] theorem Device.freed_glb (d : Device) : d.freed.glb = d.glb := rfl
@[simp] theorem emit_kme (o d) : (emit o d).kme = d.kme := rfl
@[simp] theorem Device.freed_kme (d : Device) : d.freed.kme = d.kme := rfl
@[simp] theorem emit_mbx (o d) : (emit o d).mbx = d.mbx := rfl
@[simp] theorem Device.freed_mbx (d : Device) : d.freed.mbx = d.mbx := rfl
@[simp] theorem emit_msix (o d) : (emit o d).msix = d.msix := rfl
@[simp] theorem Device.freed_msix (d : Device) : d.freed.msix = d.msix := rfl
@[simp] theorem emit_clk (o d) : (emit o d).clk = d.clk := rfl
@[simp] theorem Device.freed_clk (d : Device) : d.freed.clk = d.clk := rfl
@[simp] theorem emit_snapshots (o d) : (emit o d).snapshots = d.snapshots := rfl
@[simp] theorem Device.freed_snapshots (d : Device) : d.freed.snapshots = d.snapshots := rfl
@[simp] theorem emit_bootRecord (o d) : (emit o d).bootRecord = d.bootRecord := rfl
@[simp] theorem Device.freed_bootRecord (d : Device) : d.freed.bootRecord = d.bootRecord := rfl
@[simp] theorem emit_blackBox (o d) : (emit o d).blackBox = d.blackBox := rfl
@[simp] theorem Device.freed_blackBox (d : Device) : d.freed.blackBox = d.blackBox := rfl
@[simp] theorem emit_adit (o d) : (emit o d).adit = d.adit := rfl
@[simp] theorem Device.freed_adit (d : Device) : d.freed.adit = d.adit := rfl
@[simp] theorem emit_ports (o d) : (emit o d).ports = d.ports := rfl
@[simp] theorem Device.freed_ports (d : Device) : d.freed.ports = d.ports := rfl
@[simp] theorem emit_bufs (o d) : (emit o d).bufs = d.bufs := rfl
@[simp] theorem Device.freed_bufs (d : Device) : d.freed.bufs = d.bufs := rfl
@[simp] theorem emit_locks (o d) : (emit o d).locks = d.locks := rfl
@[simp] theorem Device.freed_locks (d : Device) : d.freed.locks = d.locks := rfl
@[simp] theorem emit_xbr (o d) : (emit o d).xbr = d.xbr := rfl
@[simp] theorem Device.freed_xbr (d : Device) : d.freed.xbr = d.xbr := rfl
@[simp] theorem emit_parts (o d) : (emit o d).parts = d.parts := rfl
@[simp] theorem Device.freed_parts (d : Device) : d.freed.parts = d.parts := rfl
@[simp] theorem emit_steers (o d) : (emit o d).steers = d.steers := rfl
@[simp] theorem Device.freed_steers (d : Device) : d.freed.steers = d.steers := rfl
@[simp] theorem emit_sriov (o d) : (emit o d).sriov = d.sriov := rfl
@[simp] theorem Device.freed_sriov (d : Device) : d.freed.sriov = d.sriov := rfl
@[simp] theorem emit_bridges (o d) : (emit o d).bridges = d.bridges := rfl
@[simp] theorem Device.freed_bridges (d : Device) : d.freed.bridges = d.bridges := rfl
@[simp] theorem emit_segs (o d) : (emit o d).segs = d.segs := rfl
@[simp] theorem Device.freed_segs (d : Device) : d.freed.segs = d.segs := rfl
@[simp] theorem emit_act (o d) : (emit o d).act = d.act := rfl
@[simp] theorem Device.freed_act (d : Device) : d.freed.act = d.act := rfl
@[simp] theorem emit_windows (o d) : (emit o d).windows = d.windows := rfl
@[simp] theorem Device.freed_windows (d : Device) : d.freed.windows = d.windows := rfl
@[simp] theorem emit_ntw (o d) : (emit o d).ntw = d.ntw := rfl
@[simp] theorem Device.freed_ntw (d : Device) : d.freed.ntw = d.ntw := rfl
@[simp] theorem emit_dbWaits (o d) : (emit o d).dbWaits = d.dbWaits := rfl
@[simp] theorem Device.freed_dbWaits (d : Device) : d.freed.dbWaits = d.dbWaits := rfl
@[simp] theorem emit_tlm (o d) : (emit o d).tlm = d.tlm := rfl
@[simp] theorem Device.freed_tlm (d : Device) : d.freed.tlm = d.tlm := rfl
@[simp] theorem emit_funcs (o d) : (emit o d).funcs = d.funcs := rfl
@[simp] theorem Device.freed_funcs (d : Device) : d.freed.funcs = d.funcs := rfl
@[simp] theorem emit_ats (o d) : (emit o d).ats = d.ats := rfl
@[simp] theorem Device.freed_ats (d : Device) : d.freed.ats = d.ats := rfl
@[simp] theorem emit_invals (o d) : (emit o d).invals = d.invals := rfl
@[simp] theorem Device.freed_invals (d : Device) : d.freed.invals = d.invals := rfl
@[simp] theorem emit_invalWaits (o d) : (emit o d).invalWaits = d.invalWaits := rfl
@[simp] theorem Device.freed_invalWaits (d : Device) : d.freed.invalWaits = d.invalWaits := rfl
@[simp] theorem emit_atsAsks (o d) : (emit o d).atsAsks = d.atsAsks := rfl
@[simp] theorem Device.freed_atsAsks (d : Device) : d.freed.atsAsks = d.atsAsks := rfl
@[simp] theorem emit_vfPart (o d) : (emit o d).vfPart = d.vfPart := rfl
@[simp] theorem Device.freed_vfPart (d : Device) : d.freed.vfPart = d.vfPart := rfl
@[simp] theorem emit_vfIndex (o d) : (emit o d).vfIndex = d.vfIndex := rfl
@[simp] theorem Device.freed_vfIndex (d : Device) : d.freed.vfIndex = d.vfIndex := rfl
@[simp] theorem emit_remotes (o d) : (emit o d).remotes = d.remotes := rfl
@[simp] theorem Device.freed_remotes (d : Device) : d.freed.remotes = d.remotes := rfl
@[simp] theorem emit_homeSteers (o d) : (emit o d).homeSteers = d.homeSteers := rfl
@[simp] theorem Device.freed_homeSteers (d : Device) : d.freed.homeSteers = d.homeSteers := rfl
@[simp] theorem emit_items (o d) : (emit o d).items = d.items := rfl
@[simp] theorem Device.freed_items (d : Device) : d.freed.items = d.items := rfl
@[simp] theorem emit_issued (o d) : (emit o d).issued = d.issued := rfl
@[simp] theorem Device.freed_issued (d : Device) : d.freed.issued = d.issued := rfl
@[simp] theorem emit_nextId (o d) : (emit o d).nextId = d.nextId := rfl
@[simp] theorem Device.freed_nextId (d : Device) : d.freed.nextId = d.nextId := rfl
@[simp] theorem emit_tracks (o d) : (emit o d).tracks = d.tracks := rfl
@[simp] theorem Device.freed_tracks (d : Device) : d.freed.tracks = d.tracks := rfl
@[simp] theorem emit_journals (o d) : (emit o d).journals = d.journals := rfl
@[simp] theorem Device.freed_journals (d : Device) : d.freed.journals = d.journals := rfl
@[simp] theorem emit_pcie (o d) : (emit o d).pcie = d.pcie := rfl
@[simp] theorem Device.freed_pcie (d : Device) : d.freed.pcie = d.pcie := rfl
@[simp] theorem emit_qps (o d) : (emit o d).qps = d.qps := rfl
@[simp] theorem Device.freed_qps (d : Device) : d.freed.qps = d.qps := rfl
@[simp] theorem emit_cqs (o d) : (emit o d).cqs = d.cqs := rfl
@[simp] theorem Device.freed_cqs (d : Device) : d.freed.cqs = d.cqs := rfl
@[simp] theorem emit_regions (o d) : (emit o d).regions = d.regions := rfl
@[simp] theorem Device.freed_regions (d : Device) : d.freed.regions = d.regions := rfl
@[simp] theorem emit_dbPages (o d) : (emit o d).dbPages = d.dbPages := rfl
@[simp] theorem Device.freed_dbPages (d : Device) : d.freed.dbPages = d.dbPages := rfl
@[simp] theorem emit_pools (o d) : (emit o d).pools = d.pools := rfl
@[simp] theorem Device.freed_pools (d : Device) : d.freed.pools = d.pools := rfl
@[simp] theorem emit_missWait (o d) : (emit o d).missWait = d.missWait := rfl
@[simp] theorem Device.freed_missWait (d : Device) : d.freed.missWait = d.missWait := rfl
@[simp] theorem emit_rma (o d) : (emit o d).rma = d.rma := rfl
@[simp] theorem Device.freed_rma (d : Device) : d.freed.rma = d.rma := rfl
@[simp] theorem emit_equeues (o d) : (emit o d).equeues = d.equeues := rfl
@[simp] theorem Device.freed_equeues (d : Device) : d.freed.equeues = d.equeues := rfl
@[simp] theorem emit_eports (o d) : (emit o d).eports = d.eports := rfl
@[simp] theorem Device.freed_eports (d : Device) : d.freed.eports = d.eports := rfl
@[simp] theorem emit_shp (o d) : (emit o d).shp = d.shp := rfl
@[simp] theorem Device.freed_shp (d : Device) : d.freed.shp = d.shp := rfl
@[simp] theorem emit_plk (o d) : (emit o d).plk = d.plk := rfl
@[simp] theorem Device.freed_plk (d : Device) : d.freed.plk = d.plk := rfl
@[simp] theorem emit_lanes (o d) : (emit o d).lanes = d.lanes := rfl
@[simp] theorem Device.freed_lanes (d : Device) : d.freed.lanes = d.lanes := rfl
@[simp] theorem emit_clockPairs (o d) : (emit o d).clockPairs = d.clockPairs := rfl
@[simp] theorem Device.freed_clockPairs (d : Device) : d.freed.clockPairs = d.clockPairs := rfl
@[simp] theorem emit_eqRecords (o d) : (emit o d).eqRecords = d.eqRecords := rfl
@[simp] theorem Device.freed_eqRecords (d : Device) : d.freed.eqRecords = d.eqRecords := rfl
@[simp] theorem emit_upAt (o d) : (emit o d).upAt = d.upAt := rfl
@[simp] theorem Device.freed_upAt (d : Device) : d.freed.upAt = d.upAt := rfl
@[simp] theorem emit_wokeAt (o d) : (emit o d).wokeAt = d.wokeAt := rfl
@[simp] theorem Device.freed_wokeAt (d : Device) : d.freed.wokeAt = d.wokeAt := rfl
@[simp] theorem emit_fab (o d) : (emit o d).fab = d.fab := rfl
@[simp] theorem Device.freed_fab (d : Device) : d.freed.fab = d.fab := rfl
@[simp] theorem emit_spw (o d) : (emit o d).spw = d.spw := rfl
@[simp] theorem Device.freed_spw (d : Device) : d.freed.spw = d.spw := rfl
@[simp] theorem emit_feeds (o d) : (emit o d).feeds = d.feeds := rfl
@[simp] theorem Device.freed_feeds (d : Device) : d.freed.feeds = d.feeds := rfl
@[simp] theorem emit_can (o d) : (emit o d).can = d.can := rfl
@[simp] theorem Device.freed_can (d : Device) : d.freed.can = d.can := rfl
@[simp] theorem emit_throttle (o d) : (emit o d).throttle = d.throttle := rfl
@[simp] theorem Device.freed_throttle (d : Device) : d.freed.throttle = d.throttle := rfl
@[simp] theorem emit_counters (o d) : (emit o d).counters = d.counters := rfl
@[simp] theorem Device.freed_counters (d : Device) : d.freed.counters = d.counters := rfl
@[simp] theorem emit_cnt (o d) : (emit o d).cnt = d.cnt := rfl
@[simp] theorem Device.freed_cnt (d : Device) : d.freed.cnt = d.cnt := rfl
@[simp] theorem emit_jtag (o d) : (emit o d).jtag = d.jtag := rfl
@[simp] theorem Device.freed_jtag (d : Device) : d.freed.jtag = d.jtag := rfl
@[simp] theorem emit_out (o d) : (emit o d).out = o :: d.out := rfl

end Sys2Proof.Machine
end

