-- ==== Sys2Proof/Laws/Table.lean ====
section
/-! SUPPORT. Laws/Table.lean: tables and memories: what is written is read, other objects stay, and the canonical form is kept. -/

namespace Sys2Proof.Machine

variable {α : Type}

/-- Reading what was inserted. -/
@[simp] theorem tget_tinsert_same (dflt v : α) (n : Nat) (t : Tbl α) : tget dflt (tinsert n v t) n = v := by
  induction t with
  | nil => simp [tinsert, tget]
  | cons e t ih =>
    obtain ⟨k, w⟩ := e
    simp only [tinsert]
    split
    · simp [tget]
    · split
      · simp [tget]
      · rename_i h1 h2
        rw [tget, if_neg (fun h => h2 h.symm)]
        exact ih

/-- Inserting one object leaves the others. -/
theorem tget_tinsert_other (dflt v : α) {n m : Nat} (h : m ≠ n) (t : Tbl α) : tget dflt (tinsert n v t) m = tget dflt t m := by
  induction t with
  | nil => simp [tinsert, tget, Ne.symm h]
  | cons e t ih =>
    obtain ⟨k, w⟩ := e
    simp only [tinsert]
    split
    · rw [tget, if_neg (Ne.symm h)]
    · split
      · rename_i h1 h2
        subst h2
        simp [tget, Ne.symm h]
      · simp only [tget, ih]

/-- An erased object reads as the default. -/
@[simp] theorem tget_terase_same (dflt : α) (n : Nat) (t : Tbl α) : tget dflt (terase n t) n = dflt := by
  induction t with
  | nil => rfl
  | cons e t ih =>
    obtain ⟨k, w⟩ := e
    simp only [terase]
    split
    · exact ih
    · rename_i h
      rw [tget, if_neg h]
      exact ih

/-- Erasing one object leaves the others. -/
theorem tget_terase_other (dflt : α) {n m : Nat} (h : m ≠ n) (t : Tbl α) : tget dflt (terase n t) m = tget dflt t m := by
  induction t with
  | nil => rfl
  | cons e t ih =>
    obtain ⟨k, w⟩ := e
    simp only [terase]
    split
    · rename_i hk
      subst hk
      rw [ih, tget, if_neg (Ne.symm h)]
    · simp only [tget, ih]

/-- Reading what was written. -/
@[simp] theorem tget_tset_same [DecidableEq α] (dflt : α) (t : Tbl α) (n : Nat) (v : α) : tget dflt (tset dflt t n v) n = v := by
  unfold tset
  split
  · rename_i h
    rw [h]
    exact tget_terase_same dflt n t
  · exact tget_tinsert_same dflt v n t

/-- Writing one object leaves the others. -/
theorem tget_tset_other [DecidableEq α] (dflt : α) (t : Tbl α) {n m : Nat} (v : α) (h : m ≠ n) :
    tget dflt (tset dflt t n v) m = tget dflt t m := by
  unfold tset
  split
  · exact tget_terase_other dflt h t
  · exact tget_tinsert_other dflt v h t

/-- The keys of a table in canonical form rise strictly from a bound, and no entry is the default. -/
def AboveWf [DecidableEq α] (dflt : α) : Nat → Tbl α → Prop
  | _, [] => True
  | lo, (k, v) :: t => lo ≤ k ∧ v ≠ dflt ∧ AboveWf dflt (k + 1) t

theorem aboveWf_weaken [DecidableEq α] {dflt : α} {lo lo' : Nat} {t : Tbl α} (h : AboveWf dflt lo t) (hl : lo' ≤ lo) :
    AboveWf dflt lo' t := by
  cases t with
  | nil => trivial
  | cons e t =>
    obtain ⟨k, v⟩ := e
    exact ⟨Nat.le_trans hl h.1, h.2⟩

theorem aboveWf_cons [DecidableEq α] {dflt : α} (k : Nat) (v : α) (t : Tbl α) :
    tableWf dflt ((k, v) :: t) = true ↔ v ≠ dflt ∧ AboveWf dflt (k + 1) t := by
  induction t generalizing k v with
  | nil => simp [tableWf, AboveWf]
  | cons e t ih =>
    obtain ⟨l, w⟩ := e
    simp only [tableWf, Bool.and_eq_true, decide_eq_true_eq, ih, AboveWf]
    exact ⟨fun h => ⟨h.1.1, h.1.2, h.2⟩, fun h => ⟨⟨h.1, h.2.1⟩, h.2.2⟩⟩

/-- The canonical form, as a bound on the keys. -/
theorem tableWf_iff [DecidableEq α] (dflt : α) (t : Tbl α) : tableWf dflt t = true ↔ AboveWf dflt 0 t := by
  cases t with
  | nil => simp [tableWf, AboveWf]
  | cons e t =>
    obtain ⟨k, v⟩ := e
    rw [aboveWf_cons]
    simp [AboveWf]

theorem aboveWf_tinsert [DecidableEq α] {dflt v : α} (hv : v ≠ dflt) {n lo : Nat} {t : Tbl α} (hn : lo ≤ n)
    (h : AboveWf dflt lo t) : AboveWf dflt lo (tinsert n v t) := by
  induction t generalizing lo with
  | nil => exact ⟨hn, hv, trivial⟩
  | cons e t ih =>
    obtain ⟨k, w⟩ := e
    simp only [tinsert]
    split
    · rename_i h1
      exact ⟨hn, hv, h1, h.2⟩
    · split
      · rename_i h1 h2
        subst h2
        exact ⟨hn, hv, h.2.2⟩
      · rename_i h1 h2
        exact ⟨h.1, h.2.1, ih (by omega) h.2.2⟩

theorem aboveWf_terase [DecidableEq α] {dflt : α} {n lo : Nat} {t : Tbl α} (h : AboveWf dflt lo t) : AboveWf dflt lo (terase n t) := by
  induction t generalizing lo with
  | nil => exact h
  | cons e t ih =>
    obtain ⟨k, w⟩ := e
    simp only [terase]
    split
    · exact ih (aboveWf_weaken h.2.2 (Nat.le_trans h.1 (Nat.le_succ k)))
    · exact ⟨h.1, h.2.1, ih h.2.2⟩

/-- A write keeps the canonical form. -/
theorem tset_wf [DecidableEq α] {dflt : α} {t : Tbl α} (n : Nat) (v : α) (h : tableWf dflt t = true) :
    tableWf dflt (tset dflt t n v) = true := by
  rw [tableWf_iff] at *
  unfold tset
  split
  · exact aboveWf_terase h
  · rename_i hv
    exact aboveWf_tinsert hv (Nat.zero_le n) h

/-- A change keeps the canonical form. -/
theorem tmod_wf [DecidableEq α] {dflt : α} {t : Tbl α} (n : Nat) (f : α → α) (h : tableWf dflt t = true) :
    tableWf dflt (tmod dflt t n f) = true := tset_wf n _ h

/-- Writing bytes keeps the canonical form of a memory. -/
theorem memWrite_wf (bs : List Byte) (m : Memory) (a : Nat) (h : Memory.wf m = true) : Memory.wf (memWrite m a bs) = true := by
  induction bs generalizing m a with
  | nil => exact h
  | cons b bs ih => exact ih _ _ (tset_wf a b h)

/-- A byte outside the bytes written reads as before. -/
theorem memWrite_outside (bs : List Byte) (m : Memory) (a x : Nat) (h : x < a ∨ a + bs.length ≤ x) :
    memByte (memWrite m a bs) x = memByte m x := by
  induction bs generalizing m a with
  | nil => rfl
  | cons b bs ih =>
    simp only [List.length_cons] at h
    simp only [memWrite]
    rw [ih _ _ (by omega)]
    exact tget_tset_other 0 m b (by omega)

/-- A byte written is read. -/
theorem memWrite_inside (bs : List Byte) (m : Memory) (a i : Nat) (h : i < bs.length) :
    memByte (memWrite m a bs) (a + i) = bs[i] := by
  induction bs generalizing m a i with
  | nil => exact absurd h (Nat.not_lt_zero i)
  | cons b bs ih =>
    simp only [memWrite]
    cases i with
    | zero =>
      rw [memWrite_outside bs _ (a + 1) (a + 0) (by omega)]
      exact tget_tset_same 0 m a b
    | succ i =>
      have := ih (tset 0 m a b) (a + 1) i (by simpa using h)
      rw [show a + (i + 1) = a + 1 + i by omega, this]
      rfl

/-- An object written is read; the others stay. -/
@[simp] theorem port_setPort (d : Device) (n : Nat) (x : Port) : (d.setPort n x).port n = x := tget_tset_same portReset d.ports n x
theorem port_setPort_other (d : Device) {n m : Nat} (x : Port) (h : m ≠ n) : (d.setPort n x).port m = d.port m :=
  tget_tset_other portReset d.ports x h
@[simp] theorem part_setPart (d : Device) (n : Nat) (x : Part) : (d.setPart n x).part n = x := tget_tset_same partFree d.parts n x
theorem part_setPart_other (d : Device) {n m : Nat} (x : Part) (h : m ≠ n) : (d.setPart n x).part m = d.part m :=
  tget_tset_other partFree d.parts x h
@[simp] theorem seg_setSeg (d : Device) (n : Nat) (x : Seg) : (d.setSeg n x).seg n = x := tget_tset_same segReset d.segs n x
theorem seg_setSeg_other (d : Device) {n m : Nat} (x : Seg) (h : m ≠ n) : (d.setSeg n x).seg m = d.seg m :=
  tget_tset_other segReset d.segs x h
@[simp] theorem window_setWindow (d : Device) (n : Nat) (x : Window) : (d.setWindow n x).window n = x :=
  tget_tset_same windowFree d.windows n x
theorem window_setWindow_other (d : Device) {n m : Nat} (x : Window) (h : m ≠ n) : (d.setWindow n x).window m = d.window m :=
  tget_tset_other windowFree d.windows x h
@[simp] theorem pci_setPci (d : Device) (n : Nat) (x : Pcie) : (d.setPci n x).pci n = x := tget_tset_same pcieReset d.pcie n x
theorem pci_setPci_other (d : Device) {n m : Nat} (x : Pcie) (h : m ≠ n) : (d.setPci n x).pci m = d.pci m :=
  tget_tset_other pcieReset d.pcie x h
@[simp] theorem pfl_setPfl (d : Device) (n : Nat) (x : Plk) : (d.setPfl n x).pfl n = x := tget_tset_same plkReset d.plk n x
theorem pfl_setPfl_other (d : Device) {n m : Nat} (x : Plk) (h : m ≠ n) : (d.setPfl n x).pfl m = d.pfl m :=
  tget_tset_other plkReset d.plk x h
@[simp] theorem lane_setLane (d : Device) (n : Nat) (x : Lane) : (d.setLane n x).lane n = x := tget_tset_same laneReset d.lanes n x
theorem lane_setLane_other (d : Device) {n m : Nat} (x : Lane) (h : m ≠ n) : (d.setLane n x).lane m = d.lane m :=
  tget_tset_other laneReset d.lanes x h
@[simp] theorem bridge_setBridge (d : Device) (n : Nat) (x : VBridge) : (d.setBridge n x).bridge n = x :=
  tget_tset_same bridgeReset d.bridges n x
theorem bridge_setBridge_other (d : Device) {n m : Nat} (x : VBridge) (h : m ≠ n) : (d.setBridge n x).bridge m = d.bridge m :=
  tget_tset_other bridgeReset d.bridges x h
@[simp] theorem channel_setChannel (d : Device) (n : Nat) (x : Spw) : (d.setChannel n x).channel n = x :=
  tget_tset_same spwReset d.spw n x
theorem channel_setChannel_other (d : Device) {n m : Nat} (x : Spw) (h : m ≠ n) : (d.setChannel n x).channel m = d.channel m :=
  tget_tset_other spwReset d.spw x h
@[simp] theorem steer_setSteer (d : Device) (n : Nat) (x : Steer) : (d.setSteer n x).steer n = x := tget_tset_same steerFree d.steers n x
@[simp] theorem mailbox_setMailbox (d : Device) (f : Fn) (x : Mbx) : (d.setMailbox f x).mailbox f = x :=
  tget_tset_same mbxReset d.mbx (fnKey f) x
@[simp] theorem func_setFunc (d : Device) (f : Fn) (x : Func) : (d.setFunc f x).func f = x := tget_tset_same funcReset d.funcs (fnKey f) x
@[simp] theorem eport_setEport (d : Device) (n : Nat) (x : EPort) : (d.setEport n x).eport n = x := tget_tset_same eportReset d.eports n x
@[simp] theorem buf_setBuf (d : Device) (n : Nat) (x : PortBuf) : (d.setBuf n x).buf n = x := tget_tset_same bufReset d.bufs n x
@[simp] theorem lockOf_setLock (d : Device) (n : Nat) (x : PortLock) : (d.setLock n x).lockOf n = x := tget_tset_same lockReset d.locks n x

end Sys2Proof.Machine
end

