-- ==== Sys2Proof/Tests/Slice0.lean ====
section
/-! SUPPORT. Tests/Slice0.lean: states and operands that meet what the statements assume, ill-formed commands that the checks refuse,
and small tests of single commands. -/

open Sys2Proof Sys2Proof.Machine

namespace Sys2Proof.Tests

set_option Elab.async false

/-- An admitted packet whose execution has not begun, that fails nowhere and was not relayed, is ready. -/
theorem ready_of {op : Nat} {c : Cmd} {d : Device}
    (h : ((execOf op c d).any (fun e => !e.begun) && decide (c.fault = 0) && decide (c.source.transport ≠ 6)) = true) : Ready op c d := by
  simp only [Bool.and_eq_true, decide_eq_true_eq] at h
  refine ⟨?_, h.1.2, fun k => absurd k h.2⟩
  cases hx : execOf op c d with
  | none => simp [hx] at h
  | some e => exact ⟨e, rfl, by simpa [hx] using h.1.1⟩

/-- An enabled function without translations reaches the host. -/
theorem reaches_of {f : Fn} {d : Device} (h : (fnEnabled f d && !(d.func f).atsEnable) = true) : Reaches f d := by
  unfold Reaches
  simpa only [Bool.and_eq_true, Bool.not_eq_true'] using h

/-- A bounded claim holds when every number of the range meets it. -/
theorem ball_lt {n : Nat} {p : Nat → Prop} (h : ∀ k ∈ List.range n, p k) : ∀ k < n, p k :=
  fun k hk => h k (List.mem_range.mpr hk)

/-- A state whose device is the reset device changed by `f`. -/
def st (f : Device → Device) : State := { State.reset with dev := f State.reset.dev }
/-- A packet of the manager's mailbox. -/
def cmdAt (target param0 : Nat) (ps : List Byte) : Cmd :=
  { source := { transport := 0, inst := 0 }, flags := 0, seq := 1, target := BitVec.ofNat 32 target, param0 := BitVec.ofNat 32 param0, params := ps }
/-- The record of an admitted packet whose execution has not begun. -/
def execRec (op : Nat) (c : Cmd) : Exec :=
  { op := op, cmd := c, since := 0, accepted := false, applied := false, reported := 0, begun := false }
/-- The KME runs, with one packet admitted. -/
def adm (op : Nat) (c : Cmd) (d : Device) : Device := { d with kme := { d.kme with running := true, execs := [execRec op c] } }
/-- A state with one packet admitted. -/
def c0 : Cmd := cmdAt 0 0 []
def rdy (op : Nat) (c : Cmd) (f : Device → Device) : State := st fun d => adm op c (f d)
def later (n : Nat) (d : Device) : Device := { d with now := n }
def tlp0 : Tlp :=
  { kind := .memWrite, addr := 0, destId := 0, reqId := 0, tag := 0, tc := 0, ro := false, len := 4, data := [1, 2, 3, 4],
    poisoned := false, digest := false, status := .sc, byteCount := 4 }
def item0 : Item :=
  { id := 7, tlp := tlp0, rma := none, cls := 0, ingress := 0, part := 5, srcPart := 5, window := none, srcAddr := 0, srcRid := 0, srcTag := 0, steer := none, vf := none,
    fn := none, egress := 8, queue := 0, fab := none, stage := .voq, inCells := 1, holdCells := 0, poolCells := 0, rsvCells := 0,
    checkedBy := none, slot := false, sharedSlot := false, order := 0, admittedAt := 0, swap := 0, wantAddr := 0, wantLen := 0, stored := false, hdrCr := 0, dataCr := 0, spent := false }
def uspPort : Port := { portReset with personality := .usp, width := 4, maxRate := 5, holder := 5 }
def dspPort : Port := { portReset with personality := .dsp, width := 4, maxRate := 5, holder := 5, bridge := some 0 }
def pflPort : Port := { portReset with personality := .pfl, width := 4, maxRate := 6 }
/-- Partition 5 ACTIVE with two downstream bridges, its USP P0 and a DSP P8 whose links are up. -/
def part5 (d : Device) : Device := { d with
  ports := [(0, uspPort), (8, dspPort)],
  parts := [(0, partZero), (5, { partFree with state := .active, dsbCount := 2, actEntries := 8 })],
  segs := [(5, { segReset with state := .disabled })],
  pcie := [(0, { pcieReset with lstate := .l0, negWidth := 4, curRate := 5 }), (8, { pcieReset with lstate := .l0, negWidth := 4, curRate := 5 })] }

namespace W01

def w1a := st fun d => d.setMailbox .mgr { mbxReset with state := .done }
def w1b := st fun d => d.setMailbox .mgr { mbxReset with state := .executing }
def wsub := st fun d => d.setMailbox .mgr { mbxReset with state := .submitted }
def c101 := cmdAt 0 0 []
def cC02 := cmdAt 0 0 (natLe 2 1000 ++ natLe 2 0 ++ natLe 2 1000 ++ [0, 0])
def fr : List Byte := natLe 2 0x0101 ++ natLe 14 0
def frc : List Byte := fr ++ natLe 4 (crc32c fr).toNat
def src3 : Source := { transport := 3, inst := 5 }
def lk0 : ArbLock := { holder := { transport := 0, inst := 0 }, began := 0, lastReply := 0, ending := false, gap100us := 10, maxMs := 100 }
def heldOf (f : List Byte) : State := st fun d => { d with clk := { d.clk with phase := .ready }, kme := { d.kme with running := true, held := [⟨src3, f, 0, 5, false⟩] } }
def fr4 : List Byte := natLe 2 0x0401 ++ natLe 6 0 ++ natLe 4 5 ++ natLe 4 0
def frc4 : List Byte := fr4 ++ natLe 4 (crc32c fr4).toNat
def seg4 (x : SegState) : State := st fun d => { part5 d with segs := [(5, { segReset with state := x, gen := 65535, stallLong := true })], clk := { d.clk with phase := .ready, mainLock := true }, kme := { d.kme with running := true, held := [⟨src3, frc4, 0, 5, false⟩] } }
def ex1 := execRec 0x0302 (cmdAt 5 0 [0, 0, 0, 0])
def wt (_ : Nat) := (waiters (wsub.dev)).headD ⟨packetOf src3 [], 0, 0, false, none⟩
def w1t (t : Nat) (lock : Option ArbLock) (f : Device → Device) := st fun d => later t { f d with kme := { d.kme with lock := lock } }
def rp0 : SmbReply := { bytes := [1], tries := 1, sentAt := 0 }
def w1r (t tries : Nat) := st fun d => later t { d with kme := { d.kme with smbReplies := [(5, { rp0 with tries := tries })] } }
def c304 := { cmdAt 5 0 (natLe 8 0) with source := src3 }
def rl0 : Relay := { fid := 4, op := 0x0304, cmd := c304, sentAt := 0 }
def w1y (t : Nat) := st fun d => later t (adm 0x0304 c304 { d with fab := { d.fab with relays := [rl0] } })

/-- What `Obligations.CommandsReachTheArbiter` assumes is met (its part on mailbox doorbells act). -/
theorem test_meets_CommandsReachTheArbiter_MailboxDoorbellsAct :
    (∃ (s : State) (f : Fn), f ∈ mailboxes s.dev ∧ ((s.dev.mailbox f).state = .idle ∨ (s.dev.mailbox f).state = .done) ∧ (s.dev.mailbox f).state ≠ .submitted) ∧
    (∃ (s : State) (f : Fn), f ∈ mailboxes s.dev ∧ ((s.dev.mailbox f).state = .submitted ∨ (s.dev.mailbox f).state = .executing)) ∧
    (∃ (s : State) (f : Fn), f ∈ mailboxes s.dev ∧ (s.dev.mailbox f).state = .submitted) :=
  ⟨⟨w1a, .mgr, by decide +kernel⟩,
   ⟨w1b, .mgr, by decide +kernel⟩,
   ⟨wsub, .mgr, by decide +kernel⟩⟩

/-- What `Obligations.DeviceCommandsAnswer` assumes is met (its part on sys info and arb set answer). -/
theorem test_meets_DeviceCommandsAnswer_SysInfoAndArbSetAnswer :
    (∃ (s : State) (c : Cmd), NoTarget c ∧ Ready 0x0101 c s.dev ∧ c.params = []) ∧
    (∃ (s : State) (c : Cmd) (starve : Nat) (gap : Nat) (max : Nat), NoTarget c ∧ Ready 0x0C02 c s.dev ∧ c.params = natLe 2 starve ++ natLe 2 gap ++ natLe 2 max ++ [0, 0] ∧ starve ≤ 1000 ∧ gap ≤ 1000 ∧ max ≤ 1000) :=
  ⟨⟨(rdy 0x0101 c101 id), c101, ⟨rfl, rfl⟩, ready_of (by decide +kernel), by decide +kernel⟩,
   ⟨(rdy 0x0C02 cC02 id), cC02, 1000, 0, 1000, ⟨rfl, rfl⟩, ready_of (by decide +kernel), by decide +kernel⟩⟩

/-- What `Obligations.CommandsReachTheArbiter` assumes is met (its part on frames are held). -/
theorem test_meets_CommandsReachTheArbiter_FramesAreHeld :
    (∃ (s : State) (src : Source) (i : Instr) (frame : List Byte) (n : Nat), ((src = { transport := 3, inst := n % 128 } ∧ i = .smbusCommandArrival n frame) ∨ (src = { transport := 4, inst := n % 64 } ∧ i = .vdmCommandArrival n frame ∧ (uspOf n s.dev).isSome) ∨ (src = { transport := 6, inst := n % 32 } ∧ i = .relayCommandArrival n frame)) ∧ frameShort src frame) ∧
    (∃ (s : State) (src : Source) (i : Instr) (frame : List Byte) (n : Nat), ((src = { transport := 3, inst := n % 128 } ∧ i = .smbusCommandArrival n frame) ∨ (src = { transport := 4, inst := n % 64 } ∧ i = .vdmCommandArrival n frame ∧ (uspOf n s.dev).isSome) ∨ (src = { transport := 6, inst := n % 32 } ∧ i = .relayCommandArrival n frame)) ∧ frameShort src frame = false ∧ repeatOf (framePacket src frame) s.dev = none ∧ holdingFull src s.dev) ∧
    (∃ (s : State) (src : Source) (i : Instr) (frame : List Byte) (n : Nat), ((src = { transport := 3, inst := n % 128 } ∧ i = .smbusCommandArrival n frame) ∨ (src = { transport := 4, inst := n % 64 } ∧ i = .vdmCommandArrival n frame ∧ (uspOf n s.dev).isSome) ∨ (src = { transport := 6, inst := n % 32 } ∧ i = .relayCommandArrival n frame)) ∧ frameShort src frame = false ∧ repeatOf (framePacket src frame) s.dev = none ∧ holdingFull src s.dev = false ∧ lockedOut src s.dev ∧ frameCrcOk src frame) ∧
    (∃ (s : State) (src : Source) (i : Instr) (frame : List Byte) (n : Nat), ((src = { transport := 3, inst := n % 128 } ∧ i = .smbusCommandArrival n frame) ∨ (src = { transport := 4, inst := n % 64 } ∧ i = .vdmCommandArrival n frame ∧ (uspOf n s.dev).isSome) ∨ (src = { transport := 6, inst := n % 32 } ∧ i = .relayCommandArrival n frame)) ∧ frameShort src frame = false ∧ repeatOf (framePacket src frame) s.dev = none ∧ holdingFull src s.dev = false ∧ lockedOut src s.dev = false) :=
  ⟨⟨State.reset, { transport := 3, inst := 127 }, (.smbusCommandArrival 127 (frc.take 19)), (frc.take 19), 127, by decide +kernel⟩,
   ⟨(st fun d => { d with kme := { d.kme with held := [⟨src3, frc, 0, 5, false⟩, ⟨src3, frc, 0, 5, false⟩, ⟨src3, frc, 0, 5, false⟩, ⟨src3, frc, 0, 5, false⟩] } }), src3, (.smbusCommandArrival 5 frc), frc, 5, by decide +kernel⟩,
   ⟨(st fun d => { d with kme := { d.kme with lock := some lk0 } }), src3, (.smbusCommandArrival 5 frc), frc, 5, by decide +kernel⟩,
   ⟨State.reset, {transport := 6, inst := 31}, (.relayCommandArrival 31 fr), fr, 31, by decide +kernel⟩⟩

/-- What `Obligations.ArbiterAdmitsAndTimes` assumes is met (its part on arbiter admits). -/
theorem test_meets_ArbiterAdmitsAndTimes_ArbiterAdmits :
    (∃ (s : State), kmeBusy s.dev) ∧
    (∃ (s : State) (h : Held), s.dev.kme.held = [h] ∧ (∀ f ∈ mailboxes s.dev, (s.dev.mailbox f).state ≠ .submitted) ∧ mayAdmit (framePacket h.source h.frame).op (framePacket h.source h.frame).cmd s.dev ∧ sourceFn h.source = none ∧ frameCrcOk h.source h.frame ∧ (framePacket h.source h.frame).length = (framePacket h.source h.frame).cmd.params.length ∧ commandChecks (framePacket h.source h.frame).op (framePacket h.source h.frame).cmd s.dev = none ∧ lockBits (framePacket h.source h.frame).cmd = 0 ∧ streamSource h.source ∧ (framePacket h.source h.frame).op ≠ 0x0401) ∧
    (∃ (s : State) (h : Held), s.dev.kme.held = [h] ∧ (∀ f ∈ mailboxes s.dev, (s.dev.mailbox f).state ≠ .submitted) ∧ mayAdmit (framePacket h.source h.frame).op (framePacket h.source h.frame).cmd s.dev ∧ sourceFn h.source = none ∧ frameCrcOk h.source h.frame = false) ∧
    (∃ (s : State) (h : Held), s.dev.kme.held = [h] ∧ (∀ f ∈ mailboxes s.dev, (s.dev.mailbox f).state ≠ .submitted) ∧ mayAdmit (framePacket h.source h.frame).op (framePacket h.source h.frame).cmd s.dev ∧ sourceFn h.source = none ∧ frameCrcOk h.source h.frame ∧ (framePacket h.source h.frame).length = (framePacket h.source h.frame).cmd.params.length ∧ commandChecks (framePacket h.source h.frame).op (framePacket h.source h.frame).cmd s.dev = none ∧ lockBits (framePacket h.source h.frame).cmd = 0 ∧ streamSource h.source ∧ (framePacket h.source h.frame).op = 0x0401 ∧ (framePacket h.source h.frame).cmd.params = [] ∧ (framePacket h.source h.frame).cmd.param0 = 0 ∧ 1 ≤ ((framePacket h.source h.frame).cmd.target.toNat) ∧ ((framePacket h.source h.frame).cmd.target.toNat) ≤ 48 ∧ (s.dev.part ((framePacket h.source h.frame).cmd.target.toNat)).state ≠ .free ∧ s.dev.kme.execs = [] ∧ (s.dev.seg ((framePacket h.source h.frame).cmd.target.toNat)).state = .disabled) ∧
    (∃ (s : State) (h : Held), s.dev.kme.held = [h] ∧ (∀ f ∈ mailboxes s.dev, (s.dev.mailbox f).state ≠ .submitted) ∧ mayAdmit (framePacket h.source h.frame).op (framePacket h.source h.frame).cmd s.dev ∧ sourceFn h.source = none ∧ frameCrcOk h.source h.frame ∧ (framePacket h.source h.frame).length = (framePacket h.source h.frame).cmd.params.length ∧ commandChecks (framePacket h.source h.frame).op (framePacket h.source h.frame).cmd s.dev = none ∧ lockBits (framePacket h.source h.frame).cmd = 0 ∧ streamSource h.source ∧ (framePacket h.source h.frame).op = 0x0401 ∧ (framePacket h.source h.frame).cmd.params = [] ∧ (framePacket h.source h.frame).cmd.param0 = 0 ∧ 1 ≤ ((framePacket h.source h.frame).cmd.target.toNat) ∧ ((framePacket h.source h.frame).cmd.target.toNat) ≤ 48 ∧ (s.dev.part ((framePacket h.source h.frame).cmd.target.toNat)).state ≠ .free ∧ s.dev.kme.execs = [] ∧ (s.dev.seg ((framePacket h.source h.frame).cmd.target.toNat)).state = .enabled) :=
  ⟨⟨(rdy 0x0101 c101 id), by decide +kernel⟩,
   ⟨(heldOf frc), ⟨src3, frc, 0, 5, false⟩, by decide +kernel⟩,
   ⟨(heldOf (frc.take 19 ++ [0])), ⟨src3, frc.take 19 ++ [0], 0, 5, false⟩, by decide +kernel⟩,
   ⟨(seg4 .disabled), ⟨src3, frc4, 0, 5, false⟩, by decide +kernel⟩,
   ⟨(seg4 .enabled), ⟨src3, frc4, 0, 5, false⟩, by decide +kernel⟩⟩

/-- What `Obligations.ArbiterAdmitsAndTimes` assumes is met (its part on arbiter timers). -/
theorem test_meets_ArbiterAdmitsAndTimes_ArbiterTimers :
    (∃ (s : State) (e : Exec) (f : Fn), s.dev.kme.execs = [e] ∧ e.accepted = false ∧ endsByItself e s.dev = false ∧ sourceFn e.cmd.source = some f ∧ s.dev.now < e.since + msNs ∧ s.dev.kme.lock = none) ∧
    (∃ (s : State) (e : Exec) (f : Fn), s.dev.kme.execs = [e] ∧ e.accepted = false ∧ endsByItself e s.dev = false ∧ sourceFn e.cmd.source = some f ∧ e.since + msNs ≤ s.dev.now) ∧
    (∃ (s : State) (f : Fn) (w : Waiter), waiters s.dev = [w] ∧ w.starved = false ∧ w.held = none ∧ sourceFn w.packet.cmd.source = some f ∧ s.dev.now < w.since + w.starveMs * msNs) ∧
    (∃ (s : State) (f : Fn) (w : Waiter), waiters s.dev = [w] ∧ w.starved = false ∧ w.held = none ∧ sourceFn w.packet.cmd.source = some f ∧ w.since + w.starveMs * msNs ≤ s.dev.now) ∧
    (∃ (s : State) (l : ArbLock), s.dev.kme.lock = some l ∧ executing l.holder s.dev = false ∧ (∀ w ∈ waiters s.dev, w.packet.cmd.source ≠ l.holder) ∧ s.dev.now < l.lastReply + l.gap100us * 100000 ∧ s.dev.now < l.began + l.maxMs * msNs) ∧
    (∃ (s : State) (l : ArbLock), s.dev.kme.lock = some l ∧ executing l.holder s.dev = false ∧ (∀ w ∈ waiters s.dev, w.packet.cmd.source ≠ l.holder) ∧ l.lastReply + l.gap100us * 100000 ≤ s.dev.now) ∧
    (∃ (s : State) (l : ArbLock), s.dev.kme.lock = some l ∧ executing l.holder s.dev = false ∧ (∀ w ∈ waiters s.dev, w.packet.cmd.source ≠ l.holder) ∧ l.began + l.maxMs * msNs ≤ s.dev.now) :=
  ⟨⟨(st fun d => later 999999 { d with kme := { d.kme with execs := [ex1] } }), ex1, .mgr, by decide +kernel⟩,
   ⟨(st fun d => later 1000000 { d with kme := { d.kme with execs := [ex1] } }), ex1, .mgr, by decide +kernel⟩,
   ⟨{ wsub with dev := later 4999999 wsub.dev }, .mgr, (wt 0), by decide +kernel⟩,
   ⟨{ wsub with dev := later 5000000 wsub.dev }, .mgr, (wt 0), by decide +kernel⟩,
   ⟨(w1t 999999 (some lk0) id), lk0, by decide +kernel⟩,
   ⟨(w1t 1000000 (some lk0) id), lk0, by decide +kernel⟩,
   ⟨(w1t 100000000 (some lk0) id), lk0, by decide +kernel⟩⟩

/-- What `Obligations.TransportsCarryCommands` assumes is met (its part on smbus transport). -/
theorem test_meets_TransportsCarryCommands_SmbusTransport :
    (∃ (s : State) (n : Nat) (r : SmbReply) (p : Nat), s.dev.kme.smbReplies = [(n, r)] ∧ s.dev.now < r.sentAt + msNs ∧ s.dev.glb.alertLow = false ∧ uspOf p s.dev = none) ∧
    (∃ (s : State) (n : Nat) (r : SmbReply), s.dev.kme.smbReplies = [(n, r)] ∧ r.sentAt + msNs ≤ s.dev.now ∧ r.tries < 2) ∧
    (∃ (s : State) (n : Nat) (r : SmbReply), s.dev.kme.smbReplies = [(n, r)] ∧ r.sentAt + msNs ≤ s.dev.now ∧ 2 ≤ r.tries) ∧
    (∃ (s : State), s.dev.glb.alertLow = true) :=
  ⟨⟨(w1r 999999 1), 5, rp0, 3, by decide +kernel⟩,
   ⟨(w1r 1000000 1), 5, rp0, by decide +kernel⟩,
   ⟨(w1r 1000000 2), 5, { rp0 with tries := 2 }, by decide +kernel⟩,
   ⟨(st fun d => { d with glb := { d.glb with alertLow := true, smbAddrStrap := 7 } }), by decide +kernel⟩⟩

/-- What `Obligations.TransportsCarryCommands` assumes is met (its part on relayed commands). -/
theorem test_meets_TransportsCarryCommands_RelayedCommands :
    (∃ (s : State) (r : Relay), s.dev.fab.relays = [r] ∧ (∀ e ∈ s.dev.kme.execs, sameCommand r.op r.cmd e = true → e.accepted = false) ∧ s.dev.now < r.sentAt + 800000) ∧
    (∃ (s : State) (r : Relay), s.dev.fab.relays = [r] ∧ (∀ e ∈ s.dev.kme.execs, sameCommand r.op r.cmd e = true → e.accepted = false) ∧ r.sentAt + 800000 ≤ s.dev.now) ∧
    (∃ (s : State) (r : Relay) (bytes : List Byte), s.dev.fab.relays = [r] ∧ u16 bytes 0 = r.op ∧ bytes.getD 3 0 = r.cmd.seq ∧ u16 bytes 6 = 1) ∧
    (∃ (s : State) (r : Relay) (bytes : List Byte) (st : Status), s.dev.fab.relays = [r] ∧ u16 bytes 0 = r.op ∧ bytes.getD 3 0 = r.cmd.seq ∧ statusCode st = u16 bytes 6 ∧ st ≠ .ok ∧ st ≠ .accepted ∧ st ≠ .doneDegraded) :=
  ⟨⟨(w1y 799999), rl0, by decide +kernel⟩,
   ⟨(w1y 800000), rl0, by decide +kernel⟩,
   ⟨(w1y 7), rl0, (natLe 2 0x0304 ++ [0, 1] ++ natLe 2 0 ++ natLe 2 1 ++ natLe 8 0), by decide +kernel⟩,
   ⟨(w1y 7), rl0, (natLe 2 0x0304 ++ [0, 1] ++ natLe 2 4 ++ natLe 2 0x12 ++ natLe 2 6 ++ natLe 6 0 ++ [1, 2, 3, 4]), .badParam, by decide +kernel⟩⟩

end W01

namespace W02

/-- An image of four bytes (Table 18.3). -/
def img : List Byte :=
  let code : List Byte := [1, 2, 3, 4]
  let crc := natLe 4 (crc32c code).toNat
  let h := natLe 4 0x4D483936 ++ natLe 4 7 ++ natLe 4 4 ++ crc ++ natLe 4 68 ++ crc ++ natLe 4 68 ++ natLe 32 0
  h ++ natLe 4 (crc32c h).toNat ++ code
def ph (p : BootPhase) (d : Device) : Device := { d with clk := { d.clk with phase := p } }
def strapA : StrapSample := { fid := 31, smbAddr := 7, mgrPort := 95, boot := 3 }
def strap1 : Straps := { first := strapA, second := { fid := 0, smbAddr := 0, mgrPort := 127, boot := 0 }, third := strapA, aValid := false, bValid := true }
def plan (cold : Bool) (t : Nat) (d : Device) : Device := later t { d with clk := { d.clk with phase := .ready, resetPlan := some { cold := cold, at_ := 10000 } } }
def pinned (n : Nat) (code : Nat) (on : Bool) (d : Device) : Device := d.setPci n { d.pci n with sbFunc := BitVec.ofNat 48 code, perstIn := on }
def refs (a b x : Bool) (p : BootPhase) (h : Bool) (d : Device) : Device := { d with clk := { d.clk with aValid := a, bValid := b, activeB := x, phase := p, holdover := h } }
def cRst (a b : Nat) := cmdAt 0 0 ([BitVec.ofNat 8 a, BitVec.ofNat 8 b] ++ natLe 6 0)
def fw0 : FwStage := { slotB := true, fwLevel := 7, defaults := [], good := true }
def exN := execRec 0 c0
def s0src := c0.source
def c4 (x : Byte) := cmdAt 0 0 [x, 0, 0, 0]
def cFw := cmdAt 0 0 (natLe 8 4096 ++ natLe 4 68 ++ [0, 1] ++ natLe 10 0)
def snapEx : Exec := { execRec 0x0104 (c4 0) with accepted := true, begun := true, reported := 1 }
def fwEx : Exec := { execRec 0x0B01 cFw with accepted := true, begun := true }

/-- What `Obligations.BootSequence` assumes is met. -/
theorem test_meets_BootSequence :
    (∃ (s : State), s.dev.clk.phase = .held ∧ s.dev.clk.phase ≠ .loaded) ∧
    (∃ (s : State) (a : List Byte) (b : List Byte), s.dev.clk.phase ≠ .held ∧ imageValid (if (preferredSlot s.dev) then b else a) ∧ s.dev.clk.phase = .rom) ∧
    (∃ (s : State) (a : List Byte) (b : List Byte), s.dev.clk.phase = .rom ∧ imageValid a = false ∧ imageValid b = false) ∧
    (∃ (s : State) (a : List Byte) (b : List Byte), imageValid (if (preferredSlot s.dev) then b else a) ∧ s.dev.clk.phase = .noImage ∧ s.dev.clk.loadedAt + 10 ^ 9 ≤ s.dev.now) ∧
    (∃ (s : State) (a : List Byte) (b : List Byte), s.dev.clk.phase = .loaded ∧ s.dev.kme.running = false ∧ s.dev.clk.loadedAt + 500 * msNs ≤ s.dev.now ∧ imageValid (if s.dev.clk.imageB then a else b)) ∧
    (∃ (s : State), s.dev.clk.phase = .loaded ∧ s.dev.kme.running = true) :=
  ⟨⟨State.reset, by decide +kernel⟩,
   ⟨(st (ph .rom)), img, [], by decide +kernel⟩,
   ⟨(st (ph .rom)), [], [], by decide +kernel⟩,
   ⟨(st fun d => later 1000000000 (ph .noImage d)), img, [], by decide +kernel⟩,
   ⟨(st fun d => later 500000000 (ph .loaded d)), img, img, by decide +kernel⟩,
   ⟨(rdy 0 c0 (ph .loaded)), by decide +kernel⟩⟩

/-- What `Obligations.BootSequence` assumes is met (its part on configuration is replayed). -/
theorem test_meets_BootSequence_ConfigurationIsReplayed :
    (∃ (s : State), s.dev.clk.phase = .locked ∧ s.dev.kme.running = true ∧ configList s.dev = []) ∧
    (∃ (s : State) (op : Nat) (c : Cmd), s.dev.clk.phase = .locked ∧ s.dev.kme.running = true ∧ configList s.dev = [(op, c)] ∧ op ∉ opcodes) :=
  ⟨⟨(rdy 0 c0 (ph .locked)), by decide +kernel⟩,
   ⟨(rdy 0 c0 fun d => ph .locked { d with clk := { d.clk with defaults := [(0x9999, c0)] } }), 0x9999, c0, by decide +kernel⟩⟩

/-- What `Obligations.ResetsReachTheirRows` assumes is met. -/
theorem test_meets_ResetsReachTheirRows :
    (∃ (s : State) (n : Nat), resetDue false s.dev ∧ resetDue true s.dev = false ∧ (s.dev.pci n).perstIn = false) ∧
    (∃ (s : State), resetDue false s.dev = false) ∧
    (∃ (s : State), resetDue true s.dev) ∧
    (∃ (s : State) (n : Nat), (s.dev.port n).personality ≠ .usp) ∧
    (∃ (s : State) (n : Nat), (s.dev.port n).personality = .usp ∧ (pinOf n 2 s.dev).isSome ∧ (s.dev.pci n).perstIn = false ∧ (n ≠ s.dev.glb.mgrPort ∨ s.dev.clk.strapPerstWarm = false) ∧ ((s.dev.port n).holder ≠ 0 ∨ n = s.dev.glb.mgrPort)) ∧
    (∃ (s : State) (n : Nat), (s.dev.pci n).perstIn = true ∧ (s.dev.port n).personality = .usp ∧ (s.dev.port n).enabled = true ∧ (s.dev.pci n).dpc = false ∧ (s.dev.port n).holder ≠ 0) ∧
    (∃ (s : State) (n : Nat), (s.dev.pci n).perstIn = true ∧ (s.dev.port n).personality ≠ .usp) :=
  ⟨⟨(rdy 0 c0 fun d => plan false 10000 (part5 d)), 0, by decide +kernel⟩,
   ⟨(rdy 0 c0 fun d => plan false 9999 (part5 d)), by decide +kernel⟩,
   ⟨(rdy 0 c0 fun d => plan true 10000 (part5 d)), by decide +kernel⟩,
   ⟨(rdy 0 c0 fun d => plan true 9999 (part5 d)), 8, by decide +kernel⟩,
   ⟨(st fun d => pinned 0 2 false { part5 d with glb := { d.glb with mgrPort := 95 } }), 0, by decide +kernel⟩,
   ⟨(st fun d => pinned 0 2 true { part5 d with glb := { d.glb with mgrPort := 95 } }), 0, by decide +kernel⟩,
   ⟨(st fun d => pinned 8 2 true (part5 d)), 8, by decide +kernel⟩⟩

/-- What `Obligations.ReferenceInputs` assumes is met. -/
theorem test_meets_ReferenceInputs :
    (∃ (s : State) (n : Nat), s.dev.clk.phase ≠ .held ∧ s.dev.clk.aValid = true ∧ s.dev.clk.bValid = true ∧ s.dev.clk.holdover = false ∧ jtagOf n ≠ .idcode) ∧
    (∃ (s : State), (∀ k < 96, (s.dev.port k).personality = .off) ∧ (s.dev.clk.activeB = true → s.dev.clk.bValid = false) ∧ (s.dev.clk.activeB = false → s.dev.clk.aValid = false) ∧ s.dev.clk.phase ≠ .held ∧ s.dev.clk.holdover = false) ∧
    (∃ (s : State) (v : Bool), (∀ k < 96, (s.dev.port k).personality = .off) ∧ s.dev.clk.holdover = true ∧ s.dev.clk.activeB = v) :=
  ⟨⟨(st fun d => refs true true false .ready false (part5 d)), 2, by decide +kernel⟩,
   ⟨(st fun d => refs false true false .ready false d), ball_lt (by decide +kernel), by decide +kernel⟩,
   ⟨(st fun d => refs false false true .ready true d), true, ball_lt (by decide +kernel), by decide +kernel⟩⟩

/-- What `Obligations.ResetAndFirmwareCommands` assumes is met. -/
theorem test_meets_ResetAndFirmwareCommands :
    (∃ (s : State) (c : Cmd) (die : Nat), NoTarget c ∧ Ready 0x0102 c s.dev ∧ die < 4 ∧ c.params = [2, BitVec.ofNat 8 die, 0, 0, 0, 0, 0, 0] ∧ dieOff die s.dev) ∧
    (∃ (s : State) (c : Cmd) (die : Nat), NoTarget c ∧ Ready 0x0102 c s.dev ∧ die < 4 ∧ c.params = [3, BitVec.ofNat 8 die, 0, 0, 0, 0, 0, 0]) ∧
    (∃ (s : State) (c : Cmd) (cold : Bool), NoTarget c ∧ Ready 0x0102 c s.dev ∧ c.params = [BitVec.ofNat 8 (natOfBool cold), 0, 0, 0, 0, 0, 0, 0]) ∧
    (∃ (s : State) (c : Cmd), NoTarget c ∧ Ready 0x0104 c s.dev ∧ c.params = [1, 0, 0, 0]) ∧
    (∃ (s : State) (c : Cmd), NoTarget c ∧ Ready 0x0104 c s.dev ∧ c.params = [0, 0, 0, 0] ∧ 36 + listBytes (snapshotPackets s.dev) ≤ 2 ^ 20) ∧
    (∃ (s : State) (c : Cmd) (image : List Byte), NoTarget c ∧ Ready 0x0B01 c s.dev ∧ c.params.length = 24 ∧ u64 c.params 0 % 4096 = 0 ∧ u32 c.params 8 = image.length ∧ 64 ≤ image.length ∧ image.length ≤ 2 ^ 24 ∧ u8 c.params 12 ≤ 2 ∧ u8 c.params 13 < 4 ∧ zeros c.params 14 10 ∧ headerGood image ∧ u32 image 16 = image.length ∧ fwSlot (u8 c.params 12) s.dev ≠ s.dev.clk.imageB) ∧
    (∃ (s : State) (e : Exec) (src : Source) (seq : Byte), s.dev.kme.execs = [e] ∧ e.accepted = true ∧ e.begun = true ∧ e.cmd.source = src ∧ e.cmd.seq = seq ∧ e.op = 0x0104 ∧ e.reported ≠ 2) ∧
    (∃ (s : State) (e : Exec) (src : Source) (seq : Byte) (k : Nat) (f : FwStage), s.dev.kme.execs = [e] ∧ e.accepted = true ∧ e.begun = true ∧ e.cmd.source = src ∧ e.cmd.seq = seq ∧ e.op = 0x0B01 ∧ s.dev.clk.staged = some f ∧ f.good = true ∧ k = 0 ∧ s.dev.now ≤ e.since + 60 * 10 ^ 9 ∧ u8 e.cmd.params 13 = 1) ∧
    (∃ (s : State), s.dev.kme.execs = []) :=
  ⟨⟨(rdy 0x0102 (cRst 2 3) id), (cRst 2 3), 3, ⟨rfl, rfl⟩, ready_of (by decide +kernel), by decide +kernel⟩,
   ⟨(rdy 0x0102 (cRst 3 0) id), (cRst 3 0), 0, ⟨rfl, rfl⟩, ready_of (by decide +kernel), by decide +kernel⟩,
   ⟨(rdy 0x0102 (cRst 1 0) id), (cRst 1 0), true, ⟨rfl, rfl⟩, ready_of (by decide +kernel), by decide +kernel⟩,
   ⟨(rdy 0x0104 (c4 1) part5), (c4 1), ⟨rfl, rfl⟩, ready_of (by decide +kernel), by decide +kernel⟩,
   ⟨(rdy 0x0104 (c4 0) part5), (c4 0), ⟨rfl, rfl⟩, ready_of (by decide +kernel), by decide +kernel⟩,
   ⟨(rdy 0x0B01 cFw id), cFw, img, ⟨rfl, rfl⟩, ready_of (by decide +kernel), by decide +kernel⟩,
   ⟨(st fun d => { d with kme := { d.kme with execs := [snapEx] }, snapshots := [(1, snapshotNone)] }), snapEx, s0src, 1, by decide +kernel⟩,
   ⟨(st fun d => later 60000000000 { d with kme := { d.kme with execs := [fwEx] }, clk := { d.clk with staged := some fw0 } }), fwEx, s0src, 1, 0, fw0, by decide +kernel⟩,
   ⟨(st id), by decide +kernel⟩⟩

end W02

namespace W03

def cCr (p f b a : Nat) := cmdAt 0 0 (natLe 1 p ++ natLe 1 f ++ natLe 1 b ++ [0] ++ natLe 4 a)
def only5 (x : Part) (d : Device) : Device := { d with
  parts := [(0, partZero), (5, x)], segs := [(5, { segReset with state := .disabled })],
  journals := [(5, { journalNone with entries := 8192 })] }
def act5 : Part := { partFree with state := .active, dsbCount := 2, actEntries := 8 }
def cP (ps : List Byte) := cmdAt 5 0 ps
def steer1 : Steer := { steerFree with port := 8, bridge := 1, part := 5, realRid := 0x110 }
def pst (x : Part) (t : Nat) (its : List Item) (sts : Tbl Steer) : State := st fun d => later t { only5 x d with items := its, steers := sts }
def dsp0 : Port := { portReset with personality := .dsp, width := 4, maxRate := 5 }
def sv : Sriov := { vendor := 1, vfDevice := 2, vfEnable := true, vfMse := true, ariCapable := false, numVfs := 4, firstOffset := 0x10, stride := 1, vfBars := [], vfTypes := [] }
def bind (x : Part) (d : Device) : Device := { only5 x d with
  ports := [(8, dsp0)], glb := { d.glb with mgrPort := 95, fid := 31 }, sriov := [(sriovKey 8 0x100, sv)] }
def cBp := cmdAt 5 0 [8, 31, 1, 0]
def cBv (t : Nat) := cmdAt t 0 (natLe 1 8 ++ natLe 1 1 ++ natLe 2 0x100 ++ natLe 2 3 ++ natLe 1 255 ++ natLe 1 31 ++ [0, 0, 0, 0])
def st3 : Steer := { steer1 with pfRid := 0x100, vfIndex := 3, func := 255 }

/-- What `Obligations.PartitionCommands` assumes is met. -/
theorem test_meets_PartitionCommands :
    (∃ (s : State) (c : Cmd) (p : Nat) (flags : Nat) (dsbs : Nat) (act : Nat), NoTarget c ∧ Ready 0x0301 c s.dev ∧ 1 ≤ p ∧ p ≤ 48 ∧ (s.dev.part p).state = .free ∧ flags < 8 ∧ 1 ≤ dsbs ∧ dsbs ≤ 96 ∧ act % 256 = 0 ∧ act ≤ freeAct s.dev ∧ c.source.transport ≠ 7 ∧ c.params = natLe 1 p ++ natLe 1 flags ++ natLe 1 dsbs ++ [0] ++ natLe 4 act) ∧
    (∃ (s : State) (c : Cmd) (p : Nat) (ms : Nat), Ready 0x0303 c s.dev ∧ 1 ≤ p ∧ p ≤ 48 ∧ c.target.toNat = p ∧ c.param0 = 0 ∧ (s.dev.part p).state = .active ∧ ms ≤ 1000 ∧ c.params = natLe 2 ms ++ [0, 0] ∧ inFlight p s.dev = 0) ∧
    (∃ (s : State) (c : Cmd) (p : Nat) (ms : Nat), Ready 0x0303 c s.dev ∧ 1 ≤ p ∧ p ≤ 48 ∧ c.target.toNat = p ∧ c.param0 = 0 ∧ (s.dev.part p).state = .active ∧ ms ≤ 1000 ∧ c.params = natLe 2 ms ++ [0, 0] ∧ inFlight p s.dev ≠ 0) ∧
    (∃ (s : State) (c : Cmd) (p : Nat), Ready 0x0303 c s.dev ∧ 1 ≤ p ∧ p ≤ 48 ∧ c.target.toNat = p ∧ c.param0 = 0 ∧ (s.dev.part p).state = .quiesced ∧ c.params = [0, 0, 1, 0] ∧ journalFits (s.dev.journal p) (journalSources p s.dev)) ∧
    (∃ (s : State) (c : Cmd) (p : Nat), Ready 0x0302 c s.dev ∧ 1 ≤ p ∧ p ≤ 48 ∧ c.target.toNat = p ∧ c.param0 = 0 ∧ (s.dev.part p).state = .active ∧ portsOf p s.dev = [] ∧ vfsOf p s.dev = [] ∧ (∀ e ∈ s.dev.steers, e.2.part ≠ p) ∧ c.params = []) ∧
    (∃ (s : State) (c : Cmd) (p : Nat), Ready 0x0306 c s.dev ∧ 1 ≤ p ∧ p ≤ 48 ∧ c.target.toNat = p ∧ c.param0 = 0 ∧ (s.dev.part p).state = .quiesced ∧ c.params = [0, 0, 0, 0]) :=
  ⟨⟨(rdy 0x0301 (cCr 48 7 96 32768) id), (cCr 48 7 96 32768), 48, 7, 96, 32768, ⟨rfl, rfl⟩, ready_of (by decide +kernel), by decide +kernel⟩,
   ⟨(rdy 0x0303 (cP [0, 0, 0, 0]) part5), (cP [0, 0, 0, 0]), 5, 0, ready_of (by decide +kernel), by decide +kernel⟩,
   ⟨(rdy 0x0303 (cP [0xE8, 3, 0, 0]) fun d => { part5 d with items := [item0] }), (cP [0xE8, 3, 0, 0]), 5, 1000, ready_of (by decide +kernel), by decide +kernel⟩,
   ⟨(rdy 0x0303 (cP [0, 0, 1, 0]) (only5 { act5 with state := .quiesced, quiesceReq := true })), (cP [0, 0, 1, 0]), 5, ready_of (by decide +kernel), by decide +kernel⟩,
   ⟨(rdy 0x0302 (cP []) fun d => { only5 act5 d with windows := [(3, { windowFree with valid := true, srcPart := 5, dstPart := 6 })] }), (cP []), 5, ready_of (by decide +kernel), by decide +kernel⟩,
   ⟨(rdy 0x0306 (cP [0, 0, 0, 0]) (only5 { act5 with state := .quiesced })), (cP [0, 0, 0, 0]), 5, ready_of (by decide +kernel), by decide +kernel⟩⟩

/-- What `Obligations.PartitionEvents` assumes is met. -/
theorem test_meets_PartitionEvents :
    (∃ (s : State) (p : Nat) (n : Nat) (e : Nat), (s.dev.part p).state = .quiescing ∧ inFlight p s.dev = 0 ∧ s.dev.now < (s.dev.part p).quiesceSince + (s.dev.part p).quiesceTimeoutMs * msNs ∧ (s.dev.part p).state ≠ .resetting ∧ (s.dev.port n).personality ≠ .usp ∧ (s.dev.steer e).fenced = false) ∧
    (∃ (s : State) (p : Nat), inFlight p s.dev ≠ 0 ∧ (s.dev.part p).state = .quiescing ∧ (s.dev.part p).quiesceSince + (s.dev.part p).quiesceTimeoutMs * msNs ≤ s.dev.now) ∧
    (∃ (s : State) (p : Nat), (s.dev.part p).state ≠ .quiescing ∧ (s.dev.part p).state = .resetting ∧ (s.dev.func (.pf p)).flr = .idle ∧ vfsOf p s.dev = [] ∧ (s.dev.part p).quiesceReq = false ∧ (∀ y ∈ s.dev.kme.execs, y.op ≠ 0x0306)) ∧
    (∃ (s : State) (p : Nat), (s.dev.part p).state = .resetting ∧ (s.dev.func (.pf p)).flr = .idle ∧ vfsOf p s.dev = [] ∧ (s.dev.part p).quiesceReq = true) ∧
    (∃ (s : State) (p : Nat) (n : Nat) (e : Nat), (s.dev.port n).personality = .usp ∧ (s.dev.port n).holder = p ∧ p ≠ 0 ∧ (s.dev.part p).state = .active ∧ s.dev.now < (s.dev.steer e).retryUntil) ∧
    (∃ (s : State) (e : Nat), (s.dev.steer e).retryUntil ≠ 0 ∧ (s.dev.steer e).retryUntil ≤ s.dev.now ∧ (s.dev.steer e).fenced = true ∧ steerDrained e s.dev = true ∧ s.dev.kme.execs = []) ∧
    (∃ (s : State) (e : Nat), steerDrained e s.dev = false ∧ s.dev.now < (s.dev.steer e).fencedAt + (s.dev.steer e).timeoutMs * msNs) :=
  ⟨⟨(pst { act5 with state := .quiescing } 0 [] []), 5, 0, 0, by decide +kernel⟩,
   ⟨(pst { act5 with state := .quiescing } 10000000 [item0] []), 5, by decide +kernel⟩,
   ⟨(pst { act5 with state := .resetting } 5 [] []), 5, by decide +kernel⟩,
   ⟨(pst { act5 with state := .resetting, quiesceReq := true } 5 [] []), 5, by decide +kernel⟩,
   ⟨(st fun d => { part5 d with steers := [(0, { steer1 with retryUntil := 5 })] }), 5, 0, 0, by decide +kernel⟩,
   ⟨(pst act5 5 [] [(0, { steer1 with retryUntil := 5, fenced := true })]), 0, by decide +kernel⟩,
   ⟨(pst act5 9999999 [{ item0 with steer := some 0 }] [(0, { steer1 with fenced := true })]), 0, by decide +kernel⟩⟩

/-- What `Obligations.BindingCommands` assumes is met. -/
theorem test_meets_BindingCommands :
    (∃ (s : State) (c : Cmd) (p : Nat) (n : Nat) (k : Nat), Ready 0x0304 c s.dev ∧ 1 ≤ p ∧ p ≤ 48 ∧ (s.dev.part p).state = .active ∧ c.param0 = 0 ∧ n < 96 ∧ k < (s.dev.part p).dsbCount ∧ k < 96 ∧ portBridge p k s.dev = false ∧ c.source.transport < 6 ∧ c.target.toNat = p ∧ (s.dev.port n).personality = .dsp ∧ (s.dev.port n).absorbedBy = none ∧ (s.dev.port n).holder = 0 ∧ n ≠ s.dev.glb.mgrPort ∧ steersOut n s.dev = false ∧ steeringBridge p k s.dev = false ∧ journalFits (s.dev.journal p) (journalSources p s.dev + 1) ∧ (s.dev.pci n).dpc = false ∧ s.dev.glb.fid < 32 ∧ c.params = [BitVec.ofNat 8 n, BitVec.ofNat 8 s.dev.glb.fid, BitVec.ofNat 8 k, 0]) ∧
    (∃ (s : State) (c : Cmd) (p : Nat) (n : Nat) (k : Nat) (rid : Nat) (vf : Nat) (f : Nat), Ready 0x0305 c s.dev ∧ 1 ≤ p ∧ p ≤ 48 ∧ (s.dev.part p).state = .active ∧ c.param0 = 0 ∧ n < 96 ∧ k < (s.dev.part p).dsbCount ∧ k < 96 ∧ portBridge p k s.dev = false ∧ c.source.transport < 6 ∧ vf < 2 ^ 16 ∧ rid < 2 ^ 16 ∧ f < 256 ∧ (s.dev.port n).personality = .dsp ∧ (s.dev.port n).absorbedBy = none ∧ (s.dev.sriovOf n rid).vfEnable = true ∧ vf < (s.dev.sriovOf n rid).numVfs ∧ s.dev.glb.fid < 32 ∧ c.target.toNat = p ∧ (s.dev.part p).vfSteered = true ∧ (s.dev.part p).fabric = false ∧ s.dev.steers = [] ∧ s.dev.homeSteers = [] ∧ (s.dev.port n).holder ≠ p ∧ c.params = natLe 1 n ++ natLe 1 k ++ natLe 2 rid ++ natLe 2 vf ++ natLe 1 f ++ natLe 1 s.dev.glb.fid ++ [0, 0, 0, 0]) ∧
    (∃ (s : State) (c : Cmd) (p : Nat) (n : Nat) (k : Nat) (rid : Nat) (vf : Nat) (f : Nat) (x : Steer), Ready 0x0305 c s.dev ∧ 1 ≤ p ∧ p ≤ 48 ∧ (s.dev.part p).state = .active ∧ c.param0 = 0 ∧ n < 96 ∧ k < (s.dev.part p).dsbCount ∧ k < 96 ∧ portBridge p k s.dev = false ∧ c.source.transport < 6 ∧ vf < 2 ^ 16 ∧ rid < 2 ^ 16 ∧ f < 256 ∧ (s.dev.port n).personality = .dsp ∧ (s.dev.port n).absorbedBy = none ∧ (s.dev.sriovOf n rid).vfEnable = true ∧ vf < (s.dev.sriovOf n rid).numVfs ∧ s.dev.glb.fid < 32 ∧ c.target = 0 ∧ s.dev.steers = [(0, x)] ∧ x.port = n ∧ x.pfRid = rid ∧ x.vfIndex = vf ∧ c.params = natLe 1 n ++ natLe 1 k ++ natLe 2 rid ++ natLe 2 vf ++ natLe 1 f ++ natLe 1 s.dev.glb.fid ++ [0, 0, 0, 0] ∧ steerDrained 0 s.dev = true) ∧
    (∃ (s : State) (c : Cmd) (p : Nat) (n : Nat) (k : Nat) (rid : Nat) (vf : Nat) (f : Nat) (x : Steer), Ready 0x0305 c s.dev ∧ 1 ≤ p ∧ p ≤ 48 ∧ (s.dev.part p).state = .active ∧ c.param0 = 0 ∧ n < 96 ∧ k < (s.dev.part p).dsbCount ∧ k < 96 ∧ portBridge p k s.dev = false ∧ c.source.transport < 6 ∧ vf < 2 ^ 16 ∧ rid < 2 ^ 16 ∧ f < 256 ∧ (s.dev.port n).personality = .dsp ∧ (s.dev.port n).absorbedBy = none ∧ (s.dev.sriovOf n rid).vfEnable = true ∧ vf < (s.dev.sriovOf n rid).numVfs ∧ s.dev.glb.fid < 32 ∧ c.target = 0 ∧ s.dev.steers = [(0, x)] ∧ x.port = n ∧ x.pfRid = rid ∧ x.vfIndex = vf ∧ c.params = natLe 1 n ++ natLe 1 k ++ natLe 2 rid ++ natLe 2 vf ++ natLe 1 f ++ natLe 1 s.dev.glb.fid ++ [0, 0, 0, 0] ∧ steerDrained 0 s.dev = false) :=
  ⟨⟨(rdy 0x0304 cBp (bind act5)), cBp, 5, 8, 1, ready_of (by decide +kernel), by decide +kernel⟩,
   ⟨(rdy 0x0305 (cBv 5) (bind { act5 with vfSteered := true })), (cBv 5), 5, 8, 1, 0x100, 3, 255, ready_of (by decide +kernel), by decide +kernel⟩,
   ⟨(rdy 0x0305 (cBv 0) fun d => { bind { act5 with vfSteered := true } d with steers := [(0, st3)] }), (cBv 0), 5, 8, 1, 0x100, 3, 255, st3, ready_of (by decide +kernel), by decide +kernel⟩,
   ⟨(rdy 0x0305 (cBv 0) fun d => { bind { act5 with vfSteered := true } d with steers := [(0, st3)], items := [{ item0 with steer := some 0 }] }), (cBv 0), 5, 8, 1, 0x100, 3, 255, st3, ready_of (by decide +kernel), by decide +kernel⟩⟩

end W03

namespace W04

def e1 : ActEntry := { base := 0x1000, limit := 0xFFFFFFFFFFFFFFFF, rid := 0x100, ridMask := 0xFFFF, rights := 0x87 }
def e2 : ActEntry := { e1 with base := 0, limit := 0xFFF }
def e3 : ActEntry := { e1 with base := 0x2000, limit := 0x2FFF, rights := 0x81 }
def seg5 (x : SegState) (es : Tbl (Option ActEntry)) (d : Device) : Device := { part5 d with segs := [(5, { segReset with state := x, entries := es, gen := 65535 })] }
def cA (ps : List Byte) := cmdAt 5 0 ps
def inside (k : Nat) (d : Device) : Device := { d with items := [{ item0 with stage := .crossing, checkedBy := some k }] }
def exC : Exec := execRec 0x0401 (cA [])
def rdyC (f : Device → Device) : State := st fun d => later 9 { f d with kme := { d.kme with running := true, execs := [{ exC with applied := true }] } }
def cAw (n : Nat) (e : ActEntry) := cA (natLe 4 n ++ natLe 2 1 ++ natLe 2 0 ++ natLe 8 e.base ++ natLe 8 e.limit ++ natLe 2 e.rid ++ natLe 2 e.ridMask ++ natLe 1 e.rights ++ natLe 3 0)
def cAe (v : Nat) := cA (natLe 2 v ++ [0, 0])
def cAr (v : Nat) := cA (natLe 4 v ++ natLe 2 1 ++ [0, 0])
def sg (es : Tbl (Option ActEntry)) : Seg := { segReset with state := .enabled, entries := es }
def tr (a : Nat) (k : Kind) : Tlp := { tlp0 with kind := k, addr := a, reqId := 0x100 }
def ent (cls : Nat) : Item := { item0 with stage := .entry, cls := cls, tlp := { tlp0 with kind := if cls = 1 then .memRead else .memWrite } }
def exD : Exec := { execRec 0x0401 (cA []) with applied := true, begun := true }

/-- What `Obligations.AccessCommands` assumes is met. -/
theorem test_meets_AccessCommands :
    (∃ (s : State) (c : Cmd) (p : Nat) (e : Exec), Ready 0x0401 c s.dev ∧ 1 ≤ p ∧ p ≤ 48 ∧ c.target.toNat = p ∧ c.param0 = 0 ∧ (s.dev.part p).state ≠ .free ∧ c.params = [] ∧ (s.dev.seg p).state = .disabled ∧ execOf 0x0401 c s.dev = some e ∧ e.applied = true ∧ oldInflight p s.dev = 0) ∧
    (∃ (s : State) (c : Cmd) (p : Nat) (e : Exec), Ready 0x0401 c s.dev ∧ 1 ≤ p ∧ p ≤ 48 ∧ c.target.toNat = p ∧ c.param0 = 0 ∧ (s.dev.part p).state ≠ .free ∧ c.params = [] ∧ (s.dev.seg p).state = .disabled ∧ execOf 0x0401 c s.dev = some e ∧ e.applied = true ∧ oldInflight p s.dev ≠ 0) ∧
    (∃ (s : State) (c : Cmd) (p : Nat) (e : Exec), Ready 0x0401 c s.dev ∧ 1 ≤ p ∧ p ≤ 48 ∧ c.target.toNat = p ∧ c.param0 = 0 ∧ (s.dev.part p).state ≠ .free ∧ c.params = [] ∧ (s.dev.seg p).state = .disabled ∧ execOf 0x0401 c s.dev = some e ∧ e.applied = false) ∧
    (∃ (s : State) (c : Cmd) (p : Nat), Ready 0x0401 c s.dev ∧ 1 ≤ p ∧ p ≤ 48 ∧ c.target.toNat = p ∧ c.param0 = 0 ∧ (s.dev.part p).state ≠ .free ∧ c.params = [] ∧ (s.dev.seg p).state = .enabled) ∧
    (∃ (s : State) (c : Cmd) (p : Nat) (first : Nat) (e_2 : ActEntry), Ready 0x0402 c s.dev ∧ 1 ≤ p ∧ p ≤ 48 ∧ c.target.toNat = p ∧ c.param0 = 0 ∧ (s.dev.part p).state ≠ .free ∧ (s.dev.seg p).state = .disabled ∧ first < (s.dev.part p).actEntries ∧ first < 2 ^ 32 ∧ e_2.base % 4096 = 0 ∧ e_2.limit % 4096 = 4095 ∧ e_2.base ≤ e_2.limit ∧ e_2.limit < 2 ^ 64 ∧ e_2.rid < 2 ^ 16 ∧ e_2.ridMask < 2 ^ 16 ∧ (e_2.rights < 8 ∨ 128 ≤ e_2.rights ∧ e_2.rights < 136) ∧ c.params = natLe 4 first ++ natLe 2 1 ++ natLe 2 0 ++ natLe 8 e_2.base ++ natLe 8 e_2.limit ++ natLe 2 e_2.rid ++ natLe 2 e_2.ridMask ++ natLe 1 e_2.rights ++ natLe 3 0) ∧
    (∃ (s : State) (c : Cmd) (p : Nat) (vector : Nat), Ready 0x0403 c s.dev ∧ 1 ≤ p ∧ p ≤ 48 ∧ c.target.toNat = p ∧ c.param0 = 0 ∧ (s.dev.part p).state ≠ .free ∧ (vector = 0xFFFF ∨ vector < 2048) ∧ c.params = natLe 2 vector ++ [0, 0] ∧ (s.dev.seg p).state = .enabled) ∧
    (∃ (s : State) (c : Cmd) (p : Nat) (vector : Nat), Ready 0x0403 c s.dev ∧ 1 ≤ p ∧ p ≤ 48 ∧ c.target.toNat = p ∧ c.param0 = 0 ∧ (s.dev.part p).state ≠ .free ∧ (vector = 0xFFFF ∨ vector < 2048) ∧ c.params = natLe 2 vector ++ [0, 0] ∧ (s.dev.seg p).state = .disabled ∧ firstOverlap (validEntries (s.dev.seg p)) = none ∧ (∀ i ∈ s.dev.items, i.stage = .held → itemSeg i ≠ p)) ∧
    (∃ (s : State) (c : Cmd) (p : Nat) (vector : Nat) (x : Nat) (y : Nat), Ready 0x0403 c s.dev ∧ 1 ≤ p ∧ p ≤ 48 ∧ c.target.toNat = p ∧ c.param0 = 0 ∧ (s.dev.part p).state ≠ .free ∧ (vector = 0xFFFF ∨ vector < 2048) ∧ c.params = natLe 2 vector ++ [0, 0] ∧ (s.dev.seg p).state = .disabled ∧ firstOverlap (validEntries (s.dev.seg p)) = some (x, y)) ∧
    (∃ (s : State) (c : Cmd) (p : Nat) (first : Nat) (e_2 : ActEntry), Ready 0x0404 c s.dev ∧ 1 ≤ p ∧ p ≤ 48 ∧ c.target.toNat = p ∧ c.param0 = 0 ∧ (s.dev.part p).state ≠ .free ∧ first < (s.dev.part p).actEntries ∧ first < 2 ^ 32 ∧ entryOf (s.dev.seg p) first = some e_2 ∧ c.params = natLe 4 first ++ natLe 2 1 ++ [0, 0]) :=
  ⟨⟨(rdyC (seg5 .disabled [])), (cA []), 5, { exC with applied := true }, ready_of (by decide +kernel), by decide +kernel⟩,
   ⟨(rdyC fun d => inside 5 (seg5 .disabled [] d)), (cA []), 5, { exC with applied := true }, ready_of (by decide +kernel), by decide +kernel⟩,
   ⟨(rdy 0x0401 (cA []) (seg5 .disabled [])), (cA []), 5, exC, ready_of (by decide +kernel), by decide +kernel⟩,
   ⟨(rdy 0x0401 (cA []) (seg5 .enabled [(0, some e1)])), (cA []), 5, ready_of (by decide +kernel), by decide +kernel⟩,
   ⟨(rdy 0x0402 (cAw 7 e1) (seg5 .disabled [(0, some e2)])), (cAw 7 e1), 5, 7, e1, ready_of (by decide +kernel), by decide +kernel⟩,
   ⟨(rdy 0x0403 (cAe 0xFFFF) (seg5 .enabled [(0, some e1)])), (cAe 0xFFFF), 5, 0xFFFF, ready_of (by decide +kernel), by decide +kernel⟩,
   ⟨(rdy 0x0403 (cAe 2047) (seg5 .disabled [(0, some e1), (1, some e2)])), (cAe 2047), 5, 2047, ready_of (by decide +kernel), by decide +kernel⟩,
   ⟨(rdy 0x0403 (cAe 2047) (seg5 .disabled [(0, some e1), (1, some e2), (2, some e3)])), (cAe 2047), 5, 2047, 0, 2, ready_of (by decide +kernel), by decide +kernel⟩,
   ⟨(rdy 0x0404 (cAr 7) (seg5 .disabled [(7, some e1)])), (cAr 7), 5, 7, e1, ready_of (by decide +kernel), by decide +kernel⟩⟩

/-- What `Obligations.AccessChecksAndFlow` assumes is met (its part on access check verdict). -/
theorem test_meets_AccessChecksAndFlow_AccessCheckVerdict :
    (∃ (t : Tlp) (g : Seg), ((validEntries g).filter fun e => decide ((fun (e : ActEntry) => e.base ≤ t.addr / 4096 * 4096 ∧ t.addr / 4096 * 4096 ≤ e.limit) e.2)) = []) ∧
    (∃ (t : Tlp) (g : Seg) (a : Nat × ActEntry), ((validEntries g).filter fun e => decide ((fun (e : ActEntry) => e.base ≤ t.addr / 4096 * 4096 ∧ t.addr / 4096 * 4096 ≤ e.limit) e.2)) = [a] ∧ t.reqId &&& a.2.ridMask ≠ a.2.rid &&& a.2.ridMask) ∧
    (∃ (t : Tlp) (g : Seg) (a : Nat × ActEntry), ((validEntries g).filter fun e => decide ((fun (e : ActEntry) => e.base ≤ t.addr / 4096 * 4096 ∧ t.addr / 4096 * 4096 ≤ e.limit) e.2)) = [a] ∧ t.reqId &&& a.2.ridMask = a.2.rid &&& a.2.ridMask ∧ bitOf a.2.rights (if isAtomic t.kind then 2 else if t.kind = .memWrite then 1 else 0) = true) ∧
    (∃ (t : Tlp) (g : Seg) (a : Nat × ActEntry), ((validEntries g).filter fun e => decide ((fun (e : ActEntry) => e.base ≤ t.addr / 4096 * 4096 ∧ t.addr / 4096 * 4096 ≤ e.limit) e.2)) = [a] ∧ t.reqId &&& a.2.ridMask = a.2.rid &&& a.2.ridMask ∧ bitOf a.2.rights (if isAtomic t.kind then 2 else if t.kind = .memWrite then 1 else 0) = false) ∧
    (∃ (t : Tlp) (g : Seg) (a : Nat × ActEntry) (b : Nat × ActEntry) (rest : List (Nat × ActEntry)), ((validEntries g).filter fun e => decide ((fun (e : ActEntry) => e.base ≤ t.addr / 4096 * 4096 ∧ t.addr / 4096 * 4096 ≤ e.limit) e.2)) = a :: b :: rest) :=
  ⟨⟨(tr 0xFFF .memRead), (sg [(0, some e1)]), by decide +kernel⟩,
   ⟨{ tr 0x1000 .memRead with reqId := 0x101 }, (sg [(0, some e1)]), (0, e1), by decide +kernel⟩,
   ⟨(tr 0xFFFFFFFFFFFFFFFF .fetchAdd), (sg [(0, some e1)]), (0, e1), by decide +kernel⟩,
   ⟨(tr 0x2000 .memWrite), (sg [(0, some e2), (2, some e3)]), (2, e3), by decide +kernel⟩,
   ⟨(tr 0x2FFF .memWrite), (sg [(0, some e1), (2, some e3)]), (0, e1), (2, e3), [], by decide +kernel⟩⟩

/-- What `Obligations.AccessChecksAndFlow` assumes is met (its part on access events). -/
theorem test_meets_AccessChecksAndFlow_AccessEvents :
    (∃ (s : State) (p : Nat) (id : Nat), findItem id s.dev = none ∧ 1 ≤ p ∧ p ≤ 48) ∧
    (∃ (s : State) (p : Nat) (id : Nat) (i : Item), s.dev.items = [i] ∧ i.id = id ∧ i.stage = .entry ∧ checkSegment i s.dev = some p ∧ i.ingress < 96 ∧ (s.dev.seg p).state = .disabled ∧ i.inCells ≤ 1024 ∧ holdUsed s.dev + i.inCells ≤ 8192 ∧ heldCells p s.dev + i.inCells ≤ 1024) ∧
    (∃ (s : State) (p : Nat) (id : Nat) (i : Item), s.dev.items = [i] ∧ i.id = id ∧ i.stage = .entry ∧ checkSegment i s.dev = some p ∧ i.ingress < 96 ∧ (s.dev.seg p).state = .disabled ∧ 1024 < heldCells p s.dev + i.inCells) ∧
    (∃ (s : State) (p : Nat) (id : Nat) (i : Item), s.dev.items = [i] ∧ i.id = id ∧ i.stage = .entry ∧ checkSegment i s.dev = some p ∧ i.ingress < 96 ∧ (s.dev.seg p).state = .enabled ∧ i.cls = 1 ∧ checkRequest i.tlp (s.dev.seg p) none = (1, 0, 0)) ∧
    (∃ (s : State) (p : Nat) (e : Exec), s.dev.kme.execs = [e] ∧ e.op = 0x0401 ∧ e.cmd.target.toNat = p ∧ e.applied = true ∧ e.begun = true ∧ oldInflight p s.dev = 0 ∧ s.dev.now < e.since + msNs) ∧
    (∃ (s : State) (p : Nat) (e : Exec), s.dev.kme.execs = [e] ∧ e.op = 0x0401 ∧ e.cmd.target.toNat = p ∧ e.applied = true ∧ e.begun = true ∧ oldInflight p s.dev ≠ 0 ∧ e.since + msNs ≤ s.dev.now ∧ (s.dev.seg p).state = .disabled ∧ (s.dev.seg p).stallLong = false ∧ (s.dev.part p).state = .active ∧ max (s.dev.seg p).disabledAt (s.dev.part p).activeSince + 250000 ≤ s.dev.now) ∧
    (∃ (s : State) (p : Nat), (s.dev.seg p).stallLong = true) ∧
    (∃ (p : Nat), (p = 0 ∨ 48 < p)) :=
  ⟨⟨(st id), 5, 7, by decide +kernel⟩,
   ⟨(st fun d => { seg5 .disabled [] d with items := [{ ent 0 with inCells := 1024 }] }), 5, 7, { ent 0 with inCells := 1024 }, by decide +kernel⟩,
   ⟨(st fun d => { seg5 .disabled [] d with items := [{ ent 0 with inCells := 1025 }] }), 5, 7, { ent 0 with inCells := 1025 }, by decide +kernel⟩,
   ⟨(st fun d => { seg5 .enabled [] d with items := [ent 1] }), 5, 7, (ent 1), by decide +kernel⟩,
   ⟨(st fun d => { seg5 .disabled [] d with kme := { d.kme with execs := [exD] } }), 5, exD, by decide +kernel⟩,
   ⟨(st fun d => later 1000000 (inside 5 { seg5 .disabled [] d with kme := { d.kme with execs := [exD] } })), 5, exD, by decide +kernel⟩,
   ⟨(st fun d => { part5 d with segs := [(48, { segReset with stallLong := true, violValid := true, violCount := 3 })] }), 48, by decide +kernel⟩,
   ⟨49, by decide +kernel⟩⟩

end W04

namespace W05

def two (d : Device) : Device := { d with parts := [(0, partZero), (47, { partFree with state := .active }), (48, { partFree with state := .active })] }
def cN (w src dst off size base vec : Nat) := cmdAt 0 0 (natLe 2 w ++ natLe 1 src ++ natLe 1 dst ++ natLe 8 off ++ natLe 8 size ++ natLe 8 base ++ [0, 7, 0, 0] ++ natLe 2 vec ++ natLe 2 vec ++ natLe 12 0)
def win : Window := { windowFree with valid := true, srcPart := 47, dstPart := 48, size := 0x1000, write := true, read := true, doorbell := true, cplTimeoutMs := 50, errCount := 3, errValid := true, errReason := 2 }
def dw (w : Nat) : DoorbellWait := { window := w, bits := 5, behind := [] }
def ww (w : Nat) (d : Device) : Device := { two d with windows := [(w, win)] }
def cNw (w : Nat) (ps : List Byte) := cmdAt w 0 ps
def trk : Track :=
  { id := 9, port := 8, fid := none, rid := 0x200, tag := 3, nearRid := 0x100, nearTag := 4, nearPort := 0, part := 5, srcPart := 47, window := none,
    steer := none, vf := none, spent := false, fn := none, kind := .memRead, queue := 0, addr := 0x1000, remaining := 4, swap := 0, wantAddr := 0x1000, wantLen := 4,
    nearFab := none, held := [], sentAt := 0, answered := false }
def wtk (t : Nat) := st fun d => later t { ww 3 d with tracks := [{ trk with window := some 3 }] }
def cT := cmdAt 255 0 ([1, 31] ++ natLe 2 0x600 ++ natLe 8 0 ++ natLe 4 3 ++ natLe 4 7 ++ natLe 2 0x100 ++ [5, 0] ++ natLe 4 60000 ++ natLe 4 0)
def tm0 : TlmEntry := { tlmReset with enable := true, srcId := 0x600, m := -3, b := 7, dstId := 9, dstSize := 0, maxAgeMs := 100, shift := 1 }
def tmE (x : TlmEntry) (v : Nat) := st fun d => { d with tlm := [(255, x)], feeds := { d.feeds with vinA := v } }
def tm1 : TlmEntry := { tm0 with srcIpmb := true, matchOffset := 0xFF, fieldWidth := 8, shift := 0 }
def tm2 : TlmEntry := { tm0 with evalAt := some 0, srcValid := true, value := -2 }

/-- What `Obligations.WindowRows` assumes is met. -/
theorem test_meets_WindowRows :
    (∃ (s : State) (c : Cmd) (w : Nat) (src : Nat) (dst : Nat) (off : Nat) (size : Nat) (base : Nat) (vec : Nat), NoTarget c ∧ Ready 0x0501 c s.dev ∧ w < 512 ∧ src ≤ 48 ∧ dst ≤ 48 ∧ src ≠ dst ∧ (s.dev.part src).state ≠ .free ∧ (s.dev.part dst).state ≠ .free ∧ off % 4096 = 0 ∧ size % 4096 = 0 ∧ 4096 ≤ size ∧ base % 4096 = 0 ∧ base < 2 ^ 64 ∧ off + size ≤ 0xFFFFFC000 ∧ vec < 64 ∧ s.dev.windows = [] ∧ c.params = natLe 2 w ++ natLe 1 src ++ natLe 1 dst ++ natLe 8 off ++ natLe 8 size ++ natLe 8 base ++ [0, 7, 0, 0] ++ natLe 2 vec ++ natLe 2 vec ++ natLe 12 0 ∧ s.dev.dbWaits = []) ∧
    (∃ (s : State) (c : Cmd) (w : Nat) (q : Nat), Ready 0x0502 c s.dev ∧ c.target.toNat = w ∧ c.param0 = 0 ∧ w < 512 ∧ (s.dev.window w).valid = true ∧ c.params = [] ∧ (s.dev.window w).srcPart ≠ q ∧ (s.dev.window w).doorbell = true) ∧
    (∃ (s : State) (c : Cmd) (w : Nat) (clear : Bool), Ready 0x0503 c s.dev ∧ c.target.toNat = w ∧ c.param0 = 0 ∧ w < 512 ∧ (s.dev.window w).valid = true ∧ c.params = [BitVec.ofNat 8 (natOfBool clear), 0, 0, 0]) ∧
    (∃ (s : State) (w : Nat) (y : DoorbellWait), s.dev.dbWaits = [y] ∧ y.window = w ∧ y.behind = []) :=
  ⟨⟨(rdy 0x0501 (cN 511 48 47 0 0xFFFFFC000 0xFFFFFFFFFFFFF000 63) two), (cN 511 48 47 0 0xFFFFFC000 0xFFFFFFFFFFFFF000 63), 511, 48, 47, 0, 0xFFFFFC000, 0xFFFFFFFFFFFFF000, 63, ⟨rfl, rfl⟩, ready_of (by decide +kernel), by decide +kernel⟩,
   ⟨(rdy 0x0502 (cNw 511 []) (ww 511)), (cNw 511 []), 511, 46, ready_of (by decide +kernel), by decide +kernel⟩,
   ⟨(rdy 0x0503 (cNw 0 [1, 0, 0, 0]) (ww 0)), (cNw 0 [1, 0, 0, 0]), 0, true, ready_of (by decide +kernel), by decide +kernel⟩,
   ⟨(st fun d => { ww 3 d with dbWaits := [dw 3] }), 3, (dw 3), by decide +kernel⟩⟩

/-- What `Obligations.WindowRows` assumes is met (its part on window timeouts). -/
theorem test_meets_WindowRows_WindowTimeouts :
    (∃ (s : State) (t : Track) (w : Nat) (id : Nat), s.dev.tracks = [t] ∧ t.window = some w ∧ t.answered = false ∧ t.fn = none ∧ t.nearFab = none ∧ (s.dev.window w).valid = true ∧ (s.dev.window w).cplTimeoutMs ≠ 0 ∧ s.dev.now < t.sentAt + (s.dev.window w).cplTimeoutMs * msNs ∧ id ≠ t.id) ∧
    (∃ (s : State) (t : Track) (w : Nat), s.dev.tracks = [t] ∧ t.window = some w ∧ t.answered = false ∧ t.fn = none ∧ t.nearFab = none ∧ (s.dev.window w).valid = true ∧ (s.dev.window w).cplTimeoutMs ≠ 0 ∧ t.sentAt + (s.dev.window w).cplTimeoutMs * msNs ≤ s.dev.now) :=
  ⟨⟨(wtk 49999999), { trk with window := some 3 }, 3, 8, by decide +kernel⟩,
   ⟨(wtk 50000000), { trk with window := some 3 }, 3, by decide +kernel⟩⟩

/-- What `Obligations.TelemetryRows` assumes is met. -/
theorem test_meets_TelemetryRows :
    (∃ (s : State) (e : Nat) (c : Cmd), Ready 0x0504 c s.dev ∧ e < 256 ∧ c.target.toNat = e ∧ c.param0 = 0 ∧ c.params.length = 32 ∧ firstFail (tlmFields c.params) = none ∧ tlmClash e (tlmAsked c.params) s.dev = false ∧ (tlmAsked c.params).enable = true) ∧
    (∃ (s : State) (e : Nat) (x : TlmEntry), s.dev.tlm = [(e, x)] ∧ x.enable = true ∧ x.srcIpmb = false ∧ x.srcId = 0x600 ∧ (∀ t, x.evalAt = some t → t + msNs ≤ s.dev.now) ∧ x.dstIpmb = false ∧ x.evalAt = none) ∧
    (∃ (s : State) (e : Nat) (x : TlmEntry), s.dev.tlm = [(e, x)] ∧ x.enable = true ∧ x.srcIpmb = true ∧ x.matchOffset = 0xFF ∧ x.fieldByte = 0 ∧ x.fieldLsb = 0 ∧ x.fieldWidth = 8 ∧ x.srcBe = false ∧ x.signed = false ∧ x.shift = 0) ∧
    (∃ (s : State) (e : Nat) (x : TlmEntry) (t : Nat), s.dev.tlm = [(e, x)] ∧ x.enable = true ∧ x.dstIpmb = false ∧ x.evalAt = some t ∧ x.srcValid = true ∧ s.dev.now ≤ t + x.maxAgeMs * msNs) ∧
    (∃ (s : State) (e : Nat) (x : TlmEntry) (t : Nat), s.dev.tlm = [(e, x)] ∧ x.enable = true ∧ x.evalAt = some t ∧ s.dev.now < t + msNs) :=
  ⟨⟨(rdy 0x0504 cT id), 255, cT, ready_of (by decide +kernel), by decide +kernel⟩,
   ⟨(tmE tm0 11999), 255, tm0, by decide +kernel⟩,
   ⟨(tmE tm1 0), 255, tm1, by decide +kernel⟩,
   ⟨{ tmE tm2 0 with dev := later 100000000 (tmE tm2 0).dev }, 255, tm2, 0, by decide +kernel⟩,
   ⟨{ tmE { tm2 with evalAt := some 5 } 0 with dev := later 1000004 (tmE { tm2 with evalAt := some 5 } 0).dev }, 255, { tm2 with evalAt := some 5 }, 5, by decide +kernel⟩⟩

end W05

namespace W06

/-- PART5 with its bridges open: buses 0 to 2 and memory at 4 GiB below downstream bridge 0. -/
def open5 (d : Device) : Device :=
  let up := { bridgeReset with secondary := 1, subordinate := 9, memBase := 0x80000000, memLimit := 0x8FFFFFFF, mse := true, bme := true }
  let b0 := { up with primary := 1, secondary := 2, subordinate := 2, memLimit := 0x800FFFFF }
  { part5 d with bridges := [(bridgeKey 5 0, b0), (upstreamKey 5, up)] }
def arr (n : Nat) (t : Tlp) : Arrival := { port := n, tlp := t, fab := none, rma := none, fn := none }
def wr (a : Nat) : Tlp := { tlp0 with addr := a, reqId := 0x100 }
def trk6 : Track :=
  { id := 9, port := 8, fid := none, rid := 0x200, tag := 3, nearRid := 0x100, nearTag := 4, nearPort := 0, part := 5, srcPart := 5, window := none,
    steer := none, vf := none, spent := false, fn := none, kind := .memRead, queue := 0, addr := 0x1000, remaining := 4, swap := 0, wantAddr := 0x1000, wantLen := 4,
    nearFab := none, held := [], sentAt := 0, answered := false }
def cpl6 : Tlp := { tlp0 with kind := .cpl, reqId := 0x200, tag := 3 }
def xb (d : Device) : Device := { part5 d with xbr := { d.xbr with enabled := true } }
def it6 : Item := { item0 with stage := .crossing }
def pfl40 (x : Plk) (d : Device) : Device := { d with ports := [(40, pflPort)], plk := [(40, x)] }
def lkRd : Tlp := { tlp0 with kind := .lockedRead, reqId := 0x100, tag := 4, data := [] }
def lkIt : Item := { item0 with tlp := lkRd, cls := 1, srcRid := 0x100, srcTag := 4 }
def lcell : LeakSeen := { panel := none, cell := 3, port := 8, queue := 0, cls := 0, ageNs := 1000001 }
def lkSt (x : LockState) (t : Nat) (d : Device) : Device := later t { part5 d with locks := [(8, { lockReset with state := x })] }
def tal (f : Xbr → Xbr) (t : Nat) : State := st fun d => later t { d with xbr := f { d.xbr with enabled := true } }

/-- What `Obligations.ItemsAreRouted` assumes is met (its part on panel lookup routes). -/
theorem test_meets_ItemsAreRouted_PanelLookupRoutes :
    (∃ (s : State) (a : Arrival) (m : Nat), a.port < 96 ∧ (s.dev.port a.port).personality = .usp ∧ a.rma = none ∧ a.fn = none ∧ a.fab = none ∧ s.dev.fenced ((s.dev.port a.port).holder) = false ∧ inBar (s.dev.func (function1 ((s.dev.port a.port).holder))).windowBar 0x1000000000 a.tlp.addr = false ∧ a.tlp.poisoned = false ∧ a.tlp.kind = .memWrite ∧ routeDown ((s.dev.port a.port).holder) a.tlp s.dev = .port m ∧ m < 96 ∧ (s.dev.port m).personality = .dsp ∧ (s.dev.pci m).dpc = false ∧ linkUp m s.dev = true) ∧
    (∃ (s : State) (a : Arrival) (key : Nat), a.port < 96 ∧ (s.dev.port a.port).personality = .usp ∧ a.rma = none ∧ a.fn = none ∧ a.fab = none ∧ s.dev.fenced ((s.dev.port a.port).holder) = false ∧ inBar (s.dev.func (function1 ((s.dev.port a.port).holder))).windowBar 0x1000000000 a.tlp.addr = false ∧ a.tlp.poisoned = false ∧ a.tlp.kind = .memRead ∧ routeDown ((s.dev.port a.port).holder) a.tlp s.dev = .refuse key) ∧
    (∃ (s : State) (a : Arrival), a.port < 96 ∧ (s.dev.port a.port).personality = .usp ∧ a.rma = none ∧ a.fn = none ∧ a.fab = none ∧ s.dev.fenced ((s.dev.port a.port).holder) = false ∧ inBar (s.dev.func (function1 ((s.dev.port a.port).holder))).windowBar 0x1000000000 a.tlp.addr = false ∧ a.tlp.poisoned = false ∧ a.tlp.kind = .mgmt) :=
  ⟨⟨(st open5), (arr 0 (wr 0x80000000)), 8, by decide +kernel⟩,
   ⟨(st open5), (arr 0 { wr 0x90000000 with kind := .memRead, data := [] }), (upstreamKey 5), by decide +kernel⟩,
   ⟨(st open5), (arr 0 { wr 0x80000000 with kind := .mgmt }), by decide +kernel⟩⟩

/-- What `Obligations.ItemsAreRouted` assumes is met (its part on completions return). -/
theorem test_meets_ItemsAreRouted_CompletionsReturn :
    (∃ (s : State) (a : Arrival) (t : Track), a.port < 96 ∧ (s.dev.port a.port).personality = .dsp ∧ a.fn = none ∧ a.fab = none ∧ a.rma = none ∧ s.dev.tracks = [t] ∧ t.rid = a.tlp.reqId ∧ t.tag = a.tlp.tag ∧ t.fid = none ∧ t.port = a.port ∧ t.fn = none ∧ t.answered = false ∧ t.window = none ∧ t.steer = none ∧ t.nearFab = none ∧ t.nearPort < 96 ∧ (s.dev.port t.nearPort).personality = .usp ∧ linkUp t.nearPort s.dev = true ∧ a.tlp.kind = .cpl ∧ t.kind = .memRead ∧ a.tlp.status = .sc ∧ t.remaining ≤ a.tlp.len) ∧
    (∃ (s : State) (a : Arrival) (t : Track), a.port < 96 ∧ (s.dev.port a.port).personality = .dsp ∧ a.fn = none ∧ a.fab = none ∧ a.rma = none ∧ s.dev.tracks = [t] ∧ t.rid = a.tlp.reqId ∧ t.tag = a.tlp.tag ∧ t.fid = none ∧ t.port = a.port ∧ t.fn = none ∧ t.answered = true) ∧
    (∃ (s : State) (a : Arrival), a.port < 96 ∧ (s.dev.port a.port).personality = .dsp ∧ a.fn = none ∧ a.fab = none ∧ a.rma = none ∧ s.dev.tracks = []) :=
  ⟨⟨(st fun d => { open5 d with tracks := [trk6] }), (arr 8 cpl6), trk6, by decide +kernel⟩,
   ⟨(st fun d => { open5 d with tracks := [{ trk6 with answered := true }] }), (arr 8 cpl6), { trk6 with answered := true }, by decide +kernel⟩,
   ⟨(st open5), (arr 8 cpl6), by decide +kernel⟩⟩

/-- What `Obligations.CellTimesLocksAndTally` assumes is met (its part on cell times). -/
theorem test_meets_CellTimesLocksAndTally_CellTimes :
    (∃ (s : State) (n : Nat), s.dev.xbr.enabled = false ∧ (s.dev.port n).personality ≠ .pfl ∧ s.dev.now < (s.dev.buf n).sharedUsedAt + 10000) ∧
    (∃ (s : State), s.dev.xbr.enabled = true ∧ s.dev.items = []) ∧
    (∃ (s : State) (i : Item), s.dev.xbr.enabled = true ∧ s.dev.items = [i] ∧ i.stage = .crossing ∧ 1 ≤ i.inCells ∧ i.holdCells = 0 ∧ i.ingress < 96 ∧ i.egress < 96 ∧ i.queue < 8 ∧ i.cls < 3 ∧ unitsOf (s.dev.port i.ingress).width = 1 ∧ (s.dev.port i.ingress).absorbedBy = none ∧ (s.dev.port i.egress).absorbedBy = none ∧ withheld i s.dev s.dev = false ∧ throttled i.ingress i.egress s.dev = false ∧ shaftHolds false i.ingress s.dev = false ∧ shaftHolds true i.egress s.dev = false) ∧
    (∃ (s : State) (n : Nat) (cls : Nat), (s.dev.port n).personality = .pfl ∧ cls < 16 ∧ cls % 4 < 3 ∧ (creditOf (s.dev.pfl n) (cls / 4) (cls % 4)).blockUsedAt + 10000 ≤ s.dev.now ∧ 16 ≤ (creditOf (s.dev.pfl n) (cls / 4) (cls % 4)).sharedCells ∧ (creditOf (s.dev.pfl n) (cls / 4) (cls % 4)).sharedHdr < 16) ∧
    (∃ (s : State) (n : Nat) (cls : Nat), (s.dev.port n).personality = .pfl ∧ cls < 16 ∧ cls % 4 < 3 ∧ (creditOf (s.dev.pfl n) (cls / 4) (cls % 4)).blockUsedAt + 10000 ≤ s.dev.now ∧ 16 ≤ (creditOf (s.dev.pfl n) (cls / 4) (cls % 4)).sharedCells ∧ 16 ≤ (creditOf (s.dev.pfl n) (cls / 4) (cls % 4)).sharedHdr) ∧
    (∃ (s : State) (n : Nat) (cls : Nat), (s.dev.port n).personality = .pfl ∧ cls < 16 ∧ cls % 4 < 3 ∧ s.dev.now < (creditOf (s.dev.pfl n) (cls / 4) (cls % 4)).blockUsedAt + 10000) ∧
    (∃ (s : State) (n : Nat) (cls : Nat), (s.dev.port n).personality ≠ .pfl ∧ cls < 3 ∧ 16 ≤ sharedOf (s.dev.buf n) cls ∧ ingressCells n cls s.dev + 16 ≤ minOf (s.dev.buf n) cls + sharedOf (s.dev.buf n) cls ∧ (s.dev.buf n).sharedUsedAt + 10000 ≤ s.dev.now ∧ s.dev.kme.execs = []) :=
  ⟨⟨(st part5), 0, by decide +kernel⟩,
   ⟨(st xb), by decide +kernel⟩,
   ⟨(st fun d => { xb d with items := [it6] }), it6, by decide +kernel⟩,
   ⟨(st fun d => later 10000 (pfl40 (setCredit plkReset 2 2 { creditReset with sharedCells := 16 }) d)), 40, 10, by decide +kernel⟩,
   ⟨(st fun d => later 10000 (pfl40 (setCredit plkReset 2 2 { creditReset with sharedCells := 16, sharedHdr := 16 }) d)), 40, 10, by decide +kernel⟩,
   ⟨(st fun d => later 9999 (pfl40 (setCredit plkReset 2 2 { creditReset with sharedCells := 16 }) d)), 40, 10, by decide +kernel⟩,
   ⟨(st fun d => later 10000 { part5 d with bufs := [(0, { bufReset with sharedCpl := 16 })] }), 0, 2, by decide +kernel⟩⟩

/-- What `Obligations.CellTimesLocksAndTally` assumes is met (its part on locks and tally). -/
theorem test_meets_CellTimesLocksAndTally_LocksAndTally :
    (∃ (s : State) (a : Arrival) (i : Item) (n : Nat), (s.dev.port a.port).personality = .usp ∧ a.tlp.kind = .lockedRead ∧ queuedLock a s.dev = some i ∧ s.dev.items = [i] ∧ lockedPort i.part s.dev = none ∧ s.dev.xbr.enabled = true ∧ unhindered i s.dev ∧ withheld i s.dev s.dev = false ∧ i.egress < 96 ∧ (s.dev.port i.egress).personality = .dsp ∧ (s.dev.lockOf i.egress).state = .unlocked ∧ a.tlp.kind ≠ .lockedCpl ∧ a.port < 96 ∧ a.rma = none ∧ broadcastRoutes (s.dev.port a.port).holder s.dev = [.port n] ∧ (s.dev.pci n).dpc = false ∧ (s.dev.lockOf n).state ≠ .locked ∧ s.dev.xbr.running = false) ∧
    (∃ (s : State) (a : Arrival), a.tlp.kind ≠ .lockedRead ∧ (s.dev.port a.port).personality = .dsp ∧ a.tlp.kind = .lockedCpl ∧ (s.dev.lockOf a.port).state = .pending ∧ a.tlp.status = .sc ∧ a.tlp.len ≠ 0 ∧ (s.dev.port a.port).personality ≠ .usp ∧ s.dev.xbr.enabled = false) ∧
    (∃ (s : State) (n : Nat), (s.dev.lockOf n).state = .locked ∧ (s.dev.lockOf n).since + (s.dev.lockOf n).timeoutMs * msNs ≤ s.dev.now) ∧
    (∃ (s : State), s.dev.xbr.enabled = true ∧ s.dev.xbr.lastStart = none ∧ s.dev.xbr.enabledAt + 10 ^ 9 ≤ s.dev.now ∧ s.dev.xbr.running = false) ∧
    (∃ (s : State), s.dev.xbr.enabled = true ∧ s.dev.xbr.lastStart = none ∧ s.dev.xbr.enabledAt + 10 ^ 9 ≤ s.dev.now ∧ s.dev.xbr.running = true ∧ s.dev.xbr.lost = [] ∧ s.dev.xbr.passDue = false ∧ s.dev.xbr.rerun = false) ∧
    (∃ (s : State) (l : LeakSeen), s.dev.xbr.running = true ∧ s.dev.xbr.lost = [] ∧ s.dev.xbr.passDue = false ∧ l.ageNs ≤ s.dev.now ∧ s.dev.xbr.passMaxresMs * msNs < l.ageNs ∧ l.panel = none ∧ s.dev.xbr.intStatus.getLsbD 0 = false) ∧
    (∃ (s : State), s.dev.xbr.running = true ∧ s.dev.xbr.lost = [] ∧ s.dev.xbr.passDue = false ∧ s.dev.xbr.rerun = true) :=
  ⟨⟨(st fun d => { xb d with items := [lkIt] }), (arr 0 lkRd), lkIt, 8, by decide +kernel⟩,
   ⟨(st (lkSt .pending 5)), (arr 8 { tlp0 with kind := .lockedCpl }), by decide +kernel⟩,
   ⟨(st (lkSt .locked 10000000)), 8, by decide +kernel⟩,
   ⟨(tal id 1000000000), by decide +kernel⟩,
   ⟨(tal (fun x => { x with running := true }) 1000000000), by decide +kernel⟩,
   ⟨(tal (fun x => { x with running := true, passMaxresMs := 1 }) 10000001), lcell, by decide +kernel⟩,
   ⟨(tal (fun x => { x with running := true, rerun := true }) 1000000000), by decide +kernel⟩⟩

end W06

namespace W07

def cPt (n : Nat) (ps : List Byte) := cmdAt n 0 ps
def a0 : Ans := ansOk []
def mgr95 (d : Device) : Device := { d with glb := { d.glb with mgrPort := 95 } }
def pd (x : PflState) (d : Device) : Device := { d with ports := [(40, pflPort)], plk := [(40, { plkReset with state := x })] }
def cBf (a b c al : Nat) := cPt 40 (natLe 2 a ++ natLe 2 b ++ natLe 2 c ++ [0xFF, 0] ++ natLe 4 al)
def exB : Exec := { execRec 0x0207 (cBf 0 0 0 0) with begun := true }
def cPl := cPt 40 (natLe 15 0 ++ natLe 1 3)
def cPp (v w : Nat) := cPt 95 (natLe 6 0 ++ natLe 2 v ++ natLe 2 w ++ [1] ++ natLe 5 0)
def cXb (a m l : Nat) := cmdAt 0 0 (natLe 2 a ++ natLe 2 m ++ natLe 1 l ++ [0, 0, 0])
def cCp (n j sel per : Nat) := cPt n (natLe 1 j ++ [1, 0, 0] ++ natLe 4 sel ++ natLe 4 per ++ [0, 0, 0, 0])
def cDp (b c us v : Nat) := cmdAt 0 0 (natLe 8 b ++ natLe 8 c ++ natLe 4 256 ++ natLe 4 us ++ natLe 16 0 ++ [1] ++ natLe 2 v ++ natLe 5 0)
def cTg (b c r m s : Nat) := cmdAt 0 0 (natLe 8 b ++ natLe 8 c ++ natLe 4 256 ++ natLe 1 r ++ natLe 1 m ++ [0x3F, 0] ++ natLe 16 0 ++ natLe 2 0xFFFF ++ natLe 4 s ++ [0, 0])
def dmp (on : Bool) (room : Nat) (d : Device) : Device := { d with devTime := 1000000, cnt := { d.cnt with global := true, dump := { d.cnt.dump with on := on, entries := room } } }
def ctr (v : Nat) : State := st fun d => { d with counters := [(programKey 95 23, { counterReset with value := v, sel := 0x00000C01, period := 5 })] }

/-- What `Obligations.PortConfigAndState` assumes is met. -/
theorem test_meets_PortConfigAndState :
    (∃ (s : State) (c : Cmd) (n : Nat), Ready 0x0201 c s.dev ∧ c.target.toNat = n ∧ c.param0 = 0 ∧ firstFail (portConfigChecks c s.dev) = none) ∧
    (∃ (s : State) (c : Cmd) (n : Nat) (a : Ans), Ready 0x0201 c s.dev ∧ c.target.toNat = n ∧ c.param0 = 0 ∧ firstFail (portConfigChecks c s.dev) = some a) ∧
    (∃ (s : State) (c : Cmd) (n : Nat), Ready 0x0202 c s.dev ∧ c.target.toNat = n ∧ c.param0 = 0 ∧ c.params = [] ∧ portExists n s.dev) ∧
    (∃ (s : State) (c : Cmd) (n : Nat), Ready 0x0202 c s.dev ∧ c.target.toNat = n ∧ c.param0 = 0 ∧ c.params = [] ∧ 96 ≤ n ∧ n ≤ 100) ∧
    (∃ (s : State) (c : Cmd) (n : Nat) (rate : Nat), Ready 0x0203 c s.dev ∧ c.target.toNat = n ∧ c.param0 = 0 ∧ c.params = natLe 1 rate ++ [0, 0, 0] ∧ portExists n s.dev ∧ rate ≤ (s.dev.port n).maxRate ∧ rate ≤ 7 ∧ (s.dev.port n).personality = .dsp ∧ lstateUp (s.dev.pci n).lstate = true) ∧
    (∃ (s : State) (c : Cmd) (n : Nat), Ready 0x0203 c s.dev ∧ c.target.toNat = n ∧ c.param0 = 0 ∧ c.params = [0, 0, 0, 0] ∧ portExists n s.dev ∧ (s.dev.port n).personality = .pfl ∧ (s.dev.pfl n).state = .down) ∧
    (∃ (s : State) (c : Cmd) (n : Nat), Ready 0x0204 c s.dev ∧ c.target.toNat = n ∧ c.param0 = 0 ∧ c.params = [] ∧ portExists n s.dev ∧ (n ≠ s.dev.glb.mgrPort ∨ sidebandSource c.source = true) ∧ (s.dev.port n).personality = .off) ∧
    (∃ (s : State) (c : Cmd) (n : Nat), Ready 0x0204 c s.dev ∧ c.target.toNat = n ∧ c.param0 = 0 ∧ c.params = [] ∧ portExists n s.dev ∧ (n ≠ s.dev.glb.mgrPort ∨ sidebandSource c.source = true) ∧ (s.dev.port n).personality = .dsp ∧ (s.dev.pci n).dpc = false) ∧
    (∃ (s : State) (c : Cmd) (n : Nat), Ready 0x0204 c s.dev ∧ c.target.toNat = n ∧ c.param0 = 0 ∧ c.params = [] ∧ portExists n s.dev ∧ (n ≠ s.dev.glb.mgrPort ∨ sidebandSource c.source = true) ∧ (s.dev.port n).personality = .pfl) :=
  ⟨⟨(rdy 0x0201 (cPt 0 [2, 4, 5, 0]) mgr95), (cPt 0 [2, 4, 5, 0]), 0, ready_of (by decide +kernel), by decide +kernel⟩,
   ⟨(rdy 0x0201 (cPt 95 [9, 2, 6, 0]) mgr95), (cPt 95 [9, 2, 6, 0]), 95, (ansBad 0), ready_of (by decide +kernel), by decide +kernel⟩,
   ⟨(rdy 0x0202 (cPt 0 []) part5), (cPt 0 []), 0, ready_of (by decide +kernel), by decide +kernel⟩,
   ⟨(rdy 0x0202 (cPt 96 []) part5), (cPt 96 []), 96, ready_of (by decide +kernel), by decide +kernel⟩,
   ⟨(rdy 0x0203 (cPt 8 [5, 0, 0, 0]) part5), (cPt 8 [5, 0, 0, 0]), 8, 5, ready_of (by decide +kernel), by decide +kernel⟩,
   ⟨(rdy 0x0203 (cPt 40 [0, 0, 0, 0]) (pd .down)), (cPt 40 [0, 0, 0, 0]), 40, ready_of (by decide +kernel), by decide +kernel⟩,
   ⟨(rdy 0x0204 (cPt 95 []) part5), (cPt 95 []), 95, ready_of (by decide +kernel), by decide +kernel⟩,
   ⟨(rdy 0x0204 (cPt 8 []) part5), (cPt 8 []), 8, ready_of (by decide +kernel), by decide +kernel⟩,
   ⟨(rdy 0x0204 (cPt 40 []) (pd .active)), (cPt 40 []), 40, ready_of (by decide +kernel), by decide +kernel⟩⟩

/-- What `Obligations.PortSettings` assumes is met. -/
theorem test_meets_PortSettings :
    (∃ (s : State) (c : Cmd) (n : Nat) (v0 : Nat) (v1 : Nat) (v2 : Nat) (alpha : Nat), Ready 0x0207 c s.dev ∧ c.target.toNat = n ∧ c.param0 = 0 ∧ portExists n s.dev ∧ v0 ≤ 2048 ∧ v0 % 16 = 0 ∧ v1 ≤ 2048 ∧ v1 % 16 = 0 ∧ v2 ≤ 2048 ∧ v2 % 16 = 0 ∧ alpha < 2 ^ 24 ∧ enabledPort (s.dev.port n) = false ∧ c.params = natLe 2 v0 ++ natLe 2 v1 ++ natLe 2 v2 ++ [0xFF, 0] ++ natLe 4 alpha) ∧
    (∃ (s : State) (c : Cmd) (n : Nat) (f : Nat), Ready 0x0208 c s.dev ∧ c.target.toNat = n ∧ c.param0 = 0 ∧ portExists n s.dev ∧ f < 4 ∧ (s.dev.port n).personality = .pfl ∧ (s.dev.pfl n).rxMin.length = 3 ∧ 3 * ((s.dev.pfl n).rxMin.getD 0 0 + (s.dev.pfl n).rxMin.getD 1 0 + (s.dev.pfl n).rxMin.getD 2 0) ≤ (s.dev.pfl n).rxPool ∧ panelFits (panelOf n) (s.dev.setPfl n { s.dev.pfl n with ackAdapt := bitOf f 0, idleEn := bitOf f 1 }) ∧ c.params = natLe 15 0 ++ natLe 1 f) ∧
    (∃ (s : State) (c : Cmd) (n : Nat) (v : Nat) (w : Nat), Ready 0x0209 c s.dev ∧ c.target.toNat = n ∧ c.param0 = 0 ∧ portExists n s.dev ∧ v ≤ 1000 ∧ w ≤ 1000 ∧ n ≠ s.dev.glb.mgrPort ∧ c.params = natLe 6 0 ++ natLe 2 v ++ natLe 2 w ++ [1] ++ natLe 5 0) ∧
    (∃ (s : State) (c : Cmd) (audit : Nat) (maxres : Nat) (lock : Nat), NoTarget c ∧ Ready 0x0C01 c s.dev ∧ 10 ≤ audit ∧ audit ≤ 10000 ∧ 1 ≤ maxres ∧ maxres ≤ 1000 ∧ 1 ≤ lock ∧ lock < 256 ∧ c.params = natLe 2 audit ++ natLe 2 maxres ++ natLe 1 lock ++ [0, 0, 0]) ∧
    (∃ (s : State) (n : Nat) (e : Exec), s.dev.kme.execs = [e] ∧ e.op = 0x0207 ∧ e.cmd.target.toNat = n ∧ e.begun = true ∧ e.since + 500000 ≤ s.dev.now ∧ (s.dev.buf n).before = none) ∧
    (∃ (s : State) (n : Nat) (e : Exec), s.dev.kme.execs = [e] ∧ e.op = 0x0207 ∧ e.cmd.target.toNat = n ∧ e.begun = true ∧ s.dev.now < e.since + 500000) ∧
    (∃ (s : State) (n : Nat) (e : Exec) (old : Nat × Nat × Nat × BitVec 24), s.dev.kme.execs = [e] ∧ e.op = 0x0207 ∧ e.cmd.target.toNat = n ∧ e.begun = true ∧ e.since + 500000 ≤ s.dev.now ∧ (s.dev.buf n).before = some old) :=
  ⟨⟨(rdy 0x0207 (cBf 2048 0 16 0xFFFFFF) id), (cBf 2048 0 16 0xFFFFFF), 40, 2048, 0, 16, 0xFFFFFF, ready_of (by decide +kernel), by decide +kernel⟩,
   ⟨(rdy 0x0208 cPl (pd .active)), cPl, 40, 3, ready_of (by decide +kernel), by decide +kernel⟩,
   ⟨(rdy 0x0209 (cPp 1000 0) id), (cPp 1000 0), 95, 1000, 0, ready_of (by decide +kernel), by decide +kernel⟩,
   ⟨(rdy 0x0C01 (cXb 10 1000 255) id), (cXb 10 1000 255), 10, 1000, 255, ⟨rfl, rfl⟩, ready_of (by decide +kernel), by decide +kernel⟩,
   ⟨(st fun d => later 500000 { d with kme := { d.kme with execs := [exB] } }), 40, exB, by decide +kernel⟩,
   ⟨(st fun d => later 499999 { d with kme := { d.kme with execs := [exB] } }), 40, exB, by decide +kernel⟩,
   ⟨(st fun d => later 500000 { d with bufs := [(40, { bufReset with before := some (16, 16, 32, 0xABCDEF) })], kme := { d.kme with execs := [exB] } }), 40, exB, (16, 16, 32, 0xABCDEF), by decide +kernel⟩⟩

/-- What `Obligations.CounterRows` assumes is met. -/
theorem test_meets_CounterRows :
    (∃ (s : State) (c : Cmd) (n : Nat) (j : Nat) (sel : Nat) (period : Nat), Ready 0x0A01 c s.dev ∧ c.target.toNat = n ∧ c.param0 = 0 ∧ portExists n s.dev ∧ 8 ≤ j ∧ j < 24 ∧ sel < 2 ^ 32 ∧ period < 2 ^ 32 ∧ c.params = natLe 1 j ++ [1, 0, 0] ++ natLe 4 sel ++ natLe 4 period ++ [0, 0, 0, 0] ∧ firstFail (counterEntryChecks c.params false s.dev 0) = none ∧ s.dev.cnt.dump.on = false) ∧
    (∃ (s : State) (c : Cmd) (base : Nat) (cons : Nat) (us : Nat) (vec : Nat), NoTarget c ∧ Ready 0x0A02 c s.dev ∧ base % 4096 = 0 ∧ base < 2 ^ 64 ∧ cons % 4 = 0 ∧ cons < 2 ^ 64 ∧ 1 ≤ us ∧ us ≤ 1000000 ∧ vec < 64 ∧ c.params = natLe 8 base ++ natLe 8 cons ++ natLe 4 256 ++ natLe 4 us ++ natLe 16 0 ++ [1] ++ natLe 2 vec ++ natLe 5 0) ∧
    (∃ (s : State) (c : Cmd) (base : Nat) (cons : Nat) (rate : Nat) (mask : Nat) (seed : Nat), NoTarget c ∧ Ready 0x0A03 c s.dev ∧ base % 4096 = 0 ∧ base < 2 ^ 64 ∧ cons % 4 = 0 ∧ cons < 2 ^ 64 ∧ rate ≤ 24 ∧ mask < 8 ∧ 1 ≤ seed ∧ seed < 2 ^ 32 ∧ c.params = natLe 8 base ++ natLe 8 cons ++ natLe 4 256 ++ natLe 1 rate ++ natLe 1 mask ++ [0x3F, 0] ++ natLe 16 0 ++ natLe 2 0xFFFF ++ natLe 4 seed ++ [0, 0]) ∧
    (∃ (s : State), s.dev.cnt.dump.on = true ∧ s.dev.cnt.dump.lastMultiple < s.dev.devTime.toNat / (s.dev.cnt.dump.intervalUs * 1000) ∧ ringRoom s.dev.cnt.dump (dumpOrder s.dev).length = false) ∧
    (∃ (s : State), s.dev.cnt.dump.on = true ∧ s.dev.cnt.dump.lastMultiple < s.dev.devTime.toNat / (s.dev.cnt.dump.intervalUs * 1000) ∧ ringRoom s.dev.cnt.dump (dumpOrder s.dev).length = true) ∧
    (∃ (s : State) (n : Nat) (j : Nat), selOvf (s.dev.counter (programKey n j)).sel = true ∧ 2 ^ 48 ≤ (s.dev.counter (programKey n j)).value ∧ selReload (s.dev.counter (programKey n j)).sel = true) ∧
    (∃ (s : State) (n : Nat) (j : Nat), selOvf (s.dev.counter (programKey n j)).sel = true ∧ (s.dev.counter (programKey n j)).value < 2 ^ 48) :=
  ⟨⟨(rdy 0x0A01 (cCp 95 23 0 0) id), (cCp 95 23 0 0), 95, 23, 0, 0, ready_of (by decide +kernel), by decide +kernel⟩,
   ⟨(rdy 0x0A02 (cDp 0x1000 4 1 63) id), (cDp 0x1000 4 1 63), 0x1000, 4, 1, 63, ⟨rfl, rfl⟩, ready_of (by decide +kernel), by decide +kernel⟩,
   ⟨(rdy 0x0A03 (cTg 0x1000 4 24 7 1) id), (cTg 0x1000 4 24 7 1), 0x1000, 4, 24, 7, 1, ⟨rfl, rfl⟩, ready_of (by decide +kernel), by decide +kernel⟩,
   ⟨(st (dmp true 4)), by decide +kernel⟩,
   ⟨(st (dmp true 5)), by decide +kernel⟩,
   ⟨(ctr (2 ^ 48)), 95, 23, by decide +kernel⟩,
   ⟨(ctr (2 ^ 48 - 1)), 95, 23, by decide +kernel⟩⟩

end W07

namespace W08

def diag1 : Port := { portReset with personality := .diag, width := 1 }
def dg (x : Lane) (d : Device) : Device := { d with ports := [(95, diag1)], lanes := [(380, x)] }
def cLt (ps : List Byte) := cmdAt 95 0 ps
def lt (op : Nat) (more : List Byte) := cLt (natLe 2 op ++ [1, 0] ++ more)
def cCm (k n : Nat) := cmdAt 0 0 (natLe 2 k ++ natLe 1 n ++ (if n = 1 then [0, 1, 0, 0, 0] else [0, 0, 0, 0, 0]))
def lnUp (d : Device) : Device := { d with ports := [(0, { pflPort with width := 1 })], plk := [(0, { plkReset with state := .active })], lanes := [(0, { laneReset with rate := 5, rxLock := true })] }
def p0s : Pts := { bytes := ptsBytes 5 2 0 7 0xFF 0 false }
def one (x : Plk) (l : Lane) (d : Device) : Device := { d with ports := [(40, { pflPort with width := 1 })], plk := [(40, x)], lanes := [(160, l)] }

/-- What `Obligations.LaneCommands` assumes is met. -/
theorem test_meets_LaneCommands :
    (∃ (s : State) (c : Cmd) (n : Nat) (k : Nat) (mask : Nat), Ready 0x0205 c s.dev ∧ c.target.toNat = n ∧ c.param0 = 0 ∧ portExists n s.dev ∧ (s.dev.port n).personality = .diag ∧ mask < 2 ^ (s.dev.port n).width ∧ mask < 2 ^ 16 ∧ namedLanes n mask s.dev = [k] ∧ c.params = [0, 0] ++ natLe 2 mask ++ natLe 12 0) ∧
    (∃ (s : State) (c : Cmd) (n : Nat) (k : Nat) (mask : Nat), Ready 0x0205 c s.dev ∧ c.target.toNat = n ∧ c.param0 = 0 ∧ portExists n s.dev ∧ (s.dev.port n).personality = .diag ∧ mask < 2 ^ (s.dev.port n).width ∧ mask < 2 ^ 16 ∧ namedLanes n mask s.dev = [k] ∧ c.params = [1, 5] ++ natLe 2 mask ++ [2, 0, 16, 0] ++ natLe 8 0) ∧
    (∃ (s : State) (c : Cmd) (n : Nat) (k : Nat) (mask : Nat), Ready 0x0205 c s.dev ∧ c.target.toNat = n ∧ c.param0 = 0 ∧ portExists n s.dev ∧ (s.dev.port n).personality = .diag ∧ mask < 2 ^ (s.dev.port n).width ∧ mask < 2 ^ 16 ∧ namedLanes n mask s.dev = [k] ∧ c.params = [2, 0] ++ natLe 2 mask ++ natLe 12 0) ∧
    (∃ (s : State) (c : Cmd) (n : Nat) (k : Nat) (mask : Nat), Ready 0x0205 c s.dev ∧ c.target.toNat = n ∧ c.param0 = 0 ∧ portExists n s.dev ∧ (s.dev.port n).personality = .diag ∧ mask < 2 ^ (s.dev.port n).width ∧ mask < 2 ^ 16 ∧ namedLanes n mask s.dev = [k] ∧ c.params = [3, 0] ++ natLe 2 mask ++ natLe 12 0) ∧
    (∃ (s : State) (c : Cmd) (n : Nat) (k : Nat) (mask : Nat), Ready 0x0205 c s.dev ∧ c.target.toNat = n ∧ c.param0 = 0 ∧ portExists n s.dev ∧ (s.dev.port n).personality = .diag ∧ mask < 2 ^ (s.dev.port n).width ∧ mask < 2 ^ 16 ∧ namedLanes n mask s.dev = [k] ∧ c.params = [4, 0] ++ natLe 2 mask ++ natLe 4 0 ++ natLe 8 9 ∧ (s.dev.lane k).genOn = true ∧ (s.dev.lane k).locked = true ∧ (s.dev.lane k).loopback = 1) ∧
    (∃ (s : State) (c : Cmd) (n : Nat) (k : Nat) (mask : Nat), Ready 0x0205 c s.dev ∧ c.target.toNat = n ∧ c.param0 = 0 ∧ portExists n s.dev ∧ (s.dev.port n).personality = .diag ∧ mask < 2 ^ (s.dev.port n).width ∧ mask < 2 ^ 16 ∧ namedLanes n mask s.dev = [k] ∧ c.params = [5, 0] ++ natLe 2 mask ++ natLe 4 0 ++ natLe 8 7) ∧
    (∃ (s : State) (c : Cmd) (k : Nat), NoTarget c ∧ Ready 0x0206 c s.dev ∧ k < 384 ∧ c.params = natLe 2 k ++ [1, 0, 1, 0, 0, 0] ∧ chanStatus k s.dev ≠ 0) ∧
    (∃ (s : State) (c : Cmd) (k : Nat), NoTarget c ∧ Ready 0x0206 c s.dev ∧ k < 384 ∧ c.params = natLe 2 k ++ [1, 0, 1, 0, 0, 0] ∧ chanStatus k s.dev = 0) ∧
    (∃ (s : State) (c : Cmd), NoTarget c ∧ Ready 0x0206 c s.dev ∧ (∀ j < 17, chanStatus j s.dev ≠ 0) ∧ c.params = [0, 0, 17, 0, 0, 0, 0, 0]) :=
  ⟨⟨(rdy 0x0205 (lt 0 (natLe 12 0)) (dg laneReset)), (lt 0 (natLe 12 0)), 95, 380, 1, ready_of (by decide +kernel), by decide +kernel⟩,
   ⟨(rdy 0x0205 (lt 0x501 ([2, 0, 16, 0] ++ natLe 8 0)) (dg laneReset)), (lt 0x501 ([2, 0, 16, 0] ++ natLe 8 0)), 95, 380, 1, ready_of (by decide +kernel), by decide +kernel⟩,
   ⟨(rdy 0x0205 (lt 2 (natLe 12 0)) (dg laneReset)), (lt 2 (natLe 12 0)), 95, 380, 1, ready_of (by decide +kernel), by decide +kernel⟩,
   ⟨(rdy 0x0205 (lt 3 (natLe 12 0)) (dg laneReset)), (lt 3 (natLe 12 0)), 95, 380, 1, ready_of (by decide +kernel), by decide +kernel⟩,
   ⟨(rdy 0x0205 (lt 4 (natLe 4 0 ++ natLe 8 9)) (dg { laneReset with genOn := true, locked := true, loopback := 1, errors := 2 ^ 48 - 5 })), (lt 4 (natLe 4 0 ++ natLe 8 9)), 95, 380, 1, ready_of (by decide +kernel), by decide +kernel⟩,
   ⟨(rdy 0x0205 (lt 5 (natLe 4 0 ++ natLe 8 7)) (dg laneReset)), (lt 5 (natLe 4 0 ++ natLe 8 7)), 95, 380, 1, ready_of (by decide +kernel), by decide +kernel⟩,
   ⟨(rdy 0x0206 (cCm 383 1) id), (cCm 383 1), 383, ⟨rfl, rfl⟩, ready_of (by decide +kernel), by decide +kernel⟩,
   ⟨(rdy 0x0206 (cCm 0 1) lnUp), (cCm 0 1), 0, ⟨rfl, rfl⟩, ready_of (by decide +kernel), by decide +kernel⟩,
   ⟨(rdy 0x0206 (cCm 0 17) id), (cCm 0 17), ⟨rfl, rfl⟩, ready_of (by decide +kernel), ball_lt (by decide +kernel), by decide +kernel⟩⟩

/-- What `Obligations.LaneEvents` assumes is met. -/
theorem test_meets_LaneEvents :
    (∃ (s : State) (n : Nat) (k : Nat) (pts : Pts), (s.dev.pfl n).state = .train ∧ s.dev.clk.holdover = false ∧ lanePort k s.dev = some n ∧ (u8 pts.bytes 0 ≠ 0xB5 ∨ (s.dev.pfl n).state ≠ .step) ∧ (s.dev.pfl n).state ≠ .step ∧ (s.dev.lane k).rxLock = false ∧ (s.dev.lane k).eyeBusy = false ∧ (s.dev.lane k).inTest = false ∧ (s.dev.lane k).locked = false ∧ linkUp n s.dev = false) ∧
    (∃ (s : State) (n : Nat) (k : Nat) (pts : Pts), ((s.dev.pfl n).state ≠ .train ∨ s.dev.clk.holdover = true) ∧ lanePort k s.dev = some n ∧ (s.dev.port n).personality = .pfl ∧ (s.dev.pfl n).state = .step ∧ portLanes n s.dev = [k] ∧ k = 4 * n ∧ pts.bytes.length = 16 ∧ u8 pts.bytes 0 = 0xB5 ∧ u8 pts.bytes 1 = (s.dev.pfl n).rate ∧ u8 pts.bytes 2 = 2 ∧ u8 pts.bytes 3 = 0 ∧ u8 pts.bytes 5 = 0xFF ∧ crc16 (pts.bytes.take 14) = BitVec.ofNat 16 (u16 pts.bytes 14) ∧ (s.dev.lane k).readyRun < 7 ∧ (s.dev.lane k).inTest = true ∧ (s.dev.lane k).chkOn = true ∧ (s.dev.lane k).locked = false) ∧
    (∃ (s : State) (n : Nat) (k : Nat), (s.dev.pfl n).state = .step ∧ (s.dev.pfl n).goSent = 8 ∧ (∀ j ∈ portLanes n s.dev, 8 ≤ (s.dev.lane j).goRun) ∧ min (s.dev.port n).maxRate (s.dev.pfl n).partnerRate ≤ (s.dev.pfl n).rate ∧ (s.dev.lane k).locked = true) ∧
    (∃ (s : State) (n : Nat), (s.dev.pfl n).state = .step ∧ (s.dev.pfl n).goSent = 8 ∧ (∀ j ∈ portLanes n s.dev, 8 ≤ (s.dev.lane j).goRun) ∧ (s.dev.pfl n).rate < min (s.dev.port n).maxRate (s.dev.pfl n).partnerRate ∧ (s.dev.pfl n).fromRecord = false) ∧
    (∃ (s : State) (n : Nat) (k : Nat), (s.dev.lane k).rxLock = true ∧ lanePort k s.dev = some n ∧ (s.dev.port n).personality = .dsp ∧ lstateUp (s.dev.pci n).lstate = false ∧ (s.dev.lane k).eyeBusy = true) ∧
    (∃ (s : State) (n : Nat) (k : Nat), k < 48 ∧ (s.dev.pair k).ckrLock = true ∧ halfPorts k s.dev = [] ∧ (s.dev.port n).personality = .dsp ∧ lstateUp (s.dev.pci n).lstate = true) ∧
    (∃ (s : State) (n : Nat) (k : Nat), k < 48 ∧ (s.dev.pair k).ckrLock = false ∧ (s.dev.pair k).ckrFreq ≠ 0 ∧ halfPorts k s.dev = [n] ∧ (s.dev.pfl n).state ≠ .step) ∧
    (∃ (s : State) (n : Nat) (u : Nat), linkUp n s.dev = true ∧ (s.dev.port n).personality = .dsp ∧ s.dev.eqRecords = [] ∧ s.dev.upAt = [(n, u)] ∧ u + 1000000000 ≤ s.dev.now ∧ (∀ k ∈ portLanes n s.dev, (s.dev.lane k).fromRecord = false)) ∧
    (∃ (s : State) (n : Nat) (u : Nat), s.dev.upAt = [(n, u)] ∧ s.dev.now < u + 1000000000) :=
  ⟨⟨(st (one { plkReset with state := .train } laneReset)), 40, 160, p0s, by decide +kernel⟩,
   ⟨(st (one { plkReset with state := .step, rate := 5 } { laneReset with readyRun := 6, inTest := true, chkOn := true })), 40, 160, p0s, by decide +kernel⟩,
   ⟨(st (one { plkReset with state := .step, rate := 6, goSent := 8, partnerRate := 6 } { laneReset with goRun := 8, locked := true })), 40, 160, by decide +kernel⟩,
   ⟨(st (one { plkReset with state := .step, rate := 5, goSent := 8, partnerRate := 6 } { laneReset with goRun := 8 })), 40, by decide +kernel⟩,
   ⟨(st fun d => { d with ports := [(8, { dspPort with width := 1 })], lanes := [(32, { laneReset with rxLock := true, eyeBusy := true })] }), 8, 32, by decide +kernel⟩,
   ⟨(st fun d => { part5 d with clockPairs := [(47, { clockPairReset with ckrLock := true })] }), 8, 47, by decide +kernel⟩,
   ⟨(st fun d => { one plkReset laneReset d with clockPairs := [(20, { clockPairReset with ckrFreq := 100 })] }), 40, 20, by decide +kernel⟩,
   ⟨(st fun d => { later 1000000005 (part5 d) with upAt := [(8, 5)] }), 8, 5, by decide +kernel⟩,
   ⟨(st fun d => { later 1000000004 (part5 d) with upAt := [(8, 5)] }), 8, 5, by decide +kernel⟩⟩

end W08

namespace W09

/-- A flit that passes the checks of R172. -/
def flit (h : List Byte) (its : List Arrival) : Flit :=
  let b := h ++ List.replicate (242 - h.length) 0
  { bytes := b ++ natLe 8 (crc64 b).toNat, pcsGood := true, items := its }
/-- A number of `k` bytes is read back. -/
theorem leNat_natLe (k n : Nat) : leNat (natLe k n) = n % 256 ^ k := by
  induction k generalizing n with
  | zero => simp [natLe, leNat, Nat.mod_one]
  | succ k ih =>
    rw [natLe, leNat, ih, BitVec.toNat_ofNat, show (2 : Nat) ^ 8 = 256 from rfl, Nat.pow_succ', Nat.mod_mul]
theorem length_natLe (k n : Nat) : (natLe k n).length = k := by
  induction k generalizing n with
  | zero => rfl
  | succ k ih => simp [natLe, ih]
/-- A flit of at most 242 header and data bytes passes the checks, whatever its CRC is. -/
theorem flit_good {h : List Byte} {its : List Arrival} (hl : h.length ≤ 242) (hk : u8 (flit h its).bytes 0 % 4 ≠ 3) :
    flitGood (flit h its) = true := by
  have hb : (h ++ List.replicate (242 - h.length) (0 : Byte)).length = 242 := by simp; omega
  simp only [flitGood, Bool.and_eq_true, decide_eq_true_eq]
  refine ⟨⟨⟨rfl, ?_⟩, hk⟩, ?_⟩
  · simp [flit, length_natLe]; omega
  · simp only [flit, u64]
    rw [List.take_left' hb, List.drop_left' hb, List.take_of_length_le (by simp [length_natLe]), leNat_natLe]
    apply BitVec.eq_of_toNat_eq
    simp
    omega
def bad9 : Flit := { bytes := [], pcsGood := true, items := [] }
def act9 : Plk := { plkReset with state := .active, limit := 3, ackNs := 500 }
def pf (x : Plk) (t : Nat) : State := st fun d => later t { d with ports := [(40, pflPort)], plk := [(40, x)], glb := { d.glb with fid := 3, serial := 77 } }
def bare (x : Plk) (t : Nat) : State := st fun d => later t { d with plk := [(40, x)], glb := { d.glb with fid := 3, serial := 77 } }
def arr9 : Arrival := { port := 40, tlp := tlp0, fab := none, rma := none, fn := none }
def tx9 : TxFlit := { seq := 32767, vl := 1, firstRec := 0, payload := [], probe := false, lastResent := none, items := [7], ends := [7], firstSent := 0, lastSent := 0, sentOnce := false, retransmissions := 1, marked := false, due := false, resend := false }
def rec9 : List Byte := [0x11, 3, 4, 5, 0x7F, 0, 0, 0, 12, 0, 0, 0, 0, 0, 0, 0] ++ [1] ++ List.replicate 47 0
def rc9 (vl k : Nat) : TxRecord := { item := 7, vl := vl, bytes := List.replicate k 9, begun := false }
def cap9 : Cap := { fid := 4, port := 9, width := 4, maxRate := 6, serial := 5, fw := 1, grants := [(1, 2)] }

/-- What `Obligations.FlitsAreReceivedInOrder` assumes is met. -/
theorem test_meets_FlitsAreReceivedInOrder :
    (∃ (s : State) (n : Nat) (f : Flit), (s.dev.port n).personality = .pfl ∧ flitGood f = false) ∧
    (∃ (s : State) (n : Nat), (s.dev.port n).personality ≠ .pfl) ∧
    (∃ (s : State) (n : Nat) (f : Flit), flitGood f = true ∧ (s.dev.port n).personality = .pfl ∧ (s.dev.pfl n).state = .active ∧ (s.dev.pfl n).lostInIdle = false ∧ bitOf (u8 f.bytes 0) 5 = false ∧ (s.dev.pfl n).rxNext < 2 ^ 16 ∧ u8 f.bytes 0 % 4 = 0) ∧
    (∃ (s : State) (n : Nat) (f : Flit), flitGood f = true ∧ (s.dev.port n).personality = .pfl ∧ (s.dev.pfl n).state = .active ∧ (s.dev.pfl n).lostInIdle = false ∧ bitOf (u8 f.bytes 0) 5 = false ∧ (s.dev.pfl n).rxNext < 2 ^ 16 ∧ u8 f.bytes 0 % 4 = 1 ∧ (u16 f.bytes 1) = (s.dev.pfl n).rxNext ∧ (s.dev.pfl n).held = [] ∧ (s.dev.pfl n).rxParts = [] ∧ u8 f.bytes 9 = 0xFF) ∧
    (∃ (s : State) (n : Nat) (f : Flit), flitGood f = true ∧ (s.dev.port n).personality = .pfl ∧ (s.dev.pfl n).state = .active ∧ (s.dev.pfl n).lostInIdle = false ∧ bitOf (u8 f.bytes 0) 5 = false ∧ (s.dev.pfl n).rxNext < 2 ^ 16 ∧ u8 f.bytes 0 % 4 = 1 ∧ 256 ≤ ((u16 f.bytes 1) + 2 ^ 16 - (s.dev.pfl n).rxNext) % 2 ^ 16 ∧ ((u16 f.bytes 1) + 2 ^ 16 - (s.dev.pfl n).rxNext) % 2 ^ 16 ≤ 1023) ∧
    (∃ (s : State) (n : Nat) (f : Flit), flitGood f = true ∧ (s.dev.port n).personality = .pfl ∧ (s.dev.pfl n).state = .active ∧ (s.dev.pfl n).lostInIdle = false ∧ bitOf (u8 f.bytes 0) 5 = false ∧ (s.dev.pfl n).rxNext < 2 ^ 16 ∧ u8 f.bytes 0 % 4 = 1 ∧ 1024 ≤ ((u16 f.bytes 1) + 2 ^ 16 - (s.dev.pfl n).rxNext) % 2 ^ 16 ∧ ((u16 f.bytes 1) + 2 ^ 16 - (s.dev.pfl n).rxNext) % 2 ^ 16 ≤ 64511) ∧
    (∃ (s : State) (n : Nat) (f : Flit), flitGood f = true ∧ (s.dev.port n).personality = .pfl ∧ (s.dev.pfl n).state = .active ∧ (s.dev.pfl n).lostInIdle = true ∧ u8 f.bytes 0 % 4 = 0) ∧
    (∃ (s : State) (n : Nat) (f : Flit), flitGood f = true ∧ (s.dev.port n).personality = .pfl ∧ (s.dev.pfl n).state = .active ∧ (s.dev.pfl n).lostInIdle = false ∧ bitOf (u8 f.bytes 0) 5 = false ∧ (s.dev.pfl n).rxNext < 2 ^ 16 ∧ u8 f.bytes 0 % 4 = 2 ∧ u8 f.bytes 10 = 6 ∧ u8 f.bytes 11 = 1 ∧ u8 f.bytes 26 = 0) ∧
    (∃ (s : State) (n : Nat) (f : Flit) (r : List Byte) (a : Arrival), flitGood f = true ∧ (s.dev.port n).personality = .pfl ∧ (s.dev.pfl n).state = .active ∧ (s.dev.pfl n).lostInIdle = false ∧ bitOf (u8 f.bytes 0) 5 = false ∧ (s.dev.pfl n).rxNext < 2 ^ 16 ∧ u8 f.bytes 0 % 4 = 1 ∧ (u16 f.bytes 1) = (s.dev.pfl n).rxNext ∧ (s.dev.pfl n).held = [] ∧ (s.dev.pfl n).rxParts = [] ∧ u8 f.bytes 9 = 0 ∧ (f.bytes.drop 10).take 232 = padTo 232 r ∧ r.length = recordLen r ∧ recordLen r ≤ 232 ∧ u8 r 0 / 16 = 1 ∧ u8 r 0 % 16 ≤ 1 ∧ recordArrival n r f.items.head? = some a ∧ isControl a.tlp.kind = false ∧ 1 ≤ creditLeft (creditOf (s.dev.pfl n) (itemVl a.tlp (fabOfBytes r).queue s.dev) (fabOfBytes r).cls).rxHdr (creditOf (s.dev.pfl n) (itemVl a.tlp (fabOfBytes r).queue s.dev) (fabOfBytes r).cls).hdrFreed (creditOf (s.dev.pfl n) (itemVl a.tlp (fabOfBytes r).queue s.dev) (fabOfBytes r).cls).hdrRx ∧ cellsOf (payloadLen a.tlp) ≤ creditLeft (creditOf (s.dev.pfl n) (itemVl a.tlp (fabOfBytes r).queue s.dev) (fabOfBytes r).cls).rxData (creditOf (s.dev.pfl n) (itemVl a.tlp (fabOfBytes r).queue s.dev) (fabOfBytes r).cls).dataFreed (creditOf (s.dev.pfl n) (itemVl a.tlp (fabOfBytes r).queue s.dev) (fabOfBytes r).cls).dataRx) ∧
    (∃ (s : State) (n : Nat) (g : TxFlit), (s.dev.pfl n).replay = [g] ∧ (s.dev.pfl n).state = .active ∧ g.due = false ∧ (s.dev.pfl n).limit ≤ g.retransmissions ∧ g.marked = false ∧ g.lastSent + (s.dev.pfl n).ackNs ≤ s.dev.now) ∧
    (∃ (s : State) (n : Nat) (f : Flit), flitGood f = true ∧ (s.dev.port n).personality = .pfl ∧ (s.dev.pfl n).state = .active ∧ (s.dev.pfl n).lostInIdle = false ∧ bitOf (u8 f.bytes 0) 5 = false ∧ (s.dev.pfl n).rxNext < 2 ^ 16 ∧ u8 f.bytes 0 % 4 = 1 ∧ ((u16 f.bytes 1) + 2 ^ 16 - (s.dev.pfl n).rxNext) % 2 ^ 16 > 64511) ∧
    (∃ (s : State) (n : Nat) (f : Flit) (g : TxFlit), flitGood f = true ∧ (s.dev.port n).personality = .pfl ∧ (s.dev.pfl n).state = .active ∧ (s.dev.pfl n).lostInIdle = false ∧ u8 f.bytes 0 % 4 = 0 ∧ bitOf (u8 f.bytes 0) 5 = true ∧ (s.dev.pfl n).replay = [g] ∧ g.sentOnce = false ∧ g.seq < 2 ^ 15 ∧ u16 f.bytes 3 = g.seq + 1 ∧ (s.dev.pfl n).txNext = g.seq + 1 ∧ g.due = false ∧ s.dev.now < g.lastSent + (s.dev.pfl n).ackNs) ∧
    (∃ (s : State) (n : Nat) (g : TxFlit), (s.dev.pfl n).replay = [g] ∧ (s.dev.pfl n).state = .active ∧ g.due = false ∧ g.retransmissions < (s.dev.pfl n).limit ∧ g.lastSent + (s.dev.pfl n).ackNs ≤ s.dev.now) :=
  ⟨⟨(pf act9 5), 40, bad9, by decide +kernel⟩,
   ⟨(st id), 40, by decide +kernel⟩,
   ⟨(pf act9 5), 40, (flit [0] []), flit_good (by decide) (by decide +kernel), by decide +kernel⟩,
   ⟨(pf { act9 with rxNext := 65535 } 5), 40, (flit [1, 0xFF, 0xFF, 0, 0, 0, 0, 0, 0, 0xFF] []), flit_good (by decide) (by decide +kernel), by decide +kernel⟩,
   ⟨(pf { act9 with rxNext := 65535 } 5), 40, (flit [1, 0xFE, 3] []), flit_good (by decide) (by decide +kernel), by decide +kernel⟩,
   ⟨(pf { act9 with rxNext := 65535 } 5), 40, (flit [1, 0xFF, 4] []), flit_good (by decide) (by decide +kernel), by decide +kernel⟩,
   ⟨(pf { act9 with lostInIdle := true } 5), 40, (flit [0] []), flit_good (by decide) (by decide +kernel), by decide +kernel⟩,
   ⟨(pf act9 5), 40, (flit ([2] ++ List.replicate 9 0 ++ [6, 1]) []), flit_good (by decide) (by decide +kernel), by decide +kernel⟩,
   ⟨(pf { act9 with rxNext := 65535, credits := (setCredit act9 0 0 { creditReset with rxHdr := 1, rxData := 1 }).credits } 5), 40, (flit ([1, 0xFF, 0xFF, 0, 0, 0, 0, 0, 0, 0] ++ rec9) []), rec9, ((recordArrival 40 rec9 none).getD arr9), flit_good (by decide) (by decide +kernel), by decide +kernel⟩,
   ⟨(pf { act9 with replay := [{ tx9 with retransmissions := 3 }] } 500), 40, { tx9 with retransmissions := 3 }, by decide +kernel⟩,
   ⟨(pf { act9 with rxNext := 65535 } 5), 40, (flit [1, 0xFE, 0xFF] []), flit_good (by decide) (by decide +kernel), by decide +kernel⟩,
   ⟨(let s := pf { act9 with replay := [tx9], txNext := 32768 } 5; { s with dev := { s.dev with items := [item0] } }), 40, (flit [0x20, 0, 0, 0, 0x80] []), tx9, flit_good (by decide) (by decide +kernel), by decide +kernel⟩,
   ⟨(pf { act9 with replay := [tx9] } 500), 40, tx9, by decide +kernel⟩⟩

/-- What `Obligations.FlitSlotsAndCredits` assumes is met. -/
theorem test_meets_FlitSlotsAndCredits :
    (∃ (s : State) (n : Nat) (vl : Nat) (cls : Nat), (s.dev.pfl n).txIdle = true ∧ vl < 4 ∧ cls < 3 ∧ (s.dev.pfl n).state = .active ∧ s.dev.now < (s.dev.pfl n).refreshAt + 10000 ∧ (s.dev.pfl n).idleEn = false ∧ pflQuiet (s.dev.pfl n) = false) ∧
    (∃ (s : State) (n : Nat) (g : TxFlit), (s.dev.pfl n).txIdle = false ∧ (s.dev.pfl n).state = .active ∧ (s.dev.pfl n).replay = [g] ∧ g.due = true) ∧
    (∃ (s : State) (n : Nat) (m : Ctl) (rest : List Ctl), (s.dev.pfl n).txIdle = false ∧ (s.dev.pfl n).state = .active ∧ (s.dev.pfl n).replay = [] ∧ (s.dev.pfl n).ctl = m :: rest) ∧
    (∃ (s : State) (n : Nat) (r : TxRecord), (s.dev.pfl n).txIdle = false ∧ (s.dev.pfl n).state = .active ∧ (s.dev.pfl n).replay = [] ∧ (s.dev.pfl n).ctl = [] ∧ (s.dev.pfl n).credits = [] ∧ (s.dev.pfl n).stream = [r] ∧ r.bytes.length ≤ 232 ∧ r.bytes ≠ []) ∧
    (∃ (s : State) (n : Nat), (s.dev.pfl n).txIdle = false ∧ (s.dev.pfl n).state = .active ∧ (s.dev.pfl n).replay = [] ∧ (s.dev.pfl n).ctl = [] ∧ (s.dev.pfl n).credits = [] ∧ (s.dev.pfl n).stream = []) ∧
    (∃ (s : State) (n : Nat), (s.dev.pfl n).state = .active ∧ (s.dev.pfl n).txIdle = false ∧ (s.dev.pfl n).refreshAt + 10000 ≤ s.dev.now ∧ shaftHolds false n s.dev = false ∧ (s.dev.pfl n).idleEn = true ∧ pflQuiet (s.dev.pfl n) = true ∧ (s.dev.pfl n).quietSince + (s.dev.pfl n).idleEntryUs * 1000 ≤ s.dev.now) ∧
    (∃ (s : State) (n : Nat), (s.dev.pfl n).state ≠ .active ∧ (s.dev.pfl n).state ≠ .retrain) :=
  ⟨⟨(pf { act9 with txIdle := true, stream := [rc9 1 8] } 5), 40, 3, 2, by decide +kernel⟩,
   ⟨(pf { act9 with replay := [{ tx9 with due := true }] } 5), 40, { tx9 with due := true }, by decide +kernel⟩,
   ⟨(pf { act9 with ctl := [.idleNotice] } 5), 40, .idleNotice, [], by decide +kernel⟩,
   ⟨(pf { act9 with stream := [rc9 3 232] } 5), 40, (rc9 3 232), by decide +kernel⟩,
   ⟨(pf { act9 with forceAck := true } 5), 40, by decide +kernel⟩,
   ⟨(pf { act9 with idleEn := true, quietSince := 0, idleEntryUs := 10 } 10000), 40, by decide +kernel⟩,
   ⟨(pf { act9 with state := .down, refreshAt := 1 } 10000), 40, by decide +kernel⟩⟩

/-- What `Obligations.PflLinkComesUp` assumes is met. -/
theorem test_meets_PflLinkComesUp :
    (∃ (s : State) (n : Nat) (c : Cap) (serial : BitVec 64), (s.dev.pfl n).state = .cap ∧ (s.dev.pfl n).capSentAt + 1000 ≤ s.dev.now ∧ (s.dev.pfl n).dupHeld = false ∧ (s.dev.pfl n).gotAck = false ∧ capCause n c s.dev = 0 ∧ (s.dev.pfl n).gotCap = false ∧ serial ≠ s.dev.glb.serial ∧ s.dev.now < (s.dev.pfl n).enteredAt + 10 ^ 8 ∧ s.dev.now < (s.dev.pfl n).enteredAt + 10 ^ 7) ∧
    (∃ (s : State) (n : Nat) (c : Cap), (s.dev.pfl n).state = .cap ∧ (s.dev.pfl n).dupHeld = false ∧ capCause n c s.dev ≠ 0) ∧
    (∃ (s : State) (n : Nat), (s.dev.pfl n).state = .active) ∧
    (∃ (s : State) (n : Nat) (c : Cap), (s.dev.pfl n).state = .cap ∧ (s.dev.pfl n).dupHeld = false ∧ (s.dev.pfl n).gotAck = true ∧ capCause n c s.dev = 0 ∧ (s.dev.pfl n).enteredAt + 10 ^ 7 ≤ s.dev.now) ∧
    (∃ (s : State) (n : Nat), (s.dev.pfl n).state = .cap ∧ (s.dev.pfl n).gotCap = true) ∧
    (∃ (s : State) (n : Nat), (s.dev.pfl n).state = .train ∧ (s.dev.pfl n).enteredAt + 10 ^ 8 ≤ s.dev.now) ∧
    (∃ (s : State) (n : Nat), (s.dev.pfl n).state = .down ∧ (s.dev.port n).enabled = true ∧ (s.dev.pfl n).enteredAt + (s.dev.pfl n).restartMs * msNs ≤ s.dev.now) ∧
    (∃ (s : State) (n : Nat), (s.dev.port n).enabled = false) ∧
    (∃ (s : State) (n : Nat), (s.dev.pfl n).state = .conflict ∧ (s.dev.pfl n).dupHeld = true) :=
  ⟨⟨(pf { plkReset with state := .cap } 1000), 40, cap9, 5, by decide +kernel⟩,
   ⟨(bare { plkReset with state := .cap } 1000), 40, cap9, by decide +kernel⟩,
   ⟨(pf act9 5), 40, by decide +kernel⟩,
   ⟨(pf { plkReset with state := .cap, gotAck := true } 10000000), 40, cap9, by decide +kernel⟩,
   ⟨(pf { plkReset with state := .cap, gotCap := true } 5), 40, by decide +kernel⟩,
   ⟨(pf { plkReset with state := .train } 100000000), 40, by decide +kernel⟩,
   ⟨(pf { plkReset with state := .down, restartMs := 10 } 10000000), 40, by decide +kernel⟩,
   ⟨(st fun d => { d with ports := [(40, { pflPort with enabled := false })] }), 40, by decide +kernel⟩,
   ⟨(pf { plkReset with state := .conflict, dupHeld := true } 5), 40, by decide +kernel⟩⟩

/-- What `Obligations.PflRetrainsAndDown` assumes is met. -/
theorem test_meets_PflRetrainsAndDown :
    (∃ (s : State) (n : Nat), (s.dev.pfl n).state = .active ∧ (s.dev.port n).personality = .pfl ∧ s.dev.now < (s.dev.pfl n).retrainAt + 30000) ∧
    (∃ (s : State) (n : Nat), n < 96 ∧ (s.dev.port n).personality ≠ .pfl) ∧
    (∃ (s : State) (n : Nat), (s.dev.pfl n).state = .active ∧ (s.dev.pfl n).rxIdle = false ∧ (s.dev.pfl n).lastGood + 5000 ≤ s.dev.now) ∧
    (∃ (s : State) (n : Nat) (fid : Nat), (s.dev.pfl n).state ≠ .active ∧ (s.dev.port n).personality = .pfl ∧ (s.dev.pfl n).state = .retrain ∧ (s.dev.pfl n).leading = true ∧ s.dev.glb.fid < fid ∧ (s.dev.pfl n).txIdle = false ∧ (s.dev.pfl n).acked = false ∧ (s.dev.pfl n).reqSentAt + 2000 ≤ s.dev.now) ∧
    (∃ (s : State) (n : Nat) (fid : Nat), (s.dev.port n).personality = .pfl ∧ (s.dev.pfl n).state = .retrain ∧ (s.dev.pfl n).leading = true ∧ fid < s.dev.glb.fid ∧ (s.dev.pfl n).retrainAt + 30000 ≤ s.dev.now) ∧
    (∃ (s : State) (n : Nat), (s.dev.pfl n).state = .down) ∧
    (∃ (s : State) (n : Nat), (s.dev.pfl n).rxIdle = true) :=
  ⟨⟨(pf { act9 with replay := [tx9] } 5), 40, by decide +kernel⟩,
   ⟨(bare { act9 with replay := [tx9] } 5), 40, by decide +kernel⟩,
   ⟨(bare { act9 with replay := [tx9] } 5000), 40, by decide +kernel⟩,
   ⟨(pf { act9 with state := .retrain, leading := true, replay := [tx9] } 2000), 40, 4, by decide +kernel⟩,
   ⟨(pf { act9 with state := .retrain, leading := true, replay := [tx9] } 30000), 40, 2, by decide +kernel⟩,
   ⟨(pf { plkReset with state := .down } 30000), 40, by decide +kernel⟩,
   ⟨(pf { act9 with rxIdle := true } 5), 40, by decide +kernel⟩⟩

end W09

namespace W10

def pc8 (f : Pcie → Pcie) (d : Device) : Device := let e := part5 d; e.setPci 8 (f (e.pci 8))
def pc0 (f : Pcie → Pcie) (d : Device) : Device := let e := part5 d; e.setPci 0 (f (e.pci 0))
def det (x : Pcie) : Pcie := { x with perstOut := false, lstate := .detect, negWidth := 0, curRate := 0 }
def pin (c : Nat) (x : Pcie) : Pcie := { x with sbFunc := BitVec.ofNat 48 c }
def slot (t : Nat) (x : SpwState) (f : Bool) (d : Device) : Device := later t { (pc8 (fun y => det { y with pgAt := some 0 }) d) with
  ports := [(0, uspPort), (8, { dspPort with hotplug := true })],
  spw := [(4, { spwReset with fitted := f, state := x, pg := true, vin := 8500 })], feeds := { vinA := 12000, vinB := 12000, vgate := 20000 } }
def trk10 : Track :=
  { id := 9, port := 8, fid := none, rid := 0x200, tag := 3, nearRid := 0x100, nearTag := 4, nearPort := 0, part := 5, srcPart := 5, window := none,
    steer := none, vf := none, spent := false, fn := none, kind := .memRead, queue := 0, addr := 0x1000, remaining := 4, swap := 0, wantAddr := 0x1000, wantLen := 4,
    nearFab := none, held := [], sentAt := 0, answered := false }

/-- What `Obligations.PcieLinksTrainAndFall` assumes is met. -/
theorem test_meets_PcieLinksTrainAndFall :
    (∃ (s : State) (n : Nat) (w : Nat) (r : Nat) (pw : Nat) (pr : Nat) (flit : Bool), pciePort n s.dev = true ∧ mayTrain n s.dev = true ∧ trainedOk n w r pw pr flit s.dev = true ∧ (s.dev.port n).personality = .dsp ∧ steersOut n s.dev = false ∧ (s.dev.pci n).dpc = false ∧ bitOf (s.dev.bridge (portKey n s.dev)).linkControl 4 = false) ∧
    (∃ (s : State) (n : Nat), mayTrain n s.dev = false ∧ pciePort n s.dev = true ∧ lstateUp (s.dev.pci n).lstate = true ∧ (s.dev.port n).personality = .dsp ∧ steersOut n s.dev = false ∧ (s.dev.pci n).dpc = false) ∧
    (∃ (s : State) (n : Nat), (s.dev.port n).personality ≠ .dsp) ∧
    (∃ (n : Nat), 96 ≤ n) ∧
    (∃ (s : State) (n : Nat), (s.dev.port n).personality = .dsp ∧ steersOut n s.dev = false ∧ (s.dev.pci n).dpc = false ∧ (s.dev.port n).enabled = true ∧ bitOf (s.dev.bridge (portKey n s.dev)).linkControl 4 = true) ∧
    (∃ (s : State) (n : Nat) (on : Bool), (s.dev.port n).personality = .dsp ∧ steersOut n s.dev = true ∧ bitOf (s.dev.bridge (portKey n s.dev)).linkControl 4 ≠ on) :=
  ⟨⟨(st (pc8 det)), 8, 4, 5, 4, 5, false, by decide +kernel⟩,
   ⟨(st fun d => { part5 d with items := [item0] }), 8, by decide +kernel⟩,
   ⟨(st part5), 0, by decide +kernel⟩,
   ⟨96, by decide +kernel⟩,
   ⟨(st fun d => { part5 d with bridges := [(bridgeKey 5 0, { bridgeReset with linkControl := 16 })] }), 8, by decide +kernel⟩,
   ⟨(st fun d => { part5 d with steers := [(0, { steerFree with port := 8, bridge := 1, part := 6 })] }), 8, true, by decide +kernel⟩⟩

/-- What `Obligations.PcieSlotEvents` assumes is met. -/
theorem test_meets_PcieSlotEvents :
    (∃ (s : State) (n : Nat) (k : Nat), (s.dev.port n).personality = .dsp ∧ pinOf n 6 s.dev = some k ∧ pinOf n 9 s.dev = none ∧ pinOf n 4 s.dev = none ∧ pinOf n 3 s.dev = none ∧ (s.dev.pci n).pgAt = none ∧ (s.dev.port n).hotplug = false) ∧
    (∃ (s : State) (n : Nat) (k : Nat), (s.dev.port n).personality = .dsp ∧ pinOf n 6 s.dev = none ∧ pinOf n 9 s.dev = some k) ∧
    (∃ (s : State) (n : Nat) (k : Nat), (s.dev.port n).personality = .dsp ∧ pinOf n 4 s.dev = some k) ∧
    (∃ (s : State) (n : Nat) (k : Nat), pciePort n s.dev = true ∧ pinOf n 3 s.dev = some k) ∧
    (∃ (s : State) (n : Nat), n < 96 ∧ (s.dev.port n).personality ≠ .dsp) ∧
    (∃ (s : State) (n : Nat) (t0 : Nat) (c : Nat), (s.dev.pci n).pgAt = some t0 ∧ (s.dev.port n).personality = .dsp ∧ (s.dev.pci n).perstOut = true ∧ (∀ c ∈ gangOf n s.dev, (s.dev.channel c).pg = true) ∧ t0 + (s.dev.pci n).perstDelayMs * msNs ≤ s.dev.now ∧ (s.dev.port n).hotplug = true ∧ gangOf n s.dev = [c] ∧ (s.dev.channel c).state = .on) ∧
    (∃ (s : State) (n : Nat) (t0 : Nat) (c : Nat), (s.dev.pci n).pgAt = some t0 ∧ (s.dev.port n).personality = .dsp ∧ (s.dev.pci n).perstOut = true ∧ (∀ c ∈ gangOf n s.dev, (s.dev.channel c).pg = true) ∧ s.dev.now < t0 + (s.dev.pci n).perstDelayMs * msNs ∧ (s.dev.port n).hotplug = true ∧ gangOf n s.dev = [c] ∧ (s.dev.channel c).state = .off ∧ canSwitchOn [c] s.dev = true) ∧
    (∃ (s : State) (n : Nat) (c : Nat), (s.dev.port n).personality = .dsp ∧ (s.dev.port n).hotplug = true ∧ gangOf n s.dev = [c] ∧ canSwitchOn [c] s.dev = false) :=
  ⟨⟨(st (pc8 (pin 6))), 8, 0, by decide +kernel⟩,
   ⟨(st (pc8 (pin 9))), 8, 0, by decide +kernel⟩,
   ⟨(st (pc8 (pin 4))), 8, 0, by decide +kernel⟩,
   ⟨(st (pc8 (pin 3))), 8, 0, by decide +kernel⟩,
   ⟨(st id), 8, by decide +kernel⟩,
   ⟨(st fun d => let e := slot 100000000 .on true d; e.setPci 8 { e.pci 8 with perstOut := true }), 8, 0, 4, by decide +kernel⟩,
   ⟨(st fun d => let e := slot 99999999 .off true d; e.setPci 8 { e.pci 8 with perstOut := true }), 8, 0, 4, by decide +kernel⟩,
   ⟨(st fun d => let e := slot 5 .off true d; { e with feeds := { e.feeds with vgate := 19999 } }), 8, 4, by decide +kernel⟩⟩

/-- What `Obligations.PcieErrorsAndPower` assumes is met. -/
theorem test_meets_PcieErrorsAndPower :
    (∃ (s : State) (n : Nat) (t0 : Track), s.dev.tracks = [t0] ∧ t0.answered = false ∧ t0.port = n ∧ n < 96 ∧ (s.dev.port n).personality = .dsp ∧ t0.fn = none ∧ t0.window = none ∧ t0.nearFab = none ∧ t0.sentAt + (s.dev.pci n).cplTimeoutMs * msNs ≤ s.dev.now ∧ ((s.dev.pci n).ptmEnable = false ∨ isDue (.ptmDialog n) 1000000 s.dev = false) ∧ (s.dev.pci n).dpc = false) ∧
    (∃ (s : State) (n : Nat) (t0 : Track), s.dev.tracks = [t0] ∧ t0.answered = false ∧ t0.port = n ∧ n < 96 ∧ (s.dev.port n).personality = .dsp ∧ t0.fn = none ∧ t0.window = none ∧ t0.nearFab = none ∧ s.dev.now < t0.sentAt + (s.dev.pci n).cplTimeoutMs * msNs) ∧
    (∃ (s : State) (n : Nat) (p : Nat), s.dev.tracks = [] ∧ uspOf p s.dev = some n ∧ linkUp n s.dev = true ∧ (s.dev.port n).personality = .usp ∧ (s.dev.pci n).ptmEnable = true ∧ isDue (.ptmDialog n) 1000000 s.dev = true ∧ ((s.dev.pci n).lstate ≠ .l0 ∨ s.dev.now < tget 0 s.dev.insideAt (s.dev.port n).holder + 10000) ∧ n < 96 ∧ (s.dev.port n).personality ≠ .dsp) ∧
    (∃ (s : State) (n : Nat) (p : Nat), uspOf p s.dev = some n ∧ linkUp n s.dev = false) ∧
    (∃ (s : State) (p : Nat), uspOf p s.dev = none) ∧
    (∃ (s : State) (n : Nat), (s.dev.port n).personality = .dsp ∧ (s.dev.pci n).dpc = true ∧ (s.dev.port n).enabled = true) ∧
    (∃ (s : State) (n : Nat), (s.dev.port n).personality = .usp ∧ (s.dev.pci n).lstate = .l0 ∧ bitOf (s.dev.bridge (upstreamKey (s.dev.port n).holder)).linkControl 1 = true ∧ (∀ m ∈ portsOf (s.dev.port n).holder s.dev, (s.dev.port m).personality = .dsp → resting m s.dev = true) ∧ (∀ i ∈ s.dev.items, i.part ≠ (s.dev.port n).holder) ∧ tget 0 s.dev.insideAt (s.dev.port n).holder + 10000 ≤ s.dev.now) :=
  ⟨⟨(st fun d => later 50000000 { part5 d with tracks := [trk10] }), 8, trk10, by decide +kernel⟩,
   ⟨(st fun d => later 49999999 { part5 d with tracks := [trk10] }), 8, trk10, by decide +kernel⟩,
   ⟨(st fun d => pc0 (fun x => { x with ptmEnable := true }) d), 0, 5, by decide +kernel⟩,
   ⟨(st (pc0 det)), 0, 5, by decide +kernel⟩,
   ⟨(st id), 5, by decide +kernel⟩,
   ⟨(st (pc8 fun x => { x with dpc := true, lstate := .dpc })), 8, by decide +kernel⟩,
   ⟨(st fun d => later 10007 (pc8 (fun x => { x with lstate := .l1 }) { d with bridges := [(upstreamKey 5, { bridgeReset with linkControl := 2 })], insideAt := [(5, 7)] })), 0, by decide +kernel⟩⟩

end W10

namespace W11

def vf (x : Func) (d : Device) : Device := { part5 d with vfPart := [(2047, 5)], vfIndex := [(2047, 0)], funcs := [(fnKey (.vf 2047), x)] }
def trk11 : Track :=
  { id := 9, port := 8, fid := none, rid := 0x200, tag := 3, nearRid := 0x100, nearTag := 4, nearPort := 100, part := 5, srcPart := 5, window := none,
    steer := none, vf := none, spent := false, fn := some (.vf 2047), kind := .memRead, queue := 0, addr := 0x1000, remaining := 4, swap := 0, wantAddr := 0x1000, wantLen := 4,
    nearFab := none, held := [], sentAt := 0, answered := false }
def fit : Item := { item0 with fn := some (.vf 2047), ingress := 97 }
def f11 : Fn := .vf 2047
def ae : AtsEntry := { fn := f11, page := 10, pages := 6, target := 99, read := true, write := true }
def inv (w : List Nat) : Invalidation := { fn := f11, page := 10, pages := 1, tag := 31, waitFor := w }
def ask : AtsAsk := { fn := f11, page := 15, qpn := 0, use := 0, held := none }
def atsOn : Func := { funcReset with atsEnable := true }
def cH (b : Byte) := cmdAt 0 0 [b, 0, 0, 0]
def bb (n : Nat) : BlackBox := { seq := n, time := 0, kind := 1, grade := 0, object := 0, code := 0, data := [], suppressed := 0, boots := 0 }
def cM (a b : Nat) := cmdAt 0 0 (natLe 4 a ++ natLe 2 b ++ [0, 0])
def smp : CanarySample := { corrected := 3, tj := 100, tjLong := false, tjRise := true, rails := 10, wear := 950, mramRetired := 0 }
def canSt (t : Nat) (g : Nat) : State := st fun d => { d with now := t, devTime := BitVec.ofNat 64 t, clk := { d.clk with mainLock := true }, can := { d.can with grade := g, firstEval := some 0 } }
def thr (t n : Nat) (e : Bool) : State := st fun d => { d with now := t, throttle := { d.throttle with level := n, emergency := e } }
def pl0 : RowPlan := { memory := 8, row := 3, busy := 16 }
def qp11 : Qp :=
  { fn := .pf 5, part := 5, cqn := 0, rspCqn := 0, sqBase := 0, sqDepth := 16, immDepth := 0, dbPage := 0, pd := 0, queue := 0, state := .rts,
    dstFid := 0, dstQpn := 0, retryLimit := 7, rnrLimit := 7, ackTimeout := 10, rnrDelayUs := 10, reasmTimeout := 10, nextPsn := 0, sqPi := 0,
    fetched := 0, completed := 0, freed := 0, reqs := [], unacked := [], retries := 0, rnrRetries := 0, progressAt := 0, epsn := 0, rx := [],
    msgBytes := 0, lastAtomicPsn := none, lastAtomicValue := 0, atomicBusy := false, sinceAck := 0, uncoveredAt := none, epsnAt := 0, nakAt := none,
    rereads := [], notices := 0, noticesUsed := 0, faultSent := false, errorStatus := 0, errorPsn := none, shape := equeueReset, evalAt := 0, lastUse := 0 }
def fl (f : Can → Can) (its : List Item) : State := st fun d => { part5 d with can := f d.can, items := its, qps := [(7, qp11)] }

/-- What `Obligations.FunctionLevelReset` assumes is met. -/
theorem test_meets_FunctionLevelReset :
    (∃ (s : State) (v : Nat), fnExists (Fn.vf v) s.dev = true ∧ (s.dev.func (Fn.vf v)).flr = .idle ∧ (s.dev.func (Fn.vf v)).flr ≠ .silencing ∧ (s.dev.func (Fn.vf v)).flr ≠ .releasing) ∧
    (∃ (s : State) (v : Nat), (s.dev.func (Fn.vf v)).flr ≠ .idle ∧ (s.dev.func (Fn.vf v)).flr = .silencing) ∧
    (∃ (s : State) (v : Nat), (s.dev.func (Fn.vf v)).flr = .silencing ∧ s.dev.items = [] ∧ s.dev.qps = [] ∧ (∀ a ∈ s.dev.issued, a.fn ≠ some (Fn.vf v))) ∧
    (∃ (s : State) (v : Nat), (s.dev.func (Fn.vf v)).flr = .releasing) :=
  ⟨⟨(st fun d => { vf { funcReset with vfEnable := true } d with tracks := [trk11], items := [fit] }), 2047, by decide +kernel⟩,
   ⟨(st fun d => { vf { funcReset with flr := .silencing } d with tracks := [trk11], items := [fit, { item0 with id := 8 }] }), 2047, by decide +kernel⟩,
   ⟨(st fun d => vf { funcReset with flr := .silencing } { d with ports := [] }), 2047, by decide +kernel⟩,
   ⟨(st (vf { funcReset with flr := .releasing })), 2047, by decide +kernel⟩⟩

/-- What `Obligations.TranslationsAndVectors` assumes is met. -/
theorem test_meets_TranslationsAndVectors :
    (∃ (s : State) (f : Fn) (page : Nat) (pages : Nat) (v : Nat) (a : AtsAsk), (s.dev.func f).atsEnable = true ∧ f ≠ .mgr ∧ (s.dev.invals.length < 32 ∨ (s.dev.func f).flr ≠ .idle) ∧ s.dev.invals = [] ∧ (s.dev.func f).flr = .idle ∧ s.dev.atsAsks = [a] ∧ a.fn = f ∧ a.use = 0 ∧ page ≤ a.page ∧ a.page < page + pages ∧ s.dev.tracks = [] ∧ vectorCount f ≤ v) ∧
    (∃ (s : State) (f : Fn), (s.dev.func f).atsEnable = true ∧ (s.dev.func f).flr = .idle ∧ s.dev.atsAsks = []) ∧
    (∃ (s : State) (f : Fn) (v : Nat), (s.dev.func f).atsEnable = false ∧ f ≠ .mgr ∧ 32 ≤ s.dev.invals.length ∧ (s.dev.func f).flr = .idle ∧ v < vectorCount f) ∧
    (∃ (s : State) (f : Fn) (tag : Nat) (w : Invalidation), s.dev.invals = [w] ∧ w.fn = f ∧ w.tag = tag ∧ (∀ n ∈ w.waitFor, stillOut s.dev n = false) ∧ underEntries f w.gone s.dev = [] ∧ s.dev.invalWaits = []) ∧
    (∃ (s : State) (f : Fn) (tag : Nat) (w : Invalidation), s.dev.invals = [w] ∧ w.fn = f ∧ w.tag = tag ∧ ((∃ n ∈ w.waitFor, stillOut s.dev n = true) ∨ underEntries f w.gone s.dev ≠ [])) ∧
    (∃ (s : State) (f : Fn) (id : Nat) (k : Track), s.dev.tracks = [k] ∧ k.id = id ∧ k.fn = some f ∧ k.answered = false ∧ s.dev.qps = [] ∧ k.sentAt + (s.dev.func f).cplTimeoutNs ≤ s.dev.now) ∧
    (∃ (s : State) (f : Fn) (id : Nat) (k : Track), s.dev.tracks = [k] ∧ k.id = id ∧ k.fn = some f ∧ k.answered = false ∧ s.dev.qps = [] ∧ s.dev.now < k.sentAt + (s.dev.func f).cplTimeoutNs) :=
  ⟨⟨(st fun d => { vf atsOn d with ats := [ae], atsAsks := [ask] }), f11, 15, 1, 2047, ask, by decide +kernel⟩,
   ⟨(st fun d => { vf atsOn d with ats := [ae] }), f11, by decide +kernel⟩,
   ⟨(st fun d => { vf funcReset d with invals := List.replicate 32 (inv []) }), f11, 0, by decide +kernel⟩,
   ⟨(st fun d => { vf funcReset d with invals := [inv [7]] }), f11, 31, (inv [7]), by decide +kernel⟩,
   ⟨(st fun d => { vf funcReset d with invals := [inv [7]], items := [fit] }), f11, 31, (inv [7]), by decide +kernel⟩,
   ⟨(st fun d => { vf funcReset d with tracks := [trk11], now := 50000000 }), f11, 9, trk11, by decide +kernel⟩,
   ⟨(st fun d => { vf funcReset d with tracks := [trk11], now := 49999999, msix := [(fnKey f11 * 2048 + 63, { msixReset with pending := true, addr := 5 })] }), f11, 9, trk11, by decide +kernel⟩⟩

/-- What `Obligations.DeviceCommandsAnswer` assumes is met (its part on health commands answer). -/
theorem test_meets_DeviceCommandsAnswer_HealthCommandsAnswer :
    (∃ (s : State) (c : Cmd) (flags : Byte), NoTarget c ∧ Ready 0x0103 c s.dev ∧ flags.toNat < 2 ∧ c.params = [flags, 0, 0, 0]) ∧
    (∃ (s : State) (c : Cmd) (first : Nat) (count : Nat), NoTarget c ∧ Ready 0x0B02 c s.dev ∧ 0 < count ∧ count ≤ 63 ∧ first < 2 ^ 32 - 1 ∧ c.params = natLe 4 first ++ natLe 2 count ++ [0, 0]) :=
  ⟨⟨(rdy 0x0103 (cH 1) fun d => { d with can := { d.can with fault := true } }), (cH 1), 1, ⟨rfl, rfl⟩, ready_of (by decide +kernel), by decide +kernel⟩,
   ⟨(rdy 0x0B02 (cM (2 ^ 32 - 2) 1) fun d => { d with blackBox := [bb (2 ^ 32 - 3), bb (2 ^ 32 - 2), bb (2 ^ 32 - 1), bb 0] }), (cM (2 ^ 32 - 2) 1), (2 ^ 32 - 2), 1, ⟨rfl, rfl⟩, ready_of (by decide +kernel), by decide +kernel⟩⟩

/-- What `Obligations.CanaryAndThrottle` assumes is met. -/
theorem test_meets_CanaryAndThrottle :
    (∃ (s : State) (tj : Nat) (t0 : Nat), s.dev.clk.mainLock = true ∧ s.dev.devTime.toNat % 100000000 = 0 ∧ isDue .canary 1 s.dev = true ∧ s.dev.can.firstEval = some t0 ∧ s.dev.now < t0 + 10000000000 ∧ s.dev.throttle.updatedAt + msNs ≤ s.dev.now ∧ s.dev.throttle.emergency = false ∧ tj < 125) ∧
    (∃ (s : State) (t0 : Nat), s.dev.can.firstEval = some t0 ∧ t0 + 10000000000 ≤ s.dev.now) ∧
    (∃ (s : State), (s.dev.devTime.toNat % 100000000 ≠ 0 ∨ isDue .canary 1 s.dev = false)) ∧
    (∃ (tj : Nat), 125 ≤ tj) ∧
    (∃ (s : State), s.dev.can.firstEval = none) ∧
    (∃ (s : State), s.dev.throttle.updatedAt + msNs ≤ s.dev.now ∧ s.dev.throttle.emergency = true) ∧
    (∃ (s : State), s.dev.now < s.dev.throttle.updatedAt + msNs) :=
  ⟨⟨(canSt 100000000 0), 111, 0, by decide +kernel⟩,
   ⟨(canSt 10000000000 3), 0, by decide +kernel⟩,
   ⟨(canSt 9999999999 3), by decide +kernel⟩,
   ⟨125, by decide +kernel⟩,
   ⟨(thr 1000000 12 false), by decide +kernel⟩,
   ⟨(thr 1000000 16 true), by decide +kernel⟩,
   ⟨(thr 999999 0 false), by decide +kernel⟩⟩

/-- What `Obligations.FaultsAreContained` assumes is met. -/
theorem test_meets_FaultsAreContained :
    (∃ (s : State) (m : Nat) (id : Nat) (dir : Nat) (q : Qp), s.dev.can.plans = [] ∧ m < 9 ∧ findItem id s.dev = none ∧ s.dev.qp id = some q ∧ q.state = .rts ∧ (s.dev.region id).inUse = false ∧ s.dev.ats = [] ∧ dir < 8 ∧ (shaftOf dir s.dev).spares < 32 ∧ (shaftOf dir s.dev).errors = [] ∧ s.dev.kme.running = false) ∧
    (∃ (s : State) (m : Nat) (id : Nat) (i : Item), s.dev.can.plans = [] ∧ 9 ≤ m ∧ (sparesOf m s.dev).used < spareLimit m ∧ findItem id s.dev = some i ∧ i.rma = none) ∧
    (∃ (s : State) (m : Nat) (row : Nat) (p : RowPlan), s.dev.can.plans = [p] ∧ p.memory = m ∧ p.row = row ∧ (sparesOf m s.dev).used < spareLimit m) ∧
    (∃ (s : State) (dir : Nat) (lane : Nat), dir < 8 ∧ 7 ≤ ((shaftOf dir s.dev).errors.filter (fun e => decide (s.dev.now < e.2 + msNs) && decide (e.1 = lane))).length ∧ 32 ≤ (shaftOf dir s.dev).spares) ∧
    (∃ (dir : Nat), 8 ≤ dir) ∧
    (∃ (s : State), s.dev.kme.running = true) ∧
    (∃ (s : State) (e : AtsEntry), s.dev.ats = [e]) :=
  ⟨⟨(fl id []), 8, 7, 7, qp11, by decide +kernel⟩,
   ⟨(fl (fun c => { c with spares := [(9, { used := 2047, out := 0 })] }) [item0]), 9, 7, item0, by decide +kernel⟩,
   ⟨(fl (fun c => { c with plans := [pl0] }) [item0]), 8, 3, pl0, by decide +kernel⟩,
   ⟨(fl (fun c => { c with shafts := [(7, { shaftReset with spares := 32, errors := List.replicate 7 (399, 0) })] }) [item0]), 7, 399, by decide +kernel⟩,
   ⟨8, by decide +kernel⟩,
   ⟨(rdy 0 c0 part5), by decide +kernel⟩,
   ⟨(fl id [] |> fun s => { s with dev := { s.dev with ats := [ae] } }), ae, by decide +kernel⟩⟩

end W11

namespace W12

def f12 : Fn := .pf 5
/-- PART5's RMA PF runs, with one region, one CQ, and doorbell page 4,095. -/
def rm (d : Device) : Device := { part5 d with
  funcs := [(fnKey f12, { funcReset with mse := true, bme := true })],
  regions := [(3, { regionReset with inUse := true, used := true, fn := f12, base := 0x1000, length := 0x10000, pd := 9, rights := 15, variant := 255 })],
  cqs := [(1048575, { fn := f12, base := 0x8000, depth := 256, vector := 0xFFFF, dbPage := 4095, prod := 0, ci := 0, armed := false, noticeOf := [], lastUse := 0 })],
  dbPages := [(pageKey f12 4095, 1)], pools := [(5, { ctxLimit := 4, regLimit := 4, pageLimit := 64 })] }
def cq12 : Cq := { fn := f12, base := 0x8000, depth := 256, vector := 0xFFFF, dbPage := 4095, prod := 0, ci := 0, armed := false, noticeOf := [], lastUse := 0 }
def reg12 : Region := { regionReset with inUse := true, used := true, fn := f12, base := 0x1000, length := 0x10000, pd := 9, rights := 15, variant := 255 }
def qp12 : Qp :=
  { fn := f12, part := 5, cqn := 1048575, rspCqn := 1048575, sqBase := 0x2000, sqDepth := 64, immDepth := 0, dbPage := 4095, pd := 9, queue := 0, state := .rts,
    dstFid := 0, dstQpn := 8, retryLimit := 1, rnrLimit := 0, ackTimeout := 60, rnrDelayUs := 20, reasmTimeout := 50, nextPsn := 0, sqPi := 1,
    fetched := 0, completed := 0, freed := 0, reqs := [], unacked := [], retries := 0, rnrRetries := 0, progressAt := 0, epsn := 0, rx := [],
    msgBytes := 0, lastAtomicPsn := none, lastAtomicValue := 0, atomicBusy := false, sinceAck := 0, uncoveredAt := none, epsnAt := 0, nakAt := none,
    rereads := [], notices := 0, noticesUsed := 0, faultSent := false, errorStatus := 0, errorPsn := none, shape := equeueReset, evalAt := 0, lastUse := 0 }
def cTn (ps : List Byte) : Cmd := { cmdAt 0 0 ps with source := { transport := 1, inst := 5 } }
def rz : Nat := 0
def cCq := cTn (natLe 8 0xFFFFFFFFFFFFF000 ++ natLe 4 4194304 ++ natLe 2 0xFFFF ++ natLe 2 4095)
def c4b (n : Nat) := cTn (natLe 4 n)
def cQp := cTn (natLe 4 1048575 ++ natLe 4 1048575 ++ natLe 8 0x4000 ++ natLe 4 128 ++ natLe 2 128 ++ natLe 2 4095 ++ natLe 2 9 ++ [7] ++ natLe 5 0)
def wq (q : Qp) (d : Device) : Device := { rm d with qps := [(0, q)] }
def cMd := cTn (natLe 4 0 ++ [2, 31, 15, 15] ++ natLe 4 (2 ^ 24 - 1) ++ natLe 4 (2 ^ 24 - 1) ++ natLe 4 (2 ^ 24 - 1) ++ natLe 8 0)
def cEr := cTn (natLe 4 0 ++ [3] ++ List.replicate 23 0)
def qE : Qp := { qp12 with state := .error }
def cRg := cTn (natLe 8 0xFFF ++ natLe 8 0x3C001 ++ natLe 2 9 ++ [15] ++ natLe 5 0)
def hd12 : RmaHdr :=
  { srcFid := 0, dstFid := 0, op := 1, last := true, retx := false, syndrome := 0, dstQpn := 0, srcQpn := 8, psn := 0, msgPsn := 0, msgOffset := 0,
    address := 0x1000, key := 1023, totalLen := 4, imm := 0, laddrLo := 0, data := [1, 2, 3, 4] }
def rxq : Qp := { qp12 with rx := [{ hdr := hd12, psns := 1, complete := false }] }
def cMg (p : Nat) (ps : List Byte) : Cmd := { cmdAt 0 0 ps with target := BitVec.ofNat _ p }
def cPs := cMg 5 (natLe 4 16777216 ++ natLe 4 1 ++ natLe 4 (2 ^ 30))
def cBk := cmdAt 0 0 (natLe 8 0xFFFFFFFFFFFFF000 ++ natLe 8 0 ++ natLe 4 1048576 ++ natLe 4 16777216 ++ List.replicate 8 0)
def cZ (a b : Nat) := cmdAt 0 0 ([0, 0, 0, 0] ++ natLe 4 a ++ natLe 4 b)
def wcq (x : Cq) (d : Device) : Device := { rm d with cqs := [(5, x)] }
def wqe12 (op len : Nat) : Wqe := { op := op, flags := 0, length := len, wrId := 5, localAddr := 0x1000, localKey := 1023, remoteKey := 1023, remoteAddr := 0x2000, imm := 0, operand1 := 0, operand2 := 0 }
def rq (op len psns sent : Nat) : WorkReq := { wqe := wqe12 op len, firstPsn := 0, psns := psns, sent := sent, placed := [], fetchedAt := 0 }
def sgm : SentSeg := { hdr := hd12, lastSent := 0, accepted := false, dueAt := none }
def rn (q : Qp) (t : Nat) : State := st fun d => later t { rm d with qps := [(0, q)] }
def wb12 : List Byte := natLe 4 1 ++ natLe 4 0 ++ natLe 8 5 ++ natLe 8 0x1000 ++ natLe 4 1023 ++ natLe 4 1023 ++ natLe 8 0x2000 ++ natLe 24 0
def qRead : Qp := { qp12 with reading := some (0x2000, 64) }
def out12 (s : State) : State := { s with dev := { s.dev with issued := [{ port := 96, tlp := { tlp0 with kind := .memRead, addr := 0x2010 }, fab := none, rma := none, fn := some f12 }] } }
def qOut : Qp := { qp12 with reqs := [rq 1 4 1 1], unacked := [sgm], nextPsn := 1, sqPi := 1, fetched := 1 }
def hAck : RmaHdr := { hd12 with op := 8, psn := 1 }
def hNak : RmaHdr := { hd12 with op := 9, syndrome := 1 }
def sDue : SentSeg := { sgm with dueAt := some 77 }
def qRd : Qp := { qp12 with reqs := [rq 3 4 1 1], nextPsn := 1, fetched := 1 }
def hRd : RmaHdr := { hd12 with op := 4 }
def qRp : Qp := { qRd with reqs := [{ rq 3 4 1 1 with placed := [0] }], sqPi := 1 }
def qFl : Qp := { qp12 with state := .error, errorStatus := 5, errorPsn := some 0, reqs := [rq 1 4 1 1], fetched := 1 }
def rx0 : RxSeg := { hdr := hd12, psns := 1, complete := false }
def mw : MissWait := { region := false, number := 0, since := 0, hdr := { hd12 with op := 0 }, part := 5 }

/-- What `Obligations.RmaTenantCommands` assumes is met. -/
theorem test_meets_RmaTenantCommands :
    (∃ (s : State) (c : Cmd) (g : Nat), NoTarget c ∧ Unbacked s.dev ∧ Ready 0x7108 c s.dev ∧ (c.source.transport = 1 ∨ c.source.transport = 2) ∧ c.params = [0, 0, 0, 0] ∧ lowest (fun k => !pageHeld (tenantFn c) k s.dev) 0 (pageCount (tenantFn c)) = some g) ∧
    (∃ (s : State) (c : Cmd) (n : Nat), NoTarget c ∧ Unbacked s.dev ∧ Ready 0x7104 c s.dev ∧ (c.source.transport = 1 ∨ c.source.transport = 2) ∧ c.params.length = 16 ∧ u64 c.params 0 % 4096 = 0 ∧ powerIn (u32 c.params 8) 256 4194304 = true ∧ u16 c.params 12 = 0xFFFF ∧ pageHeld (tenantFn c) (u16 c.params 14) s.dev = true ∧ freeContext (fnPart (tenantFn c) s.dev) s.dev = some n) ∧
    (∃ (s : State) (c : Cmd) (n : Nat) (x : Cq), NoTarget c ∧ Unbacked s.dev ∧ Ready 0x7105 c s.dev ∧ (c.source.transport = 1 ∨ c.source.transport = 2) ∧ c.params = natLe 4 n ∧ s.dev.cq n = some x ∧ n < 2 ^ 32 ∧ x.fn = (tenantFn c) ∧ s.dev.qps = []) ∧
    (∃ (s : State) (c : Cmd) (n : Nat) (x : Cq), NoTarget c ∧ Unbacked s.dev ∧ Ready 0x7101 c s.dev ∧ (c.source.transport = 1 ∨ c.source.transport = 2) ∧ c.params.length = 32 ∧ u32 c.params 4 = u32 c.params 0 ∧ s.dev.cq (u32 c.params 0) = some x ∧ x.fn = (tenantFn c) ∧ u64 c.params 8 % 4096 = 0 ∧ powerIn (u32 c.params 16) 64 65536 = true ∧ pageHeld (tenantFn c) (u16 c.params 22) s.dev = true ∧ u8 c.params 26 < 8 ∧ zeros c.params 27 5 = true ∧ freeContext (fnPart (tenantFn c) s.dev) s.dev = some n ∧ cqCommitted (u32 c.params 0) s.dev + (u32 c.params 16 + u16 c.params 20) ≤ x.depth) ∧
    (∃ (s : State) (c : Cmd) (n : Nat) (q : Qp), NoTarget c ∧ Unbacked s.dev ∧ Ready 0x7102 c s.dev ∧ (c.source.transport = 1 ∨ c.source.transport = 2) ∧ c.params.length = 28 ∧ u32 c.params 0 = n ∧ s.dev.qp n = some q ∧ q.fn = (tenantFn c) ∧ u8 c.params 4 = 2 ∧ q.state = .init ∧ u8 c.params 5 = s.dev.glb.fid ∧ s.dev.glb.fid < 32 ∧ u8 c.params 6 ≤ 15 ∧ u8 c.params 7 ≤ 15 ∧ u32 c.params 8 < 2 ^ 24 ∧ u32 c.params 12 < 2 ^ 24 ∧ u32 c.params 16 < 2 ^ 24 ∧ u16 c.params 20 = 0 ∧ u16 c.params 22 = 0 ∧ u16 c.params 24 = 0 ∧ zeros c.params 26 2 = true) ∧
    (∃ (s : State) (c : Cmd) (n : Nat) (q : Qp), NoTarget c ∧ Unbacked s.dev ∧ Ready 0x7102 c s.dev ∧ (c.source.transport = 1 ∨ c.source.transport = 2) ∧ c.params = natLe 4 n ++ [3] ++ List.replicate 23 0 ∧ n < 2 ^ 32 ∧ s.dev.qp n = some q ∧ q.fn = (tenantFn c) ∧ q.state = .rts) ∧
    (∃ (s : State) (c : Cmd) (n : Nat) (q : Qp), NoTarget c ∧ Unbacked s.dev ∧ Ready 0x7103 c s.dev ∧ (c.source.transport = 1 ∨ c.source.transport = 2) ∧ c.params = natLe 4 n ∧ n < 2 ^ 32 ∧ s.dev.qp n = some q ∧ q.fn = (tenantFn c) ∧ q.state = .error ∧ q.completed ≠ q.sqPi) ∧
    (∃ (s : State) (c : Cmd) (n : Nat) (q : Qp), NoTarget c ∧ Unbacked s.dev ∧ Ready 0x7103 c s.dev ∧ (c.source.transport = 1 ∨ c.source.transport = 2) ∧ c.params = natLe 4 n ∧ n < 2 ^ 32 ∧ s.dev.qp n = some q ∧ q.fn = (tenantFn c) ∧ q.state = .error ∧ q.completed = q.sqPi) ∧
    (∃ (s : State) (c : Cmd) (i : Nat), NoTarget c ∧ Unbacked s.dev ∧ Ready 0x7106 c s.dev ∧ (c.source.transport = 1 ∨ c.source.transport = 2) ∧ c.params.length = 24 ∧ 0 < u64 c.params 8 ∧ u64 c.params 8 ≤ 2 ^ 42 ∧ u8 c.params 18 < 16 ∧ zeros c.params 19 5 = true ∧ freeRegion s.dev = some i ∧ (regionsOf (fnPart (tenantFn c) s.dev) s.dev).length < (poolOf (fnPart (tenantFn c) s.dev) s.dev).regLimit ∧ pageSum (regionsOf (fnPart (tenantFn c) s.dev) s.dev) + ceilDiv (u64 c.params 0 % 4096 + u64 c.params 8) 4096 ≤ (poolOf (fnPart (tenantFn c) s.dev) s.dev).pageLimit ∧ pageSum (regionsIn s.dev) + ceilDiv (u64 c.params 0 % 4096 + u64 c.params 8) 4096 ≤ 2 ^ 30 ∧ (s.dev.region i).used = true) ∧
    (∃ (s : State) (c : Cmd) (n : Nat) (x_2 : Region), NoTarget c ∧ Unbacked s.dev ∧ Ready 0x7107 c s.dev ∧ (c.source.transport = 1 ∨ c.source.transport = 2) ∧ c.params = natLe 4 n ∧ n < 2 ^ 32 ∧ s.dev.region (n / 256) = x_2 ∧ x_2.inUse = true ∧ x_2.variant = n % 256 ∧ x_2.fn = (tenantFn c) ∧ regionBusy (n / 256) s.dev = false) ∧
    (∃ (s : State) (c : Cmd) (n : Nat) (x_2 : Region), NoTarget c ∧ Unbacked s.dev ∧ Ready 0x7107 c s.dev ∧ (c.source.transport = 1 ∨ c.source.transport = 2) ∧ c.params = natLe 4 n ∧ n < 2 ^ 32 ∧ s.dev.region (n / 256) = x_2 ∧ x_2.inUse = true ∧ x_2.variant = n % 256 ∧ x_2.fn = (tenantFn c) ∧ regionBusy (n / 256) s.dev = true) :=
  ⟨⟨(rdy 0x7108 (cTn [0, 0, 0, 0]) rm), (cTn [0, 0, 0, 0]), 0, ⟨rfl, rfl⟩, ⟨rfl, rfl⟩, ready_of (by decide +kernel), by decide +kernel⟩,
   ⟨(rdy 0x7104 cCq rm), cCq, 0, ⟨rfl, rfl⟩, ⟨rfl, rfl⟩, ready_of (by decide +kernel), by decide +kernel⟩,
   ⟨(rdy 0x7105 (c4b 1048575) rm), (c4b 1048575), 1048575, cq12, ⟨rfl, rfl⟩, ⟨rfl, rfl⟩, ready_of (by decide +kernel), by decide +kernel⟩,
   ⟨(rdy 0x7101 cQp rm), cQp, 0, cq12, ⟨rfl, rfl⟩, ⟨rfl, rfl⟩, ready_of (by decide +kernel), by decide +kernel⟩,
   ⟨(rdy 0x7102 cMd fun d => wq { qp12 with state := .init } { d with glb := { d.glb with fid := 31 } }), cMd, 0, { qp12 with state := .init }, ⟨rfl, rfl⟩, ⟨rfl, rfl⟩, ready_of (by decide +kernel), by decide +kernel⟩,
   ⟨(rdy 0x7102 cEr (wq qp12)), cEr, 0, qp12, ⟨rfl, rfl⟩, ⟨rfl, rfl⟩, ready_of (by decide +kernel), by decide +kernel⟩,
   ⟨(rdy 0x7103 (c4b 0) (wq qE)), (c4b 0), 0, qE, ⟨rfl, rfl⟩, ⟨rfl, rfl⟩, ready_of (by decide +kernel), by decide +kernel⟩,
   ⟨(rdy 0x7103 (c4b 0) (wq { qE with completed := 1 })), (c4b 0), 0, { qE with completed := 1 }, ⟨rfl, rfl⟩, ⟨rfl, rfl⟩, ready_of (by decide +kernel), by decide +kernel⟩,
   ⟨(rdy 0x7106 cRg fun d => { rm d with regions := [(0, { reg12 with inUse := false })] }), cRg, 0, ⟨rfl, rfl⟩, ⟨rfl, rfl⟩, ready_of (by decide +kernel), by decide +kernel⟩,
   ⟨(rdy 0x7107 (c4b 1023) rm), (c4b 1023), 1023, reg12, ⟨rfl, rfl⟩, ⟨rfl, rfl⟩, ready_of (by decide +kernel), by decide +kernel⟩,
   ⟨(rdy 0x7107 (c4b 1023) (wq rxq)), (c4b 1023), 1023, reg12, ⟨rfl, rfl⟩, ⟨rfl, rfl⟩, ready_of (by decide +kernel), by decide +kernel⟩⟩

/-- What `Obligations.RmaManagerCommands` assumes is met. -/
theorem test_meets_RmaManagerCommands :
    (∃ (s : State) (c : Cmd) (p : Nat) (v : Nat), Ready 0x0701 c s.dev ∧ c.params = [] ∧ c.param0 = 0 ∧ c.target = BitVec.ofNat _ p ∧ 1 ≤ p ∧ p ≤ 48 ∧ (s.dev.part p).state ≠ .free ∧ (s.dev.func (.pf p)).flr = .idle ∧ (s.dev.func (.pf p)).vfEnable = false ∧ (vfsOf p s.dev).length < 256 ∧ s.dev.vfPart.length < 4096 ∧ lowest (fun v => !s.dev.vfPart.any fun e => decide (e.1 = v)) 0 4096 = some v) ∧
    (∃ (s : State) (c : Cmd) (p : Nat), Ready 0x0701 c s.dev ∧ c.params = [] ∧ c.param0 = 0 ∧ c.target = BitVec.ofNat _ p ∧ 1 ≤ p ∧ p ≤ 48 ∧ (s.dev.part p).state ≠ .free ∧ (s.dev.func (.pf p)).flr ≠ .idle) ∧
    (∃ (s : State) (c : Cmd) (p : Nat) (v : Nat), Ready 0x0702 c s.dev ∧ c.params = [] ∧ c.param0 = 0 ∧ c.target = BitVec.ofNat _ v ∧ v < 4096 ∧ (v, p) ∈ s.dev.vfPart ∧ tget 0 s.dev.vfPart v = p ∧ tget 0 s.dev.vfIndex v + 1 = (vfsOf p s.dev).length ∧ (s.dev.func (.pf p)).vfEnable = false) ∧
    (∃ (s : State) (c : Cmd) (p : Nat) (x : Nat) (y : Nat) (z : Nat), Ready 0x0703 c s.dev ∧ c.param0 = 0 ∧ c.target = BitVec.ofNat _ p ∧ 1 ≤ p ∧ p ≤ 48 ∧ (s.dev.part p).state ≠ .free ∧ c.params = natLe 4 x ++ natLe 4 y ++ natLe 4 z ∧ x ≤ 16777216 ∧ y ≤ 16777216 ∧ z ≤ 2 ^ 30 ∧ contextsOf p s.dev ≤ x ∧ (regionsOf p s.dev).length ≤ y ∧ pageSum (regionsOf p s.dev) ≤ z) ∧
    (∃ (s : State) (c : Cmd) (x : Nat) (y : Nat) (a : Nat) (b : Nat), Ready 0x0704 c s.dev ∧ NoTarget c ∧ a % 4096 = 0 ∧ b % 4096 = 0 ∧ a < 2 ^ 64 ∧ b < 2 ^ 64 ∧ x % 65536 = 0 ∧ y % 65536 = 0 ∧ 1048576 ≤ x ∧ x ≤ 16777216 ∧ 524288 ≤ y ∧ y ≤ 16777216 ∧ s.dev.qps = [] ∧ s.dev.cqs = [] ∧ regionsIn s.dev = [] ∧ c.params = natLe 8 a ++ natLe 8 b ++ natLe 4 x ++ natLe 4 y ++ List.replicate 8 0) ∧
    (∃ (s : State) (c : Cmd) (first : Nat) (count : Nat), Ready 0x0705 c s.dev ∧ NoTarget c ∧ c.params = [0, 0, 0, 0] ++ natLe 4 first ++ natLe 4 count ∧ first + count ≤ contextSpace s.dev ∧ first + count < 2 ^ 32 ∧ count ≤ 65536 ∧ s.dev.qps = [] ∧ s.dev.cqs = []) ∧
    (∃ (s : State) (c : Cmd) (first : Nat) (count : Nat), Ready 0x0705 c s.dev ∧ NoTarget c ∧ c.params = [0, 0, 0, 0] ++ natLe 4 first ++ natLe 4 count ∧ first + count ≤ contextSpace s.dev ∧ first + count < 2 ^ 32 ∧ 65536 < count) :=
  ⟨⟨(rdy 0x0701 (cMg 5 []) fun d => { rm d with vfPart := [(0, 5), (2, 6)], vfIndex := [(0, 0), (2, 0)] }), (cMg 5 []), 5, 1, ready_of (by decide +kernel), by decide +kernel⟩,
   ⟨(rdy 0x0701 (cMg 5 []) fun d => { rm d with funcs := [(5, { funcReset with flr := .releasing })] }), (cMg 5 []), 5, ready_of (by decide +kernel), by decide +kernel⟩,
   ⟨(rdy 0x0702 (cMg 4095 []) fun d => { rm d with vfPart := [(0, 5), (4095, 5)], vfIndex := [(4095, 1)] }), (cMg 4095 []), 5, 4095, ready_of (by decide +kernel), by decide +kernel⟩,
   ⟨(rdy 0x0703 cPs rm), cPs, 5, 16777216, 1, (2 ^ 30), ready_of (by decide +kernel), by decide +kernel⟩,
   ⟨(rdy 0x0704 cBk id), cBk, 1048576, 16777216, 0xFFFFFFFFFFFFF000, 0, ready_of (by decide +kernel), ⟨rfl, rfl⟩, by decide +kernel⟩,
   ⟨(rdy 0x0705 (cZ 983040 65536) id), (cZ 983040 65536), 983040, 65536, ready_of (by decide +kernel), ⟨rfl, rfl⟩, by decide +kernel⟩,
   ⟨(rdy 0x0705 (cZ 983039 65537) rm), (cZ 983039 65537), 983039, 65537, ready_of (by decide +kernel), ⟨rfl, rfl⟩, by decide +kernel⟩⟩

/-- What `Obligations.DoorbellsMoveTheIndices` assumes is met. -/
theorem test_meets_DoorbellsMoveTheIndices :
    (∃ (s : State) (f : Fn) (page : Nat) (n : Nat) (pi : Nat) (q : Qp), n < 2 ^ 24 ∧ pi < 2 ^ 32 ∧ (s.dev.func f).flr = .idle ∧ s.dev.fenced (fnPart f s.dev) = false ∧ (s.dev.func f).mse = true ∧ (s.dev.func f).d3hot = false ∧ s.dev.qp n = some q ∧ q.fn = f ∧ q.dbPage = page ∧ q.state ≠ .reset ∧ ahead pi q.freed ≤ q.sqDepth ∧ ahead q.sqPi q.freed ≤ ahead pi q.freed) ∧
    (∃ (s : State) (f : Fn) (page : Nat) (n : Nat) (pi : Nat) (q : Qp), n < 2 ^ 24 ∧ pi < 2 ^ 32 ∧ (s.dev.func f).flr = .idle ∧ s.dev.fenced (fnPart f s.dev) = false ∧ (s.dev.func f).mse = true ∧ (s.dev.func f).d3hot = false ∧ s.dev.qp n = some q ∧ (q.fn ≠ f ∨ q.dbPage ≠ page ∨ q.sqDepth < ahead pi q.freed)) ∧
    (∃ (s : State) (f : Fn) (n : Nat) (pi : Nat), n < 2 ^ 24 ∧ pi < 2 ^ 32 ∧ (s.dev.func f).flr = .idle ∧ s.dev.fenced (fnPart f s.dev) = false ∧ (s.dev.func f).mse = true ∧ (s.dev.func f).d3hot = false ∧ s.dev.qp n = none) ∧
    (∃ (s : State) (f : Fn) (page : Nat) (n : Nat) (pi : Nat) (q_2 : Cq), n < 2 ^ 24 ∧ pi < 2 ^ 32 ∧ (s.dev.func f).flr = .idle ∧ s.dev.fenced (fnPart f s.dev) = false ∧ (s.dev.func f).mse = true ∧ (s.dev.func f).d3hot = false ∧ s.dev.cq n = some q_2 ∧ q_2.fn = f ∧ q_2.dbPage = page ∧ ahead pi q_2.ci ≤ ahead q_2.prod q_2.ci ∧ (∀ k ∈ q_2.noticeOf, k = 0)) ∧
    (∃ (s : State) (f : Fn) (page : Nat) (n : Nat) (pi : Nat) (q_2 : Cq), n < 2 ^ 24 ∧ pi < 2 ^ 32 ∧ (s.dev.func f).flr = .idle ∧ s.dev.fenced (fnPart f s.dev) = false ∧ (s.dev.func f).mse = true ∧ (s.dev.func f).d3hot = false ∧ s.dev.cq n = some q_2 ∧ (q_2.fn ≠ f ∨ q_2.dbPage ≠ page ∨ ahead q_2.prod q_2.ci < ahead pi q_2.ci)) ∧
    (∃ (s : State) (f : Fn) (n : Nat) (pi : Nat), n < 2 ^ 24 ∧ pi < 2 ^ 32 ∧ (s.dev.func f).flr ≠ .idle) ∧
    (∃ (s : State) (f : Fn) (n : Nat) (pi : Nat), n < 2 ^ 24 ∧ pi < 2 ^ 32 ∧ (s.dev.func f).flr = .idle ∧ s.dev.fenced (fnPart f s.dev) = false ∧ (s.dev.func f).mse = false) :=
  ⟨⟨(st (wq { qp12 with freed := 2 ^ 32 - 1, sqPi := 2 ^ 32 - 1 })), f12, 4095, 0, 63, { qp12 with freed := 2 ^ 32 - 1, sqPi := 2 ^ 32 - 1 }, by decide +kernel⟩,
   ⟨(st (wq qp12)), f12, 4095, 0, 65, qp12, by decide +kernel⟩,
   ⟨(st (wq qp12)), f12, 5, 1, by decide +kernel⟩,
   ⟨(st (wcq { cq12 with prod := 2, noticeOf := [0, 0] })), f12, 4095, 5, 2, { cq12 with prod := 2, noticeOf := [0, 0] }, by decide +kernel⟩,
   ⟨(st (wcq { cq12 with prod := 2 })), f12, 4095, 5, 3, { cq12 with prod := 2 }, by decide +kernel⟩,
   ⟨(st fun d => { rm d with funcs := [(fnKey f12, { funcReset with flr := .silencing })] }), f12, 5, 3, by decide +kernel⟩,
   ⟨(st fun d => { rm d with funcs := [] }), f12, 5, 3, by decide +kernel⟩⟩

/-- What `Obligations.RmaRequester` assumes is met. -/
theorem test_meets_RmaRequester :
    (∃ (s : State) (n : Nat) (q : Qp) (b : List Byte), Unbacked s.dev ∧ Running n q s.dev ∧ Reaches q.fn s.dev ∧ q.reqs = [] ∧ q.unacked = [] ∧ q.fetched ≠ q.sqPi ∧ s.dev.fenced q.part = false ∧ q.reading = some ((q.sqBase + q.fetched % q.sqDepth * 64), 64) ∧ accessOut q.fn (q.sqBase + q.fetched % q.sqDepth * 64) 64 s.dev = false ∧ q.nextPsn < 2 ^ 24 ∧ (wqeOf b).op = 1 ∧ (wqeOf b).length = 0 ∧ (wqeOf b).flags = 0 ∧ keyAdmits q (wqeOf b).localKey none (wqeOf b).localAddr 0 s.dev = true ∧ s.dev.now < q.progressAt + q.ackTimeout * 10000) ∧
    (∃ (s : State) (n : Nat) (q : Qp), Unbacked s.dev ∧ Running n q s.dev ∧ Reaches q.fn s.dev ∧ q.reqs = [] ∧ q.unacked = [] ∧ q.fetched ≠ q.sqPi ∧ s.dev.fenced q.part = false ∧ q.reading = some ((q.sqBase + q.fetched % q.sqDepth * 64), 64) ∧ accessOut q.fn (q.sqBase + q.fetched % q.sqDepth * 64) 64 s.dev = true) ∧
    (∃ (s : State) (n : Nat) (q : Qp), Unbacked s.dev ∧ Running n q s.dev ∧ Reaches q.fn s.dev ∧ q.reqs = [] ∧ q.unacked = [] ∧ q.fetched ≠ q.sqPi ∧ s.dev.fenced q.part = false ∧ q.reading ≠ some ((q.sqBase + q.fetched % q.sqDepth * 64), 64)) ∧
    (∃ (s : State) (n : Nat) (q : Qp), Unbacked s.dev ∧ Running n q s.dev ∧ fnEnabled q.fn s.dev = false) ∧
    (∃ (s : State) (n : Nat) (q : Qp) (h : RmaHdr) (seg : SentSeg) (r : WorkReq), Unbacked s.dev ∧ Running n q s.dev ∧ h.dstQpn = n ∧ fromPeer q h = true ∧ q.unacked = [seg] ∧ isWriteOp seg.hdr.op = true ∧ seg.hdr.psn < 2 ^ 24 ∧ q.reqs = [r] ∧ isWriteOp r.wqe.op = true ∧ r.sent = r.psns ∧ r.wqe.flags = 0 ∧ q.nextPsn = psnAdd seg.hdr.psn 1 ∧ h.psn = q.nextPsn) ∧
    (∃ (s : State) (n : Nat) (q : Qp) (h : RmaHdr), Unbacked s.dev ∧ Running n q s.dev ∧ h.dstQpn = n ∧ fromPeer q h = false) ∧
    (∃ (s : State) (n : Nat) (q : Qp) (h : RmaHdr) (seg : SentSeg), Unbacked s.dev ∧ Running n q s.dev ∧ h.dstQpn = n ∧ fromPeer q h = true ∧ q.unacked = [seg] ∧ seg.hdr.psn = h.psn ∧ h.psn < 2 ^ 24 ∧ isWriteOp seg.hdr.op = true ∧ oldestPsn q = h.psn ∧ (∀ r ∈ q.reqs, reqDone q r = false) ∧ seg.dueAt = none ∧ q.retries < q.retryLimit ∧ h.msgPsn = h.psn ∧ q.rnrLimit = 0 ∧ q.unacked ≠ [] ∧ q.progressAt + q.ackTimeout * 10000 ≤ s.dev.now) ∧
    (∃ (s : State) (n : Nat) (q : Qp) (h : RmaHdr) (seg : SentSeg), Unbacked s.dev ∧ Running n q s.dev ∧ h.dstQpn = n ∧ fromPeer q h = true ∧ q.unacked = [seg] ∧ seg.hdr.psn = h.psn ∧ h.psn < 2 ^ 24 ∧ isWriteOp seg.hdr.op = true ∧ oldestPsn q = h.psn ∧ (∀ r ∈ q.reqs, reqDone q r = false) ∧ q.retryLimit ≤ q.retries) ∧
    (∃ (s : State) (n : Nat) (q : Qp) (h : RmaHdr) (seg : SentSeg), Unbacked s.dev ∧ Running n q s.dev ∧ h.dstQpn = n ∧ fromPeer q h = true ∧ q.unacked = [seg] ∧ seg.hdr.psn = h.psn ∧ h.psn < 2 ^ 24 ∧ isWriteOp seg.hdr.op = true ∧ oldestPsn q = h.psn ∧ (∀ r ∈ q.reqs, reqDone q r = false) ∧ q.rnrLimit ≠ 0 ∧ q.rnrLimit ≤ q.rnrRetries) ∧
    (∃ (s : State) (n : Nat) (q : Qp) (seg : SentSeg), Unbacked s.dev ∧ Running n q s.dev ∧ qpRuns q s.dev = true ∧ q.unacked = [seg] ∧ seg.dueAt = some s.dev.now) ∧
    (∃ (s : State) (n : Nat) (q : Qp) (h : RmaHdr) (r : WorkReq), Unbacked s.dev ∧ Running n q s.dev ∧ Reaches q.fn s.dev ∧ h.dstQpn = n ∧ fromPeer q h = true ∧ q.reqs = [r] ∧ r.wqe.op = 3 ∧ r.psns = 1 ∧ r.sent = 1 ∧ r.placed = [] ∧ r.wqe.flags = 0 ∧ h.psn = r.firstPsn ∧ h.psn < 2 ^ 24 ∧ h.msgOffset = 0 ∧ h.last = true ∧ h.totalLen = r.wqe.length ∧ messageCuts r.wqe.localAddr r.wqe.length = [(r.wqe.localAddr, r.wqe.length)] ∧ 0 < r.wqe.length ∧ h.data.length = r.wqe.length ∧ keyAdmits q r.wqe.localKey (some localWrite) r.wqe.localAddr r.wqe.length s.dev = true) ∧
    (∃ (s : State) (n : Nat) (q : Qp) (h : RmaHdr) (r : WorkReq), Unbacked s.dev ∧ Running n q s.dev ∧ Reaches q.fn s.dev ∧ h.dstQpn = n ∧ fromPeer q h = true ∧ q.reqs = [r] ∧ r.wqe.op = 3 ∧ r.psns = 1 ∧ r.sent = 1 ∧ r.placed = [] ∧ r.wqe.flags = 0 ∧ h.psn = r.firstPsn ∧ h.psn < 2 ^ 24 ∧ h.msgOffset = 0 ∧ h.last = true ∧ h.totalLen = r.wqe.length ∧ messageCuts r.wqe.localAddr r.wqe.length = [(r.wqe.localAddr, r.wqe.length)] ∧ 0 < r.wqe.length ∧ h.data.length ≠ r.wqe.length) ∧
    (∃ (s : State) (n : Nat) (q : Qp) (r : WorkReq), Unbacked s.dev ∧ Running n q s.dev ∧ q.reqs = [r] ∧ q.unacked = [] ∧ q.fetched = q.sqPi ∧ r.wqe.op = 3 ∧ r.psns = 1 ∧ r.sent = 1 ∧ r.placed = [r.firstPsn] ∧ r.wqe.flags = 0 ∧ fnEnabled q.fn s.dev = true) :=
  ⟨⟨(rn qRead 5), 0, qRead, wb12, ⟨rfl, rfl⟩, by unfold Running; decide +kernel, reaches_of (by decide +kernel), by decide +kernel⟩,
   ⟨(out12 (rn qRead 5)), 0, qRead, ⟨rfl, rfl⟩, by unfold Running; decide +kernel, reaches_of (by decide +kernel), by decide +kernel⟩,
   ⟨(rn qp12 5), 0, qp12, ⟨rfl, rfl⟩, by unfold Running; decide +kernel, reaches_of (by decide +kernel), by decide +kernel⟩,
   ⟨(st fun d => { rm d with qps := [(0, qp12)], funcs := [] }), 0, qp12, ⟨rfl, rfl⟩, by unfold Running; decide +kernel, by decide +kernel⟩,
   ⟨(rn qOut 5), 0, qOut, hAck, sgm, (rq 1 4 1 1), ⟨rfl, rfl⟩, by unfold Running; decide +kernel, by decide +kernel⟩,
   ⟨(rn qOut 5), 0, qOut, { hAck with srcQpn := 9 }, ⟨rfl, rfl⟩, by unfold Running; decide +kernel, by decide +kernel⟩,
   ⟨(rn qOut 600000), 0, qOut, hNak, sgm, ⟨rfl, rfl⟩, by unfold Running; decide +kernel, by decide +kernel⟩,
   ⟨(rn { qOut with retries := 1 } 599999), 0, { qOut with retries := 1 }, hNak, sgm, ⟨rfl, rfl⟩, by unfold Running; decide +kernel, by decide +kernel⟩,
   ⟨(rn { qOut with rnrLimit := 1, rnrRetries := 1 } 600000), 0, { qOut with rnrLimit := 1, rnrRetries := 1 }, { hNak with syndrome := 2 }, sgm, ⟨rfl, rfl⟩, by unfold Running; decide +kernel, by decide +kernel⟩,
   ⟨(rn { qOut with unacked := [sDue] } 77), 0, { qOut with unacked := [sDue] }, sDue, ⟨rfl, rfl⟩, by unfold Running; decide +kernel, by decide +kernel⟩,
   ⟨(rn qRd 5), 0, qRd, hRd, (rq 3 4 1 1), ⟨rfl, rfl⟩, by unfold Running; decide +kernel, reaches_of (by decide +kernel), by decide +kernel⟩,
   ⟨(rn qRd 5), 0, qRd, { hRd with data := [1] }, (rq 3 4 1 1), ⟨rfl, rfl⟩, by unfold Running; decide +kernel, reaches_of (by decide +kernel), by decide +kernel⟩,
   ⟨(rn qRp 5), 0, qRp, { rq 3 4 1 1 with placed := [0] }, ⟨rfl, rfl⟩, by unfold Running; decide +kernel, by decide +kernel⟩⟩

/-- What `Obligations.QpFlushCompletesEveryRequest` assumes is met. -/
theorem test_meets_QpFlushCompletesEveryRequest :
    (∃ (s : State) (n : Nat) (q : Qp) (c : Cq) (r : WorkReq), Reaches c.fn s.dev ∧ s.dev.qps = [(n, q)] ∧ q.state = .error ∧ q.reqs = [r] ∧ r.psns ≠ 0 ∧ s.dev.cq q.cqn = some c ∧ c.armed = false ∧ (∀ e ∈ s.dev.kme.execs, e.op ≠ 0x7103)) :=
  ⟨(rn qFl 5), 0, qFl, cq12, (rq 1 4 1 1), reaches_of (by decide +kernel), by decide +kernel⟩

/-- What `Obligations.RmaResponder` assumes is met. -/
theorem test_meets_RmaResponder :
    (∃ (s : State) (n : Nat) (q : Qp) (h : RmaHdr), Unbacked s.dev ∧ Running n q s.dev ∧ (h.dstQpn ≠ n ∨ fromPeer q h = false ∨ s.dev.fenced q.part = true) ∧ q.rx = [] ∧ q.rereads = [] ∧ q.uncoveredAt = none ∧ s.dev.missWait = []) ∧
    (∃ (s : State) (n : Nat) (q : Qp) (h : RmaHdr), Unbacked s.dev ∧ Running n q s.dev ∧ h.dstQpn = n ∧ fromPeer q h = true ∧ (s.dev.func q.fn).flr = .idle ∧ s.dev.fenced q.part = false ∧ h.psn < 2 ^ 24 ∧ q.epsn < 2 ^ 24 ∧ isWriteOp h.op = true ∧ q.epsn = psnAdd h.psn 1) ∧
    (∃ (s : State) (n : Nat) (q : Qp) (h : RmaHdr), Unbacked s.dev ∧ Running n q s.dev ∧ h.dstQpn = n ∧ fromPeer q h = true ∧ (s.dev.func q.fn).flr = .idle ∧ s.dev.fenced q.part = false ∧ h.psn < 2 ^ 24 ∧ q.epsn < 2 ^ 24 ∧ q.rx = [] ∧ h.psn = psnAdd q.epsn 256) ∧
    (∃ (s : State) (n : Nat) (q : Qp) (h : RmaHdr), Unbacked s.dev ∧ Running n q s.dev ∧ h.dstQpn = n ∧ fromPeer q h = true ∧ (s.dev.func q.fn).flr = .idle ∧ s.dev.fenced q.part = false ∧ h.psn < 2 ^ 24 ∧ q.epsn < 2 ^ 24 ∧ q.rx = [] ∧ h.psn = q.epsn ∧ keyAdmits q h.key (some (remoteRight h)) h.address (remoteLen h) s.dev = false) ∧
    (∃ (s : State) (n : Nat) (q : Qp) (h : RmaHdr), Unbacked s.dev ∧ Running n q s.dev ∧ Reaches q.fn s.dev ∧ h.dstQpn = n ∧ fromPeer q h = true ∧ (s.dev.func q.fn).flr = .idle ∧ s.dev.fenced q.part = false ∧ h.psn < 2 ^ 24 ∧ q.epsn < 2 ^ 24 ∧ q.rx = [] ∧ h.psn = q.epsn ∧ h.op = 1 ∧ 0 < h.data.length ∧ keyAdmits q h.key (some remoteWrite) h.address h.data.length s.dev = true) ∧
    (∃ (s : State) (n : Nat) (q : Qp) (x : RxSeg), Unbacked s.dev ∧ Running n q s.dev ∧ q.rx = [x] ∧ x.complete = false ∧ x.hdr.psn = q.epsn ∧ x.psns = 1 ∧ x.hdr.op = 1 ∧ x.hdr.last = true ∧ q.msgBytes = 0 ∧ x.hdr.totalLen = x.hdr.data.length ∧ fnEnabled q.fn s.dev = true ∧ s.dev.atsAsks = [] ∧ (∀ y ∈ s.dev.kme.execs, y.cmd.source.transport ≠ 6) ∧ accessOut q.fn x.hdr.address x.hdr.data.length s.dev = false) ∧
    (∃ (s : State) (n : Nat) (q : Qp) (x : RxSeg), Unbacked s.dev ∧ Running n q s.dev ∧ q.rx = [x] ∧ x.complete = false ∧ x.hdr.psn = q.epsn ∧ x.psns = 1 ∧ x.hdr.op = 1 ∧ x.hdr.last = true ∧ q.msgBytes = 0 ∧ x.hdr.totalLen = x.hdr.data.length ∧ fnEnabled q.fn s.dev = true ∧ s.dev.atsAsks = [] ∧ (∀ y ∈ s.dev.kme.execs, y.cmd.source.transport ≠ 6) ∧ accessOut q.fn x.hdr.address x.hdr.data.length s.dev = true) ∧
    (∃ (s : State) (n : Nat) (q : Qp) (x : RxSeg), Unbacked s.dev ∧ Running n q s.dev ∧ q.rx = [x] ∧ x.hdr.psn ≠ q.epsn ∧ q.nakAt = none ∧ q.epsnAt + q.reasmTimeout * 10000 ≤ s.dev.now) ∧
    (∃ (s : State) (n : Nat) (q : Qp) (t0 : Nat), Unbacked s.dev ∧ Running n q s.dev ∧ q.uncoveredAt = some t0 ∧ t0 + 1000 ≤ s.dev.now) ∧
    (∃ (s : State) (n : Nat) (q : Qp) (t0 : Nat), Unbacked s.dev ∧ Running n q s.dev ∧ q.uncoveredAt = some t0 ∧ s.dev.now < t0 + 1000) ∧
    (∃ (s : State) (n : Nat) (region : Bool) (m : MissWait), s.dev.qp n = none ∧ s.dev.missWait = [m] ∧ m.region = region ∧ m.number = n ∧ m.hdr.op = 0 ∧ (usesOf region s.dev).length < residentSlots region s.dev ∧ m.since + msNs ≤ s.dev.now) :=
  ⟨⟨(rn qp12 5), 0, qp12, { hd12 with dstQpn := 1 }, ⟨rfl, rfl⟩, by unfold Running; decide +kernel, by decide +kernel⟩,
   ⟨(rn { qp12 with epsn := 1 } 5), 0, { qp12 with epsn := 1 }, hd12, ⟨rfl, rfl⟩, by unfold Running; decide +kernel, by decide +kernel⟩,
   ⟨(rn qp12 5), 0, qp12, { hd12 with psn := 256 }, ⟨rfl, rfl⟩, by unfold Running; decide +kernel, by decide +kernel⟩,
   ⟨(rn qp12 5), 0, qp12, { hd12 with key := 1022 }, ⟨rfl, rfl⟩, by unfold Running; decide +kernel, by decide +kernel⟩,
   ⟨(rn qp12 5), 0, qp12, hd12, ⟨rfl, rfl⟩, by unfold Running; decide +kernel, reaches_of (by decide +kernel), by decide +kernel⟩,
   ⟨(rn rxq 5), 0, rxq, rx0, ⟨rfl, rfl⟩, by unfold Running; decide +kernel, by decide +kernel⟩,
   ⟨(let s := rn rxq 5; { s with dev := { s.dev with issued := [{ port := 96, tlp := { tlp0 with addr := 0x1003 }, fab := none, rma := none, fn := some f12 }] } }), 0, rxq, rx0, ⟨rfl, rfl⟩, by unfold Running; decide +kernel, by decide +kernel⟩,
   ⟨(rn { rxq with epsn := 3 } 500000), 0, { rxq with epsn := 3 }, rx0, ⟨rfl, rfl⟩, by unfold Running; decide +kernel, by decide +kernel⟩,
   ⟨(rn { qp12 with uncoveredAt := some 0 } 1000), 0, { qp12 with uncoveredAt := some 0 }, 0, ⟨rfl, rfl⟩, by unfold Running; decide +kernel, by decide +kernel⟩,
   ⟨(rn { qp12 with uncoveredAt := some 0 } 999), 0, { qp12 with uncoveredAt := some 0 }, 0, ⟨rfl, rfl⟩, by unfold Running; decide +kernel, by decide +kernel⟩,
   ⟨(st fun d => { rm d with missWait := [mw], now := 1000000 }), 0, false, mw, by decide +kernel⟩⟩

end W12

namespace W13

def actP : Plk := { plkReset with state := .active }
/-- Two live PFL ports, P40 and P44; this device is FID 3. -/
def fb (f : Fab → Fab) (d : Device) : Device := { d with
  ports := [(40, pflPort), (44, pflPort)], plk := [(40, { actP with timeSeq := 255, timeT1 := 1000 }), (44, actP)],
  glb := { d.glb with fid := 3, serial := 50 }, fab := f d.fab, parts := [(0, partZero), (48, { partFree with state := .active })] }
def ad (fid ser seq : Nat) : Advert := { fid := fid, priority := 128, seq := seq, serial := BitVec.ofNat 64 ser, hops := 1, links := [(1, 3, 40, 4)] }
def ha (fid ser seq t : Nat) : HeldAdvert := { adv := ad fid ser seq, port := 40, heldAt := t }
def path0 (n : Nat) : FabPath := { port := n, weight := 1, withdrawn := false, samples := [] }
def rt (ns : List Nat) : FabRoute := { routeNone with paths := ns.map path0 }
def cF (t : Nat) (ps : List Byte) : Cmd := { cmdAt 0 0 ps with target := BitVec.ofNat _ t }
def cRs := cF 31 ([0, 1, 0, 0, 40, 15] ++ List.replicate 10 0)
def cJ := cF 48 (natLe 8 0x1000 ++ natLe 8 4 ++ natLe 4 16384 ++ natLe 2 64 ++ natLe 2 64 ++ natLe 2 0xFFFF ++ [1] ++ natLe 5 0)
def cJ0 := cF 48 (List.replicate 32 0)
def cT0 := cF 0 (List.replicate 16 0)
def cT1 := cF 0 ([1, 255] ++ List.replicate 14 0)
def cT2 := cF 0 ([2, 0, 0, 0, 0, 0, 0, 0] ++ natLe 8 (2 ^ 64 - 1))
def cFp := cF 0 (natLe 2 500 ++ natLe 2 0xAAAA ++ [0, 0, 0, 0])
def fs (t : Nat) (f : Fab → Fab) : State := st fun d => later t (fb f d)
def bk (l g : Nat) : Bucket := { path := 0, lastSent := l, guardUntil := g }
def par (f : Fab) : Fab := { f with parentPort := 40, masterValid := true, masterFid := 1, hops := 1 }
def tfs (t dt : Nat) (f : Fab → Fab) : State := st fun d => later t { fb f d with devTime := BitVec.ofNat 64 dt }

/-- What `Obligations.FabricCommands` assumes is met. -/
theorem test_meets_FabricCommands :
    (∃ (s : State) (c : Cmd) (k : Nat) (n : Nat) (w : Nat), Ready 0x0601 c s.dev ∧ c.target = BitVec.ofNat _ k ∧ c.param0 = 0 ∧ k < 32 ∧ k ≠ s.dev.glb.fid ∧ n < 96 ∧ (s.dev.port n).personality = .pfl ∧ (s.dev.pfl n).state ≠ .conflict ∧ w ≤ 15 ∧ c.params = [0, 1, 0, 0, BitVec.ofNat 8 n, BitVec.ofNat 8 w] ++ List.replicate 10 0) ∧
    (∃ (s : State) (c : Cmd), Ready 0x0602 c s.dev ∧ c.target = BitVec.ofNat _ 0xFF ∧ c.param0 = 0 ∧ c.params = [] ∧ (∀ a ∈ s.dev.fab.adverts, a.adv.fid < 32)) ∧
    (∃ (s : State) (c : Cmd) (k : Nat) (h : HeldAdvert), Ready 0x0602 c s.dev ∧ c.target = BitVec.ofNat _ k ∧ k < 32 ∧ c.param0 = 0 ∧ c.params = [] ∧ s.dev.fab.adverts = [h] ∧ h.adv.fid = k) ∧
    (∃ (s : State) (c : Cmd) (k : Nat), Ready 0x0603 c s.dev ∧ c.target = BitVec.ofNat _ k ∧ c.param0 = 0 ∧ k ≤ 48 ∧ (s.dev.part k).state ≠ .free ∧ c.params.length = 32 ∧ u64 c.params 0 % 4096 = 0 ∧ u64 c.params 8 % 4 = 0 ∧ u32 c.params 16 ≠ 0 ∧ journalSize (u32 c.params 16) = true ∧ 1 ≤ u16 c.params 20 ∧ u16 c.params 20 ≤ 1024 ∧ u16 c.params 22 ≤ 32768 ∧ u16 c.params 24 = 0xFFFF ∧ u8 c.params 26 < 2 ∧ zeros c.params 27 5 = true ∧ (s.dev.journal k).entries = 0 ∧ journalMoves (s.dev.journal k) (journalAsked c.params (s.dev.journal k)) = true ∧ journalFits (journalAsked c.params (s.dev.journal k)) (journalSources k s.dev) = true) ∧
    (∃ (s : State) (c : Cmd) (k : Nat), Ready 0x0603 c s.dev ∧ c.target = BitVec.ofNat _ k ∧ c.param0 = 0 ∧ k ≤ 48 ∧ (s.dev.part k).state ≠ .free ∧ c.params = List.replicate 32 0 ∧ journalHeld k s.dev = 0 ∧ portsOf k s.dev = []) ∧
    (∃ (s : State) (c : Cmd), NoTarget c ∧ Ready 0x0604 c s.dev ∧ c.params = List.replicate 16 0) ∧
    (∃ (s : State) (c : Cmd) (prio : Byte), NoTarget c ∧ Ready 0x0604 c s.dev ∧ c.params = [1, prio] ++ List.replicate 14 0) ∧
    (∃ (s : State) (c : Cmd) (t : Nat), NoTarget c ∧ Ready 0x0604 c s.dev ∧ t < 2 ^ 64 ∧ c.params = [2, 0, 0, 0, 0, 0, 0, 0] ++ natLe 8 t ∧ isMaster s.dev = true) ∧
    (∃ (s : State) (c : Cmd) (n : Nat) (w : Nat), NoTarget c ∧ Ready 0x0605 c s.dev ∧ (∀ q < 8, w / 4 ^ q % 4 ≠ 3) ∧ n ≤ 500 ∧ w < 2 ^ 16 ∧ c.params = natLe 2 n ++ natLe 2 w ++ [0, 0, 0, 0]) :=
  ⟨⟨(rdy 0x0601 cRs (fb id)), cRs, 31, 40, 15, ready_of (by decide +kernel), by decide +kernel⟩,
   ⟨(rdy 0x0602 (cF 255 []) (fb fun f => { f with adverts := [ha 4 5 6 0], masterFid := 3 })), (cF 255 []), ready_of (by decide +kernel), by decide +kernel⟩,
   ⟨(rdy 0x0602 (cF 4 []) (fb fun f => { f with adverts := [ha 4 5 6 0], masterFid := 3 })), (cF 4 []), 4, (ha 4 5 6 0), ready_of (by decide +kernel), by decide +kernel⟩,
   ⟨(rdy 0x0603 cJ (fb id)), cJ, 48, ready_of (by decide +kernel), by decide +kernel⟩,
   ⟨(rdy 0x0603 cJ0 fun d => { fb id d with journals := [(48, { journalNone with entries := 16384, lost := 2 })] }), cJ0, 48, ready_of (by decide +kernel), by decide +kernel⟩,
   ⟨(rdy 0x0604 cT0 (fb id)), cT0, ⟨rfl, rfl⟩, ready_of (by decide +kernel), by decide +kernel⟩,
   ⟨(rdy 0x0604 cT1 (fb id)), cT1, 255, ⟨rfl, rfl⟩, ready_of (by decide +kernel), by decide +kernel⟩,
   ⟨(rdy 0x0604 cT2 (fb fun f => { f with masterValid := true, masterFid := 3 })), cT2, (2 ^ 64 - 1), ⟨rfl, rfl⟩, ready_of (by decide +kernel), by decide +kernel⟩,
   ⟨(rdy 0x0605 cFp id), cFp, 500, 0xAAAA, ⟨rfl, rfl⟩, ready_of (by decide +kernel), ball_lt (by decide +kernel), by decide +kernel⟩⟩

/-- What `Obligations.FabricTopologyEvents` assumes is met. -/
theorem test_meets_FabricTopologyEvents :
    (∃ (s : State) (n : Nat) (fid : Nat) (path : Nat) (a : Advert), (s.dev.fab.advDue = true ∨ s.dev.fab.advSentAt + 100000 ≤ s.dev.now) ∧ pflLive n s.dev = true ∧ a.fid < 32 ∧ a.fid ≠ s.dev.glb.fid ∧ (∀ y ∈ s.dev.fab.adverts, y.adv.fid ≠ a.fid) ∧ fid < 32 ∧ fid ≠ s.dev.glb.fid ∧ (s.dev.route fid).paths[path]? = none ∧ (s.dev.route fid).buckets = []) ∧
    (∃ (s : State) (fid : Nat) (path : Nat) (y : FabPath) (r : FabRoute), s.dev.fab.advDue = false ∧ s.dev.now < s.dev.fab.advSentAt + 100000 ∧ (s.dev.route fid).paths[path]? = some y ∧ pathLive y s.dev = true ∧ s.dev.fab.routes = [(fid, r)] ∧ r.paths = [y] ∧ isDue .pathLoad 1000 s.dev = true) ∧
    (∃ (s : State) (n : Nat) (a : Advert), pflLive n s.dev = false ∧ a.fid = s.dev.glb.fid ∧ a.serial = s.dev.glb.serial) ∧
    (∃ (s : State) (fid : Nat) (path : Nat) (a : Advert) (h : HeldAdvert) (y : FabPath), s.dev.fab.adverts = [h] ∧ h.adv.fid = a.fid ∧ a.fid ≠ s.dev.glb.fid ∧ h.adv.serial = a.serial ∧ newerSeq h.adv.seq a.seq = false ∧ h.adv.fid = fid ∧ fid < 32 ∧ s.dev.now < h.heldAt + 300000 ∧ (s.dev.route fid).paths[path]? = some y ∧ pathLive y s.dev = false) ∧
    (∃ (s : State) (n : Nat) (fid : Nat) (a : Advert) (h : HeldAdvert), pflLive n s.dev = true ∧ a.fid < 32 ∧ s.dev.fab.adverts = [h] ∧ h.adv.fid = a.fid ∧ a.fid ≠ s.dev.glb.fid ∧ h.adv.serial < a.serial ∧ h.adv.fid = fid ∧ fid < 32 ∧ h.heldAt + 300000 ≤ s.dev.now ∧ hasLivePath fid s.dev = false ∧ s.dev.fab.reach.getLsbD fid = true ∧ (∀ k ∈ s.dev.tracks, k.window = none)) ∧
    (∃ (fid : Nat), 32 ≤ fid) ∧
    (∃ (s : State) (fid : Nat) (b : Nat) (x : Bucket), (s.dev.route fid).buckets = [(b, x)] ∧ x.guardUntil ≤ s.dev.now ∧ s.dev.now < x.lastSent + s.dev.fab.guardUs * 1000) ∧
    (∃ (s : State) (fid : Nat) (b : Nat) (x : Bucket), (s.dev.route fid).buckets = [(b, x)] ∧ s.dev.now < x.guardUntil) ∧
    (∃ (s : State), isDue .pathLoad 1000 s.dev = false) :=
  ⟨⟨(fs 100000 id), 40, 4, 0, (ad 4 5 6), by decide +kernel⟩,
   ⟨(fs 99999 fun f => { f with routes := [(4, rt [40])] }), 4, 0, (path0 40), (rt [40]), by decide +kernel⟩,
   ⟨(fs 99999 fun f => { f with routes := [(4, rt [40])] }), 0, (ad 3 50 6), by decide +kernel⟩,
   ⟨(fs 299999 fun f => { f with adverts := [ha 4 5 6 0], routes := [(4, rt [40, 41])] }), 4, 1, (ad 4 5 6), (ha 4 5 6 0), (path0 41), by decide +kernel⟩,
   ⟨(fs 300000 fun f => { f with adverts := [ha 31 5 6 0], reach := BitVec.ofNat 32 (2 ^ 31) }), 40, 31, (ad 31 6 6), (ha 31 5 6 0), by decide +kernel⟩,
   ⟨32, by decide +kernel⟩,
   ⟨(fs 19999 fun f => { f with routes := [(4, { rt [40, 44] with buckets := [(7, bk 0 19999)] })] }), 4, 7, (bk 0 19999), by decide +kernel⟩,
   ⟨(fs 19998 fun f => { f with routes := [(4, { rt [40, 44] with buckets := [(7, bk 0 19999)] })] }), 4, 7, (bk 0 19999), by decide +kernel⟩,
   ⟨(st fun d => later 1000 { fb id d with lastRun := [(.pathLoad, 1)] }), by decide +kernel⟩⟩

/-- What `Obligations.FabricTime` assumes is met. -/
theorem test_meets_FabricTime :
    (∃ (s : State) (n : Nat) (seq : Nat), s.dev.fab.parentPort = n ∧ n ≠ 0x7F ∧ pflLive n s.dev = true ∧ s.dev.fab.reqAt + 10000 ≤ s.dev.now ∧ (s.dev.pfl n).timeSeq = seq ∧ (s.dev.fab.holdover = false ∨ s.dev.now < s.dev.fab.holdoverAt + msNs) ∧ pflLive s.dev.fab.parentPort s.dev = true) ∧
    (∃ (s : State), (s.dev.fab.parentPort = 0x7F ∨ s.dev.now < s.dev.fab.reqAt + 10000)) ∧
    (∃ (s : State) (n : Nat) (seq : Nat), (s.dev.fab.parentPort ≠ n ∨ (s.dev.pfl n).timeSeq ≠ seq)) ∧
    (∃ (s : State), s.dev.fab.holdover = true ∧ s.dev.fab.holdoverAt + msNs ≤ s.dev.now) ∧
    (∃ (s : State) (n : Nat), pflLive n s.dev = false) ∧
    (∃ (s : State) (n : Nat), s.dev.fab.parentPort = n ∧ n ≠ 0x7F ∧ pflLive n s.dev = false ∧ freshAdverts s.dev = []) :=
  ⟨⟨(tfs 10000 2000 par), 40, 255, by decide +kernel⟩,
   ⟨(tfs 9999 2000 fun f => { par f with goodOffsets := 15, timeLocked := true }), by decide +kernel⟩,
   ⟨(tfs 9999 2000 fun f => { par f with goodOffsets := 14 }), 40, 254, by decide +kernel⟩,
   ⟨(tfs 1000000 2000 fun f => { f with holdover := true, timeLocked := true }), by decide +kernel⟩,
   ⟨(tfs 999999 2000 fun f => { f with holdover := true, timeLocked := true }), 95, by decide +kernel⟩,
   ⟨(tfs 1000000 2000 fun f => { par f with parentPort := 41, priority := 254 }), 41, by decide +kernel⟩⟩

end W13

namespace W14

def cS (t : Nat) (ps : List Byte) : Cmd := { cmdAt 0 0 ps with target := BitVec.ofNat _ t }
def sh (a b : Byte) (cir pir : Nat) : List Byte := [a, b, 1, 0] ++ natLe 4 cir ++ natLe 4 0 ++ natLe 4 pir ++ natLe 2 64 ++ natLe 2 64 ++ natLe 2 64 ++ natLe 2 0 ++ natLe 8 0
def eq0 : EQueue := { equeueReset with cfg := { shapeReset with shaped := true, cir := 64, pir := 64 }, c := 0, p := 0 }
def qp14 : Qp :=
  { fn := .pf 5, part := 5, cqn := 0, rspCqn := 0, sqBase := 0x2000, sqDepth := 64, immDepth := 0, dbPage := 4095, pd := 9, queue := 0, state := .rts,
    dstFid := 0, dstQpn := 8, retryLimit := 1, rnrLimit := 0, ackTimeout := 60, rnrDelayUs := 20, reasmTimeout := 50, nextPsn := 0, sqPi := 1,
    fetched := 0, completed := 0, freed := 0, reqs := [], unacked := [], retries := 0, rnrRetries := 0, progressAt := 0, epsn := 0, rx := [],
    msgBytes := 0, lastAtomicPsn := none, lastAtomicValue := 0, atomicBusy := false, sinceAck := 0, uncoveredAt := none, epsnAt := 0, nakAt := none,
    rereads := [], notices := 0, noticesUsed := 0, faultSent := false, errorStatus := 0, errorPsn := none, shape := equeueReset, evalAt := 0, lastUse := 0 }
def cSh := cS 95 (sh 0 1 2048000 0)
def cSq := cS 7 (sh 1 0 1000 2048000)
def cSm := cS 0 (List.replicate 20 0 ++ natLe 4 1000000 ++ [1] ++ List.replicate 17 0 ++ [1] ++ List.replicate 5 0)
def smpl (d : Device) : Device := { part5 d with devTime := 1000000, shp := { d.shp with ring := { d.shp.ring with on := true }, portMask := 256, regOnly := true } }
def buf14 (c : Nat) : Item := { item0 with stage := .buffered, inCells := 0, poolCells := 1, cls := c, tlp := { tlp0 with kind := if c = 1 then .memRead else .memWrite } }
def eg (i : Item) (f : Device → Device) : State := st fun d => f { part5 d with items := [i] }
def full (d : Device) : Device := d.setPci 8 { d.pci 8 with txHdr := [1, 1, 1], txData := [64, 64, 64] }
def snd (c : Nat) : Item := { buf14 c with stage := .sending }
def fh : FabHdr := { dstFid := 4, srcFid := 3, part := 5, cls := 0, dstPort := 8, queue := 2, hops := 5, synth := false, flow := 9, stamp := 3 }
def sndF : Item := { snd 0 with egress := 40, fab := some fh }
def usp0 (d : Device) : Device := { d with ports := [(0, { uspPort with holder := 0 })], pcie := [(0, { pcieReset with lstate := .l0 })] }
def ring14 (d : Device) : Device := { usp0 d with shp := { d.shp with ring := { d.shp.ring with entries := 256, prod := 5, consAddr := 64 } } }

/-- What `Obligations.ShaperAndSampling` assumes is met. -/
theorem test_meets_ShaperAndSampling :
    (∃ (s : State) (c : Cmd) (n : Nat), Ready 0x0801 c s.dev ∧ c.target = BitVec.ofNat _ n ∧ c.param0 = 0 ∧ portExists n s.dev = true ∧ c.params.length = 32 ∧ u8 c.params 0 = 0 ∧ u8 c.params 1 = 1 ∧ u8 c.params 2 < 2 ∧ u32 c.params 4 ≤ 2048000 ∧ u32 c.params 8 = 0 ∧ u32 c.params 12 ≤ 2048000 ∧ u16 c.params 16 = 64 ∧ u16 c.params 18 = 64 ∧ u16 c.params 20 = 64 ∧ zeros c.params 22 2 = true ∧ u32 c.params 24 = 0 ∧ zeros c.params 28 4 = true ∧ s.dev.now < (s.dev.shp.refills + 1) * 125 ∧ lstateUp (s.dev.pci n).lstate = false ∧ (s.dev.shp.ring.on = false ∨ (s.dev.devTime.toNat / (s.dev.shp.ring.intervalUs * 1000)) ≤ s.dev.shp.ring.lastMultiple)) ∧
    (∃ (s : State) (c : Cmd) (n : Nat) (w : Qp), Ready 0x0801 c s.dev ∧ c.target = BitVec.ofNat _ n ∧ n < 2 ^ 16 ∧ c.param0 = 0 ∧ s.dev.qps = [(n, w)] ∧ c.params.length = 32 ∧ u8 c.params 0 = 1 ∧ u8 c.params 1 = 0 ∧ u8 c.params 2 < 2 ∧ u32 c.params 4 ≤ 2048000 ∧ u32 c.params 8 = 0 ∧ u32 c.params 12 ≤ 2048000 ∧ u16 c.params 16 = 64 ∧ u16 c.params 18 = 64 ∧ u16 c.params 20 = 64 ∧ zeros c.params 22 2 = true ∧ u32 c.params 24 = 0 ∧ zeros c.params 28 4 = true) ∧
    (∃ (s : State) (c : Cmd), Ready 0x0802 c s.dev ∧ NoTarget c ∧ c.params.length = 48 ∧ u8 c.params 42 = 1 ∧ zeros c.params 43 5 = true ∧ 0 < u32 c.params 20 ∧ u32 c.params 20 ≤ 1000000 ∧ maskOf c.params 24 = 1) ∧
    (∃ (s : State) (n : Nat) (q : Nat) (e : EQueue), (s.dev.shp.refills + 1) * 125 ≤ s.dev.now ∧ s.dev.equeues = [(n * 8 + q, e)] ∧ q < 8) ∧
    (∃ (s : State) (n : Nat) (cls : Nat), cls < 3 ∧ lstateUp (s.dev.pci n).lstate = true ∧ 0 < cls ∧ shaftHolds false n s.dev = false) ∧
    (∃ (s : State) (n : Nat), shaftHolds false n s.dev = true) ∧
    (∃ (s : State) (n : Nat), s.dev.shp.ring.on = true ∧ s.dev.shp.ring.lastMultiple < (s.dev.devTime.toNat / (s.dev.shp.ring.intervalUs * 1000)) ∧ s.dev.shp.regOnly = true ∧ sampledPorts s.dev.shp.portMask s.dev = [n]) :=
  ⟨⟨(rdy 0x0801 cSh id), cSh, 95, ready_of (by decide +kernel), by decide +kernel⟩,
   ⟨(rdy 0x0801 cSq fun d => { d with qps := [(7, qp14)] }), cSq, 7, qp14, ready_of (by decide +kernel), by decide +kernel⟩,
   ⟨(rdy 0x0802 cSm id), cSm, ready_of (by decide +kernel), ⟨rfl, rfl⟩, by decide +kernel⟩,
   ⟨(st fun d => later 125 { d with equeues := [(95 * 8 + 7, eq0)] }), 95, 7, eq0, by decide +kernel⟩,
   ⟨(st part5), 8, 2, by decide +kernel⟩,
   ⟨(st fun d => { part5 d with can := { d.can with shafts := [(1, { shaftReset with failed := 200 })] }, xbr := { d.xbr with cellTime := 15 } }), 8, by decide +kernel⟩,
   ⟨(st smpl), 8, by decide +kernel⟩⟩

/-- What `Obligations.ItemsLeave` assumes is met. -/
theorem test_meets_ItemsLeave :
    (∃ (s : State) (n : Nat) (q : Nat) (id : Nat) (i : Item) (p : Nat), (s.dev.eport n).sending = none ∧ chooseQueue n s.dev = some (q, i, false) ∧ proxied i s.dev = false ∧ tagRefused n i s.dev = false ∧ i.tlp.poisoned = false ∧ findItem id s.dev = some i ∧ (i.stage ≠ .sending ∨ 0 < i.inCells + i.holdCells) ∧ p ≤ 48 ∧ (s.dev.journal p).entries = 0 ∧ ((s.dev.journal p).prod = (s.dev.journal p).cons ∨ isDue (.consPoll p) 100000 s.dev = false) ∧ slotBlocked p s.dev = false) ∧
    (∃ (s : State) (n : Nat) (id : Nat), chooseQueue n s.dev = none ∧ findItem id s.dev = none) ∧
    (∃ (s : State) (n : Nat), (s.dev.eport n).sending ≠ none) ∧
    (∃ (s : State) (n : Nat) (id : Nat) (i : Item), findItem id s.dev = some i ∧ i.stage = .sending ∧ i.inCells + i.holdCells = 0 ∧ i.egress = n ∧ n < 96 ∧ (s.dev.port n).personality ≠ .pfl ∧ i.rma = none) ∧
    (∃ (s : State) (n : Nat) (id : Nat) (i : Item), findItem id s.dev = some i ∧ i.stage = .sending ∧ i.inCells + i.holdCells = 0 ∧ i.egress = n ∧ n < 96 ∧ (s.dev.port n).personality = .pfl ∧ i.fab ≠ none ∧ i.rma = none) ∧
    (∃ (s : State) (v : W32), linkUp ((uspOf 0 s.dev).getD 0x7F) s.dev = true ∧ s.dev.shp.ring.entries ≠ 0 ∧ s.dev.shp.ring.prod ≠ s.dev.shp.ring.cons ∧ isDue (.consPoll 64) 100000 s.dev = true ∧ takesCons s.dev.shp.ring.cons s.dev.shp.ring.prod v = true) ∧
    (∃ (s : State) (v : W32), linkUp ((uspOf 0 s.dev).getD 0x7F) s.dev = true ∧ s.dev.shp.ring.entries ≠ 0 ∧ s.dev.shp.ring.prod ≠ s.dev.shp.ring.cons ∧ isDue (.consPoll 64) 100000 s.dev = true ∧ takesCons s.dev.shp.ring.cons s.dev.shp.ring.prod v = false) ∧
    (∃ (s : State) (v : W32) (p : Nat) (u : Nat), p ≤ 48 ∧ journalPort p (s.dev.journal p) s.dev = some u ∧ linkUp u s.dev = true ∧ (s.dev.journal p).entries ≠ 0 ∧ ((s.dev.journal p).prod ≠ (s.dev.journal p).cons ∧ isDue (.consPoll p) 100000 s.dev = true ∨ slotBlocked p s.dev = true) ∧ takesCons (s.dev.journal p).cons (s.dev.journal p).prod v = true) ∧
    (∃ (s : State), linkUp ((uspOf 0 s.dev).getD 0x7F) s.dev = true ∧ s.dev.shp.ring.entries ≠ 0 ∧ (s.dev.shp.ring.prod = s.dev.shp.ring.cons ∨ isDue (.consPoll 64) 100000 s.dev = false)) :=
  ⟨⟨(eg (buf14 0) fun d => { full d with equeues := [(64, { eq0 with c := 100000, p := 100000 })] }), 8, 0, 7, (buf14 0), 0, by decide +kernel⟩,
   ⟨(eg (buf14 1) id), 8, 8, by decide +kernel⟩,
   ⟨(eg (buf14 1) fun d => { d with eports := [(8, { eportReset with sending := some 7 })] }), 8, by decide +kernel⟩,
   ⟨(eg (snd 1) fun d => { d with eports := [(8, { eportReset with sending := some 7 })] }), 8, 7, (snd 1), by decide +kernel⟩,
   ⟨(st fun d => { d with ports := [(40, pflPort)], plk := [(40, { plkReset with state := .active })], items := [sndF] }), 40, 7, sndF, by decide +kernel⟩,
   ⟨(st ring14), 5, by decide +kernel⟩,
   ⟨(st ring14), 6, by decide +kernel⟩,
   ⟨(st fun d => { part5 d with journals := [(5, { journalNone with entries := 256, prod := 3, owed := [0, 96, 127] })] }), 2, 5, 0, by decide +kernel⟩,
   ⟨(st fun d => later 99999 { ring14 d with lastRun := [(.consPoll 64, 0), (.consPoll 5, 0)] }), by decide +kernel⟩⟩

end W14

namespace W14b

def cW (t : Nat) (ps : List Byte) : Cmd := { cmdAt 0 0 ps with target := BitVec.ofNat _ t }
/-- Channel 47 alone, fitted, fed. -/
def sp (f : Spw → Spw) (t : Nat) (d : Device) : Device := later t { d with
  spw := [(47, f { spwReset with fitted := true, vin := 12000 })], feeds := { vinA := 12000, vinB := 12000, vgate := 20000 } }
def sx (k : SpwState) (x : Spw) : Spw := { x with state := k }
def cCf : Cmd := cW 47 (List.replicate 36 0)
def cRd := cW 47 [3, 0, 0, 0]
def ss (f : Spw → Spw) (t : Nat) : State := st (sp f t)
def cCg : Cmd := cW 47 ([1, 0] ++ natLe 30 0)

/-- What `Obligations.SlotPowerCommands` assumes is met. -/
theorem test_meets_SlotPowerCommands :
    (∃ (s : State) (c : Cmd) (n : Nat), Ready 0x0902 c s.dev ∧ c.target = BitVec.ofNat _ n ∧ n < 48 ∧ c.param0 = 0 ∧ c.params = [] ∧ gangWith n s.dev = [n] ∧ canSwitchOn [n] s.dev = false ∧ ((s.dev.channel n).state = .off ∨ (s.dev.channel n).state = .wait ∨ (s.dev.channel n).state = .latched)) ∧
    (∃ (s : State) (c : Cmd) (n : Nat), Ready 0x0902 c s.dev ∧ c.target = BitVec.ofNat _ n ∧ n < 48 ∧ c.param0 = 0 ∧ c.params = [] ∧ gangWith n s.dev = [n] ∧ canSwitchOn [n] s.dev = true ∧ ((s.dev.channel n).state = .off ∨ (s.dev.channel n).state = .wait ∨ (s.dev.channel n).state = .latched)) ∧
    (∃ (s : State) (c : Cmd) (n : Nat), Ready 0x0902 c s.dev ∧ c.target = BitVec.ofNat _ n ∧ n < 48 ∧ c.param0 = 0 ∧ c.params = [] ∧ gangWith n s.dev = [n] ∧ canSwitchOn [n] s.dev = true ∧ (s.dev.channel n).state = .shutdown) ∧
    (∃ (s : State) (c : Cmd) (n : Nat), Ready 0x0903 c s.dev ∧ c.target = BitVec.ofNat _ n ∧ n < 48 ∧ c.param0 = 0 ∧ c.params = [] ∧ gangWith n s.dev = [n] ∧ (s.dev.channel n).state = .on) ∧
    (∃ (s : State) (c : Cmd) (n : Nat), Ready 0x0903 c s.dev ∧ c.target = BitVec.ofNat _ n ∧ n < 48 ∧ c.param0 = 0 ∧ c.params = [] ∧ gangWith n s.dev = [n] ∧ (s.dev.channel n).state = .latched) ∧
    (∃ (s : State) (c : Cmd) (n : Nat) (flags : Byte), Ready 0x0904 c s.dev ∧ c.target = BitVec.ofNat _ n ∧ n < 48 ∧ c.param0 = 0 ∧ flags.toNat < 4 ∧ c.params = [flags, 0, 0, 0]) ∧
    (∃ (s : State) (c : Cmd) (n : Nat), Ready 0x0901 c s.dev ∧ c.target = BitVec.ofNat _ n ∧ n < 48 ∧ c.param0 = 0 ∧ (∀ a ∈ spwConfigChecks c s.dev, a = none)) :=
  ⟨⟨(rdy 0x0902 (cW 47 []) id), (cW 47 []), 47, ready_of (by decide +kernel), by decide +kernel⟩,
   ⟨(rdy 0x0902 (cW 47 []) (sp id 5)), (cW 47 []), 47, ready_of (by decide +kernel), by decide +kernel⟩,
   ⟨(rdy 0x0902 (cW 47 []) (sp (sx .shutdown) 5)), (cW 47 []), 47, ready_of (by decide +kernel), by decide +kernel⟩,
   ⟨(rdy 0x0903 (cW 47 []) (sp (sx .on) 5)), (cW 47 []), 47, ready_of (by decide +kernel), by decide +kernel⟩,
   ⟨(rdy 0x0903 (cW 47 []) (sp (sx .latched) 5)), (cW 47 []), 47, ready_of (by decide +kernel), by decide +kernel⟩,
   ⟨(rdy 0x0904 cRd (sp (fun x => { x with energy := 77, tripValid := true }) 5)), cRd, 47, 3, ready_of (by decide +kernel), by decide +kernel⟩,
   ⟨(rdy 0x0901 cCg id), cCg, 47, ready_of (by decide +kernel), by decide +kernel⟩⟩

/-- What `Obligations.SlotPowerTripsAndSamples` assumes is met (its part on slot power trips and states). -/
theorem test_meets_SlotPowerTripsAndSamples_SlotPowerTripsAndStates :
    (∃ (s : State) (ch : Nat), (s.dev.channel ch).fitted = true ∧ gangOf (channelPort ch s.dev) s.dev = [ch] ∧ spwActive (s.dev.channel ch).state = true ∧ (s.dev.channel ch).state = .on ∧ (s.dev.channel ch).enteredAt + 10000000000 ≤ s.dev.now) ∧
    (∃ (s : State) (ch : Nat), (s.dev.channel ch).state = .qualify ∧ (s.dev.channel ch).timerUs = 0 ∧ (s.dev.channel ch).timerRun = false ∧ (s.dev.channel ch).ilim = false ∧ (s.dev.channel ch).enteredAt + (s.dev.channel ch).pgDelayUs * 1000 ≤ s.dev.now ∧ (s.dev.port (channelPort ch s.dev)).personality ≠ .dsp) ∧
    (∃ (s : State) (ch : Nat), (s.dev.channel ch).fitted = true ∧ gangOf (channelPort ch s.dev) s.dev = [ch] ∧ (s.dev.channel ch).state = .precharge ∧ (s.dev.channel ch).enteredAt + 2000000 ≤ s.dev.now) ∧
    (∃ (s : State) (ch : Nat), (s.dev.channel ch).fitted = true ∧ gangOf (channelPort ch s.dev) s.dev = [ch] ∧ (s.dev.channel ch).state = .ramp ∧ (s.dev.channel ch).enteredAt + 2 * (s.dev.channel ch).vin * 4000 / (s.dev.channel ch).rampRate + 5000000 ≤ s.dev.now) ∧
    (∃ (s : State) (ch : Nat), (∃ w, (s.dev.channel ch).waitUntil = some w ∧ w ≤ s.dev.now) ∧ (s.dev.channel ch).fitted = true ∧ gangOf (channelPort ch s.dev) s.dev = [ch] ∧ (s.dev.channel ch).state = .wait) ∧
    (∃ (s : State) (ch : Nat), (s.dev.channel ch).fitted = true ∧ gangOf (channelPort ch s.dev) s.dev = [ch] ∧ (s.dev.channel ch).state = .wait ∧ (s.dev.channel ch).waitUntil = none ∧ (s.dev.channel ch).uvTh + 200 ≤ (s.dev.channel ch).vin ∧ (s.dev.channel ch).vin + 200 ≤ (s.dev.channel ch).ovTh ∧ (s.dev.channel ch).enteredAt + 100000000 ≤ s.dev.now) ∧
    (∃ (s : State) (ch : Nat), (s.dev.channel ch).state = .off) ∧
    (∃ (s : State) (ch : Nat), (s.dev.channel ch).state = .shutdown ∧ (s.dev.channel ch).onAfter = false ∧ (∀ e ∈ s.dev.kme.execs, e.op ≠ 0x0902 ∧ e.op ≠ 0x0903)) ∧
    (∃ (s : State) (ch : Nat), (s.dev.channel ch).state = .shutdown ∧ (s.dev.channel ch).onAfter = true) :=
  ⟨⟨(ss (sx .on) 10000000000), 47, by decide +kernel⟩,
   ⟨(ss (fun x => { sx .qualify x with retriesLeft := 0 }) 100000), 47, by decide +kernel⟩,
   ⟨(ss (sx .precharge) 2000000), 47, by decide +kernel⟩,
   ⟨(ss (sx .ramp) 21000000), 47, by decide +kernel⟩,
   ⟨(ss (fun x => { sx .wait x with waitUntil := some 9 }) 9), 47, ⟨_, rfl, by decide +kernel⟩, by decide +kernel⟩,
   ⟨(ss (fun x => { sx .wait x with vin := 8700 }) 100000000), 47, by decide +kernel⟩,
   ⟨(ss id 9), 47, by decide +kernel⟩,
   ⟨(ss (sx .shutdown) 9), 47, by decide +kernel⟩,
   ⟨(ss (fun x => { sx .shutdown x with onAfter := true }) 9), 47, by decide +kernel⟩⟩

/-- What `Obligations.SlotPowerTripsAndSamples` assumes is met (its part on slot power samples). -/
theorem test_meets_SlotPowerTripsAndSamples_SlotPowerSamples :
    (∃ (s : State) (ch : Nat), ch < 48 ∧ isDue .feedSample 10000 s.dev = true ∧ isDue (.channelSample ch) 10000 s.dev = true ∧ (s.dev.channel ch).fitted = true ∧ (s.dev.channel ch).accN = 0 ∧ (s.dev.channel ch).timerRun = false) ∧
    (∃ (s : State) (ch : Nat), ch < 48 ∧ (s.dev.channel ch).timerRun = true) ∧
    (∃ (s : State) (ch : Nat), ch < 48 ∧ isDue (.channelSample ch) 10000 s.dev = true ∧ (s.dev.channel ch).fitted = false) ∧
    (∃ (s : State) (ch : Nat), ch < 48 ∧ isDue .feedSample 10000 s.dev = false ∧ isDue (.channelSample ch) 10000 s.dev = false) :=
  ⟨⟨(ss (fun x => { x with warnEn := true, lowFeed := 1 }) 9), 47, by decide +kernel⟩,
   ⟨(ss (fun x => { sx .on x with timerRun := true, timerUs := 50 }) 9), 47, by decide +kernel⟩,
   ⟨(st id), 0, by decide +kernel⟩,
   ⟨(st fun d => later 9999 { d with lastRun := [(.feedSample, 0), (.channelSample 0, 0)] }), 0, by decide +kernel⟩⟩

end W14b

namespace W15

/-- Without a challenge there is no response. -/
theorem no_challenge {x : Option Nat} {p : Nat → Prop} (h : x = none) : ∀ y : Nat, x = some y → p y := by
  intro y e
  rw [h] at e
  cases e
def au (f : Adit → Adit) (t : Nat) (d : Device) : Device := later t { d with
  kme := { d.kme with running := true }, clk := { d.clk with phase := .ready }, adit := f d.adit, glb := { d.glb with serial := 0x123456789ABCDEF0 } }
def as (f : Adit → Adit) (t : Nat) : State := st (au f t)
def lv (n : Nat) (a : Adit) : Adit := { a with level := n }
def chl (a : Adit) : Adit := { a with challenge := some 77, wrong := 2 }
def asr (n : Nat) : Device := { (as (lv n) 5).dev with adit := { (as (lv n) 5).dev.adit with lastRx := 5 } }
def rw (a : Adit) : Adit := { a with raw := true, level := 3 }
def rs (p : Option ResetPlan) (d : Device) : Device := au (lv 3) 600000000000 { part5 d with clk := { d.clk with resetPlan := p, strapPerstWarm := true } }
def strap15s : StrapSample := { fid := 0, smbAddr := 0, mgrPort := 0, boot := 0 }
def strap15 : Straps := { first := strap15s, second := strap15s, third := strap15s, aValid := true, bValid := true }
def perst0 (d : Device) : Device := let e := rs none d; { e with ports := [(0, { uspPort with holder := 0 })], pcie := [(0, { pcieReset with lstate := .l0, sbFunc := 2 })], clk := { e.clk with strapPerstWarm := true, phase := .ready } }

/-- What `Obligations.AditMonitorCommands` assumes is met. -/
theorem test_meets_AditMonitorCommands :
    (∃ (s : State) (rate : Nat) (n : Nat) (resp : Nat) (line : List Char), (∀ h : Nat, s.dev.adit.challenge = some h → resp ≠ unlockResponse h n s.dev) ∧ s.dev.kme.running = true ∧ s.dev.adit.raw = false ∧ s.dev.adit.level = 0 ∧ baudRates.contains rate = false ∧ s.dev.adit.barredAt = none ∧ 2 ≤ n ∧ n ≤ 3 ∧ resp < 2 ^ 32 ∧ s.dev.adit.level < 2 ∧ parseLine line = .inl .lock) ∧
    (∃ (s : State) (rate : Nat), s.dev.kme.running = true ∧ s.dev.adit.raw = false ∧ baudRates.contains rate = true) ∧
    (∃ (s : State) (n : Nat) (line : List Char), s.dev.kme.running = true ∧ s.dev.adit.raw = false ∧ parseLine line = .inr n ∧ (¬(lineWords line [] = [] ∧ line.length ≤ 255))) ∧
    (∃ (s : State) (n : Nat) (resp : Nat) (h : Nat), s.dev.kme.running = true ∧ s.dev.adit.raw = false ∧ s.dev.adit.barredAt = none ∧ 2 ≤ n ∧ n ≤ 3 ∧ resp < 2 ^ 32 ∧ s.dev.adit.challenge = some h ∧ resp = unlockResponse h n s.dev) ∧
    (∃ (s : State), s.dev.kme.running = true ∧ s.dev.adit.raw = false ∧ s.dev.adit.barredAt ≠ none) ∧
    (∃ (s : State), s.dev.kme.running = true ∧ s.dev.adit.raw = false ∧ 2 ≤ s.dev.adit.level) :=
  ⟨⟨(as id 5), 9600, 2, 0, ['l', 'o', 'c', 'k'], no_challenge rfl, by decide +kernel⟩,
   ⟨(as id 5), 921600, by decide +kernel⟩,
   ⟨(as id 5), 1, ['f', 'o', 'o'], by decide +kernel⟩,
   ⟨(as chl 5), 2, (unlockResponse 77 2 (as chl 5).dev), 77, by decide +kernel⟩,
   ⟨(as (fun a => { a with barredAt := some 0 }) 5), by decide +kernel⟩,
   ⟨(as (lv 2) 5), by decide +kernel⟩⟩

/-- What `Obligations.AditMonitorCommands` assumes is met (its part on adit reads the device). -/
theorem test_meets_AditMonitorCommands_AditReadsTheDevice :
    (∃ (s : State) (k : Nat), s.dev.kme.running = true ∧ s.dev.adit.raw = false ∧ s.dev.adit.level = 0 ∧ s.dev.adit.level < 2 ∧ k < 384 ∧ s.dev.kme.execs = [] ∧ mayAdmit 0x0101 ((fun (params : List Byte) => { source := { transport := 5, inst := s.dev.adit.level }, flags := 0, seq := s.dev.adit.seq + 1, target := 0, param0 := 0, params := params : Cmd }) []) s.dev = true ∧ holdingFull ((fun (params : List Byte) => { source := { transport := 5, inst := s.dev.adit.level }, flags := 0, seq := s.dev.adit.seq + 1, target := 0, param0 := 0, params := params : Cmd }) []).source s.dev = false ∧ commandChecks 0x0101 ((fun (params : List Byte) => { source := { transport := 5, inst := s.dev.adit.level }, flags := 0, seq := s.dev.adit.seq + 1, target := 0, param0 := 0, params := params : Cmd }) []) s.dev = none) ∧
    (∃ (s : State) (addr : Nat) (k : Nat) (x : Nat) (e : Device), s.dev.kme.running = true ∧ s.dev.adit.raw = false ∧ 1 ≤ s.dev.adit.level ∧ inDbg addr = false ∧ regDefined addr ({ s.dev with adit := { s.dev.adit with lastRx := s.dev.now } }) = true ∧ regRead addr ({ s.dev with adit := { s.dev.adit with lastRx := s.dev.now } }) = some (x, e) ∧ k < 384 ∧ s.dev.kme.execs = [] ∧ mayAdmit 0x0B02 ((fun (params : List Byte) => { source := { transport := 5, inst := s.dev.adit.level }, flags := 0, seq := s.dev.adit.seq + 1, target := 0, param0 := 0, params := params : Cmd }) (natLe 4 ((s.dev.can.nextSeq + 2 ^ 32 - 1) % 2 ^ 32) ++ natLe 2 1 ++ [0, 0])) s.dev = true ∧ holdingFull ((fun (params : List Byte) => { source := { transport := 5, inst := s.dev.adit.level }, flags := 0, seq := s.dev.adit.seq + 1, target := 0, param0 := 0, params := params : Cmd }) (natLe 4 ((s.dev.can.nextSeq + 2 ^ 32 - 1) % 2 ^ 32) ++ natLe 2 1 ++ [0, 0])).source s.dev = false ∧ commandChecks 0x0B02 ((fun (params : List Byte) => { source := { transport := 5, inst := s.dev.adit.level }, flags := 0, seq := s.dev.adit.seq + 1, target := 0, param0 := 0, params := params : Cmd }) (natLe 4 ((s.dev.can.nextSeq + 2 ^ 32 - 1) % 2 ^ 32) ++ natLe 2 1 ++ [0, 0])) s.dev = none) ∧
    (∃ (s : State) (addr : Nat), s.dev.kme.running = true ∧ s.dev.adit.raw = false ∧ 1 ≤ s.dev.adit.level ∧ inDbg addr = false ∧ regDefined addr ({ s.dev with adit := { s.dev.adit with lastRx := s.dev.now } }) = false) ∧
    (∃ (s : State) (addr : Nat) (k : Nat), s.dev.kme.running = true ∧ s.dev.adit.raw = false ∧ 2 ≤ s.dev.adit.level ∧ inDbg addr = false ∧ regDefined addr ({ s.dev with adit := { s.dev.adit with lastRx := s.dev.now } }) = false ∧ k < 384) ∧
    (∃ (s : State) (addr : Nat), s.dev.kme.running = true ∧ s.dev.adit.raw = false ∧ 2 ≤ s.dev.adit.level ∧ inDbg addr = false ∧ regDefined addr ({ s.dev with adit := { s.dev.adit with lastRx := s.dev.now } }) = true) :=
  ⟨⟨(as id 5), 383, by decide +kernel⟩,
   ⟨(as (lv 1) 5), 0x14, 383, 0, (asr 1), by decide +kernel⟩,
   ⟨(as (lv 1) 5), 0x1C0, by decide +kernel⟩,
   ⟨(as (lv 2) 5), 0x1C0, 383, by decide +kernel⟩,
   ⟨(as (lv 3) 5), 0x14, by decide +kernel⟩⟩

/-- What `Obligations.AditSessionEnds` assumes is met. -/
theorem test_meets_AditSessionEnds :
    (∃ (s : State) (frame : List Byte), s.dev.kme.running = true ∧ s.dev.adit.raw = true ∧ frame ≠ [] ∧ frameShort { transport := 5, inst := s.dev.adit.level } frame = true ∧ s.dev.adit.lastRx + 600000000000 ≤ s.dev.now ∧ s.dev.adit.barredAt = none) ∧
    (∃ (s : State), s.dev.kme.running = true ∧ s.dev.adit.raw = false ∧ s.dev.now < s.dev.adit.lastRx + 600000000000) ∧
    (∃ (s : State), s.dev.kme.running = false) ∧
    (∃ (s : State) (t0 : Nat), s.dev.adit.barredAt = some t0 ∧ t0 + 60000000000 ≤ s.dev.now) ∧
    (∃ (s : State) (t0 : Nat), s.dev.adit.barredAt = some t0 ∧ s.dev.now < t0 + 60000000000) :=
  ⟨⟨(as rw 600000000000), [1, 2], by decide +kernel⟩,
   ⟨(as (lv 2) 599999999999), by decide +kernel⟩,
   ⟨(st id), by decide +kernel⟩,
   ⟨(as (fun a => { a with barredAt := some 0, wrong := 3 }) 60000000000), 0, by decide +kernel⟩,
   ⟨(as (fun a => { rw a with barredAt := some 0, wrong := 3 }) 59999999999), 0, by decide +kernel⟩⟩

/-- What `Obligations.AditLevelReturnsToZero` assumes is met. -/
theorem test_meets_AditLevelReturnsToZero :
    (∃ (s : State), s.dev.kme.running = true ∧ s.dev.adit.raw = false ∧ s.dev.adit.lastRx + 600000000000 ≤ s.dev.now ∧ resetDue false s.dev = true ∧ s.dev.clk.phase ≠ .held) ∧
    (∃ (s : State), resetDue true s.dev = true) ∧
    (∃ (s : State) (n : Nat), (s.dev.port n).personality = .usp ∧ (pinOf n 2 s.dev).isSome ∧ (s.dev.pci n).perstIn = false ∧ n = s.dev.glb.mgrPort ∧ (s.dev.port n).holder = 0 ∧ s.dev.clk.strapPerstWarm = true) :=
  ⟨⟨(st (rs (some { cold := false, at_ := 5 }))), by decide +kernel⟩,
   ⟨(st (rs (some { cold := true, at_ := 5 }))), by decide +kernel⟩,
   ⟨(st perst0), 0, by decide +kernel⟩⟩

end W15

namespace W16

def v16 (d : Device) : Device := { part5 d with
  glb := { d.glb with intMask := 7 }, windows := [(511, { windowFree with valid := true, srcPart := 5, dstPart := 48, dbStatus := 15 })],
  clk := { d.clk with intStatus := 15, bValid := true, aValid := true }, pcie := [(0, { pcieReset with intStatus := 31 })],
  vfPart := [(4095, 5)] }
def s16 : Steer := { steerFree with port := 8, bridge := 1, part := 5, realRid := 0x110, pfRid := 0x100, func := 255 }
def k16 (d : Device) : Device := { part5 d with bridges := [(bridgeKey 5 0, { bridgeReset with secondary := 7 })] }
def vfs (x : Func) (d : Device) : Device := { k16 d with vfPart := [(9, 5)], vfIndex := [(9, 0)], funcs := [(fnKey (.pf 5), { funcReset with vfEnable := true, numVfs := 1 }), (fnKey (.vf 9), x)] }
def sv16 : Sriov := { sriovNone with vfEnable := true, numVfs := 1 }

/-- What `Obligations.RegisterWrites` assumes is met. -/
theorem test_meets_RegisterWrites :
    (∃ (s : State) (a : Nat) (n : Nat) (k : Nat) (w : Nat) (off : Nat), a < 2 ^ 32 ∧ regDefined a s.dev = false ∧ n < 101 ∧ k < 64 ∧ w < 512 ∧ off = 2 ^ 32 + 0x4000 * k + 0x1000 + 8 * w ∧ (s.dev.window w).valid = true ∧ (s.dev.window w).dstPart = k ∧ (if s.dev.clk.activeB then s.dev.clk.aValid else s.dev.clk.bValid) = true) ∧
    (∃ (s : State) (k : Nat) (off : Nat), k < 8192 ∧ off < 0x1000 ∧ fnOfKey k ∈ mailboxes s.dev) ∧
    (∃ (s : State) (a : Nat) (k : Nat) (w : Nat) (off : Nat), a < 0x10000 ∧ a ≠ 0x14 ∧ a ≠ 0x18 ∧ regDefined a s.dev ∧ k < 64 ∧ w < 512 ∧ off = 2 ^ 32 + 0x4000 * k + 0x1000 + 8 * w ∧ ((s.dev.window w).valid = false ∨ (s.dev.window w).dstPart ≠ k)) ∧
    (∃ (s : State), (if s.dev.clk.activeB then s.dev.clk.aValid else s.dev.clk.bValid) = false) :=
  ⟨⟨(st v16), 0x1C0, 0, 48, 511, (2 ^ 32 + 0x4000 * 48 + 0x1000 + 8 * 511), by decide +kernel⟩,
   ⟨(st v16), 4159, 0xFFC, by decide +kernel⟩,
   ⟨(st v16), 0, 0, 511, (2 ^ 32 + 0x4000 * 0 + 0x1000 + 8 * 511), by decide +kernel⟩,
   ⟨(st id), by decide +kernel⟩⟩

/-- What `Obligations.ConfigurationAccesses` assumes is met. -/
theorem test_meets_ConfigurationAccesses :
    (∃ (s : State) (p : Nat) (k : Nat) (n : Nat) (v : Nat) (rid : Nat) (func : Nat) (f : CfgField), k ≠ 100 ∧ bridgeExists p k s.dev ∧ bridgeExists p 100 s.dev ∧ vfAnswers p n s.dev = false ∧ (s.dev.port n).personality = .dsp ∧ (s.dev.port n).holder = p ∧ s.dev.fenced p = false ∧ linkUp n s.dev ∧ protectedWrite n rid f v s.dev = false ∧ (∀ x ∈ s.dev.steers ++ s.dev.homeSteers, ¬ (x.2.part = p ∧ x.2.bridge = k ∧ x.2.func = func))) ∧
    (∃ (s : State) (p : Nat) (k : Nat) (n : Nat), k ≠ 100 ∧ bridgeExists p k s.dev = false ∧ ((s.dev.port n).personality ≠ .dsp ∨ (s.dev.port n).holder ≠ p)) ∧
    (∃ (s : State) (p : Nat) (k : Nat), k ≠ 100 ∧ bridgeExists p k s.dev ∧ hostsPort p k s.dev = none) ∧
    (∃ (s : State) (p : Nat) (k : Nat) (n : Nat) (v : Nat), k ≠ 100 ∧ bridgeExists p k s.dev ∧ hostsPort p k s.dev = some n ∧ (s.dev.port n).personality = .dsp ∧ steersOut n s.dev ∧ (s.dev.bridge (bridgeKey p k)).secondary ≠ v % 256) ∧
    (∃ (s : State) (p : Nat) (n : Nat), vfAnswers p n s.dev ∧ (s.dev.func (.vf n)).flr ≠ .idle) ∧
    (∃ (s : State) (p : Nat) (n : Nat) (v : Nat), vfAnswers p n s.dev ∧ (s.dev.func (.vf n)).flr = .idle ∧ bitOf v 0) ∧
    (∃ (s : State) (p : Nat) (n : Nat), (s.dev.port n).personality = .dsp ∧ (s.dev.port n).holder = p ∧ s.dev.fenced p ∧ linkUp n s.dev) ∧
    (∃ (s : State) (p : Nat) (k : Nat) (n : Nat) (v : Nat) (rid : Nat) (func : Nat) (f : CfgField) (e : Steer), (s.dev.port n).personality = .dsp ∧ (s.dev.port n).holder = p ∧ s.dev.fenced p = false ∧ linkUp n s.dev ∧ protectedWrite n rid f v s.dev ∧ s.dev.steers = [(n, e)] ∧ e.part = p ∧ e.bridge = k ∧ e.func = func ∧ entryLost (.steer n) s.dev = false ∧ e.fenced = false ∧ e.retryUntil ≤ s.dev.now ∧ linkUp e.port s.dev) ∧
    (∃ (s : State) (p : Nat) (k : Nat) (n : Nat) (func : Nat) (e : Steer), s.dev.steers = [(n, e)] ∧ e.part = p ∧ e.bridge = k ∧ e.func = func ∧ entryLost (.steer n) s.dev = false ∧ (s.dev.fenced p ∨ e.fenced ∨ s.dev.now < e.retryUntil)) ∧
    (∃ (s : State) (p : Nat) (k : Nat) (n : Nat) (func : Nat) (e : Steer), s.dev.steers = [(n, e)] ∧ e.part = p ∧ e.bridge = k ∧ e.func = func ∧ entryLost (.steer n) s.dev = false ∧ s.dev.fenced p = false ∧ e.fenced = false ∧ e.retryUntil ≤ s.dev.now ∧ linkUp e.port s.dev = false) ∧
    (∃ (s : State) (p : Nat) (n : Nat), (s.dev.port n).personality = .dsp ∧ (s.dev.port n).holder = p ∧ linkUp n s.dev = false) ∧
    (∃ (s : State) (p : Nat) (k : Nat) (n : Nat) (func : Nat) (e : Steer), s.dev.steers = [(n, e)] ∧ e.part = p ∧ e.bridge = k ∧ e.func = func ∧ entryLost (.steer n) s.dev) :=
  ⟨⟨(st k16), 5, 0, 8, 5, 0x200, 3, .vendorId, by decide +kernel⟩,
   ⟨(st k16), 5, 99, 9, by decide +kernel⟩,
   ⟨(st k16), 5, 1, by decide +kernel⟩,
   ⟨(st fun d => { k16 d with steers := [(0, s16)] }), 5, 0, 8, 2, by decide +kernel⟩,
   ⟨(st (vfs { funcReset with flr := .silencing })), 5, 9, by decide +kernel⟩,
   ⟨(st (vfs { funcReset with atsEnable := true })), 5, 9, 1, by decide +kernel⟩,
   ⟨(st fun d => { k16 d with parts := [(0, partZero), (5, { partFree with state := .quiesced, dsbCount := 2 })] }), 5, 8, by decide +kernel⟩,
   ⟨(st fun d => { k16 d with steers := [(8, s16)], sriov := [(sriovKey 8 0x100, sv16)] }), 5, 1, 8, 6, 0x100, 255, .sriovControl, s16, by decide +kernel⟩,
   ⟨(st fun d => { k16 d with steers := [(0, { s16 with retryUntil := 1 })] }), 5, 1, 0, 255, { s16 with retryUntil := 1 }, by decide +kernel⟩,
   ⟨(st fun d => { k16 d with steers := [(0, s16)], pcie := [] }), 5, 1, 0, 255, s16, by decide +kernel⟩,
   ⟨(st fun d => { k16 d with pcie := [] }), 5, 8, by decide +kernel⟩,
   ⟨(st fun d => { k16 d with steers := [(0, s16)], can := { d.can with lostEntries := [.steer 0] } }), 5, 1, 0, 255, s16, by decide +kernel⟩⟩

end W16

/-! ### Statements about every step, every packet or every queue -/

/-- What `Obligations.IdleStepLetsTimePass` assumes is met, and so is what `Obligations.EveryStepSignalsTheHost` assumes. -/
theorem test_meets_IdleStepLetsTimePass :
    (∃ s : State, s.pending = [] ∧ s.dev.kme.execs = [] ∧ s.dev.clk.mainLock = false) ∧
    (∃ s : State, s.pending = [] ∧ s.dev.kme.execs = [] ∧ s.dev.clk.mainLock = true ∧ s.dev.fab.slew = 0) :=
  ⟨⟨State.reset, by decide +kernel⟩, ⟨st fun d => { d with clk := { d.clk with mainLock := true } }, by decide +kernel⟩⟩

theorem test_meets_EveryStepSignalsTheHost : ∃ s : State, s.alertWf ∧ s.dev.glb.alertLow = true :=
  ⟨st fun d => { d with glb := { d.glb with alertLow := true, alertEn := 0xFFFFFFFF, intMask := 0 }, kme := { d.kme with intStatus := 0x3F },
                        act := { d.act with intStatus := 7 } },
   by unfold State.alertWf; decide +kernel⟩

/-- A stream source under the manager's lock, and the lock. -/
def smb5 : Source := { transport := 3, inst := 5 }
def mgrLock : ArbLock := { holder := { transport := 0, inst := 0 }, began := 0, lastReply := 0, ending := false, gap100us := 10, maxMs := 100 }
def cT : Cmd := { cmdAt 0 0 [] with source := { transport := 1, inst := 5 } }
def cS : Cmd := { cmdAt 0 0 [] with source := smb5 }

/-- What `Obligations.PacketsPassTheArbiter` assumes is met: a packet begun, one that may not be admitted yet, one under a foreign lock,
one that may be admitted and fails a check, and a busy KME. -/
theorem test_meets_PacketsPassTheArbiter :
    (∃ (s : State) (e : Exec), rowPacket (.sysInfo c0) = some (0x0101, c0) ∧ execOf 0x0101 c0 s.dev = some e ∧ e.begun = true) ∧
    (∃ s : State, execOf 0x0101 c0 s.dev = none ∧ mayAdmit 0x0101 c0 s.dev = false ∧ (lockedOut c0.source s.dev && streamSource c0.source) = false) ∧
    (∃ s : State, rowPacket (.sysInfo cS) = some (0x0101, cS) ∧ execOf 0x0101 cS s.dev = none ∧ mayAdmit 0x0101 cS s.dev = false ∧
      (lockedOut cS.source s.dev && streamSource cS.source) = true) ∧
    (∃ (s : State) (a : Ans), rowPacket (.arbSet cT) = some (0x0C02, cT) ∧ execOf 0x0C02 cT s.dev = none ∧ mayAdmit 0x0C02 cT s.dev = true ∧
      commandChecks 0x0C02 cT s.dev = some a) ∧
    (∃ s : State, kmeBusy s.dev = true) :=
  ⟨⟨st fun d => { d with kme := { d.kme with execs := [{ execRec 0x0101 c0 with begun := true }] } },
      { execRec 0x0101 c0 with begun := true }, by decide +kernel⟩,
   ⟨State.reset, by decide +kernel⟩,
   ⟨st fun d => { d with kme := { d.kme with running := true, lock := some mgrLock } }, by decide +kernel⟩,
   ⟨st fun d => { d with clk := { d.clk with mainLock := true, phase := .ready }, kme := { d.kme with running := true } },
      { status := .notPermitted, detail := 1, result := [] }, by decide +kernel⟩,
   ⟨rdy 0x0302 c0 id, by decide +kernel⟩⟩

/-- What `Obligations.QueueEligibility` assumes is met: at an internal port, and at a port of the package. -/
theorem test_meets_QueueEligibility :
    (∃ n q : Nat, n < 101 ∧ q < 8 ∧ 96 ≤ n) ∧ (∃ (d : Device) (n q : Nat), n < 101 ∧ q < 8 ∧ portExists n d = true) :=
  ⟨⟨96, 7, by decide⟩, ⟨(st part5).dev, 8, 5, by decide +kernel⟩⟩

/-- What `Obligations.SteeringBridgeLeavesTheLink` assumes is met: bridge 1 of PART5 carries a steered VF and no port. -/
theorem test_meets_SteeringBridgeLeavesTheLink :
    ∃ (s : State) (p k n : Nat), k < 96 ∧ bridgeExists p k s.dev ∧ hostsPort p k s.dev = none ∧
      (∀ x ∈ s.dev.steers, x.2.part = p → x.2.bridge = k → x.2.port = n) ∧ (∃ x ∈ s.dev.steers, x.2.part = p ∧ x.2.bridge = k) :=
  ⟨st fun d => { part5 d with steers := [(0, { steerFree with port := 9, bridge := 1, part := 5 })] }, 5, 1, 9, by decide +kernel⟩

/-! ### Ill-formed commands, which the checks refuse -/

theorem test_wf_manager_instance : sourceOk { transport := 0, inst := 1 } = false := by decide
theorem test_wf_tenant_instance : sourceOk { transport := 1, inst := 49 } = false := by decide
theorem test_wf_vf_instance : sourceOk { transport := 2, inst := 4096 } = false := by decide
theorem test_wf_smbus_instance : sourceOk { transport := 3, inst := 128 } = false := by decide
theorem test_wf_vdm_instance : sourceOk { transport := 4, inst := 49 } = false := by decide
theorem test_wf_adit_instance : sourceOk { transport := 5, inst := 4 } = false := by decide
theorem test_wf_relay_instance : sourceOk { transport := 6, inst := 32 } = false := by decide
theorem test_wf_replay_instance : sourceOk { transport := 7, inst := 1 } = false := by decide
theorem test_wf_transport : sourceOk { transport := 8, inst := 0 } = false := by decide
theorem test_wf_packet_source : Instr.wf (.sysInfo { c0 with source := { transport := 9, inst := 0 } }) = false := by decide
theorem test_wf_packet_length (b : Byte) : Instr.wf (.tagSet { c0 with params := List.replicate 65536 b }) = false := by
  show (true && decide ((List.replicate 65536 b).length < 65536) && decide (c0.fault ≤ 5)) = false
  rw [List.length_replicate]
  rfl
theorem test_wf_packet_fault : Instr.wf (.sysInfo { c0 with fault := 6 }) = false := by decide
theorem test_wf_notice_source : Instr.wf (.completionNotice { transport := 8, inst := 0 } 1 0) = false := by decide
theorem test_wf_mctp_dest : Instr.wf (.mctpControlMessage { transport := 3, inst := 128 } 1 0) = false := by decide
theorem test_wf_pf : Instr.wf (.submit (.pf 0)) = false ∧ Instr.wf (.submit (.pf 49)) = false := by decide
theorem test_wf_vf : Instr.wf (.cancel (.vf 4096)) = false := by decide
theorem test_wf_port : Instr.wf (.hotReset 101) = false := by decide
theorem test_wf_overflow_port : Instr.wf (.counterOverflow 101 0) = false ∧ Instr.wf (.counterOverflow 127 0) = true := by decide
theorem test_wf_part : Instr.wf (.partitionResetDone 49) = false := by decide
theorem test_wf_fid : Instr.wf (.advertExpiry 32) = false := by decide
theorem test_wf_route_fid : Instr.wf (.route 0 32 true) = false ∧ Instr.wf (.route 101 0 true) = false := by decide
theorem test_wf_window : Instr.wf (.inboundDoorbellSet 512) = false := by decide
theorem test_wf_doorbell : Instr.wf (.outboundDoorbellWrite 0 0 101 1) = false := by decide
theorem test_wf_lane : Instr.wf (.eye 384) = false := by decide
theorem test_wf_channel : Instr.wf (.fastTrip 48) = false := by decide
theorem test_wf_clock_pair : Instr.wf (.ckrLock 48) = false := by decide
theorem test_wf_qpn : Instr.wf (.rmaAckTimeout (2 ^ 24)) = false := by decide
theorem test_wf_arrival_port : Instr.wf (.panelLookup { port := 101, tlp := tlp0, rma := none, fab := none, fn := none }) = false := by decide
theorem test_wf_flit_bytes : Instr.wf (.pflFlitReceive 12 W09.bad9) = false := by decide
theorem test_wf_pts_bytes : Instr.wf (.ptsReceive 192 { bytes := [] }) = false := by decide

/-! ### Worked examples of the spec, and published check values -/

/-- The nine characters that published CRC check values are taken over. -/
def nine : List Byte := [0x31, 0x32, 0x33, 0x34, 0x35, 0x36, 0x37, 0x38, 0x39]

/-- CRC-32C of R378: the published check value of the polynomial. -/
theorem test_crc32c : crc32c nine = 0xE3069283#32 := by decide +kernel
/-- The CRC of R172: the published check value of CRC-64 with the ECMA-182 polynomial, reflected. -/
theorem test_crc64 : crc64 nine = 0x995DC9BBDF1939FA#64 := by decide +kernel
/-- The CRC-16 of R342: the published check value for polynomial 0x1021 and initial value 0xFFFF. -/
theorem test_crc16 : crc16 nine = 0x29B1#16 := by decide +kernel

/-- Chapter 5's big-endian host: 6 bytes at offset 2 leave as two writes (R127). -/
theorem test_mirrored_write :
    (piecesOf 4 256 512 0x880123402 { tlp0 with len := 6, data := [0x11, 0x12, 0x13, 0x14, 0x15, 0x16] }).map (fun p => (p.addr, p.data)) =
      [(0x880123400, [0x12, 0x11]), (0x880123404, [0x16, 0x15, 0x14, 0x13])] := by decide +kernel

/-- Chapter 5's mapper entry 4: 37,450 mW reads 374. -/
theorem test_mapper_power : (evaluate { tlmReset with m := 655, shift := 16, dstSize := 2 } (some 37450) 0).value = 374 := by decide +kernel
/-- Chapter 5's mapper entry 5: a trigger reading of 0x94 gives 740. -/
theorem test_mapper_field :
    (ipmbField { tlmReset with fieldByte := 5, fieldWidth := 8 } [0, 0, 0x21, 0, 0, 0x94]).map
      (fun v => (evaluate { tlmReset with m := 5, dstSize := 3 } (some v) 0).value) = some 740 := by decide +kernel

/-- Chapter 6's segment after step 8. -/
def seg12 : Seg := { segReset with state := .enabled, entries :=
  [(3, some { base := 0x4000000000, limit := 0x402FFFFFFF, rid := 0, ridMask := 0, rights := 0x83 }),
   (6, some { base := 0x4030000000, limit := 0x403FFFFFFF, rid := 0x2300, ridMask := 0xFFFF, rights := 0x81 })] }
/-- Table 6.6, step 8: the held write is denied with REASON 2; a read by the device passes; another requester's write is denied with
REASON 3. -/
theorem test_access_denials :
    (checkRequest { tlp0 with addr := 0x4030000000, reqId := 0x2300 } seg12 none).1 = 2 ∧
    (checkRequest { tlp0 with kind := .memRead, addr := 0x4030000000, reqId := 0x2300 } seg12 none).1 = 0 ∧
    (checkRequest { tlp0 with addr := 0x4030000000, reqId := 0x2301 } seg12 none).1 = 3 := by decide +kernel
/-- Table 6.6, step 5: entries 3 and 6 overlap before the change. -/
theorem test_access_overlap :
    firstOverlap [(3, { base := 0x4000000000, limit := 0x403FFFFFFF, rid := 0, ridMask := 0, rights := 0x83 }),
      (6, { base := 0x4030000000, limit := 0x403FFFFFFF, rid := 0x2300, ridMask := 0xFFFF, rights := 0x81 })] = some (3, 6) := by decide +kernel

/-- Chapter 7's round trip of 400 ns: ACK_TIMEOUT becomes 1,600 ns after 16 samples (R185). -/
theorem test_ack_timeout :
    (rttSample { plkReset with ackAdapt := true, samples := 16, rtt16 := 6400, ackNs := 2000 } 400).ackNs = 1600 := by decide +kernel

/-- Chapter 10's queue Q5. -/
def q5 : EQueue := { equeueReset with cfg := { shaped := true, cir := 100000, pir := 200000, steep := 50000, cbs := 256, pbs := 128, smax := 16 } }
/-- Table 10.2: a refill adds 1,562.5 B to C, 3,125 B to P and 781.25 B to S; levels are in 1/64 B. -/
theorem test_refill : let e := refill true { q5 with c := 0, p := 0, s := 0 }
    e.c = 100000 ∧ e.p = 200000 ∧ e.s = 50000 ∧ (refill true { q5 with s := 4096 * 64 }).s = 4096 * 64 := by decide +kernel

/-- Chapter 12's LN192: 10.50 dB at 16 GHz gives 18.25 dB at 32 GHz, and 18.50 dB a length of 231 mm. -/
theorem test_loss_estimate : extrapolate 42 1 6 7 = 73 ∧ lengthMm 74 1 7 = 231 := by decide +kernel

/-- R398, step 4: a tenant's ARB_SET is NOT_PERMITTED with DETAIL 1. -/
theorem test_tenant_arb_set : commandChecks 0x0C02 cT State.reset.dev = some { status := .notPermitted, detail := 1, result := [] } := by
  decide +kernel

/-- R386: SUBMIT in SUBMITTED leaves the mailbox SUBMITTED. -/
theorem test_overrun :
    (match Sys2Proof.Machine.exec (.submit .mgr) W01.wsub with
     | .next t => (t.dev.mailbox .mgr).state
     | _ => .idle) = .submitted := by decide +kernel

/-- Log entry 3: a step on an empty queue lets a nanosecond pass. -/
theorem test_idle : (match step State.reset with
    | .next t => t.dev.now
    | _ => 0) = 1 := by decide +kernel

/-- No word spells a command: the table gives no bits. -/
theorem test_no_words (n w : Nat) : decodeTableWord n w = none := rfl

end Sys2Proof.Tests
end

section
/-! Writes of registers by hosts (chapters 0, 5, 14, 18): where the write of an address goes, what the register there takes,
and the statement about them. -/

namespace Sys2Proof.Machine

/-! ## Where the write of an address goes -/

/-- R6: a write of an address of the register BAR without a register. -/
theorem hostWrite_undefined {a : Nat} (v : W32) {d : Device} (ha : a < 2 ^ 32) (hr : regDefined a d = false) :
    hostWrite a v d = fnError .mgr 20 true d := by
  rw [hostWrite, if_pos ha, hr, if_neg Bool.false_ne_true]

theorem hostWrite_register {a : Nat} (v : W32) {d : Device} (ha : a < 2 ^ 32) (hr : regDefined a d = true) :
    hostWrite a v d = regWrite a v d := by
  rw [hostWrite, if_pos ha, if_pos hr]

/-- R118: an aligned address of the window control area of a partition. -/
theorem hostWrite_control {p off : Nat} (v : W32) (d : Device) (hp : p < 0x40000) (ho : off < 0x4000) (h4 : off % 4 = 0) :
    hostWrite (2 ^ 32 + 0x4000 * p + off) v d = controlWrite p off v d := by
  have hpart : (2 ^ 32 + 0x4000 * p + off - 2 ^ 32) / 0x4000 = p := by omega
  have hoff : (2 ^ 32 + 0x4000 * p + off - 2 ^ 32) % 0x4000 = off := by omega
  rw [hostWrite, if_neg (by omega), if_pos (by omega), if_pos (by omega), hpart, hoff]

/-- R385: an address of the mailbox BAR of a function. -/
theorem hostWrite_mailbox {k off : Nat} (v : W32) (d : Device) (hk : k < 8192) (ho : off < 0x4000) :
    hostWrite (2 ^ 33 + 0x4000 * k + off) v d = mailboxWrite (fnOfKey k) off v d := by
  have hkey : (2 ^ 33 + 0x4000 * k + off - 2 ^ 33) / 0x4000 = k := by omega
  have hoff : (2 ^ 33 + 0x4000 * k + off - 2 ^ 33) % 0x4000 = off := by omega
  rw [hostWrite, if_neg (by omega), if_neg (by omega), if_pos (by omega), hkey, hoff]

/-! ## Where registers lie -/

theorem regDefined_of_regWord {a x : Nat} {d : Device} (h4 : a % 4 = 0) (h : regWord a d = some x) : regDefined a d = true := by
  simp [regDefined, h4, h]

/-- The register block of a port (Table 14.11). -/
theorem regWord_prt {n off : Nat} (d : Device) (hn : n < 101) (ho : off < 0x1000) (h4 : off % 4 = 0) :
    regWord (0x100000 + 0x1000 * n + off) d = prtRead n off d := by
  have hport : (0x100000 + 0x1000 * n + off - 0x100000) / 0x1000 = n := by omega
  have hoff : (0x100000 + 0x1000 * n + off) % 0x1000 = off := by omega
  simp (disch := omega) only [regWord, if_pos, if_neg, hport, hoff]

theorem regWrite_prt {n off : Nat} (v : W32) (d : Device) (hn : n < 101) (ho : off < 0x1000) (h4 : off % 4 = 0) :
    regWrite (0x100000 + 0x1000 * n + off) v d = prtWrite n off v d := by
  have hport : (0x100000 + 0x1000 * n + off - 0x100000) / 0x1000 = n := by omega
  have hoff : (0x100000 + 0x1000 * n + off) % 0x1000 = off := by omega
  simp (disch := omega) only [regWrite, if_pos, if_neg, hport, hoff]

/-! ## What a register takes -/

/-- R407: of the GLB block a host writes GLB_INT_MASK and GLB_ALERT_EN only. -/
theorem regWrite_glb_readOnly {a : Nat} (v : W32) (d : Device) (ha : a < 0x10000) (hm : a ≠ 0x14) (he : a ≠ 0x18) :
    regWrite a v d = d := by
  simp (disch := omega) only [regWrite, if_neg, ite_self]

theorem prtWrite_intStatus (n : Nat) (v : W32) (d : Device) : prtWrite n 0x40 v d =
    if portExists n d then d.setPci n { d.pci n with intStatus := w1c (d.pci n).intStatus v } else d := by
  cases h : portExists n d <;> simp [prtWrite, h]

theorem prtWrite_intMask (n : Nat) (v : W32) (d : Device) : prtWrite n 0x44 v d =
    if portExists n d then d.setPci n { d.pci n with intMask := v.setWidth 5 } else d := by
  cases h : portExists n d <;> simp [prtWrite, h]

/-- R118: DB_STATUS of a window lies at an even DWORD of the inbound doorbells, DB_MASK behind it. -/
theorem controlWrite_dbStatus {w : Nat} (p : Nat) (v : W32) (d : Device) (hw : w < 512) :
    controlWrite p (0x1000 + 8 * w) v d = windowDbWrite w p false v d := by
  have hwin : (0x1000 + 8 * w - 0x1000) / 8 = w := by omega
  have hmask : decide ((0x1000 + 8 * w) % 8 = 4) = false := decide_eq_false (by omega)
  rw [controlWrite, if_neg (by omega), if_pos (by omega), hwin, hmask]

theorem controlWrite_dbMask {w : Nat} (p : Nat) (v : W32) (d : Device) (hw : w < 512) :
    controlWrite p (0x1000 + 8 * w + 4) v d = windowDbWrite w p true v d := by
  have hwin : (0x1000 + 8 * w + 4 - 0x1000) / 8 = w := by omega
  have hmask : decide ((0x1000 + 8 * w + 4) % 8 = 4) = true := decide_eq_true (by omega)
  rw [controlWrite, if_neg (by omega), if_pos (by omega), hwin, hmask]

theorem windowDbWrite_target {w p : Nat} (mask : Bool) (v : W32) {d : Device} (hv : (d.window w).valid = true)
    (hp : (d.window w).dstPart = p) : windowDbWrite w p mask v d = d.setWindow w
      (if mask then { d.window w with dbMask := v } else { d.window w with dbStatus := (d.window w).dbStatus &&& ~~~ v }) := by
  simp [windowDbWrite, hv, hp]

theorem windowDbWrite_foreign {w p : Nat} (mask : Bool) (v : W32) {d : Device}
    (h : (d.window w).valid = false ∨ (d.window w).dstPart ≠ p) : windowDbWrite w p mask v d = d := by
  simp only [windowDbWrite, if_pos h]

/-- R385: the request area of a mailbox that exists. -/
theorem mailboxWrite_request {f : Fn} {off : Nat} (v : W32) {d : Device} (hf : f ∈ mailboxes d) (ho : off < 0x1000) :
    mailboxWrite f off v d = d.setMailbox f { d.mailbox f with mem := memWrite (d.mailbox f).mem off (natLe 4 v.toNat) } := by
  simp [mailboxWrite, hf, ho]

/-- R478: taking the other reference input changes the clock, the canary and the black box alone. -/
theorem refclkSwitch_valid {d : Device} (h : (if d.clk.activeB then d.clk.aValid else d.clk.bValid) = true) :
    ∃ x b, refclkSwitch d = { d with
      clk := { d.clk with activeB := !d.clk.activeB, switches := satAdd 0xFFFF d.clk.switches 1,
                          intStatus := d.clk.intStatus ||| 1 }
      can := x, blackBox := b } := by
  rw [refclkSwitch, if_pos h]
  exact blackBoxRecord_frame 6 0 0 [] _

theorem refclkSwitch_invalid {d : Device} (h : (if d.clk.activeB then d.clk.aValid else d.clk.bValid) = false) :
    refclkSwitch d = d := by
  simp only [refclkSwitch, h, Bool.false_eq_true, if_false]

/-! ## The rows -/

theorem registerWrite_becomes {a : Nat} {v : W32} {s : State} {d : Device} (h : hostWrite a v s.dev = d) :
    Becomes (.registerWrite a v) s d :=
  done_becomes rfl h

theorem registerWrite_regWrite {a : Nat} {v : W32} {s : State} {d : Device} (ha : a < 2 ^ 32) (hr : regDefined a s.dev = true)
    (h : regWrite a v s.dev = d) : Becomes (.registerWrite a v) s d :=
  registerWrite_becomes ((hostWrite_register v ha hr).trans h)

/-- A register of a port's block, by its place in the block. -/
theorem registerWrite_prt {n off x : Nat} {v : W32} {s : State} {d : Device} (hn : n < 101) (ho : off < 0x1000) (h4 : off % 4 = 0)
    (hr : prtRead n off s.dev = some x) (h : prtWrite n off v s.dev = d) :
    Becomes (.registerWrite (0x100000 + 0x1000 * n + off) v) s d :=
  registerWrite_regWrite (by omega) (regDefined_of_regWord (by omega) ((regWord_prt s.dev hn ho h4).trans hr))
    ((regWrite_prt v s.dev hn ho h4).trans h)

/-- R478: the row SWITCH takes the other reference input. -/
theorem switch_gives {s : State} (h : (if s.dev.clk.activeB then s.dev.clk.aValid else s.dev.clk.bValid) = true) :
    Gives .switch s fun t => t.clk = { s.dev.clk with activeB := !s.dev.clk.activeB, switches := satAdd 0xFFFF s.dev.clk.switches 1,
                                                      intStatus := s.dev.clk.intStatus ||| 1 } ∧
      t.ports = s.dev.ports ∧ t.pcie = s.dev.pcie ∧ t.lanes = s.dev.lanes ∧ t.plk = s.dev.plk := by
  have hx : exec .switch s = done s (refclkSwitch s.dev) := rfl
  obtain ⟨x, b, hs⟩ := refclkSwitch_valid h
  refine done_gives hx ?_
  obtain ⟨i, m, a, hn⟩ := notify_frame s.dev (refclkSwitch s.dev)
  rw [hn, hs]
  exact ⟨rfl, rfl, rfl, rfl, rfl⟩

/-- R118: the doorbell registers of a window, written by its target partition and by another. -/
theorem registerWrite_doorbells (s : State) {p w : Nat} (v : W32) (hp : p < 64) (hw : w < 512) :
    Becomes (.registerWrite (2 ^ 32 + 0x4000 * p + 0x1000 + 8 * w) v) s (windowDbWrite w p false v s.dev) ∧
    Becomes (.registerWrite (2 ^ 32 + 0x4000 * p + 0x1000 + 8 * w + 4) v) s (windowDbWrite w p true v s.dev) := by
  have hstatus : 2 ^ 32 + 0x4000 * p + 0x1000 + 8 * w = 2 ^ 32 + 0x4000 * p + (0x1000 + 8 * w) := by omega
  have hmask : 2 ^ 32 + 0x4000 * p + 0x1000 + 8 * w + 4 = 2 ^ 32 + 0x4000 * p + (0x1000 + 8 * w + 4) := by omega
  constructor
  · rw [hstatus]
    exact registerWrite_becomes
      ((hostWrite_control v s.dev (by omega) (by omega) (by omega)).trans (controlWrite_dbStatus p v s.dev hw))
  · rw [hmask]
    exact registerWrite_becomes
      ((hostWrite_control v s.dev (by omega) (by omega) (by omega)).trans (controlWrite_dbMask p v s.dev hw))

/-- Settles O50: each address is traced to the register there, and the register's own rule gives what it takes. -/
theorem registerWrites : Obligations.RegisterWrites := by
  intro s a n k w off v d c x e
  refine ⟨done_becomes rfl rfl, ?intMask, ?alertEn, ?undefined, ?readOnly, ?clkStatus, ?clkMask, ?port, ?doorbell, ?mailbox,
    switch_gives, ?noSwitch⟩
  case intMask => exact registerWrite_regWrite (by omega) (regDefined_of_regWord rfl rfl) rfl
  case alertEn => exact registerWrite_regWrite (by omega) (regDefined_of_regWord rfl rfl) rfl
  case undefined => exact fun ha hr => registerWrite_becomes (hostWrite_undefined v ha hr)
  case readOnly =>
    exact fun ha hm he hr => registerWrite_regWrite (by omega) hr (regWrite_glb_readOnly v s.dev ha hm he)
  case clkStatus => exact registerWrite_regWrite (by omega) (regDefined_of_regWord rfl rfl) rfl
  case clkMask => exact registerWrite_regWrite (by omega) (regDefined_of_regWord rfl rfl) rfl
  case port =>
    intro hn
    exact ⟨registerWrite_prt hn (by omega) rfl rfl (prtWrite_intStatus n v s.dev),
      registerWrite_prt hn (by omega) rfl rfl (prtWrite_intMask n v s.dev)⟩
  case doorbell =>
    rintro hk hw rfl
    have hdb := registerWrite_doorbells s v hk hw
    refine ⟨fun hvalid hpart => ?target, fun hforeign => ?foreign⟩
    case target =>
      rw [windowDbWrite_target false v hvalid hpart, windowDbWrite_target true v hvalid hpart] at hdb
      exact hdb
    case foreign => simpa only [windowDbWrite_foreign _ v hforeign] using hdb
  case mailbox =>
    intro hk ho hf
    exact registerWrite_becomes ((hostWrite_mailbox v s.dev hk (by omega)).trans (mailboxWrite_request v hf ho))
  case noSwitch =>
    exact fun h => done_becomes rfl (refclkSwitch_invalid h)

end Sys2Proof.Machine
end

section
/-! Command packets and the arbiter (chapters 1 and 14): what running a packet is, by the record of its command, by its
admission and by the checks of R398; and that every row completes. -/

namespace Sys2Proof.Machine

/-- Settles O57: every row ends with a device, and ending leaves the queue as it was. -/
theorem everyCommandCompletes : Obligations.EveryCommandCompletes := by
  intro i s
  obtain ⟨d, hd⟩ := exec_done i s
  exact ⟨_, hd, rfl⟩

/-! ## What running a packet is -/

section
variable {op : Nat} (f : Device → Device × Option Ans) {c : Cmd} {d : Device}

theorem runPacket_begun {e : Exec} (he : execOf op c d = some e) (hb : e.begun = true) : runPacket op f c d = d := by
  simp [runPacket, he, hb]

/-- R394: a packet that is not to be admitted yet waits, when no other source's lock is to be told of. -/
theorem runPacket_waits (he : execOf op c d = none) (hm : mayAdmit op c d = false)
    (hl : (lockedOut c.source d && streamSource c.source) = false) : runPacket op f c d = d := by
  simp [runPacket, he, hm, hl]

/-- R396: a byte-stream source under another source's lock is told of it. -/
theorem runPacket_locked (he : execOf op c d = none) (hm : mayAdmit op c d = false)
    (hl : (lockedOut c.source d && streamSource c.source) = true) : runPacket op f c d = answerLocked op c d := by
  simp [runPacket, he, hm, hl]

/-- R398: the first check that fails answers the command, which has no other effect. -/
theorem runPacket_refused {a : Ans} (he : execOf op c d = none) (hm : mayAdmit op c d = true)
    (ha : commandChecks op c d = some a) : runPacket op f c d = finish op c a (admitCommand op c d) := by
  simp [runPacket, he, hm, admitAndCheck, ha]

end

/-- Settles O58: a packet's row runs the packet, and each clause is one of the things that running it can be. -/
theorem packetsPassTheArbiter : Obligations.PacketsPassTheArbiter := by
  intro i op c s hrow
  obtain ⟨f, hrun⟩ := rowPacket_run s hrow
  refine ⟨fun e he hb => done_becomes hrun (runPacket_begun f he hb), fun he => ⟨?waits, ?locked, ?refused⟩, busy_mayAdmit⟩
  case waits => exact fun hm hl => done_becomes hrun (runPacket_waits f he hm hl)
  case locked => exact fun hm hl => done_becomes hrun (runPacket_locked f he hm hl)
  case refused => exact fun a hm ha => done_becomes hrun (runPacket_refused f he hm ha)

end Sys2Proof.Machine
end

section
/-! A LONG command (R399): the record that LONG_ACCEPTED marks is the one of the packet alone, and the refutation that rests
on it. -/

namespace Sys2Proof.Machine

/-- A command of the manager's mailbox, recorded with the operand fault (log entry 63), which no packet carries: an admission
records the packet alone. -/
def faultedExec : Exec :=
  { op := 0x0101
    cmd := { source := { transport := 0, inst := 0 }, flags := 0, seq := 0, target := 0, param0 := 0, params := [], fault := 1 }
    since := 0, accepted := false, applied := false, reported := 0, begun := false }

/-- A millisecond after it was recorded. -/
def faultedState : State :=
  { State.reset with dev := { State.reset.dev with now := msNs, kme := { State.reset.dev.kme with execs := [faultedExec] } } }

/-- The row answers ACCEPTED, but the record is not that of the packet which it marks: it stays as it was. -/
theorem longAccepted_faultedState : (longAccepted faultedState.dev).kme.execs = [faultedExec] := by rfl

/-- Refutes O3: its clause on LONG_ACCEPTED is asked of every record, and one that holds more than its packet is not marked
as accepted. -/
theorem not_arbiterAdmitsAndTimes : ¬ Obligations.ArbiterAdmitsAndTimes := by
  rintro ⟨-, htimes⟩
  obtain ⟨hlong, -⟩ := htimes faultedState
  obtain ⟨-, hdue⟩ := hlong faultedExec .mgr rfl rfl rfl rfl
  obtain ⟨t, ht, -, hexecs, -⟩ := hdue (Nat.le_of_eq (Nat.zero_add msNs))
  obtain ⟨i, m, a, hn⟩ := notify_frame faultedState.dev (longAccepted faultedState.dev)
  have hrow : exec .longAccepted faultedState = done faultedState (longAccepted faultedState.dev) := rfl
  rw [hrow, done, hn] at ht
  cases ht
  rw [show _ = [faultedExec] from longAccepted_faultedState] at hexecs
  exact absurd hexecs (by decide)

end Sys2Proof.Machine
end

section
/-! What items in the switch core change as they enter, move and leave (chapters 3 and 17): counts, and the credit of ports. -/

namespace Sys2Proof.Machine

/-! ## What counting can change -/

/-- Counting and tagging change the counters and take free values; everything else stays. -/
def CountsOnly (d d' : Device) : Prop := ∃ f k c, d' = { d with freeCount := f, counters := k, cnt := c }

theorem countsOnly_refl (d : Device) : CountsOnly d d := ⟨_, _, _, rfl⟩

theorem countsOnly_trans {a b c : Device} (h : CountsOnly a b) (g : CountsOnly b c) : CountsOnly a c := by
  obtain ⟨f, k, x, rfl⟩ := h
  obtain ⟨f', k', x', rfl⟩ := g
  exact ⟨f', k', x', rfl⟩

theorem countEvent_counts (o : Occurrence) (i : Option Nat) (d : Device) : CountsOnly d (countEvent o i d) := by
  obtain ⟨k, c, h⟩ := countEvent_frame o i d
  exact ⟨d.freeCount, k, c, h⟩

theorem countPort_counts (e p q c r n : Nat) (d : Device) : CountsOnly d (countPort e p q c r n d) := countEvent_counts _ _ d

theorem countFixed_counts (p j n : Nat) (d : Device) : CountsOnly d (countFixed p j n d) := ⟨d.freeCount, _, d.cnt, rfl⟩

theorem traceStage_counts (i j : Nat) (d : Device) : CountsOnly d (traceStage i j d) := ⟨d.freeCount, d.counters, _, rfl⟩

theorem tagRandom_counts (i : Item) (d : Device) : CountsOnly d (tagRandom i d) := by
  unfold tagRandom
  extract_lets k v
  split
  · split
    · obtain ⟨k, c, h⟩ := tagItem_frame i.id none v.2
      exact ⟨_, k, c, h⟩
    · exact ⟨_, d.counters, d.cnt, rfl⟩
  · exact countsOnly_refl d

theorem foldl_counts {β : Type} {f : Device → β → Device} (h : ∀ d x, CountsOnly d (f d x)) (l : List β) (d : Device) :
    CountsOnly d (l.foldl f d) := by
  induction l generalizing d with
  | nil => exact countsOnly_refl d
  | cons x l ih => exact countsOnly_trans (h d x) (ih (f d x))

/-! ## What the credit of an ingress port can change -/

theorem freeIngress_frame (n cls q : Nat) (t : Tlp) (hdr data : Nat) (d : Device) :
    ∃ k p, freeIngress n cls q t hdr data d = { d with plk := k, pcie := p } ∧ ∀ m, m ≠ n → tget pcieReset p m = d.pci m := by
  unfold freeIngress
  split
  · exact ⟨d.plk, d.pcie, rfl, fun _ _ => rfl⟩
  · split
    · exact ⟨_, d.pcie, rfl, fun _ _ => rfl⟩
    · exact ⟨d.plk, _, rfl, fun m hm => tget_tset_other pcieReset d.pcie _ hm⟩

theorem leaveIngress_frame (cells : Nat) (i : Item) (d : Device) :
    ∃ k p, leaveIngress cells i d = { d with plk := k, pcie := p } := by
  obtain ⟨k, p, h, -⟩ := freeIngress_frame i.ingress i.cls i.queue i.tlp (cellCredit i cells d).1 (cellCredit i cells d).2 d
  exact ⟨k, p, h⟩

theorem takeBlock_frame (n vl cls : Nat) (d : Device) :
    ∃ k p b, takeBlock n vl cls d = { d with plk := k, pcie := p, bufs := b } ∧ ∀ m, m ≠ n → tget pcieReset p m = d.pci m := by
  unfold takeBlock
  split
  · exact ⟨d.plk, d.pcie, d.bufs, rfl, fun _ _ => rfl⟩
  · split
    · exact ⟨_, d.pcie, d.bufs, rfl, fun _ _ => rfl⟩
    · extract_lets b used b'
      split
      · exact ⟨d.plk, _, _, rfl, fun m hm => tget_tset_other pcieReset d.pcie _ hm⟩
      · exact ⟨d.plk, d.pcie, _, rfl, fun _ _ => rfl⟩

/-- Entering a VOQ adds the item; else it concerns the credit and buffers of the port it came by, and the counts. -/
theorem enterVoq_frame (i : Item) (d : Device) : ∃ f k c l p b, enterVoq i d =
    { d with items := d.items ++ [i], nextId := d.nextId + 1, freeCount := f, counters := k, cnt := c, plk := l, pcie := p, bufs := b } ∧
    ∀ m, m ≠ i.ingress → tget pcieReset p m = d.pci m := by
  unfold enterVoq
  extract_lets d₁ o d₂ d₃
  have hcounts : CountsOnly d₁ d₃ :=
    countsOnly_trans (tagRandom_counts i d₁) <| countsOnly_trans (countEvent_counts o (some i.id) _) <|
    countsOnly_trans (countEvent_counts { o with ev := 0x004, count := i.inCells } (some i.id) _) <|
    countsOnly_trans (countFixed_counts i.ingress 2 1 d₂) (countFixed_counts i.ingress 3 (payloadLen i.tlp) _)
  obtain ⟨f, k, c, h⟩ := hcounts
  obtain ⟨l, p, b, hb, hp⟩ := takeBlock_frame i.ingress (itemVl i.tlp i.queue d₃) i.cls d₃
  obtain ⟨f', k', c', h'⟩ := countsOnly_trans (countsOnly_trans (traceStage_counts i.id 1 _) (traceStage_counts i.id 2 _))
    (traceStage_counts i.id 3 (traceStage i.id 2 (traceStage i.id 1 (takeBlock i.ingress (itemVl i.tlp i.queue d₃) i.cls d₃))))
  refine ⟨f', k', c', l, p, b, h'.trans ?_, fun m hm => (hp m hm).trans ?_⟩
  · rw [hb, h]
  · rw [h]; rfl

end Sys2Proof.Machine
end

section
/-! Completions and locks (Table 3.4): a completion that passes panel lookup moves no lock of itself. -/

namespace Sys2Proof.Machine

/-- The locks, the ports and the time stay. -/
def KeepsLocks (d d' : Device) : Prop := d'.locks = d.locks ∧ d'.ports = d.ports ∧ d'.now = d.now

theorem keepsLocks_refl (d : Device) : KeepsLocks d d := ⟨rfl, rfl, rfl⟩

theorem keepsLocks_trans {a b c : Device} (h : KeepsLocks a b) (g : KeepsLocks b c) : KeepsLocks a c :=
  ⟨g.1.trans h.1, g.2.1.trans h.2.1, g.2.2.trans h.2.2⟩

theorem keepsLocks_of_counts {d d' : Device} (h : CountsOnly d d') : KeepsLocks d d' := by
  obtain ⟨f, k, c, rfl⟩ := h
  exact keepsLocks_refl d

/-- A fold keeps the locks of the device that its state holds, when each of its steps does. -/
theorem foldl_keepsLocks {β σ : Type} (dev : σ → Device) {f : σ → β → σ} (h : ∀ s x, KeepsLocks (dev s) (dev (f s x)))
    (l : List β) (s : σ) : KeepsLocks (dev s) (dev (l.foldl f s)) := by
  induction l generalizing s with
  | nil => exact keepsLocks_refl (dev s)
  | cons x l ih => exact keepsLocks_trans (h s x) (ih (f s x))

theorem freeIngress_keepsLocks (n cls q : Nat) (t : Tlp) (hdr data : Nat) (d : Device) :
    KeepsLocks d (freeIngress n cls q t hdr data d) := by
  obtain ⟨k, p, h, -⟩ := freeIngress_frame n cls q t hdr data d
  rw [h]; exact keepsLocks_refl d

theorem enterVoq_keepsLocks (i : Item) (d : Device) : KeepsLocks d (enterVoq i d) := by
  obtain ⟨f, k, c, l, p, b, h, -⟩ := enterVoq_frame i d
  rw [h]; exact keepsLocks_refl d

theorem sendVector_keepsLocks (f : Fn) (v : Nat) (d : Device) : KeepsLocks d (sendVector f v d) := by
  obtain ⟨i, m, h⟩ := sendVector_frame f v d
  rw [h]; exact keepsLocks_refl d

theorem ringWrite_keepsLocks (r : Ring) (size : Nat) (blocks : List (List Byte)) (d : Device) :
    KeepsLocks d (ringWrite r size blocks d).2 := by
  unfold ringWrite
  extract_lets d₁ d₂
  have h₁ : KeepsLocks d d₁ := by
    refine foldl_keepsLocks (dev := fun d => d) ?_ (List.range blocks.length) d
    exact fun e _ => keepsLocks_refl e
  show KeepsLocks d d₂
  unfold d₂
  split
  · exact keepsLocks_trans h₁ (sendVector_keepsLocks .mgr r.vector d₁)
  · exact h₁

theorem traceEnd_keepsLocks (i : Item) (outcome : Nat) (d : Device) : KeepsLocks d (traceEnd i outcome d) := by
  unfold traceEnd
  split
  · exact keepsLocks_refl d
  · extract_lets _ d₁ r w
    split
    · exact ringWrite_keepsLocks r 64 _ d₁
    · exact keepsLocks_refl d

theorem logSynth_keepsLocks (r f p n : Nat) (d : Device) : KeepsLocks d (logSynth r f p n d) := by
  obtain ⟨x, k, c, h⟩ := logSynth_frame r f p n d
  rw [h]; exact keepsLocks_refl d

theorem emitAway_keepsLocks (f : FabHdr) (c : Tlp) (d : Device) : KeepsLocks d (emitAway f c d) := by
  obtain ⟨o, h⟩ := emitAway_frame f c d
  rw [h]; exact keepsLocks_refl d

theorem rmaDrop_keepsLocks (h : RmaHdr) (d : Device) : KeepsLocks d (rmaDrop h d) := by
  unfold rmaDrop
  split
  · split
    · exact keepsLocks_refl d
    · split <;> exact keepsLocks_refl d
  · exact keepsLocks_refl d

theorem removeItem_keepsLocks (id : Nat) (d : Device) : KeepsLocks d (removeItem id d) := by
  unfold removeItem
  extract_lets d₁
  show KeepsLocks d d₁
  unfold d₁
  split
  · split
    · exact keepsLocks_refl d
    · exact freeIngress_keepsLocks _ _ _ _ _ _ d
  · exact keepsLocks_refl d

/-- A completion that is dropped is reported in its stream (Table 8.3), and holds no lock. -/
theorem dropItem_keepsLocks (reason fid port : Nat) {i : Item} (hi : i.rma = none → i.cls = 2) (d : Device) :
    KeepsLocks d (dropItem reason fid port i d) := by
  unfold dropItem
  extract_lets d₁ d₂ _ _ c d₃
  have h₂ : KeepsLocks d d₂ := keepsLocks_trans (removeItem_keepsLocks i.id d) (traceEnd_keepsLocks i _ d₁)
  split
  · exact keepsLocks_trans h₂ (rmaDrop_keepsLocks _ d₂)
  · rename_i hrma
    have hcls := hi hrma
    split
    · exact h₂
    · exact h₂
    · exact h₂
    · rw [if_neg (by omega), if_pos hcls]
      have h₃ : KeepsLocks d d₃ := keepsLocks_trans h₂ (logSynth_keepsLocks i.tlp.reqId fid port i.part d₂)
      split
      · split
        · exact h₃
        · exact keepsLocks_trans h₃ (emitAway_keepsLocks _ c d₃)
      · exact h₃

theorem endRequest_keepsLocks (t : Track) (st : CplStatus) (synth : Bool) (d : Device) : KeepsLocks d (endRequest t st synth d) := by
  unfold endRequest
  extract_lets c d₁ enter
  split
  · extract_lets h
    split <;> exact keepsLocks_refl d
  · split <;> exact keepsLocks_refl d

theorem failPiece_keepsLocks (t : Track) (st : CplStatus) (synth : Bool) (d : Device) : KeepsLocks d (failPiece t st synth d) := by
  unfold failPiece
  extract_lets t₁ d₁
  split
  · split <;> exact keepsLocks_refl d
  · split
    · show KeepsLocks d (if _ then _ else d₁)
      split <;> exact endRequest_keepsLocks t₁ st synth d
    · unfold keepTrack
      split <;> exact keepsLocks_refl d

theorem answerItem_keepsLocks (i : Item) (st : CplStatus) (synth : Bool) (d : Device) : KeepsLocks d (answerItem i st synth d) := by
  unfold answerItem
  split
  · split <;> exact failPiece_keepsLocks _ st synth d
  · obtain ⟨o, t, n, h⟩ := emitCpl_frame i (completionFor i.tlp i.srcRid i.srcTag st) synth d
    rw [h]; exact keepsLocks_refl d

theorem sprayPath_keepsLocks (fid : Nat) (d : Device) : KeepsLocks d (sprayPath fid d).2 := by
  unfold sprayPath
  extract_lets r ws total v
  split <;> exact keepsLocks_refl d

theorem sendAway_keepsLocks {i : Item} (hi : i.rma = none → i.cls = 2) (f : FabHdr) (d : Device) : KeepsLocks d (sendAway i f d) := by
  unfold sendAway
  split
  · exact answerItem_keepsLocks i .ur false (bridgeError (upstreamKey i.part) 20 d)
  · split
    · exact dropItem_keepsLocks 6 f.dstFid 0x7F hi d
    · extract_lets pick
      have hpick : KeepsLocks d pick.2 := by
        unfold pick
        split
        · exact sprayPath_keepsLocks f.dstFid d
        · exact keepsLocks_refl d
      split
      · exact keepsLocks_trans hpick (dropItem_keepsLocks 5 f.dstFid 0x7F (i := { i with fab := some f }) hi pick.2)
      · exact keepsLocks_trans hpick (enterVoq_keepsLocks _ pick.2)

theorem sendCpl_keepsLocks (t : Track) (c : Tlp) (a : Arrival) (part hdr data : Nat) (d : Device) :
    KeepsLocks d (sendCpl t c a part hdr data d) := by
  unfold sendCpl
  extract_lets _ i n
  split
  · exact sendAway_keepsLocks (fun _ => rfl) _ d
  · split
    · exact keepsLocks_refl d
    · exact enterVoq_keepsLocks _ d

theorem returnPiece_keepsLocks (t : Track) (c : Tlp) (a : Arrival) (hdr dat : Nat) (d : Device) :
    KeepsLocks d (returnPiece t c a hdr dat d) := by
  unfold returnPiece
  extract_lets base data w cut
  split
  · exact sendCpl_keepsLocks _ _ a _ hdr dat d
  · split
    · exact keepsLocks_refl d
    · exact foldl_keepsLocks (fun s : Nat × Nat × Nat × Device => s.2.2.2) (fun s x => sendCpl_keepsLocks _ _ a _ _ _ s.2.2.2) _ _

theorem feedPiece_keepsLocks (t : Track) (c : Tlp) (a : Arrival) (hdr data : Nat) (d : Device) :
    KeepsLocks d (feedPiece t c a hdr data d) := by
  unfold feedPiece
  split
  · extract_lets d₁
    have h₁ : KeepsLocks d d₁ := endRequest_keepsLocks t c.status _ d
    split <;> exact h₁
  · extract_lets d₁
    have h₁ : KeepsLocks d d₁ := returnPiece_keepsLocks t c a hdr data d
    split <;> exact h₁

theorem flushPieces_keepsLocks (a : Arrival) (near : Track) (fuel : Nat) (d : Device) : KeepsLocks d (flushPieces a near fuel d) := by
  induction fuel generalizing d with
  | zero => exact keepsLocks_refl d
  | succ fuel ih =>
    unfold flushPieces
    split
    · exact keepsLocks_refl d
    · split
      · exact keepsLocks_refl d
      · exact keepsLocks_trans (feedPiece_keepsLocks _ _ a 0 0 (putTrack _ d)) (ih _)

theorem windowCpl_keepsLocks (t : Track) (c : Tlp) (a : Arrival) (d : Device) : KeepsLocks d (windowCpl t c a d) := by
  unfold windowCpl
  split
  · split <;> exact keepsLocks_refl d
  · extract_lets held bytes ended d₁
    have h₁ : KeepsLocks d d₁ := by
      unfold d₁
      split
      · exact feedPiece_keepsLocks t c a _ _ d
      · exact keepsLocks_refl d
    exact keepsLocks_trans h₁ (flushPieces_keepsLocks a t _ d₁)

theorem answerTrack_keepsLocks (t : Track) (c : Tlp) (a : Arrival) (d : Device) : KeepsLocks d (answerTrack t c a d) := by
  unfold answerTrack
  split
  · exact windowCpl_keepsLocks t c a d
  · extract_lets altered r d₁
    have h₁ : KeepsLocks d d₁ := sendCpl_keepsLocks t r a t.part _ _ d
    split <;> exact h₁

theorem lateCompletion_keepsLocks (t : Track) (n : Nat) (d : Device) : KeepsLocks d (lateCompletion t n d) := by
  unfold lateCompletion
  extract_lets d₁ d₂
  have h₂ : KeepsLocks d d₂ := by
    have h₁ : KeepsLocks d d₁ := by unfold d₁; split <;> exact keepsLocks_refl d
    exact keepsLocks_trans h₁ (keepsLocks_of_counts (countPort_counts 0x022 n 0 2 t.part 1 d₁))
  split
  · exact h₂
  · split
    · exact h₂
    · split <;> exact h₂

theorem errorMessage_keepsLocks (f : Fn) (code : Nat) (d : Device) : KeepsLocks d (errorMessage f code d) := by
  unfold errorMessage
  split
  · split <;> exact keepsLocks_refl d
  · exact keepsLocks_refl d

theorem fnError_keepsLocks (f : Fn) (bit : Nat) (advisory : Bool) (d : Device) : KeepsLocks d (fnError f bit advisory d) := by
  unfold fnError
  extract_lets x on d₁ _ d₂
  have message (code : Nat) (e : Device) (h : KeepsLocks d e) (b : Bool) :
      KeepsLocks d (if b then errorMessage f code e else e) := by
    split
    · exact keepsLocks_trans h (errorMessage_keepsLocks f code e)
    · exact h
  split
  · exact keepsLocks_refl d
  · split
    · exact message 0x33 d₁ (keepsLocks_refl d) _
    · split
      · exact message 0x30 d₂ (keepsLocks_refl d) _
      · exact message 0x31 d₁ (keepsLocks_refl d) _

theorem cplById_keepsLocks (a : Arrival) (p : Nat) (up : Bool) (d : Device) : KeepsLocks d (cplById a p up d) := by
  unfold cplById
  extract_lets _ t _ i r enter
  have henter (j : Item) (m : Nat) : KeepsLocks d (enter j m) := by
    unfold enter
    split
    · exact enterVoq_keepsLocks _ d
    · exact keepsLocks_refl d
  clear_value r
  split
  · exact henter _ _
  · exact henter _ _
  · exact sendAway_keepsLocks (fun _ => rfl) _ d
  · exact keepsLocks_refl d

theorem noPartition_keepsLocks (i : Item) (d : Device) : KeepsLocks d (noPartition i d) := by
  unfold noPartition
  extract_lets _ d₁
  split
  · exact answerItem_keepsLocks i .ur false d₁
  · exact keepsLocks_refl d

/-- COMPLETION_ARRIVAL alone moves no lock: a locked read's completion is judged by its own row (Table 3.4). -/
theorem completionArrival_keepsLocks {a : Arrival} (ha : a.rma = none → kindClass a.tlp.kind = 2) (d : Device) :
    KeepsLocks d (completionArrival a d) := by
  unfold completionArrival
  extract_lets n known
  have hknown (e : Device) : KeepsLocks e (known e) := by
    unfold known
    split
    · exact answerTrack_keepsLocks _ a.tlp a e
    · split
      · exact lateCompletion_keepsLocks _ n e
      · split
        · exact cplById_keepsLocks a _ true e
        · split
          · exact keepsLocks_refl e
          · split
            · split
              · exact fnError_keepsLocks _ 16 false e
              · exact cplById_keepsLocks a _ false e
            · exact keepsLocks_refl e
            · exact keepsLocks_refl e
  split
  · rename_i f hfab
    split
    · exact noPartition_keepsLocks _ d
    · split
      · extract_lets d₁
        refine sendAway_keepsLocks (fun hrma => ?_) f d₁
        have hrma : a.rma = none := hrma
        show arrivalClass a = 2
        rw [arrivalClass, hrma]
        exact ha hrma
      · exact hknown d
  · exact hknown d

theorem settleArrival_keepsLocks (a : Arrival) (before d : Device) : KeepsLocks d (settleArrival a before d) := by
  unfold settleArrival
  extract_lets q cls mine hdr data
  split
  · exact keepsLocks_refl d
  · exact freeIngress_keepsLocks a.port cls q a.tlp hdr data d

theorem takeDelivered_keepsLocks (a : Arrival) (d : Device) : KeepsLocks d (takeDelivered a d) := by
  unfold takeDelivered
  split
  · exact keepsLocks_refl d
  · split <;> exact keepsLocks_refl d

theorem takeArrival_keepsLocks {look : Arrival → Device → Device} {a : Arrival} (hlook : ∀ d, KeepsLocks d (look a d)) (d : Device) :
    KeepsLocks d (takeArrival look a d) := by
  unfold takeArrival
  extract_lets d₁
  have h₁ : KeepsLocks d d₁ := takeDelivered_keepsLocks a d
  split
  · exact keepsLocks_trans (keepsLocks_trans h₁ (hlook d₁)) (settleArrival_keepsLocks a d₁ (look a d₁))
  · split
    · exact keepsLocks_refl d
    · split
      · exact keepsLocks_trans h₁ (settleArrival_keepsLocks a d₁ d₁)
      · exact keepsLocks_refl d

end Sys2Proof.Machine
end

section
/-! Locks of DSPs (R69, R70, Table 3.4): the accepted MRdLk, its completion, the Unlock message. -/

namespace Sys2Proof.Machine

/-- What a row gives is judged on the device it ends with: the interrupt outputs add only what waits to be issued, pending
bits and ALERT_N (R381, R407). -/
theorem done_gives_framed {i : Instr} {s : State} {d d' : Device} {P : Device → Prop} (hx : exec i s = done s d) (hd : d = d')
    (h : ∀ o m l, P { d' with issued := o, msix := m, glb := { d'.glb with alertLow := l } }) : Gives i s P := by
  obtain ⟨o, m, l, hn⟩ := notify_frame s.dev d
  exact done_gives hx (by rw [hn, hd]; exact h o m l)

/-! ## From MRdLk to Unlock -/

/-- R69: an MRdLk that waits in its VOQ in no other's way locks its unlocked DSP, and is the crossbar's. -/
theorem mrdlkAccept_queued {a : Arrival} {i : Item} {d : Device} (hq : queuedLock a d = some i) (hi : d.items = [i])
    (hl : lockedPort i.part d = none) (he : d.xbr.enabled = true) (hu : unhindered i d = true) (hw : withheld i d d = false)
    (hp : (d.port i.egress).personality = .dsp) (hs : (d.lockOf i.egress).state = .unlocked) :
    mrdlkAccept a d = { d.setLock i.egress { d.lockOf i.egress with
        state := .pending, owner := a.port, since := d.now, timeoutMs := d.xbr.lockTimeoutMs } with
      items := [{ i with stage := if (checkSegment i d).isSome then .entry else .crossing }] } := by
  have hstage : i.stage = .voq := by
    simp only [unhindered, Bool.and_eq_true, decide_eq_true_eq] at hu
    obtain ⟨⟨⟨⟨hvoq, -⟩, -⟩, -⟩, -⟩ := hu
    exact hvoq
  have hbehind (l : PortLock) : behindHeld i (d.setLock i.egress l) = false := by
    simp [behindHeld, hi, hstage]
  have hcheck (l : PortLock) : checkSegment i (d.setLock i.egress l) = checkSegment i d := rfl
  simp [mrdlkAccept, hq, hl, he, hu, hw, hp, hs, hbehind, hcheck, putItem, hi]

/-- Table 3.4: the data of a locked read locks its DSP from PENDING on. -/
theorem lockedCompletion_pending {a : Arrival} {d : Device} (hk : a.tlp.kind = .lockedCpl)
    (hl : (d.lockOf a.port).state = .pending) (hs : a.tlp.status = .sc) (hlen : a.tlp.len ≠ 0) :
    ∃ e, KeepsLocks d e ∧
      lockedCompletion a d = e.setLock a.port { d.lockOf a.port with state := .locked, since := d.now } := by
  have hkeeps : KeepsLocks d (takeArrival completionArrival a d) :=
    takeArrival_keepsLocks (completionArrival_keepsLocks fun _ => by rw [hk]; rfl) d
  have ⟨hlocks, _, hnow⟩ := hkeeps
  have hlock : (takeArrival completionArrival a d).lockOf a.port = d.lockOf a.port := by rw [Device.lockOf, hlocks]; rfl
  refine ⟨_, hkeeps, ?_⟩
  simp [lockedCompletion, hlock, hl, hs, hlen, hnow]

theorem lockOf_unlockPort (n m : Nat) (d : Device) : (unlockPort n d).lockOf m =
    if m = n then { d.lockOf n with state := .unlocked, owner := 0 } else d.lockOf m := by
  split
  · rename_i h; subst h; exact lockOf_setLock d m _
  · rename_i h; exact tget_tset_other lockReset d.locks _ h

/-- A lock after the Unlock message (R70): a LOCKED one has ended. -/
def freedLock (l : PortLock) : PortLock := if l.state = .locked then { l with state := .unlocked, owner := 0 } else l

theorem freedLock_freedLock (l : PortLock) : freedLock (freedLock l) = freedLock l := by
  by_cases h : l.state = .locked <;> simp [freedLock, h]

/-- The Unlock message at one port. -/
def unlockLocked (d : Device) (n : Nat) : Device := if (d.lockOf n).state = .locked then unlockPort n d else d

theorem unlockLocked_frame (d : Device) (n : Nat) : ∃ l, unlockLocked d n = { d with locks := l } := by
  unfold unlockLocked
  split
  · exact ⟨_, rfl⟩
  · exact ⟨d.locks, rfl⟩

theorem lockOf_unlockLocked (d : Device) (n m : Nat) :
    (unlockLocked d n).lockOf m = if m = n then freedLock (d.lockOf m) else d.lockOf m := by
  unfold unlockLocked freedLock
  by_cases hm : m = n
  · subst hm
    split <;> simp [lockOf_unlockPort]
  · split <;> simp [lockOf_unlockPort, hm]

theorem unlockAll_frame (l : List Nat) (d : Device) : ∃ x, l.foldl unlockLocked d = { d with locks := x } := by
  induction l generalizing d with
  | nil => exact ⟨d.locks, rfl⟩
  | cons n l ih =>
    obtain ⟨x, hx⟩ := unlockLocked_frame d n
    obtain ⟨y, hy⟩ := ih (unlockLocked d n)
    exact ⟨y, by rw [List.foldl_cons, hy, hx]⟩

theorem lockOf_unlockAll (l : List Nat) (d : Device) (m : Nat) :
    (l.foldl unlockLocked d).lockOf m = if m ∈ l then freedLock (d.lockOf m) else d.lockOf m := by
  induction l generalizing d with
  | nil => simp
  | cons n l ih =>
    rw [List.foldl_cons, ih, lockOf_unlockLocked]
    by_cases hn : m = n
    · simp [hn, freedLock_freedLock]
    · simp [hn]

/-! ## Items toward a DSP -/

theorem settleArrival_frame (a : Arrival) (before d : Device) :
    ∃ k p, settleArrival a before d = { d with plk := k, pcie := p } ∧ ∀ m, m ≠ a.port → tget pcieReset p m = d.pci m := by
  unfold settleArrival
  extract_lets q cls mine hdr data
  split
  · exact ⟨d.plk, d.pcie, rfl, fun _ _ => rfl⟩
  · exact freeIngress_frame a.port cls q a.tlp hdr data d

theorem takeSlot_frame (i : Item) (own : Bool) (d : Device) :
    ∃ x y, takeSlot i own d = { i with slot := x, sharedSlot := y } := by
  unfold takeSlot
  split
  · exact ⟨i.slot, i.sharedSlot, rfl⟩
  · split
    · exact ⟨true, i.sharedSlot, rfl⟩
    · split
      · exact ⟨i.slot, true, rfl⟩
      · exact ⟨i.slot, i.sharedSlot, rfl⟩

theorem portAbsent_present {n : Nat} (i : Item) {d : Device} (hp : (d.port n).personality = .dsp) (hdpc : (d.pci n).dpc = false)
    (hup : linkUp n d = true) : portAbsent i n d = none := by
  simp [portAbsent, hp, hdpc, hup]

/-- An item enters its VOQ toward a DSP that is there. -/
theorem follow_port {n : Nat} (i : Item) (own : Bool) {d : Device} (hp : (d.port n).personality = .dsp)
    (hdpc : (d.pci n).dpc = false) (hup : linkUp n d = true) : ∃ x y, follow i own (.port n) d =
      enterVoq { i with egress := n, stored := !cutsThrough i.ingress n d, slot := x, sharedSlot := y } d := by
  obtain ⟨x, y, h⟩ := takeSlot_frame { i with egress := n, stored := !cutsThrough i.ingress n d } own d
  exact ⟨x, y, by simp [follow, portAbsent_present, hp, hdpc, hup, h]⟩

theorem mem_broadcastPorts {p n : Nat} {d : Device} : n ∈ broadcastPorts p d ↔
    n < 96 ∧ (d.port n).personality = .dsp ∧ (d.port n).holder = p ∧ linkUp n d = true := by
  simp [broadcastPorts, and_assoc]

theorem mem_broadcastRoutes {p n : Nat} {d : Device} : Route.port n ∈ broadcastRoutes p d ↔ n ∈ broadcastPorts p d := by
  simp [broadcastRoutes]

theorem broadcast_single {i : Item} {n : Nat} {d : Device} (h : broadcastRoutes i.part d = [.port n]) :
    broadcast i d = follow { i with id := d.nextId } true (.port n) d := by
  simp [broadcast, h]

theorem linkUp_dsp {n : Nat} {d : Device} (h : (d.port n).personality = .dsp) : linkUp n d = lstateUp (d.pci n).lstate := by
  simp [linkUp, h]

/-- R70, R88: the Unlock message of a USP enters the VOQ of the one DSP below it, which is unlocked. -/
theorem unlockMessage_single {a : Arrival} {n : Nat} {d : Device} (husp : (d.port a.port).personality = .usp)
    (hrma : a.rma = none) (hr : broadcastRoutes (d.port a.port).holder d = [.port n]) (hdpc : (d.pci n).dpc = false) :
    ∃ j f k c l p b x, unlockMessage a d = { d with
      items := d.items ++ [j], nextId := d.nextId + 1, freeCount := f, counters := k, cnt := c, plk := l, pcie := p, bufs := b,
      locks := x } ∧
      (j.id = d.nextId ∧ j.egress = n ∧ j.cls = 0 ∧ j.tlp = { a.tlp with kind := .msgBroadcast } ∧ j.stage = .voq) ∧
      tget lockReset x n = freedLock (d.lockOf n) := by
  have hmem : n ∈ broadcastPorts (d.port a.port).holder d := mem_broadcastRoutes.mp (by rw [hr]; exact List.mem_singleton_self _)
  obtain ⟨hn, hdsp, hholder, hup⟩ := mem_broadcastPorts.mp hmem
  have hne : n ≠ a.port := by rintro rfl; rw [hdsp] at husp; exact absurd husp (by decide)
  let m : Arrival := { a with tlp := { a.tlp with kind := .msgBroadcast } }
  let i : Item := { bornItem m (d.port a.port).holder d with queue := queueOf m d }
  obtain ⟨x, y, hfollow⟩ := follow_port { i with id := d.nextId } true hdsp hdpc hup
  let j : Item := { i with id := d.nextId, egress := n, stored := !cutsThrough i.ingress n d, slot := x, sharedSlot := y }
  obtain ⟨f, k, c, l, p, b, henter, hpci⟩ := enterVoq_frame j d
  obtain ⟨l', p', hsettle, hpci'⟩ := settleArrival_frame m d (broadcast i d)
  rw [broadcast_single hr, hfollow.trans henter] at hsettle hpci'
  let e : Device := { d with
    items := d.items ++ [j], nextId := d.nextId + 1, freeCount := f, counters := k, cnt := c, plk := l', pcie := p', bufs := b }
  have hpcin : e.pci n = d.pci n := (hpci' n hne).trans (hpci n hne)
  have hreached : n ∈ broadcastPorts (d.port a.port).holder e :=
    mem_broadcastPorts.mpr ⟨hn, hdsp, hholder, by rw [linkUp_dsp hdsp] at hup; rw [linkUp_dsp (d := e) hdsp, hpcin, hup]⟩
  obtain ⟨z, hz⟩ := unlockAll_frame (broadcastPorts (d.port a.port).holder e) e
  have hrun : unlockMessage a d = (broadcastPorts (d.port a.port).holder e).foldl unlockLocked e := by
    have hbroadcast : broadcast i d = _ := (broadcast_single hr).trans (hfollow.trans henter)
    show (broadcastPorts (d.port a.port).holder (settleArrival m d (broadcast i d))).foldl unlockLocked
      (settleArrival m d (broadcast i d)) = _
    rw [hbroadcast, hsettle]
  refine ⟨j, f, k, c, l', p', b, z, hrun.trans hz, ⟨rfl, rfl, ?_, rfl, rfl⟩, ?_⟩
  · show arrivalClass m = 0
    rw [arrivalClass, show m.rma = none from hrma]; rfl
  · have hlock := lockOf_unlockAll (broadcastPorts (d.port a.port).holder e) e n
    rw [if_pos hreached, hz] at hlock
    exact hlock

end Sys2Proof.Machine
end

section
/-! The tally audit (R73, R74, R76). -/

namespace Sys2Proof.Machine

/-- What the audit knows of a cell that it has found (R74). -/
def leakOf (l : LeakSeen) (d : Device) : LostCell :=
  { panel := l.panel, record := { cell := l.cell, port := l.port, queue := l.queue, cls := l.cls }, allocatedAt := d.now - l.ageNs }

theorem findLeaks_single {l : LeakSeen} {d : Device} (h : d.xbr.lost = []) :
    findLeaks [l] d = { d with xbr := { d.xbr with lost := [leakOf l d] } } := by
  simp [findLeaks, leakOf, h]

/-- R74: a pass that finds nothing to reclaim. -/
theorem recordReclaims_none {d : Device} (h : d.xbr.lost = []) : recordReclaims d = { d with xbr := { d.xbr with
    passes := d.xbr.passes + 1, reclaimedLast := 0, panelLast := 0, reclaimedTotal := satAdd 0xFFFFFFFF d.xbr.reclaimedTotal 0 } } := by
  simp [recordReclaims, leaked, h]

/-- The audit's registers after the reclaim of one cell of the output buffer, the first to be captured (R74, R76). -/
def reclaimedPass (c : LostCell) (d : Device) : Xbr :=
  { d.xbr with passes := d.xbr.passes + 1, lost := [], reclaimedLast := 1, panelLast := 0,
               reclaimedTotal := satAdd 0xFFFFFFFF d.xbr.reclaimedTotal 1, first := c.record, firstTime := d.devTime,
               intStatus := d.xbr.intStatus ||| 1 }

theorem recordReclaims_single {c : LostCell} {d : Device} (h : d.xbr.lost = [c]) (hp : c.panel = none)
    (hage : c.allocatedAt + d.xbr.passMaxresMs * msNs < d.now) (hfree : d.xbr.intStatus.getLsbD 0 = false) :
    recordReclaims d = countGlobal 0x101 0x3F 1 { d with xbr := reclaimedPass c d } := by
  have hleaked : leaked d = [c] := by simp [leaked, h, hage]
  have hbit : d.xbr.intStatus[0] = false := by simpa using hfree
  simp [recordReclaims, reclaimedPass, hleaked, h, hp, hbit]

theorem blackBoxRecord_deviceFault (k o c : Nat) (l : List Nat) (d : Device) :
    (blackBoxRecord k o c l d).can.deviceFault = d.can.deviceFault := by
  unfold blackBoxRecord
  simp only
  split <;> rfl

theorem setGrade_deviceFault (g i : Nat) (d : Device) : (setGrade g i d).can.deviceFault = d.can.deviceFault := by
  unfold setGrade
  simp only
  split
  · rfl
  · exact blackBoxRecord_deviceFault 1 0 i [] _

/-- R444: a device-level error concerns the canary and the black box. -/
theorem deviceFault_frame (code : Nat) (d : Device) :
    ∃ x b, deviceFault code d = { d with can := x, blackBox := b } ∧ x.deviceFault = true := by
  unfold deviceFault
  extract_lets _ d₁
  obtain ⟨x, b, h⟩ := setGrade_frame 3 9 { d with can := { d.can with fault := true, deviceFault := true } }
  obtain ⟨y, c, hy⟩ := blackBoxRecord_frame 2 0 code [] d₁
  have hfault : y.deviceFault = true := by
    have := (blackBoxRecord_deviceFault 2 0 code [] d₁).trans (setGrade_deviceFault 3 9 _)
    rwa [hy] at this
  refine ⟨{ y with intStatus := y.intStatus ||| 0x08 }, c, ?_, hfault⟩
  rw [canRaise, hy, show d₁ = _ from h]

/-- The audit's registers after a pass that found nothing lost (R73, R76). -/
def endedPass (x : Xbr) : Xbr :=
  { x with passes := x.passes + 1, running := false, mismatch := false, rerun := false, reclaimedLast := 0, panelLast := 0,
           reclaimedTotal := satAdd 0xFFFFFFFF x.reclaimedTotal 0 }

/-- After one whose cells do not add up (R73). -/
def failedPass (x : Xbr) : Xbr := { endedPass x with mismatch := true, intStatus := x.intStatus ||| 2 }

section
variable {d : Device} (hl : d.xbr.lost = []) (hd : d.xbr.passDue = false)
include hl hd

theorem tallyEnd_addsUp : tallyEnd [] true d = { d with xbr := endedPass d.xbr } := by
  simp [tallyEnd, findLeaks, recordReclaims_none hl, hd, endedPass]

omit hd in
/-- R73: where the cells do not add up a second pass runs at once. -/
theorem tallyEnd_runsAgain (hr : d.xbr.rerun = false) :
    tallyEnd [] false d = { d with xbr := { failedPass d.xbr with running := true, rerun := true } } := by
  simp [tallyEnd, findLeaks, recordReclaims_none hl, hr, failedPass, endedPass]

/-- R73: where the second pass does not add up either, a device-level error is raised. -/
theorem tallyEnd_fails (hr : d.xbr.rerun = true) : ∃ x b,
    tallyEnd [] false d = { d with xbr := failedPass d.xbr, can := x, blackBox := b } ∧ x.deviceFault = true := by
  let e : Device := countStructEcc { d with xbr := failedPass d.xbr }
  obtain ⟨x, b, hf, hx⟩ := deviceFault_frame 0 e
  have hpass : tallyEnd [] false d = if (deviceFault 0 e).xbr.passDue = true then
      startPass { deviceFault 0 e with xbr := { (deviceFault 0 e).xbr with passDue := false } } else deviceFault 0 e := by
    simp only [tallyEnd, findLeaks, List.foldl_nil, recordReclaims_none hl, hr]
    rfl
  have hdue : (deviceFault 0 e).xbr.passDue = false := by rw [hf]; exact hd
  refine ⟨x, b, ?_, hx⟩
  rw [hpass, hdue, if_neg Bool.false_ne_true, hf]
  rfl

end

/-- R74, R76: a pass that finds one cell lost for longer than MAXRES reclaims it. -/
theorem tallyEnd_reclaims {l : LeakSeen} {d : Device} (hl : d.xbr.lost = []) (hd : d.xbr.passDue = false) (hage : l.ageNs ≤ d.now)
    (hlong : d.xbr.passMaxresMs * msNs < l.ageNs) (hp : l.panel = none) (hfree : d.xbr.intStatus.getLsbD 0 = false) :
    ∃ k c, tallyEnd [l] true d = { d with
      xbr := { reclaimedPass (leakOf l d) d with running := false, mismatch := false, rerun := false }, counters := k, cnt := c } := by
  have hrun := recordReclaims_single (c := leakOf l d) (d := { d with xbr := { d.xbr with lost := [leakOf l d] } }) rfl hp
    (show d.now - l.ageNs + d.xbr.passMaxresMs * msNs < d.now by omega) hfree
  obtain ⟨k, c, hk⟩ := countGlobal_frame 0x101 0x3F 1 { d with xbr := reclaimedPass (leakOf l d) d }
  have hpass : recordReclaims (findLeaks [l] d) = { d with xbr := reclaimedPass (leakOf l d) d, counters := k, cnt := c } := by
    rw [findLeaks_single hl]
    exact hrun.trans hk
  exact ⟨k, c, by simp [tallyEnd, hpass, reclaimedPass, hd]⟩

end Sys2Proof.Machine
end

section
/-! The matcher (R56 to R60): one iteration, an item alone in it, and a cell time. -/

namespace Sys2Proof.Machine

/-! ## One iteration of the matcher (R56, R57) -/

/-- Attachments that have capacity left. -/
def withRoom (l : List (Nat × Nat)) : List Nat := (l.filter fun e => decide (0 < e.2)).map (·.1)

section
variable (start : Device) (s : Device × List (Nat × Nat) × List (Nat × Nat))

/-- Input attachment u asks output attachment v. -/
def asksFor (u v : Nat) : Bool :=
  !throttled (portOfUnit u s.1) (portOfUnit v s.1) s.1 && !shaftHolds false (portOfUnit u s.1) s.1 &&
    !shaftHolds true (portOfUnit v s.1) s.1 && (presents (portOfUnit u s.1) (portOfUnit v s.1) start s.1).isSome

/-- What the outputs grant, and what the inputs accept of it. -/
def matchGrants : List (Nat × Nat) := ((withRoom s.2.2).map fun v =>
  ((cyclic (s.1.buf v).grantPtr ((withRoom s.2.1).filter fun u => asksFor start s u v)).take (capOf s.2.2 v)).map fun u => (u, v)).flatten
def matchAccepts : List (Nat × Nat) := ((withRoom s.2.1).map fun u =>
  ((cyclic (s.1.buf u).acceptPtr (((matchGrants start s).filter fun g => decide (g.1 = u)).map (·.2))).take (capOf s.2.1 u)).map
    fun v => (u, v)).flatten

/-- The device after a match moved item i across attachments of ports n and o. -/
def servedItem (n o : Nat) (i : Item) (d : Device) : Device :=
  { matchItem start i d with xbr := { (matchItem start i d).xbr with
      voqLast := tset 0 (matchItem start i d).xbr.voqLast (n * 128 + o) ((voqOf i + 1) % 24) } }

/-- One accepted match is served. -/
def serve (r : (Device × List (Nat × Nat) × List (Nat × Nat)) × List (Nat × Nat)) (g : Nat × Nat) :
    (Device × List (Nat × Nat) × List (Nat × Nat)) × List (Nat × Nat) :=
  match presents (portOfUnit g.1 r.1.1) (portOfUnit g.2 r.1.1) start r.1.1 with
  | none => r
  | some i => ((servedItem start (portOfUnit g.1 r.1.1) (portOfUnit g.2 r.1.1) i r.1.1, useCap r.1.2.1 g.1, useCap r.1.2.2 g.2), g :: r.2)

/-- What the accepted matches of an iteration make of its state. -/
def afterMatches : (Device × List (Nat × Nat) × List (Nat × Nat)) × List (Nat × Nat) :=
  (matchAccepts start s).foldl (serve start) (s, [])

theorem iteration_later : iteration false start s = (afterMatches start s).1 := rfl

/-- The pointers of an output and of an input move past the last of the matches `gs`, from where they were in `old`. -/
def moveGrantPtr (old : Device) (gs : List (Nat × Nat)) (d : Device) (v : Nat) : Device :=
  match lastRound (old.buf v).grantPtr ((gs.filter fun g => decide (g.2 = v)).map (·.1)) with
  | some u => d.setBuf v { d.buf v with grantPtr := (u + 1) % 101 }
  | none => d
def moveAcceptPtr (old : Device) (gs : List (Nat × Nat)) (d : Device) (u : Nat) : Device :=
  match lastRound (old.buf u).acceptPtr ((gs.filter fun g => decide (g.1 = u)).map (·.2)) with
  | some v => d.setBuf u { d.buf u with acceptPtr := (v + 1) % 101 }
  | none => d

theorem moveGrantPtr_frame (old : Device) (gs : List (Nat × Nat)) (d : Device) (v : Nat) :
    ∃ b, moveGrantPtr old gs d v = { d with bufs := b } := by
  unfold moveGrantPtr
  split
  · exact ⟨_, rfl⟩
  · exact ⟨d.bufs, rfl⟩

theorem moveAcceptPtr_frame (old : Device) (gs : List (Nat × Nat)) (d : Device) (u : Nat) :
    ∃ b, moveAcceptPtr old gs d u = { d with bufs := b } := by
  unfold moveAcceptPtr
  split
  · exact ⟨_, rfl⟩
  · exact ⟨d.bufs, rfl⟩

theorem foldl_bufs {f : Device → Nat → Device} (hf : ∀ d v, ∃ b, f d v = { d with bufs := b }) (l : List Nat) (d : Device) :
    ∃ b, l.foldl f d = { d with bufs := b } := by
  induction l generalizing d with
  | nil => exact ⟨d.bufs, rfl⟩
  | cons v l ih =>
    obtain ⟨b, hb⟩ := hf d v
    obtain ⟨c, hc⟩ := ih (f d v)
    exact ⟨c, by rw [List.foldl_cons, hc, hb]⟩

/-- In the first iteration the pointers move too. -/
theorem iteration_first : ∃ b,
    iteration true start s = ({ (afterMatches start s).1.1 with bufs := b }, (afterMatches start s).1.2) := by
  obtain ⟨b, hb⟩ := foldl_bufs (moveGrantPtr_frame s.1 (afterMatches start s).2) (withRoom s.2.2) (afterMatches start s).1.1
  obtain ⟨c, hc⟩ := foldl_bufs (moveAcceptPtr_frame s.1 (afterMatches start s).2) (withRoom s.2.1)
    ((withRoom s.2.2).foldl (moveGrantPtr s.1 (afterMatches start s).2) (afterMatches start s).1.1)
  have hrun : iteration true start s = ((withRoom s.2.1).foldl (moveAcceptPtr s.1 (afterMatches start s).2)
      ((withRoom s.2.2).foldl (moveGrantPtr s.1 (afterMatches start s).2) (afterMatches start s).1.1), (afterMatches start s).1.2) := rfl
  exact ⟨c, by rw [hrun, hc, hb]⟩

/-- Without an input that has capacity left nothing is matched. -/
theorem iteration_exhausted (h : withRoom s.2.1 = []) : iteration false start s = s := by
  rw [iteration_later, afterMatches, matchAccepts, h]
  rfl

theorem iteration_empty (first : Bool) (d : Device) : iteration first start (d, [], []) = (d, [], []) := by
  cases first <;> rfl

end

/-! ## An item alone -/

theorem mem_cyclic {k x : Nat} {l : List Nat} (h : x ∈ cyclic k l) : x ∈ l := by
  obtain ⟨j, -, hj⟩ := List.mem_filterMap.mp h
  exact List.mem_of_find?_eq_some hj

theorem cyclic_ne_nil {k x : Nat} {l : List Nat} (hx : x ∈ l) (h : x < 101) : cyclic k l ≠ [] := by
  have hfind : ∃ y, l.find? (fun y => y = (k + (x + 101 - k % 101) % 101) % 101) = some y := by
    rw [← Option.isSome_iff_exists, List.find?_isSome]
    exact ⟨x, hx, decide_eq_true (by omega)⟩
  obtain ⟨y, hy⟩ := hfind
  exact List.ne_nil_of_mem (List.mem_filterMap.mpr ⟨(x + 101 - k % 101) % 101, List.mem_range.mpr (Nat.mod_lt _ (by decide)), hy⟩)

/-- Going round begins at one of them. -/
theorem cyclic_eq_cons {k x : Nat} {l : List Nat} (hx : x ∈ l) (h : x < 101) : ∃ y ∈ l, ∃ t, cyclic k l = y :: t := by
  cases hc : cyclic k l with
  | nil => exact absurd hc (cyclic_ne_nil hx h)
  | cons y t => exact ⟨y, mem_cyclic (by rw [hc]; exact List.mem_cons_self), t, rfl⟩

theorem foldl_pick_mem {α : Type} (p : α → α → Bool) (l : List α) (a : α) :
    l.foldl (fun a b => if p a b then b else a) a ∈ a :: l := by
  induction l generalizing a with
  | nil => exact List.mem_singleton_self a
  | cons b l ih =>
    rw [List.foldl_cons]
    split
    · exact List.mem_cons_of_mem a (ih b)
    · rcases List.mem_cons.mp (ih a) with h | h
      · rw [h]; exact List.mem_cons_self
      · exact List.mem_cons_of_mem a (List.mem_cons_of_mem b h)

/-- What an input presents is an item of the device. -/
theorem voqHead_mem {n o v : Nat} {d : Device} {j : Item} (h : voqHead n o v d = some j) : j ∈ d.items := by
  unfold voqHead at h
  simp only at h
  split at h
  · rename_i i rest hf
    cases h
    have hpick := foldl_pick_mem (fun a b : Item => unmoved a && unmoved b && decide (b.order < a.order)) rest i
    rw [← hf] at hpick
    exact List.mem_of_mem_filter (List.mem_of_mem_filter hpick)
  · split at h
    · cases h
    · exact List.mem_of_mem_filter (List.mem_of_find?_eq_some h)

theorem eligible_mem {n o v : Nat} {start d : Device} {j : Item} (h : eligible n o v start d = some j) : j ∈ d.items := by
  unfold eligible at h
  split at h
  · cases h
  · rename_i x hx
    split at h
    · cases h; exact voqHead_mem hx
    · cases h

theorem presents_mem {n o : Nat} {start d : Device} {j : Item} (h : presents n o start d = some j) : j ∈ d.items := by
  unfold presents at h
  split at h
  · rename_i x hx
    cases h
    obtain ⟨q, -, hq⟩ := List.exists_of_findSome?_eq_some hx
    exact eligible_mem hq
  · obtain ⟨k, -, hk⟩ := List.exists_of_findSome?_eq_some h
    simp only at hk
    split at hk
    · cases hk
    · exact eligible_mem hk

/-- A VOQ that is eligible makes its input present something toward its output. -/
theorem presents_of_eligible {n o q cls : Nat} {start d : Device} (hq : q < 8) (hcls : cls < 3)
    (h : (eligible n o (q * 3 + cls) start d).isSome) : (presents n o start d).isSome := by
  unfold presents
  split
  · rfl
  · rename_i hnone
    rw [List.findSome?_eq_none_iff] at hnone
    by_cases h2 : cls = 2
    · rw [show q * 3 + cls = 3 * q + 2 by omega, hnone q (List.mem_range.mpr hq)] at h
      cases h
    · extract_lets last
      refine List.findSome?_isSome_iff.mpr ⟨(q * 3 + cls + 24 - last % 24) % 24, List.mem_range.mpr (Nat.mod_lt _ (by decide)), ?_⟩
      have hv : (last + (q * 3 + cls + 24 - last % 24) % 24) % 24 = q * 3 + cls := by omega
      rw [hv, if_neg (by omega)]
      exact h

/-- An item alone, part of which has crossed, is presented while its output does not withhold its grant. -/
theorem presents_crossing {i : Item} {d : Device} (hi : d.items = [i]) (hc : crossingNow i = true) (hw : withheld i d d = false)
    (hq : i.queue < 8) (hcls : i.cls < 3) : presents i.ingress i.egress d d = some i := by
  have hhead : voqHead i.ingress i.egress (voqOf i) d = some i := by simp [voqHead, hi, hc]
  have helig : eligible i.ingress i.egress (voqOf i) d d = some i := by simp [eligible, hhead, hc, hw]
  obtain ⟨j, hj⟩ := Option.isSome_iff_exists.mp
    (presents_of_eligible hq hcls (show (eligible i.ingress i.egress (voqOf i) d d).isSome by rw [helig]; rfl))
  have hmem := presents_mem hj
  rw [hi, List.mem_singleton] at hmem
  rw [hj, hmem]

/-! ## What moving a cell can change -/

/-- One of the cells of an item that waits in ingress memory enters the output buffer, be it in the pool or in the reserve. -/
theorem admitCell_frame (start : Device) (i : Item) (d : Device) (hh : i.holdCells = 0) (hin : 1 ≤ i.inCells) :
    ∃ j n f k x l p, admitCell start i d =
        { putItem j d with nextId := n, freeCount := f, counters := k, cnt := x, plk := l, pcie := p } ∧
      j.id = i.id ∧ j.inCells + 1 = i.inCells ∧ j.poolCells + j.rsvCells = i.poolCells + i.rsvCells + 1 := by
  have hfrom : decide (0 < i.holdCells) = false := by simp [hh]
  unfold admitCell
  extract_lets occ pool first fromHold left st cr j d₁ d₂ d₃ d₄ below d₅
  obtain ⟨l, p, hleave⟩ : ∃ l p, d₃ = { d₂ with plk := l, pcie := p } := by
    unfold d₃
    split
    · exact ⟨d₂.plk, d₂.pcie, rfl⟩
    · exact leaveIngress_frame 1 i d₂
  have hcounts : CountsOnly d₃ (if pool then if below occ then d₅ else countPort 0x012 i.egress i.queue i.cls i.srcPart 1 d₅ else d₄) := by
    have h₄ : CountsOnly d₃ d₄ := by
      unfold d₄
      split
      · exact traceStage_counts i.id 5 d₃
      · exact countsOnly_refl d₃
    have h₅ : CountsOnly d₄ d₅ := by
      unfold d₅
      split
      · exact countPort_counts 0x011 i.egress i.queue i.cls i.srcPart 1 d₄
      · exact countsOnly_refl d₄
    split
    · split
      · exact countsOnly_trans h₄ h₅
      · exact countsOnly_trans (countsOnly_trans h₄ h₅) (countPort_counts 0x012 i.egress i.queue i.cls i.srcPart 1 d₅)
    · exact h₄
  obtain ⟨f, k, x, hrun⟩ := hcounts
  refine ⟨j, d₂.nextId, f, k, x, l, p, hrun.trans (by rw [hleave]), rfl, ?_, ?_⟩
  · show (if decide (0 < i.holdCells) then i.inCells else i.inCells - 1) + 1 = i.inCells
    rw [hfrom, if_neg Bool.false_ne_true]
    omega
  · show i.poolCells + natOfBool pool + (i.rsvCells + natOfBool (!pool)) = i.poolCells + i.rsvCells + 1
    cases pool <;> simp [natOfBool] <;> omega

/-! ## A cell time -/

/-- A match of an item alone moves one of its cells. -/
theorem servedItem_alone {start : Device} {n o : Nat} {i : Item} {d : Device} (hi : d.items = [i]) (hs : i.stage = .crossing)
    (hh : i.holdCells = 0) (hin : 1 ≤ i.inCells) : ∃ j m v f k x l p, servedItem start n o i d =
        { d with items := [j], nextId := m, xbr := { d.xbr with voqLast := v }, freeCount := f, counters := k, cnt := x, plk := l, pcie := p } ∧
      j.id = i.id ∧ j.inCells + 1 = i.inCells ∧ j.poolCells + j.rsvCells = i.poolCells + i.rsvCells + 1 := by
  obtain ⟨j, m, f, k, x, l, p, hcell, hj⟩ := admitCell_frame start i d hh hin
  have hput : putItem j d = { d with items := [j] } := by simp [putItem, hi, hj.1]
  have hmatch : matchItem start i d = admitCell start i d := by simp [matchItem, hs]
  exact ⟨j, m, _, f, k, x, l, p, by rw [servedItem, hmatch, hcell, hput], hj⟩

section
variable {start : Device} {u v : Nat} {d : Device} {outs : List (Nat × Nat)}

/-- A lone input is granted what it asks for, by an output with capacity. -/
theorem mem_matchGrants (hu : u < 101) (hv : v ∈ withRoom outs) (hcap : 0 < capOf outs v)
    (hasks : asksFor start (d, [(u, 1)], outs) u v = true) : (u, v) ∈ matchGrants start (d, [(u, 1)], outs) := by
  obtain ⟨y, hy, t, ht⟩ := cyclic_eq_cons (k := (d.buf v).grantPtr) (List.mem_singleton_self u) hu
  rw [List.mem_singleton] at hy
  refine List.mem_flatten.mpr ⟨_, List.mem_map.mpr ⟨v, hv, rfl⟩, List.mem_map.mpr ⟨u, ?_, rfl⟩⟩
  have hfilter : (withRoom [(u, 1)]).filter (fun w => asksFor start (d, [(u, 1)], outs) w v) = [u] := by
    simpa [withRoom] using hasks
  obtain ⟨c, hc⟩ := Nat.exists_eq_succ_of_ne_zero (Nat.pos_iff_ne_zero.mp hcap)
  show u ∈ (cyclic (d.buf v).grantPtr ((withRoom [(u, 1)]).filter fun w => asksFor start (d, [(u, 1)], outs) w v)).take (capOf outs v)
  rw [hfilter, ht, hy, hc, List.take_succ_cons]
  exact List.mem_cons_self

/-- What is granted has been asked for. -/
theorem asksFor_of_mem_matchGrants {s : Device × List (Nat × Nat) × List (Nat × Nat)} {g : Nat × Nat}
    (h : g ∈ matchGrants start s) : asksFor start s g.1 g.2 = true := by
  obtain ⟨l, hl, hg⟩ := List.mem_flatten.mp h
  obtain ⟨w, -, rfl⟩ := List.mem_map.mp hl
  obtain ⟨x, hx, rfl⟩ := List.mem_map.mp hg
  exact (List.mem_filter.mp (mem_cyclic (List.mem_of_mem_take hx))).2

/-- Of what one input with capacity for one cell is granted, it accepts one (R57). -/
theorem matchAccepts_single (hu : u < 101) (hvu : v < 101) (hv : v ∈ withRoom outs) (hcap : 0 < capOf outs v)
    (hasks : asksFor start (d, [(u, 1)], outs) u v = true) :
    ∃ w, matchAccepts start (d, [(u, 1)], outs) = [(u, w)] ∧ asksFor start (d, [(u, 1)], outs) u w = true := by
  let vs := ((matchGrants start (d, [(u, 1)], outs)).filter fun g => decide (g.1 = u)).map (·.2)
  have hmem : v ∈ vs := List.mem_map.mpr ⟨(u, v), List.mem_filter.mpr ⟨mem_matchGrants hu hv hcap hasks, by simp⟩, rfl⟩
  obtain ⟨w, hw, t, ht⟩ := cyclic_eq_cons (k := (d.buf u).acceptPtr) hmem hvu
  obtain ⟨g, hg, rfl⟩ := List.mem_map.mp hw
  obtain ⟨hgrant, hgu⟩ := List.mem_filter.mp hg
  have hask := asksFor_of_mem_matchGrants hgrant
  rw [of_decide_eq_true hgu] at hask
  refine ⟨g.2, ?_, hask⟩
  have hcap : capOf [(u, 1)] u = 1 := by simp [capOf]
  show (((cyclic (d.buf u).acceptPtr vs).take (capOf [(u, 1)] u)).map fun v => (u, v)) ++ [] = _
  rw [ht, hcap]
  rfl

end

/-- The iteration in which a lone input of one attachment asks moves a cell of its item. -/
theorem iteration_alone {i : Item} {d : Device} {u v : Nat} {outs : List (Nat × Nat)} (hi : d.items = [i]) (hs : i.stage = .crossing)
    (hh : i.holdCells = 0) (hin : 1 ≤ i.inCells) (hu : u < 101) (hvu : v < 101) (hv : v ∈ withRoom outs) (hcap : 0 < capOf outs v)
    (hasks : asksFor d (d, [(u, 1)], outs) u v = true) :
    ∃ j m b t f k x l p outs', iteration true d (d, [(u, 1)], outs) = ({ d with
        items := [j], nextId := m, bufs := b, xbr := { d.xbr with voqLast := t }, freeCount := f, counters := k, cnt := x, plk := l,
        pcie := p }, [(u, 0)], outs') ∧
      j.id = i.id ∧ j.inCells + 1 = i.inCells ∧ j.poolCells + j.rsvCells = i.poolCells + i.rsvCells + 1 := by
  obtain ⟨w, haccepts, hask⟩ := matchAccepts_single hu hvu hv hcap hasks
  obtain ⟨i', hpresent⟩ : ∃ i', presents (portOfUnit u d) (portOfUnit w d) d d = some i' := by
    simp only [asksFor, Bool.and_eq_true] at hask
    exact Option.isSome_iff_exists.mp hask.2
  obtain rfl : i' = i := by
    have hmem := presents_mem hpresent
    rwa [hi, List.mem_singleton] at hmem
  obtain ⟨j, m, t, f, k, x, l, p, hserved, hj⟩ :=
    servedItem_alone (start := d) (n := portOfUnit u d) (o := portOfUnit w d) hi hs hh hin
  have hafter : afterMatches d (d, [(u, 1)], outs) =
      ((servedItem d (portOfUnit u d) (portOfUnit w d) i' d, [(u, 0)], useCap outs w), [(u, w)]) := by
    rw [afterMatches, haccepts, List.foldl_cons, List.foldl_nil, serve]
    simp [hpresent, useCap]
  obtain ⟨b, hb⟩ := iteration_first d (d, [(u, 1)], outs)
  exact ⟨j, m, b, t, f, k, x, l, p, useCap outs w, by rw [hb, hafter, hserved], hj⟩

/-- Without an item a cell time passes. -/
theorem matcherCellTime_empty {d : Device} (he : d.xbr.enabled = true) (hi : d.items = []) :
    matcherCellTime false d = { d with xbr := { d.xbr with cellTime := d.xbr.cellTime + 1 } } := by
  have hslots : giveSlots d = d := by simp [giveSlots, hi]
  simp [matcherCellTime, he, hslots, hi, iteration_empty, activeVoqs]

theorem portOfUnit_self {n : Nat} {d : Device} (h : (d.port n).absorbedBy = none) : portOfUnit n d = n := by
  simp [portOfUnit, ownerOf, h]

theorem capOf_const {v c : Nat} {l : List Nat} (h : v ∈ l) : capOf (l.map fun x => (x, c)) v = c := by
  induction l with
  | nil => cases h
  | cons y l ih =>
    by_cases hy : y = v
    · simp [capOf, hy]
    · have hl := ih ((List.mem_cons.mp h).resolve_left (Ne.symm hy))
      simpa [capOf, hy] using hl

theorem self_mem_attachments (n : Nat) (d : Device) : n ∈ attachments n d := by
  unfold attachments mergeUnits
  split
  · exact List.mem_singleton_self n
  · refine List.mem_map.mpr ⟨0, List.mem_range.mpr ?_, rfl⟩
    unfold unitsOf
    split
    · decide
    · split <;> decide

/-- The attachments whose inputs and outputs take part in a cell time, with their capacities (R56). -/
def liveInputs (d : Device) : List (Nat × Nat) :=
  ((((d.items.filter fun i => decide (i.stage = .voq) || crossingNow i).map (·.ingress)).eraseDups).map fun n =>
    (attachments n d).map fun u => (u, 1)).flatten
def liveOutputs (d : Device) : List (Nat × Nat) :=
  ((((d.items.filter fun i => decide (i.stage = .voq) || crossingNow i).map (·.egress)).eraseDups).map fun n =>
    (attachments n d).map fun v => (v, 2)).flatten

/-- A cell time is three iterations, and counts. -/
theorem matcherCellTime_iterations {d : Device} (he : d.xbr.enabled = true) (hslots : giveSlots d = d) : ∃ e,
    CountsOnly (iteration false d (iteration false d (iteration true d (d, liveInputs d, liveOutputs d)))).1 e ∧
    matcherCellTime false d = { e with xbr := { e.xbr with cellTime := e.xbr.cellTime + 1 } } := by
  unfold matcherCellTime
  rw [if_neg Bool.false_ne_true, if_pos he, hslots]
  refine ⟨_, ?_, rfl⟩
  exact countsOnly_trans (foldl_counts (fun _ _ => countPort_counts _ _ _ _ _ _ _) _ _)
    (foldl_counts (fun _ _ => countPort_counts _ _ _ _ _ _ _) _ _)

/-- R56 to R60: an item alone, part of which has crossed, and which nothing holds back, moves a cell in a cell time. -/
theorem matcherCellTime_alone {i : Item} {d : Device} (he : d.xbr.enabled = true) (hi : d.items = [i]) (hs : i.stage = .crossing)
    (hin : 1 ≤ i.inCells) (hh : i.holdCells = 0) (hn : i.ingress < 96) (ho : i.egress < 96) (hq : i.queue < 8) (hcls : i.cls < 3)
    (hwidth : unitsOf (d.port i.ingress).width = 1) (hnu : (d.port i.ingress).absorbedBy = none)
    (hou : (d.port i.egress).absorbedBy = none) (hw : withheld i d d = false) (ht : throttled i.ingress i.egress d = false)
    (hsn : shaftHolds false i.ingress d = false) (hso : shaftHolds true i.egress d = false) :
    ∃ j m b t f k x l p, matcherCellTime false d = { d with
        items := [j], nextId := m, bufs := b, xbr := { d.xbr with voqLast := t, cellTime := d.xbr.cellTime + 1 }, freeCount := f,
        counters := k, cnt := x, plk := l, pcie := p } ∧
      j.id = i.id ∧ j.inCells + 1 = i.inCells ∧ j.poolCells + j.rsvCells = i.poolCells + i.rsvCells + 1 := by
  have hslots : giveSlots d = d := by simp [giveSlots, hi, hs]
  have hcross : crossingNow i = true := by simp [crossingNow, hs]; omega
  have hins : liveInputs d = [(i.ingress, 1)] := by
    simp [liveInputs, hi, hcross, List.eraseDups_cons, attachments, mergeUnits, hwidth, Nat.not_le.mpr hn]
  have houts : liveOutputs d = (attachments i.egress d).map fun v => (v, 2) := by simp [liveOutputs, hi, hcross, List.eraseDups_cons]
  have hmem := self_mem_attachments i.egress d
  have hroom : i.egress ∈ withRoom (liveOutputs d) :=
    List.mem_map.mpr ⟨(i.egress, 2), List.mem_filter.mpr ⟨by rw [houts]; exact List.mem_map.mpr ⟨_, hmem, rfl⟩, rfl⟩, rfl⟩
  have hcap : 0 < capOf (liveOutputs d) i.egress := by rw [houts, capOf_const hmem]; decide
  have hasks : asksFor d (d, [(i.ingress, 1)], liveOutputs d) i.ingress i.egress = true := by
    simp [asksFor, portOfUnit_self hnu, portOfUnit_self hou, ht, hsn, hso, presents_crossing hi hcross hw hq hcls]
  obtain ⟨j, m, b, t, f, k, x, l, p, outs, hfirst, hj⟩ :=
    iteration_alone hi hs hh hin (by omega) (by omega) hroom hcap hasks
  obtain ⟨e, ⟨f', k', x', he'⟩, hrun⟩ := matcherCellTime_iterations he hslots
  rw [hins, hfirst, iteration_exhausted d _ rfl, iteration_exhausted d _ rfl] at he'
  exact ⟨j, m, b, t, f', k', x', l, p, by rw [hrun, he'], hj⟩

end Sys2Proof.Machine
end

section
/-! Shared blocks (R54, R55), the ends of locks and passes, and the statement on cell times, locks and the tally audit. -/

namespace Sys2Proof.Machine

/-! ## Shared blocks (R54) -/

/-- The credit of a combination after the return of a block that it holds. -/
def returnedBlock (c : PflCredit) : PflCredit :=
  let cells := { c with sharedCells := c.sharedCells - 16, takeBack := c.takeBack + 16 }
  if 16 ≤ c.sharedHdr then { cells with sharedHdr := c.sharedHdr - 16, takeBackHdr := c.takeBackHdr + 16 } else cells

section
variable {n cls : Nat} {d : Device}

/-- A block that a PFL port used within the last 10 µs stays. -/
theorem sharedBlockReturn_pfl_early (hp : (d.port n).personality = .pfl) (hc : cls < 16) (hk : cls % 4 < 3)
    (ht : d.now < (creditOf (d.pfl n) (cls / 4) (cls % 4)).blockUsedAt + 10000) : sharedBlockReturn n cls d = d := by
  rw [sharedBlockReturn, if_pos ⟨hp, by omega, hk⟩]
  exact if_pos ht

/-- A PFL port gives back a block of 16 cells, and of 16 descriptors where it has one. -/
theorem sharedBlockReturn_pfl (hp : (d.port n).personality = .pfl) (hc : cls < 16) (hk : cls % 4 < 3)
    (ht : (creditOf (d.pfl n) (cls / 4) (cls % 4)).blockUsedAt + 10000 ≤ d.now)
    (hs : 16 ≤ (creditOf (d.pfl n) (cls / 4) (cls % 4)).sharedCells) : sharedBlockReturn n cls d =
      d.setPfl n (setCredit (d.pfl n) (cls / 4) (cls % 4) (returnedBlock (creditOf (d.pfl n) (cls / 4) (cls % 4)))) := by
  have hlate : ¬d.now < (creditOf (d.pfl n) (cls / 4) (cls % 4)).blockUsedAt + 10 * usNs := Nat.not_lt.mpr ht
  rw [sharedBlockReturn, if_pos ⟨hp, by omega, hk⟩]
  simp only [if_neg hlate, if_pos hs]
  rfl

theorem tryRaises_idle (h : d.kme.execs = []) : tryRaises d = d := by simp [tryRaises, h]

/-- A PCI Express port gives back a block that it does not need, and withholds what it backed. -/
theorem sharedBlockReturn_pcie (hp : (d.port n).personality ≠ .pfl) (hc : cls < 3) (hs : 16 ≤ sharedOf (d.buf n) cls)
    (hroom : ingressCells n cls d + 16 ≤ minOf (d.buf n) cls + sharedOf (d.buf n) cls) (ht : (d.buf n).sharedUsedAt + 10000 ≤ d.now)
    (he : d.kme.execs = []) : sharedBlockReturn n cls d =
      (d.setBuf n (withShared (d.buf n) cls (sharedOf (d.buf n) cls - 16))).setPci n
        { d.pci n with takeBack := addClass (d.pci n).takeBack cls (dataOf 16),
                       takeBackHdr := addClass (d.pci n).takeBackHdr cls (headersOf 16) } := by
  rw [sharedBlockReturn, if_neg fun h => hp h.1, if_pos hc]
  exact (if_pos ⟨hs, hroom, ht⟩).trans (tryRaises_idle he)

theorem sharedBlockReturn_pcie_early (hp : (d.port n).personality ≠ .pfl) (ht : d.now < (d.buf n).sharedUsedAt + 10000) :
    sharedBlockReturn n cls d = d := by
  rw [sharedBlockReturn, if_neg fun h => hp h.1]
  split
  · exact if_neg fun h => Nat.not_lt.mpr h.2.2 ht
  · rfl

end

/-! ## Time-outs and the start of a pass -/

theorem lockOf_timedOut (n : Nat) (l : PortLock) (d : Device) :
    (unlockPort n (sendUnlock (d.setLock n l) n)).lockOf n = { l with state := .unlocked, owner := 0 } := by
  have hset : (sendUnlock (d.setLock n l) n).lockOf n = l := lockOf_setLock d n l
  rw [lockOf_unlockPort, if_pos rfl, hset]

theorem startPass_idle {d : Device} (h : d.xbr.running = false) : startPass d = { d with xbr := { d.xbr with
    running := true, lastStart := some d.now, passAuditMs := d.xbr.auditMs, passMaxresMs := d.xbr.maxresMs } } := by
  simp [startPass, h]

theorem startPass_running {d : Device} (h : d.xbr.running = true) : startPass d = { d with xbr := { d.xbr with passDue := true } } := by
  simp [startPass, h]

/-- R73: the first pass is due 1 s after the buffer is enabled. -/
theorem tallyPassStart_first {s : State} (he : s.dev.xbr.enabled = true) (hn : s.dev.xbr.lastStart = none)
    (ht : s.dev.xbr.enabledAt + 10 ^ 9 ≤ s.dev.now) : exec .tallyPassStart s = done s (startPass s.dev) := by
  have hdue : s.dev.xbr.enabledAt + 1000 * msNs ≤ s.dev.now := by simpa [msNs] using ht
  show execTallyPassStart s = _
  simp [execTallyPassStart, he, hn, hdue]

/-- Settles O18: every row is traced to its operation, and the operation's own rule gives what it becomes. -/
theorem cellTimesLocksAndTally : Obligations.CellTimesLocksAndTally := by
  refine ⟨fun s n cls => ?_, fun s a i n => ?_⟩
  · intro d
    refine ⟨?still, ?empty, ?alone, ?parity, ?pfl, ?pcie, ?pcieEarly⟩
    case still => exact fun he => done_becomes rfl (by rw [matcherCellTime, if_neg Bool.false_ne_true, he, if_neg Bool.false_ne_true])
    case empty => exact fun he hi => done_becomes rfl (matcherCellTime_empty he hi)
    case alone =>
      intro i he hi hs hin hh hn ho hq hcls hwidth hnu hou hw ht hsn hso
      obtain ⟨j, m, b, t, f, k, x, l, p, hrun, hj⟩ :=
        matcherCellTime_alone he hi hs hin hh hn ho hq hcls hwidth hnu hou hw ht hsn hso
      exact done_gives_framed rfl hrun fun _ _ _ => ⟨rfl, rfl, j, rfl, hj⟩
    case parity => exact fun _ => done_becomes rfl rfl
    case pfl =>
      intro k hp hc hk
      refine ⟨fun ht hs hh => done_becomes rfl ?_, fun ht hs hh => done_becomes rfl ?_,
        fun ht => done_becomes rfl (sharedBlockReturn_pfl_early hp hc hk ht)⟩
      · exact (sharedBlockReturn_pfl hp hc hk ht hs).trans (by rw [returnedBlock, if_neg (Nat.not_le.mpr hh)])
      · exact (sharedBlockReturn_pfl hp hc hk ht hs).trans (by rw [returnedBlock, if_pos hh])
    case pcie => exact fun hp hc hs hroom ht he => done_becomes rfl (sharedBlockReturn_pcie hp hc hs hroom ht he)
    case pcieEarly => exact fun hp ht => done_becomes rfl (sharedBlockReturn_pcie_early hp ht)
  · intro d x
    refine ⟨?accept, ?noRead, ?completed, ?noCompletion, ?unlock, ?noUsp, ?timeout, ?noTimeout, ?passStart, ?disabled, ?passEnd, ?reclaim,
      ?noPass⟩
    case accept =>
      intro husp hk hq hi hl he hu hw _ hp hs
      exact done_becomes rfl ((if_pos ⟨husp, hk⟩).trans (mrdlkAccept_queued hq hi hl he hu hw hp hs))
    case noRead => exact fun hk => done_becomes rfl (if_neg fun h => hk h.2)
    case completed =>
      intro hdsp hk hl hsc hlen
      obtain ⟨e, ⟨-, hports, -⟩, hrun⟩ := lockedCompletion_pending hk hl hsc hlen
      exact done_gives_framed rfl ((if_pos ⟨hdsp, hk⟩).trans hrun) fun _ _ _ => 
        ⟨lockOf_setLock e a.port { d.lockOf a.port with state := .locked, since := d.now }, hports⟩
    case noCompletion => exact fun hk => done_becomes rfl (if_neg fun h => hk h.2)
    case unlock =>
      intro hport husp hrma hr hdpc
      obtain ⟨j, f, k, c, l, p, b, y, hrun, hj, hlock⟩ := unlockMessage_single husp hrma hr hdpc
      exact done_gives_framed rfl ((if_pos ⟨hport, husp⟩).trans hrun) fun _ _ _ =>
        ⟨rfl, rfl, hlock, j, List.mem_append_right d.items (List.mem_singleton_self j), hj⟩
    case noUsp => exact fun hp => done_becomes rfl (if_neg fun h => hp h.2)
    case timeout =>
      intro hl ht
      exact done_gives_framed rfl (if_pos ⟨hl, ht⟩) fun _ _ _ =>
        ⟨lockOf_timedOut n { d.lockOf n with timeouts := satAdd 0xFFFF (d.lockOf n).timeouts 1 } d, rfl, rfl⟩
    case noTimeout => exact fun hl => done_becomes rfl (if_neg fun h => hl h.1)
    case passStart =>
      intro he hnone ht
      have hrow : exec .tallyPassStart s = done s (startPass d) := tallyPassStart_first he hnone ht
      exact ⟨fun hr => done_becomes hrow (startPass_idle hr), fun hr => done_becomes hrow (startPass_running hr)⟩
    case disabled => exact fun he => done_becomes rfl (if_neg (by simp [x, he] ))
    case passEnd =>
      intro hrun hl hd
      have hend (ls : List LeakSeen) (ok : Bool) : exec (.tallyPassEnd ls ok) s = done s (tallyEnd ls ok d) :=
        congrArg (done s) (if_pos hrun)
      refine ⟨done_becomes (hend [] true) (tallyEnd_addsUp hl hd),
        fun hr => done_becomes (hend [] false) (tallyEnd_runsAgain hl hr), fun hr => ?_⟩
      obtain ⟨y, b, hfail, hfault⟩ := tallyEnd_fails hl hd hr
      exact done_gives_framed (hend [] false) hfail fun _ _ _ => ⟨hfault, rfl, rfl, rfl⟩
    case reclaim =>
      intro l hrun hl hd hage hlong hp hfree
      obtain ⟨k, c, hreclaim⟩ := tallyEnd_reclaims hl hd hage hlong hp hfree
      exact done_gives_framed rfl ((if_pos hrun).trans hreclaim) fun _ _ _ => ⟨rfl, rfl, rfl, rfl, rfl⟩
    case noPass => exact fun ls ok hrun => done_becomes rfl (if_neg (by simp [x, hrun]))

end Sys2Proof.Machine
end

section
/-! What a command's answer, and the fall of a port's link, leave of the device: stated as what is left when the rest is taken away. -/

namespace Sys2Proof.Machine

/-! ## Beside the answer of a command -/

/-- The device beside what answering a command (`AnswersOnly`) and the interrupt outputs of a step can change. -/
def Device.besideAnswer (d : Device) : Device :=
  { d with kme := Device.reset.kme, mbx := [], msix := [], out := [], adit := Device.reset.adit, issued := [], items := [], nextId := 0,
           counters := [], cnt := Device.reset.cnt, glb := { d.glb with alertLow := false } }

theorem AnswersOnly.besideAnswer {d d' : Device} (h : AnswersOnly d d') : d'.besideAnswer = d.besideAnswer := by
  obtain ⟨k, m, x, o, a, i, t, n, v, w, rfl⟩ := h
  rfl

section
variable {d t : Device} (h : t.besideAnswer = d.besideAnswer)
include h

theorem ports_of_besideAnswer : t.ports = d.ports := (congrArg Device.ports h :)
theorem segs_of_besideAnswer : t.segs = d.segs := (congrArg Device.segs h :)
theorem parts_of_besideAnswer : t.parts = d.parts := (congrArg Device.parts h :)
theorem bridges_of_besideAnswer : t.bridges = d.bridges := (congrArg Device.bridges h :)
theorem steers_of_besideAnswer : t.steers = d.steers := (congrArg Device.steers h :)
theorem pcie_of_besideAnswer : t.pcie = d.pcie := (congrArg Device.pcie h :)
theorem plk_of_besideAnswer : t.plk = d.plk := (congrArg Device.plk h :)

end

theorem notify_besideAnswer (old new : Device) : (notify old new).besideAnswer = new.besideAnswer := by
  obtain ⟨i, m, a, h⟩ := notify_frame old new
  rw [h]; rfl

theorem notify_kme (old new : Device) : (notify old new).kme = new.kme := by
  obtain ⟨i, m, a, h⟩ := notify_frame old new
  rw [h]

/-! ## Beside the fall of a link -/

/-- The device beside what the fall of a port's link, its reports and the restart of the link can change. -/
def Device.besideFall (d : Device) : Device :=
  { d.besideAnswer with tracks := [], journals := [], windows := [], ntw := Device.reset.ntw, qps := [], rma := Device.reset.rma, plk := [],
                        pcie := [], locks := [], lanes := [], fab := Device.reset.fab, can := Device.reset.can, blackBox := [],
                        bridges := [], funcs := [], parts := [] }

section
variable {d d' : Device} (h : d'.besideFall = d.besideFall)
include h

theorem ports_of_besideFall : d'.ports = d.ports := (congrArg Device.ports h :)
theorem segs_of_besideFall : d'.segs = d.segs := (congrArg Device.segs h :)
theorem spw_of_besideFall : d'.spw = d.spw := (congrArg Device.spw h :)

end

theorem AnswersOnly.besideFall {d d' : Device} (h : AnswersOnly d d') : d'.besideFall = d.besideFall := by
  rw [Device.besideFall, h.besideAnswer, Device.besideFall]

theorem foldl_besideFall {β : Type} {f : Device → β → Device} (h : ∀ d x, (f d x).besideFall = d.besideFall) (l : List β)
    (d : Device) : (l.foldl f d).besideFall = d.besideFall := by
  induction l generalizing d with
  | nil => rfl
  | cons x l ih => exact (ih (f d x)).trans (h d x)

theorem sendVector_besideFall (f : Fn) (v : Nat) (d : Device) : (sendVector f v d).besideFall = d.besideFall :=
  (sendVector_answers f v d).besideFall

theorem freeIngress_besideFall (n cls q : Nat) (t : Tlp) (hdr data : Nat) (d : Device) :
    (freeIngress n cls q t hdr data d).besideFall = d.besideFall := by
  obtain ⟨k, p, h, -⟩ := freeIngress_frame n cls q t hdr data d
  rw [h]; rfl

theorem removeItem_besideFall (id : Nat) (d : Device) : (removeItem id d).besideFall = d.besideFall := by
  unfold removeItem
  extract_lets d₁
  show d₁.besideFall = d.besideFall
  unfold d₁
  split
  · split
    · rfl
    · exact freeIngress_besideFall _ _ _ _ _ _ d
  · rfl

theorem ringWrite_besideFall (r : Ring) (size : Nat) (blocks : List (List Byte)) (d : Device) :
    (ringWrite r size blocks d).2.besideFall = d.besideFall := by
  unfold ringWrite
  extract_lets d₁ d₂
  have h₁ : d₁.besideFall = d.besideFall := by
    refine foldl_besideFall (fun e i => ?_) (List.range blocks.length) d
    rfl
  show d₂.besideFall = d.besideFall
  unfold d₂
  split
  · exact (sendVector_besideFall .mgr r.vector d₁).trans h₁
  · exact h₁

theorem traceEnd_besideFall (i : Item) (outcome : Nat) (d : Device) : (traceEnd i outcome d).besideFall = d.besideFall := by
  unfold traceEnd
  split
  · rfl
  · extract_lets _ d₁ r w
    split
    · exact ringWrite_besideFall r 64 _ d₁
    · rfl

theorem journalWrite_besideFall (p src : Nat) (e : JournalEntry) (d : Device) : (journalWrite p src e d).besideFall = d.besideFall := by
  obtain ⟨j, f, o, i, m, k, c, h⟩ := journalWrite_frame p src e d
  rw [h]; rfl

theorem logSynth_besideFall (r f p n : Nat) (d : Device) : (logSynth r f p n d).besideFall = d.besideFall := by
  obtain ⟨x, k, c, h⟩ := logSynth_frame r f p n d
  rw [h]; rfl

theorem emitAway_besideFall (f : FabHdr) (c : Tlp) (d : Device) : (emitAway f c d).besideFall = d.besideFall := by
  obtain ⟨o, h⟩ := emitAway_frame f c d
  rw [h]; rfl

theorem rmaDrop_besideFall (h : RmaHdr) (d : Device) : (rmaDrop h d).besideFall = d.besideFall := by
  unfold rmaDrop
  split
  · split
    · rfl
    · split <;> rfl
  · rfl

theorem sendRma_besideFall (n : Nat) (h : RmaHdr) (d : Device) : (sendRma n h d).besideFall = d.besideFall := rfl

theorem toError_besideFall (n status : Nat) (psn : Option Nat) (d : Device) : (toError n status psn d).besideFall = d.besideFall := by
  unfold toError
  split
  · rfl
  · split
    · rfl
    · extract_lets g g' told q' d₁
      have h₁ : d₁.besideFall = d.besideFall := rfl
      clear_value d₁
      split
      · exact (sendRma_besideFall n _ d₁).trans h₁
      · exact h₁

theorem placementFails_besideFall (f : Fn) (a : Nat) (d : Device) : (placementFails f a d).besideFall = d.besideFall := by
  unfold placementFails
  extract_lets hit placing
  split
  · exact toError_besideFall _ 0 none d
  · split
    · exact toError_besideFall _ 7 _ d
    · rfl

theorem windowDrop_besideFall (i : Item) (reason : Nat) (d : Device) : (windowDrop i reason d).besideFall = d.besideFall := by
  unfold windowDrop
  split
  · split
    · unfold windowFail
      extract_lets x x' x'' d₁
      split
      · rfl
      · split
        · rfl
        · exact sendVector_besideFall _ _ _
    · rfl
  · rfl

theorem endRequest_besideFall (t : Track) (st : CplStatus) (synth : Bool) (d : Device) :
    (endRequest t st synth d).besideFall = d.besideFall := by
  unfold endRequest
  extract_lets c d₁ enter
  have h₁ : d₁.besideFall = d.besideFall := rfl
  clear_value d₁
  split
  · extract_lets h
    split <;> exact h₁
  · split <;> exact h₁

theorem failPiece_besideFall (t : Track) (st : CplStatus) (synth : Bool) (d : Device) :
    (failPiece t st synth d).besideFall = d.besideFall := by
  unfold failPiece
  extract_lets t₁ d₁
  have h₁ : d₁.besideFall = d.besideFall := endRequest_besideFall t₁ st synth d
  split
  · split <;> rfl
  · split
    · split <;> exact h₁
    · unfold keepTrack
      split <;> rfl

theorem answerItem_besideFall (i : Item) (st : CplStatus) (synth : Bool) (d : Device) :
    (answerItem i st synth d).besideFall = d.besideFall := by
  unfold answerItem
  split
  · split <;> exact failPiece_besideFall _ st synth d
  · obtain ⟨o, t, n, h⟩ := emitCpl_frame i (completionFor i.tlp i.srcRid i.srcTag st) synth d
    rw [h]; rfl

theorem lockFails_besideFall (n : Nat) (k : Kind) (d : Device) : (lockFails n k d).besideFall = d.besideFall := by
  unfold lockFails
  split <;> rfl

/-- Table 8.3: what an item's drop reports. -/
theorem dropItem_besideFall (reason fid port : Nat) (i : Item) (d : Device) :
    (dropItem reason fid port i d).besideFall = d.besideFall := by
  unfold dropItem
  extract_lets d₁ d₂ d₃ d₄ c d₅ d₆
  have h₂ : d₂.besideFall = d.besideFall := (traceEnd_besideFall i _ d₁).trans (removeItem_besideFall i.id d)
  have h₅ : d₅.besideFall = d.besideFall := (logSynth_besideFall _ fid port i.part d₂).trans h₂
  have h₆ : d₆.besideFall = d.besideFall := (journalWrite_besideFall i.part _ _ d₂).trans h₂
  split
  · exact (rmaDrop_besideFall _ d₂).trans h₂
  · split
    case' h_4 =>
      split
      · split
        · exact h₂
        · split
          · exact h₂
          · exact (answerItem_besideFall i .ca true _).trans <| (lockFails_besideFall _ _ _).trans <|
              (logSynth_besideFall _ fid port _ d₃).trans h₂
      · split
        · split
          · split
            · exact h₅
            · exact (emitAway_besideFall _ c d₅).trans h₅
          · exact h₅
        · split
          · exact (placementFails_besideFall _ _ d₆).trans h₆
          · exact h₆
    all_goals exact h₂

theorem lossItems_besideFall (n : Nat) (d : Device) : (lossItems n d).besideFall = d.besideFall :=
  foldl_besideFall (fun d i => (windowDrop_besideFall i _ _).trans (dropItem_besideFall 1 _ n i d)) _ d

theorem laneDown_besideFall (k : Nat) (d : Device) : (laneDown k d).besideFall = d.besideFall := rfl

theorem lanesDown_besideFall (n : Nat) (d : Device) : (lanesDown n d).besideFall = d.besideFall :=
  foldl_besideFall (fun e k => laneDown_besideFall k e) (portLanes n d) d

theorem managerReset_besideFall (d : Device) : (managerReset d).besideFall = d.besideFall := by
  have hbridges : (resetBridges 0 d).besideFall = d.besideFall := by
    refine foldl_besideFall (fun e x => ?_) d.bridges d
    split <;> rfl
  exact hbridges

theorem setPci_besideFall (n : Nat) (x : Pcie) (d : Device) : (d.setPci n x).besideFall = d.besideFall := rfl

theorem setPfl_besideFall (n : Nat) (x : Plk) (d : Device) : (d.setPfl n x).besideFall = d.besideFall := rfl

theorem unlockPort_besideFall (n : Nat) (d : Device) : (unlockPort n d).besideFall = d.besideFall := rfl

theorem portRaise_besideFall (n : Nat) (bits : BitVec 5) (d : Device) : (portRaise n bits d).besideFall = d.besideFall := rfl

theorem pcieDown_besideFall (n : Nat) (st : LState) (d : Device) : (pcieDown n st d).besideFall = d.besideFall := by
  unfold pcieDown
  extract_lets x up d₁ y z d₂ d₃
  have h₁ : d₁.besideFall = d.besideFall := (lanesDown_besideFall n _).trans (lossItems_besideFall n _)
  clear_value d₁
  have h₂ : d₂.besideFall = d.besideFall := (unlockPort_besideFall n _).trans <| (setPci_besideFall n z d₁).trans h₁
  have h₃ : d₃.besideFall = d.besideFall := by
    unfold d₃
    split
    · exact (portRaise_besideFall n 1 d₂).trans h₂
    · exact h₂
  clear_value d₃
  split
  · exact (managerReset_besideFall d₃).trans h₃
  · exact h₃

theorem retrainReply_besideFall (n : Nat) (d : Device) : (retrainReply n d).besideFall = d.besideFall := by
  unfold retrainReply
  split
  · exact (finish_answers _ _ _ d).besideFall
  · rfl

theorem blackBoxRecord_besideFall (k o c : Nat) (l : List Nat) (d : Device) :
    (blackBoxRecord k o c l d).besideFall = d.besideFall := by
  obtain ⟨x, b, h⟩ := blackBoxRecord_frame k o c l d
  rw [h]; rfl

theorem pflDown_besideFall (n cause : Nat) (d : Device) : (pflDown n cause d).besideFall = d.besideFall := by
  unfold pflDown
  extract_lets x₀ d₁ x y d₂ fab d₃
  have h₁ : d₁.besideFall = d.besideFall :=
    (foldl_besideFall (fun e _ => (emit_answers _ e).besideFall) (List.range 4) _).trans <|
      (lanesDown_besideFall n _).trans (lossItems_besideFall n _)
  clear_value d₁
  have h₂ : d₂.besideFall = d.besideFall := (setPfl_besideFall n _ d₁).trans h₁
  clear_value d₂
  split
  · exact (retrainReply_besideFall n _).trans ((blackBoxRecord_besideFall 9 n cause [] d₃).trans h₂)
  · rfl

end Sys2Proof.Machine
end

section
/-! What a packet that runs gives: its own effect, beside its answer, and the STATUS in the KME. -/

namespace Sys2Proof.Machine

/-! ## The STATUS that stays -/

theorem sendVector_kme (f : Fn) (v : Nat) (d : Device) : (sendVector f v d).kme = d.kme := by
  obtain ⟨i, m, h⟩ := sendVector_frame f v d
  rw [h]

theorem mbxRaise_kme (f : Fn) (bits : BitVec 5) (d : Device) : (mbxRaise f bits d).kme = d.kme := by
  unfold mbxRaise
  extract_lets m d'
  split
  · rfl
  · exact sendVector_kme f 0 d'

theorem mailboxReply_kme (f : Fn) (op : Nat) (c : Cmd) (a : Ans) (flags : Nat) (d : Device) :
    (mailboxReply f op c a flags d).kme = d.kme := by
  unfold mailboxReply
  extract_lets m st m'
  split
  · rfl
  · exact mbxRaise_kme f 0x02 _

theorem mailboxNotice_kme (f : Fn) (op : Nat) (c : Cmd) (a : Ans) (flags : Nat) (d : Device) :
    (mailboxNotice f op c a flags d).kme = d.kme := by
  unfold mailboxNotice
  extract_lets m
  split
  · rfl
  · exact mbxRaise_kme f 0x04 _

theorem storeAnswer_lastStatus (c : Cmd) (op : Nat) (notice final : Bool) (bytes : List Byte) (d : Device) :
    (storeAnswer c op notice final bytes d).kme.lastStatus = d.kme.lastStatus := by
  unfold storeAnswer
  split
  · rfl
  · split <;> rfl

theorem sendMessage_lastStatus (s : Source) (kind : Nat) (bytes : List Byte) (d : Device) :
    (sendMessage s kind bytes d).kme.lastStatus = d.kme.lastStatus := by
  unfold sendMessage sendMgmt
  extract_lets d₁ r
  split
  · split <;> rfl
  · split <;> rfl

theorem sendTimes_lastStatus (s : Source) (kind : Nat) (bytes : List Byte) (n : Nat) (d : Device) :
    (sendTimes s kind bytes n d).kme.lastStatus = d.kme.lastStatus := by
  induction n generalizing d with
  | zero => rfl
  | succ n ih => exact (ih _).trans (sendMessage_lastStatus s kind bytes d)

theorem sayLines_kme (l : List String) (d : Device) : (sayLines l d).kme = d.kme := by
  induction l generalizing d with
  | nil => rfl
  | cons x l ih => exact ih (emit (.text x) d)

theorem sayAnswer_kme (w : TextWait) (a : Ans) (d : Device) : (sayAnswer w a d).kme = d.kme := by
  unfold sayAnswer
  extract_lets adit d₁
  split
  · split <;> exact sayLines_kme _ d₁
  · exact sayLines_kme _ d₁

theorem deliver_lastStatus (op : Nat) (c : Cmd) (a : Ans) (notice final : Bool) (d : Device) :
    (deliver op c a notice final d).kme.lastStatus = d.kme.lastStatus := by
  unfold deliver
  extract_lets flags bytes n d₁
  have h₁ : d₁.kme.lastStatus = d.kme.lastStatus := storeAnswer_lastStatus c op notice final bytes d
  split
  · split
    · exact congrArg Kme.lastStatus (mailboxNotice_kme _ op c a flags d)
    · exact congrArg Kme.lastStatus (mailboxReply_kme _ op c a flags d)
  · split
    · rfl
    · split
      · exact h₁
      · split
        · exact (congrArg Kme.lastStatus (sayLines_kme _ d₁)).trans h₁
        · split
          · exact (congrArg Kme.lastStatus (sayAnswer_kme _ a d₁)).trans h₁
          · exact (sendTimes_lastStatus _ _ bytes _ d₁).trans h₁

theorem lockAtReply_lastStatus (c : Cmd) (d : Device) : (lockAtReply c d).kme.lastStatus = d.kme.lastStatus := by
  unfold lockAtReply
  split
  · rfl
  · split
    · split <;> rfl
    · rfl

theorem finish_lastStatus (op : Nat) (c : Cmd) (a : Ans) (d : Device) :
    (finish op c a d).kme.lastStatus = statusCode a.status := by
  unfold finish
  extract_lets wasLong k d₁ d₂
  have h₂ : d₂.kme.lastStatus = d₁.kme.lastStatus := by
    unfold d₂
    split
    · rfl
    · exact lockAtReply_lastStatus c d₁
  exact (deliver_lastStatus op c _ wasLong true d₂).trans h₂

/-! ## The packet's own effect -/

@[simp] theorem markBegun_pcie (op : Nat) (c : Cmd) (d : Device) : (markBegun op c d).pcie = d.pcie := rfl
@[simp] theorem markBegun_bridges (op : Nat) (c : Cmd) (d : Device) : (markBegun op c d).bridges = d.bridges := rfl
@[simp] theorem markBegun_steers (op : Nat) (c : Cmd) (d : Device) : (markBegun op c d).steers = d.steers := rfl

section
variable {i : Instr} {op : Nat} {c : Cmd} {s : State} {g : Device → Device × Option Ans} {d' : Device} {P : Device → Prop}
  (hx : exec i s = done s (runPacket op g c s.dev)) (hready : Ready op c s.dev)
include hx hready

/-- A ready packet that answers at once gives its own effect, and its STATUS. -/
theorem packet_gives_answered {a : Ans} (hg : g (markBegun op c s.dev) = (d', some a))
    (hP : ∀ t : Device, t.besideAnswer = d'.besideAnswer → t.kme.lastStatus = statusCode a.status → P t) : Gives i s P := by
  have hrun : runPacket op g c s.dev = finish op c a d' := by
    simp [runPacket_ready hready, execute, ready_hwFails hready, hg]
  rw [hrun] at hx
  refine done_gives hx (hP _ ?_ ?_)
  · exact (notify_besideAnswer _ _).trans (finish_answers op c a d').besideAnswer
  · rw [notify_kme, finish_lastStatus]

/-- A ready packet whose answer waits for an event gives its own effect. -/
theorem packet_gives_waiting (hg : g (markBegun op c s.dev) = (d', none))
    (hP : ∀ o m l, P { d' with issued := o, msix := m, glb := { d'.glb with alertLow := l } }) : Gives i s P := by
  have hrun : runPacket op g c s.dev = d' := by
    simp [runPacket_ready hready, execute, ready_hwFails hready, hg]
  exact done_gives_framed hx hrun hP

end

end Sys2Proof.Machine
end

section
/-! PART_BIND_PORT and PART_BIND_VF (R40, R46, R86, R99, R104, R113, R114) on ports of this device. -/

namespace Sys2Proof.Machine

/-! ## Parameters and checks -/

theorem toNat_ofNat_byte {v : Nat} (h : v < 256) : (BitVec.ofNat 8 v).toNat = v := by
  rw [BitVec.toNat_ofNat, Nat.mod_eq_of_lt h]

/-- A relayed bind alone shows a partition's home device. -/
theorem learnHome_own {c : Cmd} (p : Nat) (d : Device) (h : c.source.transport ≠ 6) : learnHome p c d = d := by
  simp [learnHome, h]

/-! ## PART_BIND_PORT -/

/-- R40, R86: a DSP without DPC goes from the bridge of its number to the tenant's; its link stays as it is. -/
theorem bindPort_dsp {n : Nat} (p k : Nat) {d : Device} (hdsp : (d.port n).personality = .dsp) (hdpc : (d.pci n).dpc = false) :
    bindPort n p k d = presenceAt (bridgeKey p k)
      ((presenceAt (bridgeKey 0 n) d).setPort n { d.port n with holder := p, bridge := some k }) := by
  have hend (x : Port) : endDpc n ((presenceAt (bridgeKey 0 n) d).setPort n x) = (presenceAt (bridgeKey 0 n) d).setPort n x := by
    rw [endDpc, if_neg (by rw [show (((presenceAt (bridgeKey 0 n) d).setPort n x).pci n).dpc = false from hdpc]; decide)]
  simp [bindPort, hdsp, hend]

@[simp] theorem presenceAt_ports (key : Nat) (d : Device) : (presenceAt key d).ports = d.ports := rfl
@[simp] theorem presenceAt_pcie (key : Nat) (d : Device) : (presenceAt key d).pcie = d.pcie := rfl
@[simp] theorem presenceAt_parts (key : Nat) (d : Device) : (presenceAt key d).parts = d.parts := rfl

theorem slotStatus_presenceAt (key : Nat) (d : Device) :
    ((presenceAt key d).bridge key).slotStatus = (d.bridge key).slotStatus ||| 8 := by
  simp [presenceAt]

theorem bridge_presenceAt_other {key other : Nat} (d : Device) (h : other ≠ key) : (presenceAt key d).bridge other = d.bridge other :=
  bridge_setBridge_other d _ h

section
variable {c : Cmd} {d : Device}

/-- R113: a bind to a tenant on this device that passes its checks. -/
theorem partBindPort_own (hown : c.source.transport ≠ 6) (hfid : u8 c.params 1 = d.glb.fid) (ht : c.target.toNat ≠ 0)
    (hholder : (d.port (u8 c.params 0)).holder ≠ c.target.toNat)
    (hchecks : firstFail ([failIf (decide (c.params.length ≠ 4)) (ansLen 4), bindHeader c d] ++ bindChecks c d) = none) :
    ∃ r, partBindPort c d = (bindPort (u8 c.params 0) c.target.toNat (u8 c.params 2) d, some (ansOk r)) := by
  unfold partBindPort
  extract_lets p t n away
  have haway : (away && decide (c.source.transport ≠ 6)) = false := by simp [away, p, hfid]
  rw [haway, if_neg Bool.false_ne_true, checked_pass hchecks, if_neg ht, if_neg hholder]
  dsimp only
  rw [learnHome_own t _ hown]
  exact ⟨_, rfl⟩

end

/-- Table 4.8: a bind of DSP n, of this device and held by PART0, to the free bridge k of tenant p. -/
structure BindsDsp (c : Cmd) (p n k : Nat) (d : Device) : Prop where
  source : c.source.transport < 6
  target : c.target.toNat = p
  param0 : c.param0 = 0
  params : c.params = [BitVec.ofNat 8 n, BitVec.ofNat 8 d.glb.fid, BitVec.ofNat 8 k, 0]
  tenant : 1 ≤ p ∧ p ≤ 48
  active : (d.part p).state = .active
  fid : d.glb.fid < 32
  port : n < 96
  dsp : (d.port n).personality = .dsp
  alone : (d.port n).absorbedBy = none
  holder : (d.port n).holder = 0
  notManager : n ≠ d.glb.mgrPort
  noSteers : steersOut n d = false
  bridge : k < 96 ∧ k < (d.part p).dsbCount
  noPort : portBridge p k d = false
  noVfs : steeringBridge p k d = false
  journal : journalFits (d.journal p) (journalSources p d + 1)

namespace BindsDsp
variable {c : Cmd} {p n k : Nat} {d : Device} (h : BindsDsp c p n k d)
include h

theorem u8_port : u8 c.params 0 = n := by
  rw [h.params]; exact toNat_ofNat_byte (Nat.lt_trans h.port (by decide))
theorem u8_fid : u8 c.params 1 = d.glb.fid := by
  rw [h.params]; exact toNat_ofNat_byte (Nat.lt_trans h.fid (by decide))
theorem u8_dsb : u8 c.params 2 = k := by
  rw [h.params]; exact toNat_ofNat_byte (Nat.lt_trans h.bridge.1 (by decide))
theorem u8_reserved : u8 c.params 3 = 0 := by rw [h.params]; rfl
theorem target_ne_zero : c.target.toNat ≠ 0 := by rw [h.target]; exact Nat.ne_of_gt h.tenant.1

theorem checks_pass : firstFail ([failIf (decide (c.params.length ≠ 4)) (ansLen 4), bindHeader c d] ++ bindChecks c d) = none := by
  have hlen : c.params.length = 4 := by rw [h.params]; rfl
  have hsource := h.source
  simp [firstFail, failIf, bindHeader, bindChecks, portExists, hlen, h.u8_port, h.u8_fid, h.u8_dsb, h.u8_reserved, h.target, h.param0,
    h.dsp, h.alone, h.holder, h.notManager, h.noSteers, h.noVfs, h.journal, h.noPort, h.active, h.port, Nat.ne_of_lt hsource,
    Nat.not_lt.mpr h.tenant.2, Nat.not_le.mpr h.fid, Nat.not_le.mpr h.bridge.2, Nat.ne_of_gt h.tenant.1]

theorem partBindPort_eq : ∃ r, partBindPort c d = (bindPort n p k d, some (ansOk r)) := by
  have hholder : (d.port (u8 c.params 0)).holder ≠ c.target.toNat := by
    rw [h.u8_port, h.holder]; exact h.target_ne_zero.symm
  obtain ⟨r, hrun⟩ := partBindPort_own (Nat.ne_of_lt h.source) h.u8_fid h.target_ne_zero hholder h.checks_pass
  rw [h.u8_port, h.u8_dsb, h.target] at hrun
  exact ⟨r, hrun⟩

end BindsDsp

/-! ## PART_BIND_VF -/

/-- The parameters of PART_BIND_VF with the time-out of the table and without reserved bits. -/
def bindVfParams (n k rid vf f fid : Nat) : List Byte :=
  natLe 1 n ++ natLe 1 k ++ natLe 2 rid ++ natLe 2 vf ++ natLe 1 f ++ natLe 1 fid ++ [0, 0, 0, 0]

theorem leNat_natLe_two {v : Nat} (h : v < 2 ^ 16) : leNat (natLe 2 v) = v := by
  simp only [natLe, leNat, BitVec.toNat_ofNat]
  omega

section
variable {n k rid vf f fid : Nat}

theorem bindVfParams_port (h : n < 256) : u8 (bindVfParams n k rid vf f fid) 0 = n := toNat_ofNat_byte h
theorem bindVfParams_dsb (h : k < 256) : u8 (bindVfParams n k rid vf f fid) 1 = k := toNat_ofNat_byte h
theorem bindVfParams_pfRid (h : rid < 2 ^ 16) : u16 (bindVfParams n k rid vf f fid) 2 = rid := leNat_natLe_two h
theorem bindVfParams_vfIndex (h : vf < 2 ^ 16) : u16 (bindVfParams n k rid vf f fid) 4 = vf := leNat_natLe_two h
theorem bindVfParams_func (h : f < 256) : u8 (bindVfParams n k rid vf f fid) 6 = f := toNat_ofNat_byte h
theorem bindVfParams_fid (h : fid < 256) : u8 (bindVfParams n k rid vf f fid) 7 = fid := toNat_ofNat_byte h
theorem bindVfParams_timeout : u16 (bindVfParams n k rid vf f fid) 8 = 0 := rfl
theorem bindVfParams_reserved : zeros (bindVfParams n k rid vf f fid) 10 2 = true := rfl
theorem bindVfParams_length : (bindVfParams n k rid vf f fid).length = 12 := rfl

end

section
variable {c : Cmd} {d : Device} (hown : c.source.transport ≠ 6) (hfid : u8 c.params 7 = d.glb.fid)
include hown hfid

/-- The checks of a bind of a VF of this device. -/
def bindVfChecks (c : Cmd) (d : Device) : List (Option Ans) :=
  let p := c.params
  let t := c.target.toNat
  [ failIf (decide (p.length ≠ 12)) (ansLen 12), failIf (decide (64 ≤ t)) (ansBad 0xFF08),
    failIf (decide (c.param0 ≠ 0)) (ansBad 0xFF0C) ] ++ vfChecks p d ++ (steerChecks t p d ++ vfReserved p) ++
    [ failIf (decide (48 < t) || decide ((d.part t).state = .free) || !(d.part t).vfSteered ||
        decide ((d.port (u8 p 0)).holder = t) || !reachesVf t false d) ansNo,
      failIf (decide (freeSteers d = 0) && (lostSteer (u8 p 0) (u16 p 2) (u16 p 4) d).isNone) (ansPool 3) ]

theorem partBindVf_own (ht : c.target.toNat ≠ 0) (hchecks : firstFail (bindVfChecks c d) = none) :
    partBindVf c d = bindVf c.target.toNat c.params d := by
  have hrelayed : decide (c.source.transport = 6) = false := decide_eq_false hown
  unfold bindVfChecks at hchecks
  unfold partBindVf
  simp only [hrelayed, hfid, ne_eq, not_true, decide_false, Bool.and_false, Bool.false_and, Bool.false_eq_true, if_false, ht,
    learnHome_own _ _ hown, Bool.not_false, Bool.true_and]
  exact checked_pass hchecks

end

/-- R104: an entry fenced by an unbind with the time-out of 10 ms, and the device with it, the unbind in force. -/
def fencedEntry (x : Steer) (d : Device) : Steer := { x with fenced := true, fencedAt := d.now, timeoutMs := 10 }
def fenceVf (c : Cmd) (e : Nat) (x : Steer) (d : Device) : Device := markApplied 0x0305 c (d.setSteer e (fencedEntry x d))

@[simp] theorem dropSteer_ports (e : Nat) (x : Steer) (d : Device) : (dropSteer e x d).ports = d.ports := rfl
@[simp] theorem dropSteer_steers (e : Nat) (x : Steer) (d : Device) : (dropSteer e x d).steers = terase e d.steers := rfl
@[simp] theorem fenceVf_ports (c : Cmd) (e : Nat) (x : Steer) (d : Device) : (fenceVf c e x d).ports = d.ports := rfl

theorem fenceVf_steers_single (c : Cmd) {e : Nat} {x : Steer} {d : Device} (hsteers : d.steers = [(e, x)]) :
    (fenceVf c e x d).steers = [(e, fencedEntry x d)] := by
  have hx : fencedEntry x d ≠ steerFree := fun h => Bool.noConfusion (congrArg Steer.fenced h : true = false)
  show tset steerFree d.steers e (fencedEntry x d) = _
  simp [hsteers, tset, hx, tinsert]

/-- R104: the unbind of a VF of this device fences its entry, and gives it back at once when nothing passes through it. -/
theorem partBindVf_unbind {c : Cmd} {d : Device} {e : Nat} {x : Steer} (hfid : u8 c.params 7 = d.glb.fid) (ht : c.target.toNat = 0)
    (hlen : c.params.length = 12) (hparam : c.param0 = 0) (hfid32 : d.glb.fid < 32) (htimeout : u16 c.params 8 = 0)
    (hnamed : steerNamed (u8 c.params 0) (u16 c.params 2) (u16 c.params 4) d = some (e, x)) :
    (steerDrained e d = true → ∃ r, partBindVf c d = (dropSteer e (fencedEntry x d) (fenceVf c e x d), some (ansOk r))) ∧
    (steerDrained e d = false → partBindVf c d = (fenceVf c e x d, none)) := by
  have haway : (decide (u8 c.params 7 < 32) && decide (u8 c.params 7 ≠ d.glb.fid) && !decide (c.source.transport = 6)) = false := by
    simp [hfid]
  have hsame : steerDrained e (fenceVf c e x d) = steerDrained e d := rfl
  unfold partBindVf
  simp only [haway, ht, hnamed, htimeout, if_true, Bool.false_eq_true, if_false]
  rw [checked_pass (by simp [firstFail, failIf, hlen, hparam, hfid, Nat.not_le.mpr hfid32])]
  exact ⟨fun hd => ⟨_, if_pos (hsame.trans hd)⟩, fun hd => if_neg (ne_true_of_eq_false (hsame.trans hd))⟩

/-- R99, R114: the first VF that the device steers takes entry 0. -/
theorem bindVf_first {t n k rid vf f fid : Nat} {d : Device} (hsteers : d.steers = []) (ht : t ≠ 0) (hn : n < 256) (hk : k < 256)
    (hrid : rid < 2 ^ 16) (hvf : vf < 2 ^ 16) (hf : f < 256) :
    ∃ x b r, bindVf t (bindVfParams n k rid vf f fid) d = ({ d with
      steers := [(0, { steerFree with
        port := n, bridge := k, pfRid := rid, vfIndex := vf, func := f, part := t, bars := List.replicate 6 0,
        realRid := rid + (d.sriovOf n rid).firstOffset + vf * (d.sriovOf n rid).stride })],
      can := x, bridges := b }, some (ansOk r)) := by
  have hlost : lostSteer n rid vf d = none := by simp [lostSteer, steerNamed, hsteers]
  have hfree : lowest (fun e => !d.steers.any fun y => decide (y.1 = e)) 0 2048 = some 0 := by
    rw [show 2048 = 2047 + 1 from rfl, lowest, hsteers]
    rfl
  have hset (x : Steer) (hx : x ≠ steerFree) : d.setSteer 0 x = { d with steers := [(0, x)] } := by
    rw [Device.setSteer, hsteers, tset, if_neg hx]
    rfl
  have hother (x : Steer) (hx : x.part = t) : x ≠ steerFree := by
    rintro rfl
    exact ht hx.symm
  unfold bindVf
  simp only [bindVfParams_port hn, bindVfParams_dsb hk, bindVfParams_pfRid hrid, bindVfParams_vfIndex hvf, bindVfParams_func hf, hlost,
    hfree, Option.getD_some]
  rw [hset _ (hother _ rfl)]
  exact ⟨_, _, _, rfl⟩

/-- R46, R114: a bind of VF `vf` of the PF at `rid`, below DSP n of this device, to bridge k of local partition p, where no VF is
steered yet. -/
structure BindsVf (c : Cmd) (p n k rid vf f : Nat) (d : Device) : Prop where
  source : c.source.transport < 6
  target : c.target.toNat = p
  param0 : c.param0 = 0
  params : c.params = bindVfParams n k rid vf f d.glb.fid
  tenant : 1 ≤ p ∧ p ≤ 48
  active : (d.part p).state = .active
  steered : (d.part p).vfSteered = true
  ownOnly : (d.part p).fabric = false
  fid : d.glb.fid < 32
  port : n < 96
  dsp : (d.port n).personality = .dsp
  alone : (d.port n).absorbedBy = none
  holder : (d.port n).holder ≠ p
  bridge : k < 96 ∧ k < (d.part p).dsbCount
  noPort : portBridge p k d = false
  pfRid : rid < 2 ^ 16
  vfIndex : vf < 2 ^ 16 ∧ vf < (d.sriovOf n rid).numVfs
  func : f < 256
  vfEnable : (d.sriovOf n rid).vfEnable = true
  noSteers : d.steers = [] ∧ d.homeSteers = []

namespace BindsVf
variable {c : Cmd} {p n k rid vf f : Nat} {d : Device} (h : BindsVf c p n k rid vf f d)
include h

theorem checks_pass : firstFail (bindVfChecks c d) = none := by
  have hnone : steerNamed n rid vf d = none := by simp [steerNamed, h.noSteers.1]
  have hfree : funcFree p k f d = true := by simp [funcFree, h.noSteers]
  have hp := h.tenant.2
  have hn := h.port
  have hk := h.bridge.1
  have hfid := h.fid
  have hreads := bindVfParams_port (n := n) (k := k) (rid := rid) (vf := vf) (f := f) (fid := d.glb.fid) (by omega)
  simp [firstFail, failIf, bindVfChecks, vfChecks, steerChecks, vfReserved, h.params, bindVfParams_length, hreads,
    bindVfParams_dsb (show k < 256 by omega), bindVfParams_pfRid h.pfRid, bindVfParams_vfIndex h.vfIndex.1, bindVfParams_func h.func,
    bindVfParams_fid (show d.glb.fid < 256 by omega), bindVfParams_timeout, bindVfParams_reserved, h.target, h.param0, portExists, hn,
    h.alone, h.dsp, h.vfEnable, Nat.not_le.mpr h.vfIndex.2, hnone, Nat.not_le.mpr h.bridge.2, h.noPort, hfree, Nat.not_le.mpr hfid,
    Nat.not_lt.mpr hp, h.active, h.steered, h.holder, reachesVf, h.ownOnly, freeSteers, h.noSteers.1,
    Nat.not_le.mpr (show p < 64 by omega)]

theorem partBindVf_eq : partBindVf c d = bindVf p (bindVfParams n k rid vf f d.glb.fid) d := by
  have hfid := h.fid
  have hp := h.tenant.1
  have hrun := partBindVf_own (Nat.ne_of_lt h.source) (by rw [h.params]; exact bindVfParams_fid (by omega)) (by rw [h.target]; omega)
    h.checks_pass
  rwa [h.target, h.params] at hrun

end BindsVf

/-! ## The statement -/

/-- Settles O12: the checks of a bind pass, and its own effect is what the bind of a port or of a VF makes of the device. -/
theorem bindingCommands : Obligations.BindingCommands := by
  intro s c p n k d hp hp48 hactive hparam hn hk hk96 hbridge hlocal
  refine ⟨?bindPort, fun rid vf f hvf hrid hf hdsp halone henable hnum hfid => ⟨?bindVf, ?unbindVf⟩⟩
  case bindPort =>
    intro htarget hdsp halone hholder hmgr hsteers hsteering hjournal hdpc hfid hready hparams
    let e := markBegun 0x0304 c d
    have h : BindsDsp c p n k e := ⟨hlocal, htarget, hparam, hparams, ⟨hp, hp48⟩, hactive, hfid, hn, hdsp, halone, hholder, hmgr,
      hsteers, ⟨hk96, hk⟩, hbridge, hsteering, hjournal⟩
    obtain ⟨r, hrun⟩ := h.partBindPort_eq
    rw [bindPort_dsp (d := e) p k hdsp hdpc] at hrun
    have hkeys : bridgeKey 0 n ≠ bridgeKey p k := by simp only [bridgeKey]; omega
    refine packet_gives_answered rfl hready hrun fun t ht hstatus =>
      ⟨?port, hstatus, ?bridge, ?freed, by simp [pcie_of_besideAnswer ht, e], by simp [parts_of_besideAnswer ht, e]⟩
    case port =>
      rw [Device.port, ports_of_besideAnswer ht]
      exact port_setPort (presenceAt (bridgeKey 0 n) e) n _
    case bridge =>
      rw [Device.bridge, bridges_of_besideAnswer ht]
      refine (slotStatus_presenceAt _ _).trans ?_
      exact congrArg (fun b : VBridge => b.slotStatus ||| 8) (bridge_presenceAt_other e hkeys.symm)
    case freed =>
      rw [Device.bridge, bridges_of_besideAnswer ht]
      exact (congrArg VBridge.slotStatus (bridge_presenceAt_other _ hkeys)).trans (slotStatus_presenceAt (bridgeKey 0 n) e)
  case bindVf =>
    intro htarget hsteered hfabric hsteers hhome hholder hready hparams
    let e := markBegun 0x0305 c d
    have h : BindsVf c p n k rid vf f e := ⟨hlocal, htarget, hparam, hparams, ⟨hp, hp48⟩, hactive, hsteered, hfabric, hfid, hn, hdsp,
      halone, hholder, ⟨hk96, hk⟩, hbridge, hrid, ⟨hvf, hnum⟩, hf, henable, ⟨hsteers, hhome⟩⟩
    obtain ⟨x, b, r, hbind⟩ := bindVf_first (n := n) (k := k) (fid := d.glb.fid) (d := e) hsteers (show p ≠ 0 by omega)
      (by omega) (by omega) hrid hvf hf
    exact packet_gives_answered rfl hready (h.partBindVf_eq.trans hbind) fun t ht hstatus =>
      ⟨steers_of_besideAnswer ht, hstatus, by simp [ports_of_besideAnswer ht, e], by simp [parts_of_besideAnswer ht, e]⟩
  case unbindVf =>
    intro htarget x hsteers hport hpf hvi hready hparams
    let e := markBegun 0x0305 c d
    change c.params = bindVfParams n k rid vf f d.glb.fid at hparams
    have hnamed : steerNamed (u8 c.params 0) (u16 c.params 2) (u16 c.params 4) d = some (0, x) := by
      rw [hparams, bindVfParams_port (by omega), bindVfParams_pfRid hrid, bindVfParams_vfIndex hvf]
      simp [steerNamed, hsteers, hport, hpf, hvi]
    have hfid8 : u8 c.params 7 = d.glb.fid := by rw [hparams]; exact bindVfParams_fid (by omega)
    obtain ⟨hdrained, hwaits⟩ := partBindVf_unbind (d := e) hfid8 (by rw [htarget]; rfl) (by rw [hparams]; rfl) hparam hfid
      (by rw [hparams]; rfl) hnamed
    have hfenced : (fenceVf c 0 x e).steers = [(0, fencedEntry x e)] := fenceVf_steers_single c hsteers
    refine ⟨fun hd => ?drained, fun hd => packet_gives_waiting rfl hready (hwaits hd) fun _ _ _ => ⟨hfenced, rfl, rfl⟩⟩
    obtain ⟨r, hrun⟩ := hdrained hd
    exact packet_gives_answered rfl hready hrun fun t ht hstatus =>
      ⟨by simp [steers_of_besideAnswer ht, hfenced, terase], hstatus, by simp [ports_of_besideAnswer ht, e]⟩

end Sys2Proof.Machine
end

section
/-! PORT_CONFIG, PORT_STATUS, PORT_RETRAIN and PORT_DISABLE (R33, R35, R38, R39, R329 to R331). -/

namespace Sys2Proof.Machine

/-! ## The checks of PORT_CONFIG -/

theorem firstFail_eq_none {l : List (Option Ans)} : firstFail l = none ↔ ∀ a ∈ l, a = none := by
  induction l with
  | nil => simp [firstFail]
  | cons a l ih => cases a <;> simp [firstFail, ih]

theorem portHeader_eq_none {c : Cmd} {d : Device} : portHeader c d = none ↔ portExists c.target.toNat d = true ∧ c.param0 = 0 := by
  cases h : portExists c.target.toNat d <;> simp [portHeader, orElse, failIf, targetPort, h]

theorem portExists_iff {n : Nat} {d : Device} : portExists n d = true ↔ n < 96 ∧ (d.port n).absorbedBy = none := by
  simp [portExists]

/-- The device with another state of the KME. -/
def Device.withKme (k : Kme) (d : Device) : Device := { d with kme := k }

theorem layPort_withKme (n : Nat) (x : Port) (k : Kme) (d : Device) : layPort n x (d.withKme k) = (layPort n x d).withKme k := by
  have hclear (a : Option Nat) (l : List Nat) (e : Device) : l.foldl (clearUnit a) (e.withKme k) = (l.foldl (clearUnit a) e).withKme k :=
    List.foldl_hom (Device.withKme k) fun _ _ => rfl
  unfold layPort
  simp only [show (d.withKme k).port n = d.port n from rfl, hclear]
  rfl

/-- What PORT_CONFIG checks is no state of the KME. -/
theorem portConfigChecks_withKme (c : Cmd) (k : Kme) (d : Device) : portConfigChecks c (d.withKme k) = portConfigChecks c d := by
  have hplanned (n : Nat) (x : Port) : portPlanned n x (d.withKme k) = (portPlanned n x d).withKme k := by
    unfold portPlanned
    simp only [layPort_withKme, show (d.withKme k).port n = d.port n from rfl]
    split <;> rfl
  unfold portConfigChecks
  simp only [show (d.withKme k).port c.target.toNat = d.port c.target.toNat from rfl, hplanned]
  rfl

theorem portConfigChecks_markBegun (op : Nat) (c : Cmd) (d : Device) : portConfigChecks c (markBegun op c d) = portConfigChecks c d :=
  portConfigChecks_withKme c _ d

/-! ## The effect of PORT_CONFIG -/

theorem foldl_laneDown_besideFall (n width : Nat) (d : Device) :
    ((mergeUnits n width).foldl (fun d u => (List.range 4).foldl (fun d j => laneDown (4 * u + j) d) d) d).besideFall = d.besideFall :=
  foldl_besideFall (fun e u => foldl_besideFall (fun f j => laneDown_besideFall (4 * u + j) f) (List.range 4) e) (mergeUnits n width) d

theorem pcieStart_besideFall (n : Nat) (d : Device) : (pcieStart n d).besideFall = d.besideFall := rfl

theorem eachLane_besideFall (n : Nat) (f : Lane → Lane) (d : Device) : (eachLane n f d).besideFall = d.besideFall := by
  refine foldl_besideFall (fun e k => ?_) (portLanes n d) d
  rfl

theorem pflTrain_besideFall (n : Nat) (d : Device) : (pflTrain n d).besideFall = d.besideFall :=
  (eachLane_besideFall n _ _).trans (setPfl_besideFall n _ d)

theorem dspBegins_besideFall (n : Nat) (d : Device) : (dspBegins n d).besideFall = d.besideFall := rfl

theorem askFull_besideFall (n width maxRate : Nat) (d : Device) : (askFull n width maxRate d).besideFall = d.besideFall := by
  unfold askFull
  extract_lets y
  split <;> rfl

theorem portFalls_besideFall (n : Nat) (x : Port) (d : Device) : (portFalls n x d).besideFall = d.besideFall := by
  unfold portFalls
  split
  · exact pcieDown_besideFall n .disabled d
  · exact pcieDown_besideFall n .disabled d
  · split
    · exact (pflDown_besideFall n 9 _).trans (askFull_besideFall n _ _ d)
    · exact pflDown_besideFall n 11 d
  · rfl

theorem portStarts_besideFall (n : Nat) (old : Personality) (d : Device) : (portStarts n old d).besideFall = d.besideFall := by
  unfold portStarts
  extract_lets x pins idle d₁ y kept
  have h₁ : d₁.besideFall = d.besideFall := (foldl_laneDown_besideFall n x.width _).trans (setPci_besideFall n _ d)
  clear_value d₁
  have hidle (e : Device) : (idle e).besideFall = e.besideFall := setPci_besideFall n _ e
  split
  · exact (pcieStart_besideFall n _).trans ((hidle d₁).trans h₁)
  · split
    · exact (pcieStart_besideFall n d₁).trans h₁
    · exact (pcieStart_besideFall n _).trans ((dspBegins_besideFall n d₁).trans h₁)
  · exact (pflTrain_besideFall n _).trans ((hidle _).trans ((setPfl_besideFall n _ d₁).trans h₁))
  · exact (hidle d₁).trans h₁

theorem layPort_port (n : Nat) (x : Port) (d : Device) : (layPort n x d).port n = x := port_setPort _ n x

theorem layPort_segs (n : Nat) (x : Port) (d : Device) : (layPort n x d).segs = d.segs := by
  have hclear (a : Option Nat) (l : List Nat) (e : Device) : (l.foldl (clearUnit a) e).segs = e.segs := by
    induction l generalizing e with
    | nil => rfl
    | cons u l ih => exact ih (clearUnit a e u)
  exact (hclear (some n) _ _).trans (hclear none _ d)

/-- R39: where every value named is in force, enabling the port is all that is asked. -/
theorem portAsked_of_same {p : List Byte} {old : Port} (hs : portSame (portAsked p old) old = true) (ha : old.absorbedBy = none) :
    { old with enabled := true } = portAsked p old := by
  simp only [portSame, Bool.and_eq_true, decide_eq_true_eq] at hs
  obtain ⟨⟨⟨⟨⟨hp, hw⟩, hr⟩, hsris⟩, hhot⟩, hclk⟩ := hs
  have hx : (portAsked p old).absorbedBy = old.absorbedBy := ha.symm
  cases old
  simp_all [portAsked]

/-- R35: the values named are in force after PORT_CONFIG, and no segment is touched. -/
theorem portConfigure_inForce {n : Nat} {p : List Byte} {d : Device} (ha : (d.port n).absorbedBy = none) :
    (portConfigure n (portAsked p (d.port n)) d).port n = portAsked p (d.port n) ∧
    (portConfigure n (portAsked p (d.port n)) d).segs = d.segs := by
  unfold portConfigure
  extract_lets old e d₁ z d₂ d₃
  split
  · rename_i hs
    have he : e.port n = portAsked p old := (port_setPort d n _).trans (portAsked_of_same hs ha)
    split
    · exact ⟨he, rfl⟩
    · split
      · have hb := pflTrain_besideFall n e
        exact ⟨by rw [Device.port, ports_of_besideFall hb]; exact he, (segs_of_besideFall hb).trans rfl⟩
      · exact ⟨he, rfl⟩
  · have h₁ : d₁.besideFall = d.besideFall := portFalls_besideFall n _ d
    clear_value d₁
    have h₂ : d₂.besideFall = d.besideFall := by
      unfold d₂
      split
      · exact (setPfl_besideFall n _ d₁).trans h₁
      · exact h₁
    clear_value d₂
    have h₃ : d₃.besideFall = d.besideFall := (foldl_laneDown_besideFall n old.width d₂).trans h₂
    clear_value d₃
    have hb := (portStarts_besideFall n old.personality (unlockPort n (layPort n (portAsked p old) d₃))).trans
      (unlockPort_besideFall n (layPort n (portAsked p old) d₃))
    constructor
    · rw [Device.port, ports_of_besideFall hb]
      exact layPort_port n _ d₃
    · rw [segs_of_besideFall hb, layPort_segs, segs_of_besideFall h₃]

/-! ## The four commands -/

section
variable {c : Cmd} {d : Device}

theorem portConfig_pass (h : firstFail (portConfigChecks c d) = none) : ∃ r, portConfig c d =
    (portConfigure c.target.toNat (portAsked c.params (d.port c.target.toNat)) d, some (ansOk r)) := by
  simp [portConfig, h]

theorem portConfig_fail {a : Ans} (h : firstFail (portConfigChecks c d) = some a) :
    portConfig c d = (d, some { a with result := portResult c.target.toNat d }) := by
  simp [portConfig, h]

/-- R329: the registers of a port. -/
theorem portStatus_external (hparam : c.param0 = 0) (hparams : c.params = []) (h : portExists c.target.toNat d = true) :
    portStatus c d = (d, some (ansOk (natLe 4 (prtMode c.target.toNat d) ++ natLe 4 (prtLink c.target.toNat d) ++
      natLe 4 (prtHp c.target.toNat d) ++ natLe 4 (plkStateWord c.target.toNat d) ++ natLe 4 (sbLevelWord c.target.toNat d) ++
      natLe 4 0 ++ natLe 8 d.devTime.toNat))) := by
  have hn := (portExists_iff.mp h).1
  simp [portStatus, checked, firstFail, failIf, hparam, hparams, h, Nat.not_le.mpr hn]

theorem portStatus_internal (hparam : c.param0 = 0) (hparams : c.params = []) (h96 : 96 ≤ c.target.toNat)
    (h100 : c.target.toNat ≤ 100) : portStatus c d = (d, some (ansOk (natLe 24 0 ++ natLe 8 d.devTime.toNat))) := by
  simp [portStatus, checked, firstFail, failIf, hparam, hparams, h96, h100]

/-- R330: a PCI Express link that is up goes through Recovery. -/
theorem pcieRecovery_up {n : Nat} (h : lstateUp (d.pci n).lstate = true) : pcieRecovery n d =
    { d.setPci n { d.pci n with lstate := .recovery, retrains := satAdd 0xFFFF (d.pci n).retrains 1 } with
      can := { d.can with linkEvents := (n, d.now) :: d.can.linkEvents } } := by
  simp [pcieRecovery, h]

theorem portRetrain_dsp {rate : Nat} (hheader : portHeader c d = none) (hparams : c.params = natLe 1 rate ++ [0, 0, 0]) (h7 : rate ≤ 7)
    (hmax : rate ≤ (d.port c.target.toNat).maxRate) (hdsp : (d.port c.target.toNat).personality = .dsp) :
    portRetrain c d = (pcieRecovery c.target.toNat (d.setPci c.target.toNat { d.pci c.target.toNat with
      targetRate := kept rate (d.pci c.target.toNat).targetRate }), none) := by
  have hrate : u8 c.params 0 = rate := by rw [hparams]; exact toNat_ofNat_byte (by omega)
  have hzeros : zeros c.params 1 3 = true := by rw [hparams]; rfl
  have hlen : c.params.length = 4 := by rw [hparams]; rfl
  simp [portRetrain, checked, firstFail, failIf, hheader, hrate, hzeros, hlen, hdsp, Nat.not_lt.mpr h7, Nat.not_lt.mpr hmax]

theorem portRetrain_pflDown (hheader : portHeader c d = none) (hparams : c.params = [0, 0, 0, 0])
    (hpfl : (d.port c.target.toNat).personality = .pfl) (hdown : (d.pfl c.target.toNat).state = .down) :
    portRetrain c d = (d, some (ansOk (natLe 4 (prtLink c.target.toNat d)))) := by
  have hzeros : zeros c.params 1 3 = true := by rw [hparams]; rfl
  have hrate : u8 c.params 0 = 0 := by rw [hparams]; rfl
  have hlen : c.params.length = 4 := by rw [hparams]; rfl
  simp [portRetrain, checked, firstFail, failIf, hheader, hrate, hzeros, hlen, hpfl, hdown]

section
variable (hheader : portHeader c d = none) (hparams : c.params = [])
  (hmay : c.target.toNat ≠ d.glb.mgrPort ∨ sidebandSource c.source = true)
include hheader hparams hmay

theorem portDisable_checks : firstFail [ failIf (decide (c.params.length ≠ 0)) (ansLen 0), portHeader c d,
    failIf (decide (c.target.toNat = d.glb.mgrPort) && !sidebandSource c.source) ansNo ] = none := by
  rcases hmay with h | h <;> simp [firstFail, failIf, hheader, hparams, h]

theorem portDisable_off (h : (d.port c.target.toNat).personality = .off) : portDisable c d = (d, some (ansOk [])) := by
  unfold portDisable
  rw [checked_pass (portDisable_checks hheader hparams hmay), h]

theorem portDisable_dsp (h : (d.port c.target.toNat).personality = .dsp) (hdpc : (d.pci c.target.toNat).dpc = false) : portDisable c d =
    ((pcieDown c.target.toNat .disabled d).setPort c.target.toNat { d.port c.target.toNat with enabled := false }, some (ansOk [])) := by
  unfold portDisable
  rw [checked_pass (portDisable_checks hheader hparams hmay)]
  simp only [h, hdpc, Bool.false_eq_true, if_false]

theorem portDisable_pfl (h : (d.port c.target.toNat).personality = .pfl) : ∃ x f, x.state = .disabled ∧ portDisable c d =
    ({ ((pflDown c.target.toNat 11 d).setPort c.target.toNat { d.port c.target.toNat with enabled := false }).setPfl c.target.toNat x with
      fab := f }, some (ansOk [])) := by
  unfold portDisable
  rw [checked_pass (portDisable_checks hheader hparams hmay)]
  simp only [h]
  exact ⟨_, _, rfl, rfl⟩

end
end

theorem resetBridges_pcie (p : Nat) (d : Device) : (resetBridges p d).pcie = d.pcie := by
  show (d.bridges.foldl _ d).pcie = d.pcie
  refine List.foldlRecOn d.bridges _ (motive := fun f : Device => f.pcie = d.pcie) rfl fun f hf x _ => ?_
  split
  · exact hf
  · exact hf

theorem managerReset_pcie (d : Device) : (managerReset d).pcie = d.pcie := resetBridges_pcie 0 d

/-- The link of a port that falls is in the state that it falls to. -/
theorem pcieDown_lstate (n : Nat) (st : LState) (d : Device) : ((pcieDown n st d).pci n).lstate = st := by
  unfold pcieDown
  extract_lets x up d₁ y z d₂ d₃
  clear_value d₁
  have h₂ : (d₂.pci n).lstate = st := congrArg Pcie.lstate (pci_setPci d₁ n z)
  clear_value d₂
  have h₃ : (d₃.pci n).lstate = st := by
    unfold d₃
    split
    · exact (congrArg Pcie.lstate (pci_setPci d₂ n _)).trans h₂
    · exact h₂
  clear_value d₃
  split
  · rw [Device.pci, managerReset_pcie]
    exact h₃
  · exact h₃

/-! ## The statement -/

/-- Settles O19: each command passes its checks, or fails them, and its own effect is traced to the port's registers. -/
theorem portConfigAndState : Obligations.PortConfigAndState := by
  rintro s c n d rfl hparam
  refine ⟨?config, ?refused, ?status, ?internal, ?retrain, ?retrainDown, ?disable⟩
  case config =>
    intro hready hpass
    have hheader : portHeader c d = none := firstFail_eq_none.mp hpass _ (by simp [portConfigChecks])
    have hexists := portExists_iff.mp (portHeader_eq_none.mp hheader).1
    let e := markBegun 0x0201 c d
    obtain ⟨r, hrun⟩ := portConfig_pass (d := e) ((congrArg firstFail (portConfigChecks_markBegun 0x0201 c d)).trans hpass)
    obtain ⟨hport, hsegs⟩ := portConfigure_inForce (n := c.target.toNat) (p := c.params) (d := e) hexists.2
    refine packet_gives_answered rfl hready hrun fun t ht hstatus => ⟨?_, hstatus, (segs_of_besideAnswer ht).trans hsegs⟩
    rw [Device.port, ports_of_besideAnswer ht]
    exact hport
  case refused =>
    intro a hready hfail
    exact packet_replies rfl hready
      (portConfig_fail (d := markBegun 0x0201 c d) ((congrArg firstFail (portConfigChecks_markBegun 0x0201 c d)).trans hfail))
  case status =>
    intro hready hparams hexists
    exact packet_replies rfl hready (portStatus_external (d := markBegun 0x0202 c d) hparam hparams hexists)
  case internal =>
    intro hready hparams h96 h100
    exact packet_replies rfl hready (portStatus_internal (d := markBegun 0x0202 c d) hparam hparams h96 h100)
  case retrain =>
    intro rate hready hparams hexists hmax h7 hdsp hup
    let e := markBegun 0x0203 c d
    have hrun := portRetrain_dsp (d := e) (portHeader_eq_none.mpr ⟨hexists, hparam⟩) hparams h7 hmax hdsp
    let f := e.setPci c.target.toNat { e.pci c.target.toNat with targetRate := kept rate (e.pci c.target.toNat).targetRate }
    have hset : f.pci c.target.toNat = { e.pci c.target.toNat with targetRate := kept rate (e.pci c.target.toNat).targetRate } :=
      pci_setPci e _ _
    rw [pcieRecovery_up (d := f) (by rw [hset]; exact hup)] at hrun
    refine packet_gives_waiting rfl hready hrun fun _ _ _ => ⟨?_, rfl, rfl⟩
    refine (pci_setPci f _ _).trans ?_
    rw [hset]
    rfl
  case retrainDown =>
    intro hready hparams hexists hpfl hdown
    exact packet_replies rfl hready
      (portRetrain_pflDown (d := markBegun 0x0203 c d) (portHeader_eq_none.mpr ⟨hexists, hparam⟩) hparams hpfl hdown)
  case disable =>
    intro hready hparams hexists hmay
    let e := markBegun 0x0204 c d
    have hheader : portHeader c e = none := portHeader_eq_none.mpr ⟨hexists, hparam⟩
    refine ⟨fun hoff => packet_replies rfl hready (portDisable_off hheader hparams hmay hoff), fun hdsp hdpc => ?dsp, fun hpfl => ?pfl⟩
    case dsp =>
      have hfall := pcieDown_besideFall c.target.toNat .disabled e
      refine packet_gives_answered rfl hready (portDisable_dsp hheader hparams hmay hdsp hdpc) fun t ht hstatus =>
        ⟨?_, ?_, hstatus, ?_⟩
      · rw [Device.port, ports_of_besideAnswer ht]
        exact port_setPort _ c.target.toNat _
      · rw [Device.pci, pcie_of_besideAnswer ht]
        exact pcieDown_lstate c.target.toNat .disabled e
      · rw [segs_of_besideAnswer ht]
        exact (segs_of_besideFall hfall :)
    case pfl =>
      have hfall := pflDown_besideFall c.target.toNat 11 e
      obtain ⟨x, fab, hx, hrun⟩ := portDisable_pfl hheader hparams hmay hpfl
      refine packet_gives_answered rfl hready hrun fun t ht hstatus => ⟨?_, ?_, hstatus, ?_⟩
      · rw [Device.port, ports_of_besideAnswer ht]
        exact port_setPort _ c.target.toNat _
      · rw [Device.pfl, plk_of_besideAnswer ht]
        exact (congrArg Plk.state (pfl_setPfl _ c.target.toNat x)).trans hx
      · rw [segs_of_besideAnswer ht]
        exact (segs_of_besideFall hfall :)

end Sys2Proof.Machine
end

section
/-! The inputs and outputs of a slot (R41, R315, R316, R319, R326). -/

namespace Sys2Proof.Machine

/-! ## Pins -/

theorem pinOf_lt {n f k : Nat} {d : Device} (h : pinOf n f d = some k) : k < 12 :=
  List.mem_range.mp (List.mem_of_find?_eq_some h)

theorem not_and_pin {n f : Nat} {d : Device} {P : Prop} (h : pinOf n f d = none) : ¬ (P ∧ (pinOf n f d).isSome = true) := by
  simp [h]

/-- Where a function lies is the pin configuration's alone. -/
theorem pinOf_congr {n f : Nat} {d d' : Device} (h : (d'.pci n).sbFunc = (d.pci n).sbFunc) : pinOf n f d' = pinOf n f d := by
  unfold pinOf
  rw [h]

/-- The levels last sampled, with a new one of pin k. -/
def withLevel (k : Nat) (level : Bool) (v : BitVec 12) : BitVec 12 :=
  if level then v ||| BitVec.ofNat 12 (2 ^ k) else v &&& ~~~ BitVec.ofNat 12 (2 ^ k)

theorem getLsbD_withLevel {k : Nat} (hk : k < 12) (level : Bool) (v : BitVec 12) : (withLevel k level v).getLsbD k = level := by
  have hbit : (BitVec.ofNat 12 (2 ^ k)).getLsbD k = true := by
    rw [BitVec.getLsbD_ofNat, Nat.testBit_two_pow_self, decide_eq_true hk]
    rfl
  cases level
  · simp only [withLevel, Bool.false_eq_true, if_false, BitVec.getLsbD_and, BitVec.getLsbD_not, hbit, Bool.not_true, Bool.and_false]
  · simp only [withLevel, if_true, BitVec.getLsbD_or, hbit, Bool.or_true]

theorem setLevel_some {n f k : Nat} {d : Device} (level : Bool) (h : pinOf n f d = some k) :
    setLevel n f level d = d.setPci n { d.pci n with sbLevel := withLevel k level (d.pci n).sbLevel } := by
  simp [setLevel, h, withLevel]

/-! ## Presence (R315) -/

theorem markPresence_ports (n : Nat) (before d : Device) : (markPresence n before d).ports = d.ports := by
  unfold markPresence
  split <;> rfl

theorem markPresence_bridges (n : Nat) (before d : Device) : (markPresence n before d).bridges = d.bridges := by
  unfold markPresence
  split <;> rfl

theorem markPresence_pci (n : Nat) (before d : Device) : (markPresence n before d).pci n =
    { d.pci n with presenceChanged := (d.pci n).presenceChanged || slotPresent n before != slotPresent n d } := by
  unfold markPresence
  split
  · rename_i h
    simp [h]
  · rename_i h
    simp [h]

/-- The device after a level of PRSNT_N_IN, low for present. -/
def presenceInput (n : Nat) (level : Bool) (d : Device) : Device :=
  markPresence n d ((setLevel n 6 level d).setPci n { (setLevel n 6 level d).pci n with prsnt := !level })

theorem presenceInput_frame {n k : Nat} {d : Device} (level : Bool) (h : pinOf n 6 d = some k) :
    (presenceInput n level d).ports = d.ports ∧ (presenceInput n level d).bridges = d.bridges := by
  unfold presenceInput
  rw [markPresence_ports, markPresence_bridges, setLevel_some level h]
  exact ⟨rfl, rfl⟩

/-- R315: the level read, and Presence Detect Changed where neither the link nor the level before said the same. -/
theorem presenceInput_pci {n k : Nat} {d : Device} (level : Bool) (h : pinOf n 6 d = some k) : ∃ b,
    (presenceInput n level d).pci n =
      { d.pci n with sbLevel := withLevel k level (d.pci n).sbLevel, prsnt := !level, presenceChanged := b } ∧
    (lstateUp (d.pci n).lstate = false → (d.pci n).prsnt = level → b = true) := by
  let e := setLevel n 6 level d
  have he : e.pci n = { d.pci n with sbLevel := withLevel k level (d.pci n).sbLevel } := by
    rw [show e = _ from setLevel_some level h, pci_setPci]
  let e' := e.setPci n { e.pci n with prsnt := !level }
  have he' : e'.pci n = { d.pci n with sbLevel := withLevel k level (d.pci n).sbLevel, prsnt := !level } := by
    rw [pci_setPci, he]
  have hpin : pinOf n 6 e' = some k := (pinOf_congr (by rw [he'])).trans h
  refine ⟨_, (markPresence_pci n d e').trans (by rw [he']), fun hdown hold => ?_⟩
  simp [slotPresent, h, hpin, he', hdown, hold]

/-! ## WAKE_N (R319) -/

theorem mem_of_tget_ne {α : Type} {dflt : α} {t : Tbl α} {n : Nat} (h : tget dflt t n ≠ dflt) : (n, tget dflt t n) ∈ t := by
  induction t with
  | nil => exact absurd rfl h
  | cons e t ih =>
    obtain ⟨k, v⟩ := e
    by_cases hk : k = n
    · subst hk
      simp [tget]
    · simp only [tget, if_neg hk] at h ⊢
      exact List.mem_cons_of_mem _ (ih h)

theorem updateWake_ports (p : Nat) (d : Device) : (updateWake p d).ports = d.ports := by
  unfold updateWake
  split <;> rfl

theorem updateWake_wakeIn (p n : Nat) (d : Device) : ((updateWake p d).pci n).wakeIn = (d.pci n).wakeIn := by
  unfold updateWake
  split
  · rfl
  · rename_i u hu
    by_cases h : n = u
    · subst h
      simp only [pci_setPci]
    · exact congrArg Pcie.wakeIn (pci_setPci_other d _ h)

/-- While a DSP of a partition has its WAKE_N_IN assertion pending, WAKE_N_OUT of the USP follows its link. -/
theorem updateWake_wakeOut {p n u : Nat} {d : Device} (hdsp : (d.port n).personality = .dsp) (hp : (d.port n).holder = p)
    (hwake : (d.pci n).wakeIn = true) (hu : uspOf p d = some u) :
    ((updateWake p d).pci u).wakeOut = (decide ((d.pci u).lstate = .l2) && (pinOf u 5 d).isSome) := by
  have hmem : (n, d.port n) ∈ d.ports := mem_of_tget_ne fun h => by
    rw [show d.port n = portReset from h] at hdsp
    exact absurd hdsp (by decide)
  have hwaiting : (d.ports.any fun e => decide (e.2.personality = .dsp) && decide (e.2.holder = p) &&
      ((d.pci e.1).wakeIn || (d.pci e.1).pmePending)) = true :=
    List.any_eq_true.mpr ⟨(n, d.port n), hmem, by simp [hdsp, hp, hwake]⟩
  simp [updateWake, hu, hwaiting]

/-- The device after WAKE_N of DSP n is asserted, before the partition's WAKE_N_OUT follows. -/
def wakeInput (n : Nat) (d : Device) : Device := setLevel n 4 false (d.setPci n { d.pci n with wakeIn := true })

section
variable {n k : Nat} {d : Device} (h : pinOf n 4 d = some k)
include h

theorem wakeInput_some : ∃ v, wakeInput n d =
    (d.setPci n { d.pci n with wakeIn := true }).setPci n { d.pci n with wakeIn := true, sbLevel := v } := by
  have hpin : pinOf n 4 (d.setPci n { d.pci n with wakeIn := true }) = some k := (pinOf_congr (by rw [pci_setPci])).trans h
  exact ⟨_, by rw [wakeInput, setLevel_some false hpin, pci_setPci]⟩

theorem wakeInput_ports : (wakeInput n d).ports = d.ports := by
  obtain ⟨v, hv⟩ := wakeInput_some h
  rw [hv]; rfl

theorem wakeInput_wakeIn : ((wakeInput n d).pci n).wakeIn = true := by
  obtain ⟨v, hv⟩ := wakeInput_some h
  rw [hv, pci_setPci]

theorem wakeInput_uspOf (p : Nat) : uspOf p (wakeInput n d) = uspOf p d := by
  obtain ⟨v, hv⟩ := wakeInput_some h
  rw [hv]; rfl

/-- The links and the pin configurations stay. -/
theorem wakeInput_link (u : Nat) :
    ((wakeInput n d).pci u).lstate = (d.pci u).lstate ∧ ((wakeInput n d).pci u).sbFunc = (d.pci u).sbFunc := by
  obtain ⟨v, hv⟩ := wakeInput_some h
  rw [hv]
  by_cases hu : u = n
  · subst hu
    rw [pci_setPci]
    exact ⟨rfl, rfl⟩
  · rw [pci_setPci_other _ _ hu, pci_setPci_other _ _ hu]
    exact ⟨rfl, rfl⟩

end

/-! ## PERST_N_OUT and the power controller (R315, R316) -/

/-- R312, R554: a DSP out of reset trains, unless DPC, PORT_DISABLE or the host's Link Disable keeps it down. -/
theorem pcieStart_dsp {n : Nat} {d : Device} (hdsp : (d.port n).personality = .dsp) (hdpc : (d.pci n).dpc = false)
    (hen : (d.port n).enabled = true) (hlink : bitOf (d.bridge (portKey n d)).linkControl 4 = false) :
    pcieStart n d = d.setPci n { d.pci n with lstate := .detect } := by
  have hlink' : bitOf (d.bridge (bridgeKey (d.port n).holder (if (d.port n).holder = 0 then n else (d.port n).bridge.getD 0))).linkControl 4
      = false := hlink
  simp [pcieStart, hdsp, hdpc, hen, hlink']

theorem pcieStart_perstOut (n : Nat) (d : Device) : ((pcieStart n d).pci n).perstOut = (d.pci n).perstOut := by
  simp only [pcieStart, pci_setPci]

theorem shutChannel_on {c : Nat} {d : Device} (h : (d.channel c).state = .on) : ((shutChannel c d).channel c).state = .shutdown := by
  unfold shutChannel
  extract_lets x x'
  rw [if_pos (by rw [show x.state = .on from h]; rfl)]
  have hspw : (slotOff (channelPort c d) (d.setChannel c x')).spw = (d.setChannel c x').spw := by
    unfold slotOff
    extract_lets y e
    split
    · split
      · exact (spw_of_besideFall (pcieDown_besideFall _ .detect e)).trans rfl
      · rfl
    · rfl
  rw [Device.channel, hspw]
  exact congrArg Spw.state (channel_setChannel d c x')

theorem switchOn_off {c : Nat} {d : Device} (h : (d.channel c).state = .off) : ((switchOn c d).channel c).state = .precharge := by
  have hrests : ¬ (spwActive (d.channel c).state = true ∨ (d.channel c).state = .shutdown) := by
    rw [h]
    decide
  unfold switchOn
  extract_lets x e
  rw [if_neg hrests]
  exact congrArg Spw.state (channel_setChannel e c _)

/-- R315: the power controller acts on the channel of its slot. -/
theorem powerControl_gang {n c : Nat} {d : Device} (off : Bool) (hdsp : (d.port n).personality = .dsp)
    (hplug : (d.port n).hotplug = true) (hgang : gangOf n d = [c]) :
    powerControl n off d = if off then shutChannel c d else if canSwitchOn [c] d then switchOn c d
      else portRaise n 0x10 (d.setPci n { d.pci n with powerFault := true }) := by
  simp [powerControl, hdsp, hplug, hgang]

theorem powerControl_fixed {n : Nat} {off : Bool} {d : Device} (hplug : (d.port n).hotplug = false) : powerControl n off d = d :=
  if_pos (.inr (.inl hplug))

/-! ## PERST_N_OUT expires (R316) -/

theorem perstExpires_due {n t0 : Nat} {d : Device} (hpg : (d.pci n).pgAt = some t0) (hdsp : (d.port n).personality = .dsp)
    (hperst : (d.pci n).perstOut = true) (hgang : ∀ c ∈ gangOf n d, (d.channel c).pg = true)
    (hdue : t0 + (d.pci n).perstDelayMs * msNs ≤ d.now) :
    perstExpires n d = pcieStart n (d.setPci n { d.pci n with perstOut := false }) := by
  simp only [perstExpires, hpg]
  exact if_pos ⟨hdsp, hperst, hdue, List.all_eq_true.mpr hgang⟩

theorem perstExpires_early {n t0 : Nat} {d : Device} (hpg : (d.pci n).pgAt = some t0)
    (hearly : d.now < t0 + (d.pci n).perstDelayMs * msNs) : perstExpires n d = d := by
  simp only [perstExpires, hpg]
  exact if_neg fun h => absurd h.2.2.1 (Nat.not_le.mpr hearly)

theorem perstExpires_noPower {n : Nat} {d : Device} (hpg : (d.pci n).pgAt = none) : perstExpires n d = d := by
  simp only [perstExpires, hpg]

/-! ## The statement -/

/-- Settles O29: by the branches of each input's row; WAKE_N_OUT follows because DSP n itself is among those that wait. -/
theorem pcieSlotEvents : Obligations.PcieSlotEvents := by
  intro s n k level d x
  refine ⟨?presence, ?noPresence, ?strayPresence, ?button, ?noButton, ?wake, ?noWake, ?clkreq, ?noClkreq, ?perst, ?noPower, ?fixed,
    ?controller⟩
  case presence =>
    intro hdsp hpin
    obtain ⟨hports, hbridges⟩ := presenceInput_frame level hpin
    obtain ⟨b, hpci, hchanged⟩ := presenceInput_pci level hpin
    refine done_gives_framed rfl (d' := presenceInput n level d) (if_pos ⟨hdsp, Option.isSome_of_eq_some hpin⟩) fun _ _ _ =>
      ⟨?_, ?_, fun hdown hold => ?_, hports, hbridges⟩
    · exact congrArg Pcie.prsnt hpci
    · exact (congrArg (fun y : Pcie => y.sbLevel.getLsbD k) hpci).trans (getLsbD_withLevel (pinOf_lt hpin) level _)
    · exact (congrArg Pcie.presenceChanged hpci).trans (hchanged hdown hold)
  case noPresence =>
    intro hdsp hpin
    exact done_becomes rfl ((if_neg (not_and_pin hpin)).trans (if_pos hdsp))
  case strayPresence =>
    intro hn hdsp
    exact done_becomes rfl ((if_neg fun h => hdsp h.1).trans ((if_neg hdsp).trans (if_pos hn)))
  case button =>
    intro hdsp hpin
    exact done_becomes rfl (if_pos ⟨hdsp, Option.isSome_of_eq_some hpin⟩)
  case noButton =>
    intro hpin
    exact done_becomes rfl (if_neg (not_and_pin hpin))
  case wake =>
    intro hdsp hpin
    have hports := wakeInput_ports hpin
    refine done_gives_framed rfl (d' := updateWake (d.port n).holder (wakeInput n d))
      (if_pos ⟨hdsp, Option.isSome_of_eq_some hpin⟩) fun _ _ _ => ⟨?_, fun u hu => ?_, (updateWake_ports _ _).trans hports⟩
    · exact (updateWake_wakeIn _ n _).trans (wakeInput_wakeIn hpin)
    · obtain ⟨hlink, hfunc⟩ := wakeInput_link hpin u
      have hport : (wakeInput n d).port n = d.port n := congrArg (tget portReset · n) hports
      have hout := updateWake_wakeOut (d := wakeInput n d) (by rw [hport]; exact hdsp) (congrArg Port.holder hport)
        (wakeInput_wakeIn hpin) ((wakeInput_uspOf hpin _).trans hu)
      rw [hlink, pinOf_congr hfunc] at hout
      exact hout
  case noWake =>
    intro hpin
    exact done_becomes rfl (if_neg (not_and_pin hpin))
  case clkreq =>
    intro hpcie hpin
    exact done_becomes rfl (if_pos ⟨hpcie, Option.isSome_of_eq_some hpin⟩)
  case noClkreq =>
    intro hpin
    exact done_becomes rfl (if_neg (not_and_pin hpin))
  case perst =>
    intro t0 hpg hdsp hperst hgang
    refine ⟨fun hdue => ?_, fun hearly => done_becomes rfl (perstExpires_early hpg hearly)⟩
    have hpci : (d.setPci n { x with perstOut := false }).pci n = { x with perstOut := false } := pci_setPci d n _
    refine done_gives_framed rfl (perstExpires_due hpg hdsp hperst hgang hdue) fun _ _ _ => ⟨?_, rfl, fun hdpc hen hlink => ?_⟩
    · exact (pcieStart_perstOut n _).trans (congrArg Pcie.perstOut hpci)
    · have htrains := pcieStart_dsp (d := d.setPci n { x with perstOut := false }) hdsp (by rw [hpci]; exact hdpc) hen hlink
      exact congrArg Pcie.lstate ((congrArg (Device.pci · n) htrains).trans (pci_setPci _ n _))
  case noPower =>
    intro hpg
    exact done_becomes rfl (perstExpires_noPower hpg)
  case fixed =>
    intro hplug
    exact done_becomes rfl (powerControl_fixed hplug)
  case controller =>
    intro c hdsp hplug hgang
    refine ⟨fun hon => ?_, fun hoff hcan => ?_, fun hcannot => ?_⟩
    · exact done_gives_framed rfl (powerControl_gang true hdsp hplug hgang) fun _ _ _ => shutChannel_on hon
    · exact done_gives_framed rfl ((powerControl_gang false hdsp hplug hgang).trans (if_pos hcan)) fun _ _ _ => switchOn_off hoff
    · exact done_becomes rfl ((powerControl_gang false hdsp hplug hgang).trans (if_neg (ne_true_of_eq_false hcannot)))

end Sys2Proof.Machine
end

section
/-! PORT_BUFFER_SET (R77 to R79): on a port without a personality that exchanges items it leaves what a waiting raise has
remembered, and the refutation that rests on it. -/

namespace Sys2Proof.Machine

/-! ## The minima remembered for a raise that waits -/

theorem buf_moveCredit (n m : Nat) (old : PortBuf) (d : Device) : (moveCredit n old d).buf m = d.buf m := by
  unfold moveCredit
  extract_lets x
  split <;> rfl

theorem before_setMinima (n : Nat) (raise : Bool) (want : PortBuf) (d : Device) :
    ((setMinima n raise want d).buf n).before = (d.buf n).before := by
  simp [setMinima, buf_moveCredit]

theorem ports_setMinima (n : Nat) (raise : Bool) (want : PortBuf) (d : Device) : (setMinima n raise want d).ports = d.ports := by
  unfold setMinima moveCredit
  extract_lets
  split <;> rfl

/-- R79: only an enabled port's minima are backed by its panel. -/
theorem raiseBacked_disabled {n : Nat} (want : PortBuf) {d : Device} (h : enabledPort (d.port n) = false) :
    raiseBacked n want d = true := by
  simp [raiseBacked, h]

/-- Port n is not enabled, and remembers the minima that a waiting raise would go back to. -/
def RemembersDisabled (n : Nat) (old : Option (Nat × Nat × Nat × BitVec 24)) (d : Device) : Prop :=
  enabledPort (d.port n) = false ∧ (d.buf n).before = old

theorem remembersDisabled_of_answers {n : Nat} {old : Option (Nat × Nat × Nat × BitVec 24)} (d d' : Device) (h : AnswersOnly d d')
    (hd : RemembersDisabled n old d) : RemembersDisabled n old d' := by
  obtain ⟨k, m, x, o, a, i, t, r, v, w, rfl⟩ := h
  exact hd

/-- PORT_BUFFER_SET puts minima in force at once there, and leaves what is remembered. -/
theorem portBufferSet_remembers {c : Cmd} {old : Option (Nat × Nat × Nat × BitVec 24)} (d : Device)
    (h : RemembersDisabled c.target.toNat old d) : RemembersDisabled c.target.toNat old (portBufferSet c d).1 := by
  obtain ⟨hoff, hold⟩ := h
  unfold portBufferSet
  extract_lets n p size want
  unfold checked
  split
  · exact ⟨hoff, hold⟩
  · beta_reduce
    extract_lets b d₁ ok d₂ _ d₃
    have hok : ok = true := raiseBacked_disabled want hoff
    have h₃ : d₃ = d₂ := if_pos hok
    have hports : d₂.ports = d.ports := ports_setMinima n ok want d₁
    refine ⟨?_, ?_⟩
    · rw [h₃, Device.port, hports]
      exact hoff
    · rw [h₃]
      exact (before_setMinima n ok want d₁).trans (by simpa [d₁] using hold)

/-! ## A raise that waits on a port that is not enabled -/

/-- PORT_BUFFER_SET on port 0, with every value kept but α. -/
def keptMinima : Cmd :=
  { source := { transport := 0, inst := 0 }, flags := 0, seq := 0, target := 0, param0 := 0,
    params := natLe 2 0 ++ natLe 2 0 ++ natLe 2 0 ++ [0xFF, 0] ++ natLe 4 0 }

/-- Its record, admitted and not begun. -/
def keptMinimaExec : Exec :=
  { op := 0x0207, cmd := keptMinima, since := 0, accepted := false, applied := false, reported := 0, begun := false }

/-- Port 0 is OFF, and remembers the minima from before a raise. -/
def rememberingState : State :=
  { State.reset with dev := { State.reset.dev with
    bufs := [(0, { bufReset with before := some (16, 16, 16, 0) })],
    kme := { State.reset.dev.kme with execs := [keptMinimaExec] } } }

theorem ready_rememberingState : Ready 0x0207 keptMinima rememberingState.dev :=
  ⟨⟨keptMinimaExec, by decide +kernel, rfl⟩, rfl, fun h => absurd h (by decide)⟩

theorem remembersDisabled_rememberingState :
    RemembersDisabled keptMinima.target.toNat (some (16, 16, 16, 0)) rememberingState.dev := by
  unfold RemembersDisabled
  decide +kernel

/-- Refutes O20: its clause on PORT_BUFFER_SET has the command drop what a waiting raise has remembered, and on a port that is
not enabled the command leaves it. -/
theorem not_portSettings : ¬ Obligations.PortSettings := by
  intro h
  obtain ⟨hport, -, -⟩ := h rememberingState keptMinima 0
  obtain ⟨hset, -, -⟩ := hport rfl rfl (by decide +kernel)
  obtain ⟨t, ht, -, -, -, -, hbuf⟩ := hset 0 0 0 0 ready_rememberingState (by decide) rfl (by decide) rfl (by decide) rfl (by decide)
    remembersDisabled_rememberingState.1 rfl
  obtain ⟨o, m, l, hn⟩ := notify_frame rememberingState.dev
    (runPacket 0x0207 (portBufferSet keptMinima) keptMinima rememberingState.dev)
  obtain ⟨-, hold⟩ := runPacket_keeps (P := RemembersDisabled keptMinima.target.toNat (some (16, 16, 16, 0)))
    remembersDisabled_of_answers (op := 0x0207) portBufferSet_remembers keptMinima rememberingState.dev
    remembersDisabled_rememberingState
  have hrow : exec (.portBufferSet keptMinima) rememberingState =
    done rememberingState (runPacket 0x0207 (portBufferSet keptMinima) keptMinima rememberingState.dev) := rfl
  rw [hrow, done, hn] at ht
  cases ht
  exact absurd (hold.symm.trans (congrArg PortBuf.before hbuf)) (by decide)

end Sys2Proof.Machine
end

section
/-! ITEM_EGRESS of an item that a replay buffer holds (R63, R269): it concerns the engine of the item's function, and the
refutation that rests on it. -/

namespace Sys2Proof.Machine

/-! ## A placement that has left, and a request that has ended -/

/-- Port 40, a PFL port. -/
def placementPort : Nat := 40

/-- The placement of a READ's response, as the function of partition 5 has issued it. -/
def placementArrival : Arrival :=
  { port := 100, tlp := requestTlp .memWrite (.pf 5) 0x1000 4 [0, 0, 0, 0] State.reset.dev, fab := none, rma := none, fn := some (.pf 5) }

/-- It has left by the PFL port, and stays in the replay buffer until the partner acknowledges it. -/
def placementItem : Item :=
  { bornItem placementArrival 5 State.reset.dev with egress := placementPort, inCells := 0, stage := .replay }

/-- The READ of 4 bytes, whose response has been placed. -/
def placedRead : WorkReq :=
  { wqe := { op := 3, flags := 0, length := 4, wrId := 0, localAddr := 0x1000, localKey := 0, remoteKey := 0, remoteAddr := 0, imm := 0,
             operand1 := 0, operand2 := 0 },
    firstPsn := 0, psns := 1, sent := 1, placed := [0], fetchedAt := 0 }

/-- Its queue pair, in RTS, where the READ is still the head of the requests. -/
def placedQp : Qp := { newQp (.pf 5) [] State.reset.dev with state := .rts, reqs := [placedRead] }

/-- The device with both. -/
def placedState : State :=
  { State.reset with dev := { State.reset.dev with
    ports := [(placementPort, { portReset with personality := .pfl })], items := [placementItem], qps := [(7, placedQp)] } }

theorem findItem_placedState : findItem placementItem.id placedState.dev = some placementItem := by decide +kernel

/-- R269: the row has the engine take the READ from the queue pair. -/
theorem itemLeaves_placedState : ((itemLeaves placementItem.id placedState.dev).qp 7).map (·.reqs) = some [] := by decide +kernel

/-- Refutes O45: its clause on an item that is not being sent, or not with its last cell, has the row change nothing. An item in a
replay buffer is not being sent, and its row completes what its function's queue pairs have waiting. -/
theorem not_itemsLeave : ¬ Obligations.ItemsLeave := by
  intro h
  obtain ⟨-, -, -, -, hunfinished, -⟩ := h placedState 0 0 placementItem.id placementItem 0
  have hstays := hunfinished findItem_placedState (.inl (by decide))
  have hrow : exec (.itemEgress placementItem.id) placedState = done placedState (itemLeaves placementItem.id placedState.dev) := rfl
  have hdev : notify placedState.dev (itemLeaves placementItem.id placedState.dev) = notify placedState.dev placedState.dev :=
    congrArg State.dev (Host.Outcome.next.inj (hrow.symm.trans hstays))
  have hqps : (itemLeaves placementItem.id placedState.dev).qps = placedState.dev.qps := by
    have hbeside := congrArg Device.besideAnswer hdev
    rw [notify_besideAnswer, notify_besideAnswer] at hbeside
    exact (congrArg Device.qps hbeside :)
  have hreqs := itemLeaves_placedState
  rw [Device.qp, hqps] at hreqs
  exact absurd hreqs (by decide +kernel)

end Sys2Proof.Machine
end

section
/-! Panel lookup of a host's requests (R55, R87, R88), and the completions that return (R87, R227, R322). -/

namespace Sys2Proof.Machine

/-! ## Arrivals at a PCI Express port -/

/-- R55: an arrival at a PCI Express port is looked up, and credit that its items do not hold is free at once. -/
theorem takeArrival_pcie (look : Arrival → Device → Device) {a : Arrival} {d : Device} (hn : a.port < 96)
    (hp : (d.port a.port).personality = .usp ∨ (d.port a.port).personality = .dsp) :
    takeArrival look a d = settleArrival a d (look a d) := by
  have hadmits : admits a (arrivalClass a) d = true := by
    obtain h | h := hp <;> simp [admits, Nat.not_le.mpr hn, h]
  have htaken : takeDelivered a d = d := by
    obtain h | h := hp <;> simp [takeDelivered, Nat.not_le.mpr hn, h]
  simp [takeArrival, hadmits, htaken]

theorem lateCpl_setPci_same {d : Device} {n : Nat} {x : Pcie} (h : x.lateCpl = (d.pci n).lateCpl) (m : Nat) :
    ((d.setPci n x).pci m).lateCpl = (d.pci m).lateCpl := by
  by_cases hm : m = n
  · subst hm
    rw [pci_setPci, h]
  · rw [pci_setPci_other d x hm]

theorem freeIngress_lateCpl (n cls q : Nat) (t : Tlp) (hdr data : Nat) (d : Device) (m : Nat) :
    ((freeIngress n cls q t hdr data d).pci m).lateCpl = (d.pci m).lateCpl := by
  unfold freeIngress
  split
  · rfl
  · split
    · rfl
    · refine lateCpl_setPci_same ?_ m
      rfl

theorem settleArrival_lateCpl (a : Arrival) (before d : Device) (m : Nat) :
    ((settleArrival a before d).pci m).lateCpl = (d.pci m).lateCpl := by
  unfold settleArrival
  extract_lets q cls mine hdr data
  split
  · rfl
  · exact freeIngress_lateCpl a.port cls q a.tlp hdr data d m

/-- What a row of an arrival at a PCI Express port gives is judged on what its look-up leaves, whatever link credit and interrupt
outputs it ends with. -/
theorem arrival_gives {i : Instr} {s : State} {look : Arrival → Device → Device} {a : Arrival} {P : Device → Prop}
    (hx : exec i s = done s (takeArrival look a s.dev)) (hn : a.port < 96)
    (hp : (s.dev.port a.port).personality = .usp ∨ (s.dev.port a.port).personality = .dsp)
    (h : ∀ k p o m l, (∀ n, (tget pcieReset p n).lateCpl = ((look a s.dev).pci n).lateCpl) →
      P { look a s.dev with plk := k, pcie := p, issued := o, msix := m, glb := { (look a s.dev).glb with alertLow := l } }) :
    Gives i s P := by
  obtain ⟨k, p, hsettle, -⟩ := settleArrival_frame a s.dev (look a s.dev)
  refine done_gives_framed hx ((takeArrival_pcie look hn hp).trans hsettle) fun o m l => h k p o m l fun n => ?_
  have hlate := settleArrival_lateCpl a s.dev (look a s.dev) n
  rw [hsettle] at hlate
  exact hlate

/-! ## Requests of a host -/

/-- An item of a host at panel lookup, in its partition and with its queue. -/
def hostItem (a : Arrival) (d : Device) : Item := { bornItem a (d.port a.port).holder d with queue := queueOf a d }

/-- R87, R88: a memory request of a host outside the window BAR, with no fence in its way, goes where it is routed. -/
theorem panelLookup_host {a : Arrival} {d : Device} (husp : (d.port a.port).personality = .usp) (hrma : a.rma = none)
    (hfn : a.fn = none) (hfence : d.fenced (d.port a.port).holder = false)
    (hwindow : inBar (d.func (function1 (d.port a.port).holder)).windowBar 0x1000000000 a.tlp.addr = false)
    (hpoison : a.tlp.poisoned = false) (hkind : a.tlp.kind = .memWrite ∨ a.tlp.kind = .memRead) :
    panelLookup a d = follow (hostItem a d) true (routeDown (d.port a.port).holder a.tlp d) d := by
  obtain h | h := hkind <;>
    simp [panelLookup, hrma, hfn, husp, h, isCpl, isConfig, lookupPort, hfence, lookupLocal, bornItem, hwindow, hpoison, hostItem]

/-- R88: a read that nothing claims is completed with Unsupported Request, which the bridge logs. -/
theorem follow_refuse_read {i : Item} {key : Nat} (own : Bool) (d : Device) (hkind : i.tlp.kind = .memRead) (hcls : i.cls = 1)
    (hwindow : i.window = none) (hfab : i.fab = none) (hn : i.ingress < 96) : follow i own (.refuse key) d =
      emit (.item i.ingress (completionFor i.tlp i.srcRid i.srcTag .ur) none) (bridgeError key 20 d) := by
  simp [follow, refuseItem, hkind, hcls, answerItem, hwindow, emitCpl, hfab, Nat.not_le.mpr hn]

theorem testBit_bridgeError (key bit : Nat) (d : Device) : ((bridgeError key bit d).bridge key).aerUncor.testBit bit = true := by
  simp [bridgeError, Nat.testBit_or]

/-- A MGMT item has a row of its own. -/
theorem panelLookup_mgmt {a : Arrival} {d : Device} (hrma : a.rma = none) (hfab : a.fab = none) (hkind : a.tlp.kind = .mgmt) :
    panelLookup a d = d := by
  simp [panelLookup, hrma, hfab, hkind, isCpl]

/-! ## Completions -/

section
variable {a : Arrival} {d : Device}

/-- With one request tracked, a completion answers it when it names its identity and tag, at the port where it left. -/
theorem matchTrack_single {t : Track} (ht : d.tracks = [t]) (hfab : a.fab = none) (hrid : t.rid = a.tlp.reqId)
    (htag : t.tag = a.tlp.tag) (hfid : t.fid = none) (hport : t.port = a.port) (answered : Bool) :
    matchTrack a answered d = if t.answered = answered then some t else none := by
  by_cases h : t.answered = answered <;> simp [matchTrack, ht, hfab, hrid, htag, hfid, hport, h]

theorem matchTrack_none (ht : d.tracks = []) (answered : Bool) : matchTrack a answered d = none := by
  rw [matchTrack, ht, List.find?_nil]

theorem completionArrival_answers {t : Track} (hfab : a.fab = none) (h : matchTrack a false d = some t) :
    completionArrival a d = answerTrack t a.tlp a d := by
  simp [completionArrival, hfab, h]

theorem completionArrival_late {t : Track} (hfab : a.fab = none) (hopen : matchTrack a false d = none)
    (h : matchTrack a true d = some t) : completionArrival a d = lateCompletion t a.port d := by
  simp [completionArrival, hfab, hopen, h]

/-- R87: a completion from below a DSP that answers nothing is an Unexpected Completion at the port's bridge. -/
theorem completionArrival_unexpected (hn : a.port < 96) (hdsp : (d.port a.port).personality = .dsp) (hfab : a.fab = none)
    (hfn : a.fn = none) (ht : d.tracks = []) : completionArrival a d = bridgeError (portKey a.port d) 16 d := by
  simp [completionArrival, hfab, hfn, matchTrack_none ht, Nat.not_le.mpr hn, hdsp, unexpected]

/-- R322: a late completion is counted at its DSP; its request goes, but for what it holds for its source. -/
theorem lateCompletion_dsp {t : Track} (ht : d.tracks = [t]) (hfn : t.fn = none) (hdsp : (d.port a.port).personality = .dsp) :
    ∃ e : Device, lateCompletion t a.port d = e.setPci a.port { e.pci a.port with lateCpl := satAdd 0xFF (e.pci a.port).lateCpl 1 } ∧
      e.tracks = (if t.held = [] then [] else [{ t with port := unsentPort, fid := none }]) ∧ e.items = d.items ∧ e.pcie = d.pcie := by
  unfold lateCompletion
  extract_lets d₁ d₂
  have h₁ : d₁ = { d with tracks := if t.held = [] then [] else [{ t with port := unsentPort, fid := none }] } := by
    by_cases hheld : t.held = [] <;> simp [d₁, hheld, ht, putTrack]
  obtain ⟨k, c, h₂⟩ : ∃ k c, d₂ = { d₁ with counters := k, cnt := c } := countPort_frame 0x022 a.port 0 2 t.part 1 d₁
  rw [h₁] at h₂
  have hdsp₂ : (d₂.port a.port).personality = .dsp := by rw [h₂]; exact hdsp
  clear_value d₂
  refine ⟨d₂, ?_, by rw [h₂], by rw [h₂], by rw [h₂]⟩
  simp only [hfn]
  exact if_pos hdsp₂

/-- A completion as the requester knows its request (R99, R310). -/
def restoredCpl (t : Track) (c : Tlp) : Tlp :=
  { c with destId := t.nearRid, reqId := t.nearRid, tag := t.nearTag, digest := c.digest && !t.steer.isSome }

/-- R322: the last completion ends the request. -/
theorem answerTrack_last {t : Track} {c : Tlp} (hwindow : t.window = none) (hlast : lastCpl t c = true) : answerTrack t c a d =
    dropTrack t (sendCpl t (restoredCpl t c) a t.part (natOfBool (decide (a.port < 96))) (dataCredit a.port c d) d) := by
  simp [answerTrack, hwindow, hlast, restoredCpl]

/-- R87: a completion for a requester on a USP whose link is up enters the VOQ toward it. -/
theorem sendCpl_usp {t : Track} (c : Tlp) (part hdr data : Nat) (hnear : t.nearFab = none)
    (husp : (d.port t.nearPort).personality = .usp) (hup : linkUp t.nearPort d = true) :
    ∃ j, sendCpl t c a part hdr data d = enterVoq j d ∧ j.id = d.nextId ∧ j.egress = t.nearPort ∧ j.cls = 2 ∧
      j.tlp.reqId = c.reqId ∧ j.tlp.tag = c.tag ∧ j.tlp.data = c.data := by
  have hdirect : cplRedirect t a.port d = false := by simp [cplRedirect, husp]
  have hthere : ¬ (t.nearPort < 96 ∧ linkUp t.nearPort d = false) := by simp [hup]
  simp only [sendCpl, hnear, hdirect, Bool.false_eq_true, if_false]
  exact ⟨_, if_neg hthere, rfl, rfl, rfl, rfl, rfl, rfl⟩

theorem dropTrack_tracks_single {t : Track} (ht : d.tracks = [t]) : (dropTrack t d).tracks = [] := by
  simp [dropTrack, ht]

end

/-! ## The statement -/

/-- Settles O17: by where the row sends the arrival, and what entering a VOQ, refusing and answering leave. -/
theorem itemsAreRouted : Obligations.ItemsAreRouted := by
  refine ⟨?requests, ?completions⟩
  case requests =>
    intro s a d n p hn husp hrma hfn hfab hfence hwindow hpoison
    have hhost := panelLookup_host husp hrma hfn hfence hwindow hpoison
    refine ⟨fun m hkind hroute hm hdsp hdpc hup => ?write, fun key hkind hroute => ?read, fun hkind => ?mgmt⟩
    case write =>
      obtain ⟨x, y, hfollow⟩ := follow_port (hostItem a d) true hdsp hdpc hup
      obtain ⟨f, k, c, l, q, b, henter, -⟩ := enterVoq_frame
        { hostItem a d with egress := m, stored := !cutsThrough (hostItem a d).ingress m d, slot := x, sharedSlot := y } d
      have hlook := hhost (.inl hkind)
      rw [hroute, hfollow, henter] at hlook
      refine arrival_gives rfl hn (.inl husp) fun _ _ _ _ _ _ => ?_
      rw [hlook]
      refine ⟨rfl, rfl, rfl, _, List.mem_append_right _ (List.mem_singleton_self _), rfl, rfl, rfl, rfl, rfl, rfl, ?_⟩
      show arrivalClass a = 0
      rw [arrivalClass, hrma, hkind, kindClass]
    case read =>
      have hcls : (hostItem a d).cls = 1 := by
        show arrivalClass a = 1
        rw [arrivalClass, hrma, hkind, kindClass]
      have hlook := hhost (.inr hkind)
      rw [hroute, follow_refuse_read true d hkind hcls rfl hfab hn] at hlook
      refine arrival_gives rfl hn (.inl husp) fun _ _ _ _ _ _ => ?_
      rw [hlook]
      exact ⟨rfl, rfl, List.mem_cons_self, testBit_bridgeError key 20 d⟩
    case mgmt =>
      refine arrival_gives rfl hn (.inl husp) fun _ _ _ _ _ _ => ?_
      rw [panelLookup_mgmt hrma hfab hkind]
      exact ⟨rfl, rfl, rfl⟩
  case completions =>
    intro s a t d n hn hdsp hfn hfab hrma
    refine ⟨fun ht hrid htag hfid hport htfn => ?_, fun ht => ?unexpected⟩
    case unexpected =>
      refine arrival_gives rfl hn (.inr hdsp) fun _ _ _ _ _ _ => ?_
      rw [completionArrival_unexpected hn hdsp hfab hfn ht]
      exact ⟨rfl, ht, testBit_bridgeError (portKey n d) 16 d⟩
    have hmatch := matchTrack_single ht hfab hrid htag hfid hport
    refine ⟨fun hopen hwindow _ hnear _ husp hup _ _ _ hlen => ?returns, fun hanswered => ?late⟩
    case returns =>
      have hlast : lastCpl t a.tlp = true := by simp [lastCpl, hlen]
      obtain ⟨j, hsent, hj, hegress, hcls, hreqId, hjtag, hdata⟩ := sendCpl_usp (a := a) (restoredCpl t a.tlp) t.part
        (natOfBool (decide (n < 96))) (dataCredit n a.tlp d) hnear husp hup
      obtain ⟨f, k, c, l, p, b, henter, -⟩ := enterVoq_frame j d
      have hlook := completionArrival_answers hfab ((hmatch false).trans (if_pos hopen))
      rw [answerTrack_last hwindow hlast, hsent, henter] at hlook
      refine arrival_gives rfl hn (.inr hdsp) fun _ _ _ _ _ _ => ?_
      rw [hlook]
      exact ⟨dropTrack_tracks_single ht, rfl, j, List.mem_append_right _ (List.mem_singleton_self j), hj, hegress, hcls, hreqId, hjtag, hdata⟩
    case late =>
      obtain ⟨e, hlate, htracks, hitems, hpcie⟩ := lateCompletion_dsp ht htfn hdsp
      have hpci : e.pci n = d.pci n := congrArg (tget pcieReset · n) hpcie
      have hlook := (completionArrival_late hfab ((hmatch false).trans (if_neg (by simp [hanswered])))
        ((hmatch true).trans (if_pos hanswered))).trans hlate
      refine arrival_gives rfl hn (.inr hdsp) fun _ _ _ _ _ hkeep => ?_
      rw [hlook] at hkeep ⊢
      refine ⟨htracks, hitems, (hkeep n).trans ?_⟩
      rw [pci_setPci, hpci]

end Sys2Proof.Machine
end

section
/-! Configuration accesses of hosts (R85, R86, R89, R92, R98, R102, R371): who answers, by the function that an access names. -/

namespace Sys2Proof.Machine

section
variable {p bus k n v rid : Nat} {f : CfgField} {d : Device}

/-! ## Virtual bridges (R85, R89, R102) -/

theorem cfgRead_downstream (hk : k ≠ 100) (h : bridgeExists p k d = true) :
    cfgRead p (.downstream k) f d = cfgReply p .sc (bridgeRead p k f d).1 (bridgeRead p k f d).2 := if_pos ⟨hk, h⟩

theorem cfgRead_downstream_absent (h : bridgeExists p k d = false) : cfgRead p (.downstream k) f d = cfgReply p .ur 0 d :=
  if_neg (by simp [h])

theorem cfgWrite_downstream (hk : k ≠ 100) (h : bridgeExists p k d = true) :
    cfgWrite p bus (.downstream k) f v d = cfgReply p .sc 0 (bridgeWrite p k f v d) := if_pos ⟨hk, h⟩

theorem cfgWrite_downstream_absent (h : bridgeExists p k d = false) :
    cfgWrite p bus (.downstream k) f v d = cfgReply p .ur 0 d := if_neg (by simp [h])

theorem cfgWrite_upstream (h : bridgeExists p 100 d = true) : cfgWrite p bus .upstream f v d =
    cfgReply p .sc 0 (bridgeWrite p 100 f v (d.setPart p { d.part p with capturedBus := bus % 256 })) := if_pos h

theorem guardedBus_held (set : Device → Device) (hdsp : (d.port n).personality = .dsp) (hsteers : steersOut n d = true) :
    guardedBus p (some n) true set d = countBlocked p d := by simp [guardedBus, hdsp, hsteers]

theorem guardedBus_free (change : Bool) (set : Device → Device) : guardedBus p none change set d = set d := rfl

theorem bridgeWrite_secondaryBus (hk : k ≠ 100) : bridgeWrite p k .secondaryBus v d =
    guardedBus p (hostsPort p k d) (decide ((d.bridge (bridgeKey p k)).secondary ≠ v % 256))
      (fun d' => d'.setBridge (bridgeKey p k) { d.bridge (bridgeKey p k) with secondary := v % 256 }) d := by
  simp only [bridgeWrite, if_neg hk]

/-! ## Functions of the S96 (R371) -/

theorem cfgRead_vf_absent (h : vfAnswers p n d = false) : cfgRead p (.vf n) f d = cfgReply p .ur 0 d := if_neg (by simp [h])

theorem cfgRead_vf_flr (h : vfAnswers p n d = true) (hflr : (d.func (.vf n)).flr ≠ .idle) :
    cfgRead p (.vf n) f d = cfgReply p .crs 0 d := (if_pos h).trans (if_pos hflr)

theorem cfgRead_vf (h : vfAnswers p n d = true) (hflr : (d.func (.vf n)).flr = .idle) :
    cfgRead p (.vf n) f d = cfgReply p .sc (funcRead (.vf n) f d).1 (funcRead (.vf n) f d).2 :=
  (if_pos h).trans (if_neg (not_not_intro hflr))

theorem cfgWrite_vf_flr (h : vfAnswers p n d = true) (hflr : (d.func (.vf n)).flr ≠ .idle) :
    cfgWrite p bus (.vf n) f v d = cfgReply p .crs 0 d := (if_pos h).trans (if_pos hflr)

theorem cfgWrite_vf (h : vfAnswers p n d = true) (hflr : (d.func (.vf n)).flr = .idle) :
    cfgWrite p bus (.vf n) f v d = cfgReply p .sc 0 (funcWrite (.vf n) f v d) :=
  (if_pos h).trans (if_neg (not_not_intro hflr))

theorem funcWrite_devControlFlr {fn : Fn} (hv : bitOf v 0 = true) : funcWrite fn .devControlFlr v d = startFlr fn d := if_pos hv

/-! ## Functions below a DSP (R98, R102) -/

theorem cfgRead_endpoint_foreign (h : (d.port n).personality ≠ .dsp ∨ (d.port n).holder ≠ p) :
    cfgRead p (.endpoint n rid) f d = cfgReply p .ur 0 d := if_pos h

theorem cfgWrite_endpoint_foreign (h : (d.port n).personality ≠ .dsp ∨ (d.port n).holder ≠ p) :
    cfgWrite p bus (.endpoint n rid) f v d = cfgReply p .ur 0 d := if_pos h

section
variable (hdsp : (d.port n).personality = .dsp) (hp : (d.port n).holder = p)
include hdsp hp

theorem cfgRead_endpoint : cfgRead p (.endpoint n rid) f d =
    if linkUp n d = false then cfgReply p .ur 0 d else if d.fenced p = true then cfgReply p .crs 0 d
    else emit (.config n rid f none) d := if_neg (by simp [hdsp, hp])

theorem cfgWrite_endpoint (hup : linkUp n d = true) (hfence : d.fenced p = false) : cfgWrite p bus (.endpoint n rid) f v d =
    if protectedWrite n rid f v d = true then cfgReply p .ca 0 (countBlocked p d)
    else emit (.config n rid f (some v))
      { d with sriov := tset sriovNone d.sriov (sriovKey n rid) (learnSriov f v (d.sriovOf n rid)) } := by
  simp [cfgWrite, endpointWrite, hdsp, hp, hup, hfence]

end

/-! ## Steered VFs (R92, R98) -/

/-- An entry stands for this function of this bridge of this partition. -/
def SteersTo (p k func : Nat) (x : Steer) : Prop := x.part = p ∧ x.bridge = k ∧ x.func = func

theorem steeredAccess_absent {func : Nat} {w : Option Nat} (h : ∀ x ∈ d.steers ++ d.homeSteers, ¬ SteersTo p k func x.2) :
    steeredAccess p k func f w d = cfgReply p .ur 0 d := by
  have hnone (l : List (Nat × Steer)) (hl : ∀ x ∈ l, ¬ SteersTo p k func x.2) :
      l.find? (fun e => decide (e.2.part = p) && decide (e.2.bridge = k) && decide (e.2.func = func)) = none := by
    refine List.find?_eq_none.2 fun x hx hs => hl x hx ?_
    simpa [SteersTo, and_assoc] using hs
  rw [List.forall_mem_append] at h
  rw [steeredAccess, hnone d.steers h.1, hnone d.homeSteers h.2]

section
variable {func : Nat} {w : Option Nat} {e : Steer} (hsteers : d.steers = [(n, e)]) (hto : SteersTo p k func e)
include hsteers hto

theorem steeredAccess_single : steeredAccess p k func f w d =
    if entryLost (.steer n) d = true then cfgReply p .ur 0 d
    else accessVf p e f w (fun y d => d.setSteer n y)
      (fun d => if linkUp e.port d = true then emit (.config e.port e.realRid f w) d else cfgReply p .ur 0 d) d := by
  obtain ⟨hpart, hbridge, hfunc⟩ := hto
  have hfind : d.steers.find? (fun e => decide (e.2.part = p) && decide (e.2.bridge = k) && decide (e.2.func = func)) = some (n, e) := by
    simp [hsteers, hpart, hbridge, hfunc]
  rw [steeredAccess, hfind]

end

section
variable {x : Steer} {w : Option Nat} {put : Steer → Device → Device} {send : Device → Device}

/-- R92, Table 4.3: a fence and an FLR that has just ended are answered with Request Retry Status. -/
theorem accessVf_retry (h : d.fenced p = true ∨ x.fenced = true ∨ d.now < x.retryUntil) :
    accessVf p x f w put send d = cfgReply p .crs 0 d := if_pos h

variable (hp : d.fenced p = false) (hx : x.fenced = false) (hdue : x.retryUntil ≤ d.now)
include hp hx hdue

/-- R98: an emulated field is answered here, and any other access passes to the VF. -/
theorem accessVf_read (hf : steeredField x f d = some v) : accessVf p x f none put send d = cfgReply p .sc v d := by
  simp [accessVf, hp, hx, Nat.not_lt.mpr hdue, hf]

theorem accessVf_write (hf : steeredField x f d = some n) :
    accessVf p x f (some v) put send d = cfgReply p .sc 0 (put (steeredWrite x f v d) d) := by
  simp [accessVf, hp, hx, Nat.not_lt.mpr hdue, hf]

theorem accessVf_passes (hf : steeredField x f d = none) : accessVf p x f w put send d = send d := by
  simp [accessVf, hp, hx, Nat.not_lt.mpr hdue, hf]

end

end

/-! ## The statement -/

/-- Settles O51: each access goes to the function that it names, and that function's own rule answers it. -/
theorem configurationAccesses : Obligations.ConfigurationAccesses := by
  intro s p bus k n v rid func f g e d b u front
  have read {t : CfgTarget} {f : CfgField} {r : Device} (h : cfgRead p t f d = r) : Becomes (.vbridgeConfigRead p t f) s r :=
    done_becomes rfl h
  have write {t : CfgTarget} {f : CfgField} {r : Device} (h : cfgWrite p bus t f v d = r) : Becomes (.vbridgeConfigWrite p bus t f v) s r :=
    done_becomes rfl h
  have access {f : CfgField} {w : Option Nat} {r : Device} (h : steeredAccess p k func f w d = r) :
      Becomes (.steeredVfConfigAccess p k func f w) s r := done_becomes rfl h
  refine ⟨?noBridge, ?bridge, ?upstream, ?noVf, ?vfResets, ?vf, ?foreign, ?endpoint, ?noSteered, ?lost, ?steered⟩
  case noBridge => exact fun _ h => ⟨read (cfgRead_downstream_absent h), write (cfgWrite_downstream_absent h)⟩
  case bridge =>
    intro hk h
    refine ⟨read (cfgRead_downstream hk h), write (cfgWrite_downstream hk h), write (cfgWrite_downstream hk h),
      fun hn hdsp hsteers hv => write ?_, fun hn => write ?_⟩
    · rw [cfgWrite_downstream hk h, bridgeWrite_secondaryBus hk, hn, decide_eq_true hv, guardedBus_held _ hdsp hsteers]
    · rw [cfgWrite_downstream hk h, bridgeWrite_secondaryBus hk, hn, guardedBus_free]
  case upstream => exact fun h => write (cfgWrite_upstream h)
  case noVf => exact fun h => read (cfgRead_vf_absent h)
  case vfResets => exact fun h hflr => ⟨read (cfgRead_vf_flr h hflr), write (cfgWrite_vf_flr h hflr)⟩
  case vf =>
    intro h hflr
    refine ⟨read (cfgRead_vf h hflr), fun hv => write ?_⟩
    rw [cfgWrite_vf h hflr, funcWrite_devControlFlr hv]
  case foreign => exact fun h => ⟨read (cfgRead_endpoint_foreign h), write (cfgWrite_endpoint_foreign h)⟩
  case endpoint =>
    intro hdsp hp
    have hread {f : CfgField} := cfgRead_endpoint (rid := rid) (f := f) hdsp hp
    refine ⟨fun hdown => read ?_, fun hfence hup => read ?_, fun hfence hup => ⟨read ?_, fun hprot => write ?_, fun hopen => write ?_⟩⟩
    · rw [hread, if_pos hdown]
    · rw [hread, if_neg (by simp [hup]), if_pos hfence]
    · rw [hread, if_neg (by simp [hup]), if_neg (by simp [hfence])]
    · rw [cfgWrite_endpoint hdsp hp hup hfence, if_pos hprot]
    · rw [cfgWrite_endpoint hdsp hp hup hfence, if_neg (by simp [hopen])]
  case noSteered => exact fun h => access (steeredAccess_absent h)
  case lost =>
    intro hsteers hpart hbridge hfunc hlost
    exact access ((steeredAccess_single hsteers ⟨hpart, hbridge, hfunc⟩).trans (if_pos hlost))
  case steered =>
    intro hsteers hpart hbridge hfunc hkept
    have hvf {f : CfgField} {w : Option Nat} := (steeredAccess_single (f := f) (w := w) hsteers ⟨hpart, hbridge, hfunc⟩).trans
      (if_neg (by simp [hkept]))
    refine ⟨fun hretry => access (hvf.trans (accessVf_retry hretry)), fun hp he hdue => ?_⟩
    have hpasses {w : Option Nat} := hvf.trans (accessVf_passes (f := .maxPayload) (w := w) hp he hdue rfl)
    exact ⟨access (hvf.trans (accessVf_read hp he hdue rfl)), access (hvf.trans (accessVf_read hp he hdue rfl)),
      access (hvf.trans (accessVf_write hp he hdue rfl)), fun hup => access (hpasses.trans (if_pos hup)),
      fun hdown => access (hpasses.trans (if_neg (by simp [hdown])))⟩

end Sys2Proof.Machine
end

section
/-! The fall of a link (R229, R312): what the items toward it are answered with, and the refutation that rests on it. -/

namespace Sys2Proof.Machine

/-! ## A request that came from the port it goes to -/

/-- The internal port of an RMA slice. -/
def rmaPort : Nat := 96

/-- A read that the function of partition 5 has issued there. -/
def sliceArrival : Arrival :=
  { port := rmaPort, tlp := requestTlp .memRead (.pf 5) 0x1000 4 [] State.reset.dev, fab := none, rma := none, fn := some (.pf 5) }

/-- It waits toward the port it came from. -/
def sliceRead : Item := { bornItem sliceArrival 5 State.reset.dev with egress := rmaPort, inCells := 0 }

/-- The device with both, where the port has the personality DSP and a link that is up. -/
def sliceDspState : State :=
  { State.reset with dev := { State.reset.dev with
    ports := [(rmaPort, { portReset with personality := .dsp })], pcie := [(rmaPort, { pcieReset with lstate := .l0 })],
    items := [sliceRead] } }

/-- R94, R231: the read's synthetic completion is an item toward the port that the read came from. -/
theorem secondaryReset_sliceDspState : (secondaryReset rmaPort sliceDspState.dev).items.map (·.egress) = [rmaPort] := by
  decide +kernel

/-- Refutes O28: its clause on Secondary Bus Reset has nothing remain toward any port whose personality is DSP. It does not ask that
the port be one of the 96 external ones; toward an internal port the read's own synthetic completion remains. -/
theorem not_pcieLinksTrainAndFall : ¬ Obligations.PcieLinksTrainAndFall := by
  intro h
  obtain ⟨-, -, -, -, -, -, hreset, -⟩ := h sliceDspState rmaPort 0 0 0 0 false false false
  obtain ⟨t, ht, -, -, -, hgone, -⟩ := hreset rfl (by decide +kernel) rfl rfl
  have hrow : exec (.secondaryBusReset rmaPort) sliceDspState = done sliceDspState (secondaryReset rmaPort sliceDspState.dev) := rfl
  obtain ⟨o, m, l, hn⟩ := notify_frame sliceDspState.dev (secondaryReset rmaPort sliceDspState.dev)
  rw [hrow, done, hn] at ht
  cases ht
  have hstays : rmaPort ∈ (secondaryReset rmaPort sliceDspState.dev).items.map (·.egress) := by
    rw [secondaryReset_sliceDspState]
    exact List.mem_singleton_self _
  obtain ⟨i, hi, hegress⟩ := List.mem_map.1 hstays
  exact hgone i hi hegress

end Sys2Proof.Machine
end

section
/-! What the end of a partition's traffic and its reset (R92 to R97, R110 to R112) leave: the ports, the segments, and the state
of each partition. -/

namespace Sys2Proof.Machine

/-! ## The layout of the device -/

/-- The ports, the segments, and the state of each partition. -/
def Device.layout (d : Device) : Tbl Port × Tbl Seg × (Nat → PartState) := (d.ports, d.segs, fun p => (d.part p).state)

section
variable {d t : Device} (h : t.layout = d.layout)
include h

theorem ports_of_layout : t.ports = d.ports := congrArg Prod.fst h
theorem segs_of_layout : t.segs = d.segs := congrArg (·.2.1) h
theorem state_of_layout (p : Nat) : (t.part p).state = (d.part p).state := congrArg (·.2.2 p) h

end

theorem AnswersOnly.layout {d d' : Device} (h : AnswersOnly d d') : d'.layout = d.layout := by
  obtain ⟨k, m, x, o, a, i, t, n, v, w, rfl⟩ := h
  rfl

theorem foldl_layout {β : Type} {f : Device → β → Device} (h : ∀ d x, (f d x).layout = d.layout) (l : List β) (d : Device) :
    (l.foldl f d).layout = d.layout :=
  List.foldlRecOn l f (motive := fun e => e.layout = d.layout) rfl fun e he x _ => (h e x).trans he

/-- A partition that keeps its state keeps the layout. -/
theorem setPart_layout {p : Nat} {x : Part} {d : Device} (h : x.state = (d.part p).state) : (d.setPart p x).layout = d.layout := by
  refine Prod.ext rfl (Prod.ext rfl (funext fun q => ?_))
  by_cases hq : q = p
  · subst hq
    exact (congrArg Part.state (part_setPart d q x)).trans h
  · exact congrArg Part.state (part_setPart_other d x hq)

/-! ## What dropping and answering an item leave (R94, R231, Table 8.3) -/

theorem freeIngress_layout (n cls q : Nat) (t : Tlp) (hdr data : Nat) (d : Device) :
    (freeIngress n cls q t hdr data d).layout = d.layout := by
  obtain ⟨x, y, h, -⟩ := freeIngress_frame n cls q t hdr data d
  rw [h]; rfl

theorem removeItem_layout (id : Nat) (d : Device) : (removeItem id d).layout = d.layout := by
  unfold removeItem
  extract_lets d₁
  show d₁.layout = d.layout
  unfold d₁
  split
  · split
    · rfl
    · exact freeIngress_layout _ _ _ _ _ _ d
  · rfl

theorem traceEnd_layout (i : Item) (outcome : Nat) (d : Device) : (traceEnd i outcome d).layout = d.layout := by
  have hring (r : Ring) (size : Nat) (blocks : List (List Byte)) (e : Device) : (ringWrite r size blocks e).2.layout = e.layout := by
    have hwritten := foldl_layout (f := fun d i => issue 100 (some .mgr) (requestTlp .memWrite .mgr
      (r.base + ((r.index + i) % r.entries) * size) (blocks.getD i []).length (blocks.getD i []) d) none d)
      (fun _ _ => rfl) (List.range blocks.length) e
    unfold ringWrite
    split
    · exact (sendVector_answers .mgr r.vector _).layout.trans hwritten
    · exact hwritten
  unfold traceEnd
  split
  · rfl
  · extract_lets _ d₁ r w
    split
    · exact hring r 64 _ d₁
    · rfl

theorem journalWrite_layout (p src : Nat) (e : JournalEntry) (d : Device) : (journalWrite p src e d).layout = d.layout := by
  obtain ⟨j, f, o, i, m, k, c, h⟩ := journalWrite_frame p src e d
  rw [h]; rfl

theorem logSynth_layout (r f p n : Nat) (d : Device) : (logSynth r f p n d).layout = d.layout := by
  obtain ⟨x, k, c, h⟩ := logSynth_frame r f p n d
  rw [h]; rfl

theorem emitAway_layout (f : FabHdr) (c : Tlp) (d : Device) : (emitAway f c d).layout = d.layout := by
  obtain ⟨o, h⟩ := emitAway_frame f c d
  rw [h]; rfl

theorem rmaDrop_layout (h : RmaHdr) (d : Device) : (rmaDrop h d).layout = d.layout := by
  unfold rmaDrop
  split
  · split
    · rfl
    · split <;> rfl
  · rfl

theorem toError_layout (n status : Nat) (psn : Option Nat) (d : Device) : (toError n status psn d).layout = d.layout := by
  unfold toError
  split
  · rfl
  · split
    · rfl
    · extract_lets
      split <;> rfl

theorem placementFails_layout (f : Fn) (a : Nat) (d : Device) : (placementFails f a d).layout = d.layout := by
  unfold placementFails
  extract_lets
  split
  · exact toError_layout _ 0 none d
  · split
    · exact toError_layout _ 7 _ d
    · rfl

theorem windowDrop_layout (i : Item) (reason : Nat) (d : Device) : (windowDrop i reason d).layout = d.layout := by
  unfold windowDrop
  split
  · split
    · unfold windowFail
      extract_lets
      split
      · rfl
      · split
        · rfl
        · exact (sendVector_answers _ _ _).layout
    · rfl
  · rfl

theorem endRequest_layout (t : Track) (st : CplStatus) (synth : Bool) (d : Device) : (endRequest t st synth d).layout = d.layout := by
  unfold endRequest
  extract_lets
  split
  · extract_lets
    split <;> rfl
  · split <;> rfl

theorem failPiece_layout (t : Track) (st : CplStatus) (synth : Bool) (d : Device) : (failPiece t st synth d).layout = d.layout := by
  unfold failPiece
  extract_lets t₁ d₁
  have h₁ : d₁.layout = d.layout := endRequest_layout t₁ st synth d
  split
  · split <;> rfl
  · split
    · split <;> exact h₁
    · unfold keepTrack
      split <;> rfl

theorem answerItem_layout (i : Item) (st : CplStatus) (synth : Bool) (d : Device) : (answerItem i st synth d).layout = d.layout := by
  unfold answerItem
  split
  · split <;> exact failPiece_layout _ st synth d
  · obtain ⟨o, t, n, h⟩ := emitCpl_frame i (completionFor i.tlp i.srcRid i.srcTag st) synth d
    rw [h]; rfl

theorem lockFails_layout (n : Nat) (k : Kind) (d : Device) : (lockFails n k d).layout = d.layout := by
  unfold lockFails
  split <;> rfl

theorem dropItem_layout (reason fid port : Nat) (i : Item) (d : Device) : (dropItem reason fid port i d).layout = d.layout := by
  unfold dropItem
  extract_lets d₁ d₂ d₃ d₄ c d₅ d₆
  have h₂ : d₂.layout = d.layout := (traceEnd_layout i _ d₁).trans (removeItem_layout i.id d)
  have h₅ : d₅.layout = d.layout := (logSynth_layout _ fid port i.part d₂).trans h₂
  have h₆ : d₆.layout = d.layout := (journalWrite_layout i.part _ _ d₂).trans h₂
  split
  · exact (rmaDrop_layout _ d₂).trans h₂
  · split
    case' h_4 =>
      split
      · split
        · exact h₂
        · split
          · exact h₂
          · exact (answerItem_layout i .ca true _).trans <| (lockFails_layout _ _ _).trans <|
              (logSynth_layout _ fid port _ d₃).trans h₂
      · split
        · split
          · split
            · exact h₅
            · exact (emitAway_layout _ c d₅).trans h₅
          · exact h₅
        · split
          · exact (placementFails_layout _ _ d₆).trans h₆
          · exact h₆
    all_goals exact h₂

/-! ## What a report leaves (R94, Table 4.3) -/

theorem localDma_layout (f : Fn) (a : Nat) (d : Device) : (localDma f a d).layout = d.layout := by
  unfold localDma
  extract_lets
  split
  · exact placementFails_layout f a d
  · split
    · exact toError_layout _ 7 _ _
    · exact toError_layout _ 7 _ d

theorem askFails_layout (f : Fn) (page : Nat) (d : Device) : (askFails f page d).layout = d.layout := by
  unfold askFails
  refine foldl_layout (fun e a => ?_) _ _
  split
  · rfl
  · split
    · rfl
    · split
      · split
        · exact toError_layout _ 7 _ e
        · exact toError_layout _ 7 _ _
      · split
        · exact toError_layout _ 7 _ e
        · exact toError_layout _ 0 none e

theorem synthTrack_layout (fid port : Nat) (t : Track) (d : Device) : (synthTrack fid port t d).layout = d.layout := by
  unfold synthTrack
  extract_lets mark d₁
  have h₁ : d₁.layout = d.layout := (lockFails_layout _ _ _).trans (logSynth_layout _ fid port t.part d)
  split
  · split
    · exact askFails_layout _ _ (mark d)
    · exact localDma_layout _ _ (mark d)
  · split
    · exact (failPiece_layout t .ca true d₁).trans h₁
    · split
      · exact (emitAway_layout _ _ (mark d₁)).trans h₁
      · exact h₁

theorem reportItems_layout (ts : List Track) (is : List Item) (reason : Nat) (d : Device) :
    (reportItems ts is reason d).1.layout = d.layout := by
  unfold reportItems
  extract_lets own copy d₁ d₂ twin d₃
  have h₁ : d₁.layout = d.layout := foldl_layout (fun e (i : Item) => removeItem_layout i.id e) _ d
  have h₂ : d₂.layout = d₁.layout := by
    refine foldl_layout (fun e t => ?_) ts d₁
    split
    · exact synthTrack_layout own 0x7F t e
    · rfl
  have h₃ : d₃.layout = d₂.layout := by
    refine foldl_layout (fun e i => ?_) is d₂
    split
    · exact removeItem_layout i.id e
    · exact (windowDrop_layout i _ _).trans (dropItem_layout reason own 0x7F i e)
  exact h₃.trans (h₂.trans h₁)

theorem flushPart_layout (p : Nat) (d : Device) : (flushPart p d).layout = d.layout := by
  refine foldl_layout (fun e x => ?_) d.qps d
  split
  · exact toError_layout _ 0 none e
  · rfl

/-! ## What a reset leaves (R97, Table 4.3) -/

theorem resetBridges_layout (p : Nat) (d : Device) : (resetBridges p d).layout = d.layout := by
  show (Device.setPart (d.bridges.foldl _ d) p _).layout = d.layout
  refine (setPart_layout ?_).trans (foldl_layout (fun e x => ?_) d.bridges d)
  · rfl
  · split <;> rfl

theorem pcieDown_layout (n : Nat) (st : LState) (d : Device) : (pcieDown n st d).layout = d.layout := by
  unfold pcieDown
  extract_lets x up d₁ y z d₂ d₃
  have hloss (e : Device) : (lossItems n e).layout = e.layout :=
    foldl_layout (fun f i => (windowDrop_layout i _ _).trans (dropItem_layout 1 _ n i f)) _ e
  have h₁ : d₁.layout = d.layout := by
    refine (foldl_layout (fun e k => ?_) (portLanes n _) _).trans (hloss _)
    rfl
  clear_value d₁
  have h₂ : d₂.layout = d.layout := h₁
  clear_value d₂
  have h₃ : d₃.layout = d.layout := by
    unfold d₃
    split <;> exact h₂
  clear_value d₃
  split
  · exact (resetBridges_layout 0 d₃).trans h₃
  · exact h₃

theorem hotResetDsps_layout (p : Nat) (d : Device) : (hotResetDsps p d).layout = d.layout := by
  refine foldl_layout (fun e n => ?_) (portsOf p d) d
  split
  · extract_lets e₁
    split
    · exact pcieDown_layout n .hotReset e₁
    · rfl
  · rfl

theorem resetSteers_layout (p : Nat) (d : Device) : (resetSteers p d).layout = d.layout := by
  unfold resetSteers
  extract_lets clear mine d₁ away d₂
  have h₁ : d₁.layout = d.layout := by
    refine foldl_layout (fun e x => ?_) mine d
    rfl
  have h₂ : d₂.layout = d₁.layout := by
    refine foldl_layout (fun e x => ?_) away d₁
    rfl
  exact h₂.trans h₁

theorem endMailbox_answers (f : Fn) (d : Device) : AnswersOnly d (endMailbox f d) := by
  unfold endMailbox
  extract_lets m d₁
  have h₁ : AnswersOnly d d₁ := by
    unfold d₁
    split
    · exact answersOnly_trans ⟨d.kme, _, d.msix, d.out, d.adit, d.issued, d.items, d.nextId, d.counters, d.cnt, rfl⟩
        (mbxRaise_answers f 0x01 (d.setMailbox f { m with state := .idle }))
    · exact answersOnly_refl d
  exact List.foldlRecOn _ _ h₁ fun e he x _ => answersOnly_trans he (finish_answers x.op x.cmd _ e)

theorem startFlr_layout (f : Fn) (d : Device) : (startFlr f d).layout = d.layout := by
  unfold startFlr
  split
  · exact foldl_layout (f := silenceStart) (fun e g => (endMailbox_answers g _).layout) (flrGroup f d) d
  · rfl

/-- Table 4.3: a partition-scope reset has the partition RESETTING, and leaves the ports and the segments. -/
theorem startReset_keeps (p : Nat) (reason : Option Nat) (d : Device) : ((startReset p reason d).1.part p).state = .resetting ∧
    (startReset p reason d).1.ports = d.ports ∧ (startReset p reason d).1.segs = d.segs := by
  unfold startReset
  extract_lets _ d₁ r d₂ d₃
  have hr : r.1.layout = d₁.layout := by
    unfold r
    split
    · exact reportItems_layout _ _ _ d₁
    · rfl
  have h₂ : d₂.layout = r.1.layout :=
    (resetSteers_layout p _).trans ((hotResetDsps_layout p _).trans (resetBridges_layout p r.1))
  have h₃ : d₃.layout = d₂.layout := by
    unfold d₃
    split
    · exact startFlr_layout (.pf p) d₂
    · rfl
  have h := h₃.trans (h₂.trans hr)
  exact ⟨(state_of_layout h p).trans (congrArg Part.state (part_setPart d p _)), (ports_of_layout h :), (segs_of_layout h :)⟩

end Sys2Proof.Machine
end

section
/-! Answers and the work of the device (R226, R384): an answer is an item only where it goes back to another device, and its command
is under way no more. -/

namespace Sys2Proof.Machine

/-- The items, and the records of the commands under way. -/
def Device.work (d : Device) : List Item × List Exec := (d.items, d.kme.execs)

theorem sendVector_work (f : Fn) (v : Nat) (d : Device) : (sendVector f v d).work = d.work := by
  obtain ⟨i, m, h⟩ := sendVector_frame f v d
  rw [h]; rfl

theorem mbxRaise_work (f : Fn) (bits : BitVec 5) (d : Device) : (mbxRaise f bits d).work = d.work := by
  unfold mbxRaise
  extract_lets m d'
  split
  · rfl
  · exact sendVector_work f 0 d'

theorem mailboxReply_work (f : Fn) (op : Nat) (c : Cmd) (a : Ans) (flags : Nat) (d : Device) :
    (mailboxReply f op c a flags d).work = d.work := by
  unfold mailboxReply
  extract_lets m st m'
  split
  · rfl
  · exact mbxRaise_work f 0x02 _

theorem mailboxNotice_work (f : Fn) (op : Nat) (c : Cmd) (a : Ans) (flags : Nat) (d : Device) :
    (mailboxNotice f op c a flags d).work = d.work := by
  unfold mailboxNotice
  extract_lets m
  split
  · rfl
  · exact mbxRaise_work f 0x04 _

theorem storeAnswer_work (c : Cmd) (op : Nat) (notice final : Bool) (bytes : List Byte) (d : Device) :
    (storeAnswer c op notice final bytes d).work = d.work := by
  unfold storeAnswer
  split
  · rfl
  · split <;> rfl

theorem sayLines_work (l : List String) (d : Device) : (sayLines l d).work = d.work :=
  List.foldlRecOn l _ (motive := fun e : Device => e.work = d.work) rfl fun _ he _ _ => he

theorem sayAnswer_work (w : TextWait) (a : Ans) (d : Device) : (sayAnswer w a d).work = d.work := by
  unfold sayAnswer
  extract_lets adit d₁
  split
  · split <;> exact sayLines_work _ d₁
  · exact sayLines_work _ d₁

theorem lockAtReply_work (c : Cmd) (d : Device) : (lockAtReply c d).work = d.work := by
  unfold lockAtReply
  split
  · rfl
  · split
    · split <;> rfl
    · rfl

theorem sendMessage_work {s : Source} (hs : s.transport ≠ 6) (kind : Nat) (bytes : List Byte) (d : Device) :
    (sendMessage s kind bytes d).work = d.work := by
  unfold sendMessage
  rw [if_neg hs]
  split <;> rfl

theorem sendTimes_work {s : Source} (hs : s.transport ≠ 6) (kind : Nat) (bytes : List Byte) (n : Nat) (d : Device) :
    (sendTimes s kind bytes n d).work = d.work := by
  induction n generalizing d with
  | zero => rfl
  | succ n ih => exact (ih _).trans (sendMessage_work hs kind bytes d)

section
variable {c : Cmd} (hc : c.source.transport ≠ 6)
include hc

theorem deliver_work (op : Nat) (a : Ans) (notice final : Bool) (d : Device) : (deliver op c a notice final d).work = d.work := by
  unfold deliver
  extract_lets flags bytes n d₁
  have h₁ : d₁.work = d.work := storeAnswer_work c op notice final bytes d
  split
  · split
    · exact mailboxNotice_work _ op c a flags d
    · exact mailboxReply_work _ op c a flags d
  · split
    · rfl
    · split
      · exact h₁
      · split
        · exact (sayLines_work _ d₁).trans h₁
        · split
          · exact (sayAnswer_work _ a d₁).trans h₁
          · exact (sendTimes_work hc _ bytes _ d₁).trans h₁

/-- The answer to a command that no other device has sent is not an item, and ends the command's record. -/
theorem finish_work (op : Nat) (a : Ans) (d : Device) :
    (finish op c a d).work = (d.items, d.kme.execs.filter fun e => !sameCommand op c e) := by
  unfold finish
  extract_lets wasLong k d₁ d₂
  have h₂ : d₂.work = d₁.work := by
    unfold d₂
    split
    · rfl
    · exact lockAtReply_work c d₁
  exact (deliver_work hc op _ wasLong true d₂).trans h₂

theorem finish_items (op : Nat) (a : Ans) (d : Device) : (finish op c a d).items = d.items :=
  congrArg Prod.fst (finish_work hc op a d)

theorem mem_execs_of_finish {op : Nat} {a : Ans} {d : Device} {e : Exec} (he : e ∈ (finish op c a d).kme.execs) : e ∈ d.kme.execs := by
  have hexecs : (finish op c a d).kme.execs = d.kme.execs.filter fun e => !sameCommand op c e :=
    congrArg Prod.snd (finish_work hc op a d)
  exact (List.mem_filter.1 (hexecs ▸ he)).1

end

theorem notify_items (old new : Device) : (notify old new).items = new.items := by
  obtain ⟨i, m, a, h⟩ := notify_frame old new
  rw [h]

/-- A ready packet of this device's own sources that answers at once gives its own effect, its STATUS, and no item. -/
theorem packet_gives_own {i : Instr} {op : Nat} {c : Cmd} {s : State} {g : Device → Device × Option Ans} {d' : Device}
    {P : Device → Prop} {a : Ans} (hx : exec i s = done s (runPacket op g c s.dev)) (hready : Ready op c s.dev)
    (hown : c.source.transport ≠ 6) (hg : g (markBegun op c s.dev) = (d', some a))
    (hP : ∀ t : Device, t.besideAnswer = d'.besideAnswer → t.items = d'.items → t.kme.lastStatus = statusCode a.status → P t) :
    Gives i s P := by
  have hrun : runPacket op g c s.dev = finish op c a d' := by
    simp [runPacket_ready hready, execute, ready_hwFails hready, hg]
  rw [hrun] at hx
  refine done_gives hx (hP _ ?_ ?_ ?_)
  · exact (notify_besideAnswer _ _).trans (finish_answers op c a d').besideAnswer
  · exact (notify_items _ _).trans (finish_items hown op a d')
  · rw [notify_kme, finish_lastStatus]

end Sys2Proof.Machine
end

section
/-! PART_CREATE, PART_QUIESCE, PART_DESTROY and PART_RESET (R84, R93, R95, R108 to R112). -/

namespace Sys2Proof.Machine

theorem leNat_natLe_four {v : Nat} (h : v < 2 ^ 32) : leNat (natLe 4 v) = v := by
  simp only [natLe, leNat, BitVec.toNat_ofNat]
  omega

/-- A ready packet that is not a bind comes from no other device (Table 14.2). -/
theorem Ready.own {op : Nat} {c : Cmd} {d : Device} (h : Ready op c d) (hop : op ≠ 0x0304 ∧ op ≠ 0x0305) :
    c.source.transport ≠ 6 := by
  obtain ⟨-, -, hbind⟩ := h
  exact fun h6 => (hbind h6).elim hop.1 hop.2

theorem part_of_parts {d t : Device} (h : t.parts = d.parts) (p : Nat) : t.part p = d.part p := congrArg (tget partFree · p) h
theorem seg_of_segs {d t : Device} (h : t.segs = d.segs) (p : Nat) : t.seg p = d.seg p := congrArg (tget segReset · p) h

theorem windows_of_besideAnswer {d t : Device} (h : t.besideAnswer = d.besideAnswer) : t.windows = d.windows :=
  (congrArg Device.windows h :)

/-! ## PART_CREATE -/

/-- A partition as PART_CREATE makes it (R84, R108), its segment (R109), and the device with both (R152, R555). -/
def createdPart (flags dsbs act now : Nat) : Part :=
  { partFree with state := .active, fabric := bitOf flags 0, vfSteered := bitOf flags 1, rmaP2p := bitOf flags 2, dsbCount := dsbs,
                  actEntries := act, activeSince := now }
def createdSeg (epoch now : Nat) : Seg := { segReset with state := .disabled, epoch := epoch + 1, disabledAt := now }
def createPart (p flags dsbs act : Nat) (d : Device) : Device :=
  { (d.setPart p (createdPart flags dsbs act d.now)).setSeg p (createdSeg (d.seg p).epoch d.now) with
    pools := terase p d.pools, bridges := d.bridges.filter fun e => decide (e.1 / 256 ≠ p) }

section
variable {p flags dsbs act : Nat} {d : Device}

theorem createPart_part : (createPart p flags dsbs act d).part p = createdPart flags dsbs act d.now :=
  part_setPart d p (createdPart flags dsbs act d.now)
theorem createPart_part_other {q : Nat} (h : q ≠ p) : (createPart p flags dsbs act d).part q = d.part q :=
  part_setPart_other d (createdPart flags dsbs act d.now) h
theorem createPart_seg : (createPart p flags dsbs act d).seg p = createdSeg (d.seg p).epoch d.now :=
  seg_setSeg d p (createdSeg (d.seg p).epoch d.now)
theorem createPart_seg_other {q : Nat} (h : q ≠ p) : (createPart p flags dsbs act d).seg q = d.seg q :=
  seg_setSeg_other d (createdSeg (d.seg p).epoch d.now) h
theorem createPart_ports : (createPart p flags dsbs act d).ports = d.ports := rfl

end

/-- What the statement assumes of a creation: a free number, fields in their ranges, and entries enough. -/
structure CreatesPart (c : Cmd) (p flags dsbs act : Nat) (d : Device) : Prop where
  number : 1 ≤ p ∧ p ≤ 48
  free : (d.part p).state = .free
  properties : flags < 8
  bridges : 1 ≤ dsbs ∧ dsbs ≤ 96
  entries : act % 256 = 0 ∧ act ≤ freeAct d
  header : NoTarget c
  source : c.source.transport ≠ 7
  params : c.params = natLe 1 p ++ natLe 1 flags ++ natLe 1 dsbs ++ [0] ++ natLe 4 act

namespace CreatesPart
variable {c : Cmd} {p flags dsbs act : Nat} {d : Device} (h : CreatesPart c p flags dsbs act d)
include h

theorem act_le : act ≤ 65536 := Nat.le_trans h.entries.2 (Nat.sub_le _ _)

theorem u8_part : u8 c.params 0 = p := by
  rw [h.params]; exact toNat_ofNat_byte (Nat.lt_of_le_of_lt h.number.2 (by decide))
theorem u8_flags : u8 c.params 1 = flags := by
  rw [h.params]; exact toNat_ofNat_byte (Nat.lt_trans h.properties (by decide))
theorem u8_bridges : u8 c.params 2 = dsbs := by
  rw [h.params]; exact toNat_ofNat_byte (Nat.lt_of_le_of_lt h.bridges.2 (by decide))
theorem u8_reserved : u8 c.params 3 = 0 := by rw [h.params]; rfl
theorem u32_act : u32 c.params 4 = act := by
  rw [h.params]; exact leNat_natLe_four (Nat.lt_of_le_of_lt h.act_le (by decide))

theorem partCreate_eq : ∃ r, partCreate c d = (createPart p flags dsbs act d, some (ansOk r)) := by
  have hlen : c.params.length = 8 := by rw [h.params]; rfl
  obtain ⟨htarget, hparam0⟩ := h.header
  have hp : p ≠ 0 := Nat.ne_of_gt h.number.1
  have hdsbs : dsbs ≠ 0 := Nat.ne_of_gt h.bridges.1
  dsimp only [partCreate]
  rw [checked_pass ?checks]
  case checks =>
    simp [firstFail, failIf, headerZero, hlen, htarget, hparam0, h.u8_part, h.u8_flags, h.u8_bridges, h.u8_reserved, h.u32_act, hp,
      hdsbs, partIsFree, h.free, h.number, h.entries, Nat.not_lt.mpr h.number.2, Nat.not_le.mpr h.properties,
      Nat.not_lt.mpr h.bridges.2, Nat.not_lt.mpr h.act_le, Nat.not_lt.mpr h.entries.2]
  · simp only [h.u8_part, h.u8_flags, h.u8_bridges, h.u32_act, if_neg hp, Option.getD_some, decide_eq_false h.source]
    exact ⟨_, rfl⟩

end CreatesPart

/-! ## PART_QUIESCE -/

/-- A partition that waits for its traffic (R93), and the device with it, the command in force. -/
def waitingPart (x : Part) (ms now : Nat) : Part :=
  { x with state := .quiescing, quiesceReq := true, quiesceSince := now, quiesceTimeoutMs := if ms = 0 then 10 else ms }
def quiescingPart (c : Cmd) (p ms : Nat) (d : Device) : Device :=
  markApplied 0x0303 c (d.setPart p (waitingPart (d.part p) ms d.now))

theorem quiescingPart_part (c : Cmd) (p ms : Nat) (d : Device) :
    (quiescingPart c p ms d).part p = waitingPart (d.part p) ms d.now := part_setPart d p (waitingPart (d.part p) ms d.now)

theorem quiesceAns_none (now : Nat) : quiesceAns 0 now now = ansOk (natLe 8 0) := by
  simp [quiesceAns, ansOk, natLe]

section
variable {c : Cmd} {p : Nat} {d : Device} (hp : 1 ≤ p) (hp48 : p ≤ 48) (htarget : c.target.toNat = p) (hparam0 : c.param0 = 0)
include hp hp48 htarget hparam0

theorem partTarget_eq_none (hstate : (d.part p).state ≠ .free) : partTarget c d = none := by
  simp [partTarget, firstFail, failIf, htarget, hparam0, hstate, Nat.ne_of_gt hp, Nat.not_lt.mpr hp48]


section
variable {ms : Nat} (hms : ms ≤ 1000) (hparams : c.params = natLe 2 ms ++ [0, 0]) (hstate : (d.part p).state = .active)
include hms hparams hstate

theorem partQuiesce_active : partQuiesce c d =
    if inFlight p d = 0 then
      ((quiescingPart c p ms d).setPart p { (quiescingPart c p ms d).part p with state := .quiesced }, some (quiesceAns 0 d.now d.now))
    else (quiescingPart c p ms d, none) := by
  have hlen : c.params.length = 4 := by rw [hparams]; rfl
  have htime : u16 c.params 0 = ms := by rw [hparams]; exact leNat_natLe_two (Nat.lt_of_le_of_lt hms (by decide))
  have hplain : u8 c.params 2 = 0 ∧ u8 c.params 3 = 0 := by rw [hparams]; exact ⟨rfl, rfl⟩
  have hheader : partTarget c d = none := partTarget_eq_none hp hp48 htarget hparam0 (by rw [hstate]; decide)
  dsimp only [partQuiesce]
  rw [checked_pass ?checks]
  case checks => simp [firstFail, failIf, hlen, hheader, htime, hplain, Nat.not_lt.mpr hms, bitOf]
  · simp only [hplain, bitOf, Nat.zero_testBit, Bool.false_eq_true, if_false, htarget, hstate, htime]
    rfl

/-- R93: with nothing in flight the partition is QUIESCED at once, and the command answered. -/
theorem partQuiesce_drained (h : inFlight p d = 0) : ∃ e, partQuiesce c d = (e, some (ansOk (natLe 8 0))) ∧
    (e.part p).state = .quiesced ∧ (e.part p).quiesceReq = true ∧ e.ports = d.ports ∧ e.items = d.items := by
  have heffect := (partQuiesce_active hp hp48 htarget hparam0 hms hparams hstate).trans (if_pos h)
  rw [quiesceAns_none] at heffect
  refine ⟨_, heffect, ?_, ?_, rfl, rfl⟩
  · rw [part_setPart]
  · rw [part_setPart, quiescingPart_part]
    rfl

theorem partQuiesce_waits (h : inFlight p d ≠ 0) : partQuiesce c d = (quiescingPart c p ms d, none) :=
  (partQuiesce_active hp hp48 htarget hparam0 hms hparams hstate).trans (if_neg h)

end

/-- R95: RESUME. -/
theorem partQuiesce_resume (hparams : c.params = [0, 0, 1, 0]) (hstate : (d.part p).state = .quiesced)
    (hjournal : journalFits (d.journal p) (journalSources p d) = true) : partQuiesce c d =
      (d.setPart p { d.part p with state := .active, quiesceReq := false, activeSince := d.now }, some (ansOk (natLe 8 0))) := by
  have hheader : partTarget c d = none := partTarget_eq_none hp hp48 htarget hparam0 (by rw [hstate]; decide)
  have hresume : bitOf (u8 c.params 2) 0 = true := by rw [hparams]; rfl
  dsimp only [partQuiesce]
  rw [checked_pass ?checks]
  case checks => simp [firstFail, failIf, hheader, hparams, htarget, hstate, hjournal, u8, u16, leNat]
  · simp only [hresume, if_true, htarget, quiesceAns_none]

/-! ## PART_RESET -/

theorem partReset_quiesced (hparams : c.params = [0, 0, 0, 0]) (hstate : (d.part p).state = .quiesced) : ∃ e,
    partReset c d = (e, none) ∧ (e.part p).state = .resetting ∧ e.ports = d.ports ∧ e.segs = d.segs := by
  have hheader : partTarget c d = none := partTarget_eq_none hp hp48 htarget hparam0 (by rw [hstate]; decide)
  have hplain : u8 c.params 0 = 0 := by rw [hparams]; rfl
  have hgoes : ((markApplied 0x0306 c d).part p).state ≠ .resetting := by
    show (d.part p).state ≠ .resetting
    rw [hstate]; decide
  dsimp only [partReset]
  rw [checked_pass ?checks]
  case checks => simp [firstFail, failIf, hheader, hparams, htarget, hstate, u8, zeros, bitOf]
  · simp only [hplain, bitOf, Nat.zero_testBit, Bool.false_eq_true, if_false, htarget, if_neg hgoes]
    have hreset := startReset_keeps p none (markApplied 0x0306 c d)
    generalize startReset p none (markApplied 0x0306 c d) = r at hreset ⊢
    exact ⟨_, rfl, hreset⟩

/-! ## PART_DESTROY -/

section
variable (hports : portsOf p d = []) (hvfs : vfsOf p d = []) (hsteers : ∀ e ∈ d.steers, e.2.part ≠ p)
include hports hvfs hsteers

theorem partDestroy_empty (hparams : c.params = []) (hstate : (d.part p).state = .active) : ∃ r,
    partDestroy c d = (freePart p d, some (ansOk r)) := by
  have hheader : partTarget c d = none := partTarget_eq_none hp hp48 htarget hparam0 (by rw [hstate]; decide)
  have hmay : mayDestroy p d = true := by simpa [mayDestroy, hstate, hports, hvfs] using hsteers
  dsimp only [partDestroy]
  rw [checked_pass ?checks]
  case checks => simp [firstFail, failIf, hheader, hparams, htarget, hmay]
  · rw [htarget]
    exact ⟨_, rfl⟩

end
end

/-- R107: the mailbox of a function that goes, as an answer. -/
theorem closeMailbox_answers (f : Fn) (d : Device) : AnswersOnly d (closeMailbox f d) :=
  answersOnly_trans (endMailbox_answers f d) ⟨_, _, _, _, _, _, _, _, _, _, rfl⟩

/-- An object that stays when objects are erased is none of them. -/
theorem tget_foldl_terase {α β : Type} (dflt : α) (l : List (Nat × β)) (t : Tbl α) (n : Nat) :
    tget dflt (l.foldl (fun t e => terase e.1 t) t) n = dflt ∨
    tget dflt (l.foldl (fun t e => terase e.1 t) t) n = tget dflt t n ∧ ∀ e ∈ l, e.1 ≠ n := by
  induction l generalizing t with
  | nil => exact .inr ⟨rfl, List.forall_mem_nil _⟩
  | cons x l ih =>
    rcases ih (terase x.1 t) with hgone | ⟨hstays, hl⟩
    · exact .inl hgone
    · by_cases hx : n = x.1
      · exact .inl (hstays.trans (hx ▸ tget_terase_same dflt n t))
      · exact .inr ⟨hstays.trans (tget_terase_other dflt hx t), List.forall_mem_cons.2 ⟨Ne.symm hx, hl⟩⟩

theorem clearWindows_frame (l : List (Nat × Window)) (d : Device) : ∃ w,
    l.foldl (fun d e => clearWindow e.1 d) d = { d with windows := l.foldl (fun t e => terase e.1 t) d.windows, dbWaits := w } := by
  induction l generalizing d with
  | nil => exact ⟨_, rfl⟩
  | cons x l ih => exact ih (clearWindow x.1 d)

/-- The windows that name a partition (R138). -/
def namesPart (p : Nat) (e : Nat × Window) : Bool := decide (e.2.srcPart = p) || decide (e.2.dstPart = p)

section
variable {p : Nat} {d : Device}

/-- R110: a partition that holds nothing gives back its function, its windows and its tables. -/
theorem freePart_empty (hports : portsOf p d = []) (hvfs : vfsOf p d = []) (hsteers : ∀ e ∈ d.steers, e.2.part ≠ p) :
    (freePart p d).ports = d.ports ∧ (freePart p d).parts = terase p d.parts ∧
    (freePart p d).windows = (d.windows.filter (namesPart p)).foldl (fun t e => terase e.1 t) d.windows := by
  have hnone : d.steers.filter (fun e => decide (e.2.part = p)) = [] := List.filter_eq_nil_iff.2 fun e he => by simpa using hsteers e he
  have hbeside := (closeMailbox_answers (.pf p) d).besideAnswer
  have hwindows : (releaseFn (.pf p) (closeMailbox (.pf p) d)).windows = d.windows := (congrArg Device.windows hbeside :)
  obtain ⟨b, hclear⟩ := clearWindows_frame (d.windows.filter (namesPart p)) (releaseFn (.pf p) (closeMailbox (.pf p) d))
  unfold namesPart at hclear ⊢
  unfold freePart
  simp only [hports, List.foldl_nil, hnone, hvfs, hwindows, hclear]
  exact ⟨(ports_of_besideAnswer hbeside :), (congrArg (terase p) (parts_of_besideAnswer hbeside) :), rfl⟩

/-- R138: what stays of the windows names the partition no more. -/
theorem window_not_naming {t : Device} (ht : t.windows = (d.windows.filter (namesPart p)).foldl (fun t e => terase e.1 t) d.windows)
    (w : Nat) (hw : (t.window w).valid = true) : (t.window w).srcPart ≠ p ∧ (t.window w).dstPart ≠ p := by
  rw [Device.window, ht] at hw ⊢
  rcases tget_foldl_terase windowFree (d.windows.filter (namesPart p)) d.windows w with hgone | ⟨hstays, hl⟩
  · rw [hgone] at hw
    exact absurd hw (by decide)
  · rw [hstays] at hw ⊢
    have hmem : (w, tget windowFree d.windows w) ∈ d.windows := mem_of_tget_ne fun h => absurd (h ▸ hw) (by decide)
    have hother : ¬ namesPart p (w, tget windowFree d.windows w) = true := fun h => hl _ (List.mem_filter.2 ⟨hmem, h⟩) rfl
    simpa [namesPart] using hother

end

/-! ## The statement -/

/-- Settles O10: the checks of each command pass, and its own effect stays beside its answer. -/
theorem partitionCommands : Obligations.PartitionCommands := by
  intro s c p d x
  refine ⟨fun flags dsbs act hp hp48 hfree hflags hdsbs hdsbs96 h256 hact hheader hsource hready hparams => ?create,
    fun hp hp48 htarget hparam0 => ⟨fun ms hstate hms hready hparams => ⟨fun hempty => ?quiesced, fun hbusy => ?quiescing⟩,
      fun hstate hready hparams hjournal => ?resume, fun hstate hports hvfs hsteers hready hparams => ?destroy,
      fun hstate hready hparams => ?reset⟩⟩
  case create =>
    have h : CreatesPart c p flags dsbs act (markBegun 0x0301 c d) :=
      ⟨⟨hp, hp48⟩, hfree, hflags, ⟨hdsbs, hdsbs96⟩, ⟨h256, hact⟩, hheader, hsource, hparams⟩
    obtain ⟨r, hcreate⟩ := h.partCreate_eq
    refine packet_gives_answered rfl hready hcreate fun t ht hstatus => ?_
    have hpart := part_of_parts (parts_of_besideAnswer ht)
    have hseg := seg_of_segs (segs_of_besideAnswer ht)
    have hnew := (hseg p).trans createPart_seg
    exact ⟨(hpart p).trans createPart_part, congrArg Seg.state hnew, congrArg Seg.epoch hnew, hstatus,
      (ports_of_besideAnswer ht).trans createPart_ports,
      fun q hq => ⟨(hpart q).trans (createPart_part_other hq), (hseg q).trans (createPart_seg_other hq)⟩⟩
  case quiesced =>
    obtain ⟨e, heffect, hquiesced, hreq, hports, hitems⟩ :=
      partQuiesce_drained (d := markBegun 0x0303 c d) hp hp48 htarget hparam0 hms hparams hstate hempty
    refine packet_gives_own rfl hready (hready.own (by decide)) heffect fun t ht hitems' hstatus => ?_
    have hpart := part_of_parts (parts_of_besideAnswer ht) p
    exact ⟨(congrArg Part.state hpart).trans hquiesced, (congrArg Part.quiesceReq hpart).trans hreq, hstatus,
      (ports_of_besideAnswer ht).trans hports, hitems'.trans hitems⟩
  case quiescing =>
    have heffect := partQuiesce_waits (d := markBegun 0x0303 c d) hp hp48 htarget hparam0 hms hparams hstate hbusy
    exact packet_gives_waiting rfl hready heffect fun _ _ _ => ⟨quiescingPart_part c p ms _, rfl, rfl⟩
  case resume =>
    exact packet_replies rfl hready (partQuiesce_resume (d := markBegun 0x0303 c d) hp hp48 htarget hparam0 hparams hstate hjournal)
  case destroy =>
    obtain ⟨r, heffect⟩ := partDestroy_empty (d := markBegun 0x0302 c d) hp hp48 htarget hparam0 hports hvfs hsteers hparams hstate
    obtain ⟨hports', hparts, hwindows⟩ := freePart_empty (d := markBegun 0x0302 c d) hports hvfs hsteers
    refine packet_gives_answered rfl hready heffect fun t ht hstatus => ⟨?_, hstatus, (ports_of_besideAnswer ht).trans hports', ?_⟩
    · rw [Device.part, parts_of_besideAnswer ht, hparts]
      exact tget_terase_same partFree p _
    · exact window_not_naming (d := markBegun 0x0302 c d) ((windows_of_besideAnswer ht).trans hwindows)
  case reset =>
    obtain ⟨e, heffect, hkept⟩ := partReset_quiesced (d := markBegun 0x0306 c d) hp hp48 htarget hparam0 hparams hstate
    exact packet_gives_waiting rfl hready heffect fun _ _ _ => hkept

end Sys2Proof.Machine
end

section
/-! What moves a partition between its states (R92 to R97, R104, R112). -/

namespace Sys2Proof.Machine

/-! ## A partition becomes QUIESCED (R93, R94) -/

theorem finishExec_answers (e : Exec) (a : Ans) (d : Device) : AnswersOnly d (finishExec e a d) := finish_answers e.op e.cmd a d

/-- What an answer leaves, it leaves whatever reset is planned. -/
theorem AnswersOnly.withClk {d d' : Device} (h : AnswersOnly d d') (k : Clk) : AnswersOnly { d with clk := k } { d' with clk := k } := by
  obtain ⟨k, m, x, o, a, i, t, n, v, w, rfl⟩ := h
  exact ⟨_, _, _, _, _, _, _, _, _, _, rfl⟩

/-- R495: the last partition drained lets SYS_RESET be answered, and its reset be planned. -/
theorem resetDrained_answers (d : Device) : ∃ k, AnswersOnly { d with clk := k } (resetDrained d) := by
  unfold resetDrained
  split
  · split
    · exact ⟨_, finishExec_answers _ _ _⟩
    · exact ⟨d.clk, answersOnly_refl d⟩
  · exact ⟨d.clk, answersOnly_refl d⟩

/-- The device with a partition QUIESCED, and what answering the PART_QUIESCE that waits for a partition makes of a device. -/
def quiescedPart (p : Nat) (d : Device) : Device := d.setPart p { d.part p with state := .quiesced }
def quiesceAnswered (p : Nat) (d : Device) : Device :=
  match quiesceExec p d with
  | some e => finishExec e (quiesceAns e.reported e.since d.now) d
  | none => d

theorem enterQuiesced_eq (p : Nat) (d : Device) : enterQuiesced p d = resetDrained (quiesceAnswered p (quiescedPart p d)) := rfl

theorem quiescedPart_state (p : Nat) (d : Device) : ((quiescedPart p d).part p).state = .quiesced :=
  congrArg Part.state (part_setPart d p _)

theorem quiesceAnswered_answers (p : Nat) (d : Device) : AnswersOnly d (quiesceAnswered p d) := by
  unfold quiesceAnswered
  split
  · exact finishExec_answers _ _ d
  · exact answersOnly_refl d

theorem enterQuiesced_answers (p : Nat) (d : Device) : ∃ k,
    AnswersOnly { quiescedPart p d with clk := k } (enterQuiesced p d) := by
  obtain ⟨k, hk⟩ := resetDrained_answers (quiesceAnswered p (quiescedPart p d))
  exact ⟨k, answersOnly_trans ((quiesceAnswered_answers p _).withClk k) hk⟩

/-- R93: the partition is QUIESCED; ports, windows and requests stay. -/
theorem enterQuiesced_keeps (p : Nat) (d : Device) : ((enterQuiesced p d).part p).state = .quiesced ∧
    (enterQuiesced p d).ports = d.ports ∧ (enterQuiesced p d).tracks = d.tracks ∧ (enterQuiesced p d).windows = d.windows := by
  obtain ⟨k, h⟩ := enterQuiesced_answers p d
  have hpart := part_of_parts (parts_of_besideAnswer h.besideAnswer) p
  exact ⟨(congrArg Part.state hpart).trans (quiescedPart_state p d), (ports_of_besideAnswer h.besideAnswer :),
    (congrArg Device.tracks h.besideAnswer :), (windows_of_besideAnswer h.besideAnswer :)⟩

/-- No command under way has come from another device. -/
def NoneRelayed (d : Device) : Prop := ∀ y ∈ d.kme.execs, y.cmd.source.transport ≠ 6

section
variable {d : Device} (h : NoneRelayed d)
include h

theorem NoneRelayed.of_findExec {q : Exec → Bool} {e : Exec} (he : findExec q d = some e) : e.cmd.source.transport ≠ 6 :=
  h e (List.mem_of_find?_eq_some he)

theorem resetDrained_items : (resetDrained d).items = d.items := by
  unfold resetDrained
  split
  · rename_i e he
    split
    · exact finish_items (h.of_findExec he) _ _ _
    · rfl
  · rfl

theorem quiesceAnswered_work (p : Nat) : (quiesceAnswered p d).items = d.items ∧ NoneRelayed (quiesceAnswered p d) := by
  unfold quiesceAnswered
  split
  · rename_i e he
    have hown : e.cmd.source.transport ≠ 6 := h.of_findExec he
    exact ⟨finish_items hown _ _ d, fun y hy => h y (mem_execs_of_finish hown hy)⟩
  · exact ⟨rfl, h⟩

theorem enterQuiesced_items (p : Nat) : (enterQuiesced p d).items = d.items := by
  obtain ⟨hitems, hown⟩ := quiesceAnswered_work (d := quiescedPart p d) h p
  exact (resetDrained_items hown).trans hitems

end

/-! ## The timeout of a quiesce (R94) -/

theorem quiesceTimeout_due {p : Nat} {d : Device} (hstate : (d.part p).state = .quiescing) (hbusy : inFlight p d ≠ 0)
    (hdue : (d.part p).quiesceSince + (d.part p).quiesceTimeoutMs * msNs ≤ d.now) :
    ((quiesceTimeout p d).part p).state = .quiesced ∧ (quiesceTimeout p d).ports = d.ports := by
  have hreport : (reportPart p 2 (flushPart p d)).1.layout = d.layout := (reportItems_layout _ _ 2 _).trans (flushPart_layout p d)
  have heq : quiesceTimeout p d = enterQuiesced p (addReported p ((reportPart p 2 (flushPart p d)).2 + workInFlight p d)
      (reportPart p 2 (flushPart p d)).1) := if_pos ⟨hstate, hdue, hbusy⟩
  rw [heq]
  obtain ⟨hquiesced, hports, -⟩ := enterQuiesced_keeps p
    (addReported p ((reportPart p 2 (flushPart p d)).2 + workInFlight p d) (reportPart p 2 (flushPart p d)).1)
  exact ⟨hquiesced, hports.trans (ports_of_layout hreport)⟩

/-! ## The end of a reset (R96, R111, R112) -/

section
variable {p : Nat} {d : Device} (hstate : (d.part p).state = .resetting) (hflr : (d.func (.pf p)).flr = .idle) (hvfs : vfsOf p d = [])
include hstate hflr hvfs

/-- The FLRs of the partition's functions have ended. -/
theorem reset_over : (d.part p).state = .resetting ∧ (d.func (.pf p)).flr = .idle ∧
    (vfsOf p d).all (fun v => decide ((d.func (.vf v)).flr = .idle)) = true := ⟨hstate, hflr, by rw [hvfs]; rfl⟩

theorem resetDone_active (hreq : (d.part p).quiesceReq = false) (hexecs : ∀ y ∈ d.kme.execs, y.op ≠ 0x0306) :
    resetDone p d = d.setPart p { d.part p with state := .active, activeSince := d.now } := by
  have hnone : d.kme.execs.filter (fun e => decide (e.op = 0x0306) && decide (e.cmd.target.toNat = p) && e.applied) = [] :=
    List.filter_eq_nil_iff.2 fun y hy => by simp [hexecs y hy]
  simp only [resetDone, if_pos (reset_over hstate hflr hvfs), hreq, Bool.false_eq_true, if_false, Device.setPart_kme, hnone,
    List.foldl_nil]

theorem resetDone_quiesced (hreq : (d.part p).quiesceReq = true) :
    ((resetDone p d).part p).state = .quiesced ∧ (resetDone p d).ports = d.ports := by
  simp only [resetDone, if_pos (reset_over hstate hflr hvfs), hreq, if_true]
  obtain ⟨hquiesced, hports, -⟩ := enterQuiesced_keeps p d
  generalize enterQuiesced p d = e at hquiesced hports ⊢
  have hlayout := foldl_layout (fun f y => (finishExec_answers y
    { status := if y.reported = 0 then .ok else .doneDegraded, detail := 0, result := natLe 4 (min y.reported 0xFFFFFFFF) } f).layout)
    (e.kme.execs.filter fun e => decide (e.op = 0x0306) && decide (e.cmd.target.toNat = p) && e.applied) e
  exact ⟨(state_of_layout hlayout p).trans hquiesced, (ports_of_layout hlayout).trans hports⟩

end

theorem resetDone_other {p : Nat} {d : Device} (h : (d.part p).state ≠ .resetting) : resetDone p d = d := if_neg fun hall => h hall.1

/-! ## A hot reset at the USP (R97) -/

theorem hotReset_tenant {n p : Nat} {d : Device} (husp : (d.port n).personality = .usp) (hholder : (d.port n).holder = p) (hp : p ≠ 0)
    (hstate : (d.part p).state = .active) : ((hotReset n d).part p).state = .resetting ∧ ((hotReset n d).pci n).lstate = .hotReset ∧
      (hotReset n d).ports = d.ports ∧ (hotReset n d).segs = d.segs := by
  have heq : hotReset n d = pcieDown n .hotReset (startReset p (some 4) d).1 := by
    simp only [hotReset, husp, ne_eq, not_true, if_false, hholder, if_neg hp, hostReset, hstate]
  rw [heq]
  obtain ⟨hresetting, hports, hsegs⟩ := startReset_keeps p (some 4) d
  have hlayout := pcieDown_layout n .hotReset (startReset p (some 4) d).1
  exact ⟨(state_of_layout hlayout p).trans hresetting, pcieDown_lstate n .hotReset _, (ports_of_layout hlayout).trans hports,
    (segs_of_layout hlayout).trans hsegs⟩

/-! ## Steered VFs (R104, Table 4.3) -/

theorem reportItems_nil (reason : Nat) (d : Device) : (reportItems [] [] reason d).1 = d := by
  simp [reportItems]

theorem vfUnbindDrained_drained {e : Nat} {d : Device} (hfenced : (d.steer e).fenced = true) (hdrained : steerDrained e d = true)
    (hexecs : d.kme.execs = []) : vfUnbindDrained e d = dropSteer e (d.steer e) d := by
  have hempty : steerTracks e d = [] ∧ steerItems e d = [] := by simpa [steerDrained] using hdrained
  simp [vfUnbindDrained, hfenced, hdrained, hempty, reportItems_nil, findExec, dropSteer, presenceAt, hexecs, emit]

theorem vfUnbindDrained_waits {e : Nat} {d : Device} (hdrained : steerDrained e d = false)
    (hearly : d.now < (d.steer e).fencedAt + (d.steer e).timeoutMs * msNs) : vfUnbindDrained e d = d := by
  simp [vfUnbindDrained, hdrained, hearly]

/-! ## The statement -/

/-- Settles O11: each row acts at its moment as its rule says, and before it does nothing. -/
theorem partitionEvents : Obligations.PartitionEvents := by
  intro s p n e d x
  refine ⟨?drained, ?notQuiescing, ?busy, ?timeout, ?early, ?resetActive, ?resetQuiesced, ?notResetting, ?hotReset, ?notUsp, ?retryEnds,
    ?retryWaits, ?unbound, ?notFenced, ?unbindWaits⟩
  case drained =>
    intro hstate hempty
    have hrow : exec (.partitionDrained p) s = done s (enterQuiesced p d) := congrArg (done s) (if_pos ⟨hstate, hempty⟩)
    obtain ⟨hquiesced, hports, htracks, hwindows⟩ := enterQuiesced_keeps p d
    exact done_gives_framed hrow rfl fun _ _ _ => ⟨hquiesced, hports, htracks, hwindows, (enterQuiesced_items · p)⟩
  case notQuiescing =>
    exact fun hstate => ⟨done_becomes rfl (if_neg fun h => hstate h.1), done_becomes rfl (if_neg fun h => hstate h.1)⟩
  case busy => exact fun hbusy => done_becomes rfl (if_neg fun h => hbusy h.2)
  case timeout =>
    exact fun hstate hbusy hdue => done_gives_framed rfl rfl fun _ _ _ => quiesceTimeout_due hstate hbusy hdue
  case early => exact fun _ hearly => done_becomes rfl (if_neg fun h => Nat.not_le.2 hearly h.2.1)
  case resetActive => exact fun hstate hflr hvfs hreq hexecs => done_becomes rfl (resetDone_active hstate hflr hvfs hreq hexecs)
  case resetQuiesced =>
    exact fun hstate hflr hvfs hreq => done_gives_framed rfl rfl fun _ _ _ => resetDone_quiesced hstate hflr hvfs hreq
  case notResetting => exact fun hstate => done_becomes rfl (resetDone_other hstate)
  case hotReset =>
    exact fun husp hholder hp hstate => done_gives_framed rfl rfl fun _ _ _ => hotReset_tenant husp hholder hp hstate
  case notUsp => exact fun h => done_becomes rfl (if_pos h)
  case retryEnds => exact fun hset hdue => done_becomes rfl (if_pos ⟨hset, hdue⟩)
  case retryWaits => exact fun hearly => done_becomes rfl (if_neg fun h => Nat.not_le.2 hearly h.2)
  case unbound => exact fun hfenced hdrained hexecs => done_becomes rfl (vfUnbindDrained_drained hfenced hdrained hexecs)
  case notFenced => exact fun hopen => done_becomes rfl (if_pos hopen)
  case unbindWaits => exact fun hdrained hearly => done_becomes rfl (vfUnbindDrained_waits hdrained hearly)

end Sys2Proof.Machine
end


section
/-! Windows (R118, R123, R131 to R137, R139): the commands, error logs and doorbells, and the time-out of a translated request. -/

namespace Sys2Proof.Machine

theorem leNat_natLe_eight {v : Nat} (h : v < 2 ^ 64) : leNat (natLe 8 v) = v := by
  simp only [natLe, leNat, BitVec.toNat_ofNat]
  omega

theorem firstFail_append {l m : List (Option Ans)} (hl : firstFail l = none) (hm : firstFail m = none) : firstFail (l ++ m) = none := by
  rw [firstFail_eq_none] at hl hm ⊢
  exact List.forall_mem_append.2 ⟨hl, hm⟩

/-! ## NTW_SET (R134 to R136) -/

/-- Every function has 64 vectors at least. -/
theorem vectorCount_function1 (p : Nat) : 64 ≤ vectorCount (function1 p) := by
  unfold function1
  split
  · exact Nat.le_refl 64
  · exact Nat.le_of_ble_eq_true rfl

/-- The entry of a window that hosts read, write and ring, with the time-out of the table. -/
def windowEntered (src dst off size base vec : Nat) : Window :=
  { windowFree with valid := true, srcPart := src, dstPart := dst, srcOffset := off, size := size, dstBase := base, read := true,
                    write := true, doorbell := true, errVector := vec, dbVector := vec, cplTimeoutMs := 50 }

/-- What the statement assumes of an NTW_SET: two partitions in use, an aligned range in the window space, on a device without
windows. -/
structure SetsWindow (c : Cmd) (w src dst off size base vec : Nat) (d : Device) : Prop where
  header : NoTarget c
  number : w < 512
  partitions : src ≤ 48 ∧ dst ≤ 48 ∧ src ≠ dst
  used : (d.part src).state ≠ .free ∧ (d.part dst).state ≠ .free
  range : off % 4096 = 0 ∧ size % 4096 = 0 ∧ 4096 ≤ size ∧ off + size ≤ 0xFFFFFC000
  target : base % 4096 = 0 ∧ base < 2 ^ 64
  vector : vec < 64
  noWindows : d.windows = []
  params : c.params = natLe 2 w ++ natLe 1 src ++ natLe 1 dst ++ natLe 8 off ++ natLe 8 size ++ natLe 8 base ++ [0, 7, 0, 0] ++
    natLe 2 vec ++ natLe 2 vec ++ natLe 12 0

namespace SetsWindow
variable {c : Cmd} {w src dst off size base vec : Nat} {d : Device} (h : SetsWindow c w src dst off size base vec d)
include h

theorem u16_window : u16 c.params 0 = w := by
  rw [h.params]; exact leNat_natLe_two (Nat.lt_trans h.number (by decide))
theorem u8_src : u8 c.params 2 = src := by
  rw [h.params]; exact toNat_ofNat_byte (Nat.lt_of_le_of_lt h.partitions.1 (by decide))
theorem u8_dst : u8 c.params 3 = dst := by
  rw [h.params]; exact toNat_ofNat_byte (Nat.lt_of_le_of_lt h.partitions.2.1 (by decide))
theorem u64_offset : u64 c.params 4 = off := by
  obtain ⟨-, -, -, hrange⟩ := h.range
  rw [h.params]; exact leNat_natLe_eight (by omega)
theorem u64_size : u64 c.params 12 = size := by
  obtain ⟨-, -, -, hrange⟩ := h.range
  rw [h.params]; exact leNat_natLe_eight (by omega)
theorem u64_base : u64 c.params 20 = base := by
  rw [h.params]; exact leNat_natLe_eight h.target.2
theorem u16_errVector : u16 c.params 32 = vec := by
  rw [h.params]; exact leNat_natLe_two (Nat.lt_trans h.vector (by decide))
theorem u16_dbVector : u16 c.params 34 = vec := by
  rw [h.params]; exact leNat_natLe_two (Nat.lt_trans h.vector (by decide))
theorem constants : u8 c.params 28 = 0 ∧ u8 c.params 29 = 7 ∧ u8 c.params 30 = 0 ∧ u8 c.params 31 = 0 ∧ u16 c.params 36 = 0 ∧
    zeros c.params 38 10 = true ∧ c.params.length = 48 := by
  rw [h.params]; exact ⟨rfl, rfl, rfl, rfl, rfl, rfl, rfl⟩

theorem window_free (k : Nat) : d.window k = windowFree := congrArg (tget windowFree · k) h.noWindows

/-- Check 2 of R135 passes. -/
theorem fields_pass : firstFail (windowFields c.params) = none := by
  obtain ⟨hsrc, hdst, hne⟩ := h.partitions
  obtain ⟨hoff, hsize, hmin, hrange⟩ := h.range
  have hvectors (p : Nat) : ¬ vectorCount (function1 p) ≤ vec :=
    Nat.not_le.mpr (Nat.lt_of_lt_of_le h.vector (vectorCount_function1 p))
  simp [windowFields, firstFail, failIf, h.u16_window, h.u8_src, h.u8_dst, h.u64_offset, h.u64_size, h.u64_base, h.u16_errVector,
    h.u16_dbVector, h.constants, hvectors, hne.symm, hoff, hsize, h.target.1, Nat.not_lt.mpr hsrc, Nat.not_lt.mpr hdst,
    Nat.not_lt.mpr hmin, Nat.not_lt.mpr hrange, Nat.not_lt.mpr (Nat.le_trans (Nat.le_add_left size off) hrange),
    Nat.not_lt.mpr (Nat.le_of_lt_succ h.number), Nat.not_le.mpr (Nat.lt_trans h.vector (show 64 < 2048 by decide))]

theorem windowAsked_eq : windowAsked c.params windowFree = windowEntered src dst off size base vec := by
  have hflags : bitOf 7 0 = true ∧ bitOf 7 1 = true ∧ bitOf 7 2 = true := by decide
  simp [windowAsked, windowEntered, windowFree, hflags, h.u8_src, h.u8_dst, h.u64_offset, h.u64_size, h.u64_base, h.u16_errVector,
    h.u16_dbVector, h.constants]

theorem ntwSet_eq : ∃ r, ntwSet c d =
    (entryRewritten (.window w) (d.setWindow w (windowEntered src dst off size base vec)), some (ansOk r)) := by
  obtain ⟨htarget, hparam0⟩ := h.header
  obtain ⟨hsrc, hdst⟩ := h.used
  have hw : w ≠ 0xFFFF := Nat.ne_of_lt (Nat.lt_trans h.number (by decide))
  have hclash : windowOverlap w src off size d = none := by rw [windowOverlap, h.noWindows]; rfl
  dsimp only [ntwSet]
  rw [checked_pass ?checks]
  case checks =>
    refine firstFail_append (firstFail_append ?_ h.fields_pass) ?_
    · simp [firstFail, failIf, headerZero, htarget, hparam0, h.constants]
    · simp [firstFail, failIf, h.u16_window, h.u8_src, h.u8_dst, h.u64_offset, h.u64_size, h.window_free, hsrc, hdst, hw, hclash,
        windowFree]
  · simp only [h.u16_window, if_neg hw, Option.getD_some, h.window_free, h.windowAsked_eq]
    exact ⟨_, rfl⟩

/-- The window is the only one. -/
theorem windows_entered : (d.setWindow w (windowEntered src dst off size base vec)).windows =
    [(w, windowEntered src dst off size base vec)] := by
  have hentered : windowEntered src dst off size base vec ≠ windowFree :=
    fun h => Bool.noConfusion (congrArg Window.valid h : true = false)
  rw [Device.setWindow, h.noWindows, tset, if_neg hentered]
  rfl

end SetsWindow

/-! ## NTW_CLEAR and NTW_STATUS (R137, R139) -/

section
variable {c : Cmd} {w : Nat} {d : Device} (htarget : c.target.toNat = w) (hparam0 : c.param0 = 0) (hw : w < 512)
  (hvalid : (d.window w).valid = true)
include htarget hparam0 hw hvalid

theorem windowTarget_eq_none : windowTarget c d = none := by
  simp [windowTarget, orElse, failIf, htarget, hparam0, hvalid, Nat.not_le.mpr hw]

theorem ntwClear_eq (hparams : c.params = []) : ntwClear c d = (clearWindow w d, some (ansOk (natLe 4 (d.window w).errCount))) := by
  have hheader : windowTarget c d = none := windowTarget_eq_none htarget hparam0 hw hvalid
  dsimp only [ntwClear]
  rw [checked_pass (by simp [firstFail, failIf, hheader, hparams]), htarget]

theorem ntwStatus_eq (clear : Bool) (hparams : c.params = [BitVec.ofNat 8 (natOfBool clear), 0, 0, 0]) : ntwStatus c d =
    (if clear then clearLog w d else d,
      some (ansOk (natLe 4 (windowCfgWord (d.window w)) ++ natLe 4 (d.window w).errCount ++ natLe 8 (d.window w).srcOffset ++
        natLe 8 (d.window w).size ++ natLe 8 (d.window w).dstBase ++ natLe 8 (d.window w).errAddr ++
        natLe 4 (windowInfoWord (d.window w)) ++ natLe 4 (windowTrafficWord w d)))) := by
  have hheader : windowTarget c d = none := windowTarget_eq_none htarget hparam0 hw hvalid
  have hflags : u8 c.params 0 = natOfBool clear := by rw [hparams]; cases clear <;> rfl
  have hclear : ¬ 2 ≤ natOfBool clear ∧ bitOf (natOfBool clear) 0 = clear := by cases clear <;> decide
  dsimp only [ntwStatus]
  have hreserved : zeros c.params 1 3 = true := by rw [hparams]; rfl
  have hlen : c.params.length = 4 := by rw [hparams]; rfl
  rw [checked_pass (by simp [firstFail, failIf, hheader, hflags, hclear, hreserved, hlen])]
  simp only [htarget, hflags, hclear]

end

/-! ## Doorbells (R118, R132, R133) -/

theorem outboundDoorbell_owner {w : Nat} (n : Nat) (bits : W32) {d : Device} (hvalid : (d.window w).valid = true)
    (hdoorbell : (d.window w).doorbell = true) : outboundDoorbell w (d.window w).srcPart n bits d =
      { d with dbWaits := d.dbWaits ++ [{ window := w, bits := bits, behind := postedBehind w n d }] } := by
  simp [outboundDoorbell, hvalid, hdoorbell]

theorem outboundDoorbell_foreign {w p : Nat} (n : Nat) (bits : W32) {d : Device} (h : (d.window w).srcPart ≠ p) :
    outboundDoorbell w p n bits d = d := if_pos (.inr h)

/-- R132: bits set in DB_STATUS concern the window and the vectors. -/
theorem ringDoorbell_frame (w : Nat) (bits : W32) (d : Device) : ∃ i m, ringDoorbell w bits d =
    { d.setWindow w { d.window w with dbStatus := (d.window w).dbStatus ||| bits } with issued := i, msix := m } := by
  unfold ringDoorbell
  extract_lets x e
  split
  · exact ⟨e.issued, e.msix, rfl⟩
  · exact sendVector_frame _ _ e

/-- R133: a write that waits behind nothing sets its bits. -/
theorem inboundDoorbell_single {w : Nat} {y : DoorbellWait} {d : Device} (hwaits : d.dbWaits = [y]) (hwindow : y.window = w)
    (hbehind : y.behind = []) : inboundDoorbell w d = ringDoorbell w y.bits { d with dbWaits := [] } := by
  simp [inboundDoorbell, hwaits, hwindow, doorbellDue, hbehind]

theorem inboundDoorbell_none (w : Nat) {d : Device} (hwaits : d.dbWaits = []) : inboundDoorbell w d = d := by
  simp [inboundDoorbell, hwaits]

/-! ## Time-outs (R123) -/

/-- The completion that ends a source request concerns the items, and the other pieces of the request. -/
theorem endRequest_frame (t : Track) (st : CplStatus) (synth : Bool) (d : Device) : ∃ i n,
    endRequest t st synth d = { spendPieces t d with items := i, nextId := n } := by
  unfold endRequest
  extract_lets c e enter
  split
  · extract_lets h
    split
    · exact ⟨_, _, rfl⟩
    · exact ⟨e.items, e.nextId, rfl⟩
  · split
    · exact ⟨e.items, e.nextId, rfl⟩
    · exact ⟨_, _, rfl⟩

section
variable {t : Track} {d : Device} (htracks : d.tracks = [t])
include htracks

theorem tracked_single : (d.tracks.any fun x => decide (x.id = t.id)) = true := by simp [htracks]

theorem putTrack_single {x : Track} (hid : x.id = t.id) : putTrack x d = { d with tracks := [x] } := by
  simp [putTrack, htracks, hid]

end

/-- A piece that fails, alone in the tracker, stays there as answered. -/
theorem failPiece_single {t : Track} (st : CplStatus) (synth : Bool) {d : Device} (htracks : d.tracks = [t]) : ∃ x i n,
    x.answered = true ∧ failPiece t st synth d = { d with tracks := [x], items := i, nextId := n } := by
  unfold failPiece
  extract_lets x e
  obtain ⟨i, n, he⟩ : ∃ i n, e = { spendPieces x d with items := i, nextId := n } := endRequest_frame x st synth d
  split
  · rw [if_pos (tracked_single htracks)]
    exact ⟨x, _, _, rfl, putTrack_single htracks rfl⟩
  · split
    · have hspent : e.tracks = [{ t with spent := true, held := [] }] := by
        rw [he]
        simp [spendPieces, htracks, x, requestOf]
      have hput : putTrack { x with spent := true, held := [] } e = { e with tracks := [{ x with spent := true, held := [] }] } :=
        putTrack_single hspent rfl
      rw [if_pos (tracked_single hspent), hput, he]
      exact ⟨_, i, n, rfl, rfl⟩
    · rw [keepTrack, if_pos (tracked_single htracks)]
      refine ⟨_, _, _, ?_, putTrack_single htracks rfl⟩
      rfl

theorem lockFails_frame (n : Nat) (k : Kind) (d : Device) : ∃ l, lockFails n k d = { d with locks := l } := by
  unfold lockFails
  split
  · exact ⟨_, rfl⟩
  · exact ⟨d.locks, rfl⟩

/-- R231: a synthetic completion is counted. -/
theorem logSynth_count (r f p n : Nat) (d : Device) : (logSynth r f p n d).fab.cntSynth = satAdd 0xFFFFFFFF d.fab.cntSynth 1 := by
  unfold logSynth
  extract_lets fab info e
  obtain ⟨k, c, h⟩ := countGlobal_frame 0x108 n 1 (fabRaise 0x04 e)
  rw [h]
  rfl

/-- R123: a synthetic completion of a window's piece, alone in the tracker. -/
theorem synthTrack_window (fid port : Nat) {t : Track} {d : Device} (hfn : t.fn = none) (hwindow : t.window.isSome = true)
    (htracks : d.tracks = [t]) : ∃ x y i n l k c, x.cntSynth = satAdd 0xFFFFFFFF d.fab.cntSynth 1 ∧ y.answered = true ∧
      synthTrack fid port t d =
        { d with fab := x, tracks := [y], items := i, nextId := n, locks := l, counters := k, cnt := c } := by
  have hcount := logSynth_count t.nearRid fid port t.part d
  have hsynth : synthTrack fid port t d = failPiece t .ca true (lockFails t.port t.kind (logSynth t.nearRid fid port t.part d)) := by
    simp only [synthTrack, hfn, hwindow, if_true]
  obtain ⟨x, k, c, hlog⟩ := logSynth_frame t.nearRid fid port t.part d
  obtain ⟨l, hlock⟩ := lockFails_frame t.port t.kind (logSynth t.nearRid fid port t.part d)
  rw [hlog] at hcount hlock hsynth
  rw [hlock] at hsynth
  obtain ⟨y, i, n, hanswered, hfail⟩ := failPiece_single .ca true (t := t)
    (d := { d with fab := x, counters := k, cnt := c, locks := l }) htracks
  exact ⟨x, y, i, n, l, k, c, hcount, hanswered, hsynth.trans hfail⟩

theorem windowCplTimeout_other {t : Track} {id : Nat} {d : Device} (htracks : d.tracks = [t]) (h : id ≠ t.id) :
    windowCplTimeout id d = d := by
  simp [windowCplTimeout, htracks, h.symm]

/-- The device with the time-out counted in its window, and the event flagged. -/
def timeoutCounted (w : Nat) (d : Device) : Device :=
  { d.setWindow w { d.window w with cplTimeouts := satAdd 0xFFFF (d.window w).cplTimeouts 1 } with
    ntw := { d.ntw with intStatus := d.ntw.intStatus ||| 4 } }

section
variable {t : Track} {w : Nat} {d : Device} (htracks : d.tracks = [t]) (hwindow : t.window = some w) (hanswered : t.answered = false)
  (hms : (d.window w).cplTimeoutMs ≠ 0)
include htracks hwindow hanswered hms

theorem windowCplTimeout_early (h : d.now < t.sentAt + (d.window w).cplTimeoutMs * msNs) : windowCplTimeout t.id d = d := by
  simp [windowCplTimeout, htracks, hwindow, hanswered, hms, h]

theorem windowCplTimeout_due (hvalid : (d.window w).valid = true) (h : t.sentAt + (d.window w).cplTimeoutMs * msNs ≤ d.now) :
    windowCplTimeout t.id d = synthTrack d.glb.fid t.port t (timeoutCounted w d) := by
  simp [windowCplTimeout, htracks, hwindow, hanswered, hms, hvalid, Nat.not_lt.mpr h, timeoutCounted]

end

/-! ## The statement -/

/-- Settles O15: the checks of each command pass and its own effect is the entry's; hosts act on their own windows alone; a
time-out leaves the one piece answered and counted. -/
theorem windowRows : Obligations.WindowRows := by
  refine ⟨?windows, ?timeouts⟩
  case windows =>
    intro s c w d x
    refine ⟨?set, fun htarget hparam0 hw hvalid => ⟨?clear, ?status⟩, ?logClear, ?logForeign, ?ring, ?ringForeign, ?inbound,
      ?inboundNone⟩
    case set =>
      intro src dst off size base vec hw hheader hready hsrc hdst hne hsrcUsed hdstUsed hoff hsize hmin hbase hbase64 hrange hvec
        hnone hparams
      have h : SetsWindow c w src dst off size base vec (markBegun 0x0501 c d) :=
        ⟨hheader, hw, ⟨hsrc, hdst, hne⟩, ⟨hsrcUsed, hdstUsed⟩, ⟨hoff, hsize, hmin, hrange⟩, ⟨hbase, hbase64⟩, hvec, hnone,
          hparams⟩
      obtain ⟨r, hset⟩ := h.ntwSet_eq
      exact packet_gives_answered rfl hready hset fun t ht hstatus => ⟨(windows_of_besideAnswer ht).trans h.windows_entered, hstatus,
        (parts_of_besideAnswer ht :), (ports_of_besideAnswer ht :)⟩
    case clear =>
      exact fun hready hparams => packet_replies rfl hready (ntwClear_eq (d := markBegun 0x0502 c d) htarget hparam0 hw hvalid hparams)
    case status =>
      intro clear hready hparams
      exact packet_replies rfl hready (ntwStatus_eq (d := markBegun 0x0503 c d) htarget hparam0 hw hvalid clear hparams)
    case logClear => exact fun hvalid => done_becomes rfl (if_pos ⟨hvalid, rfl⟩)
    case logForeign => exact fun q hforeign => done_becomes rfl (if_neg fun h => hforeign h.2)
    case ring => exact fun n bits hvalid hdoorbell => done_becomes rfl (outboundDoorbell_owner n bits hvalid hdoorbell)
    case ringForeign => exact fun q n bits hforeign => done_becomes rfl (outboundDoorbell_foreign n bits hforeign)
    case inbound =>
      intro y hwaits hyw hbehind
      obtain ⟨i, m, hring⟩ := ringDoorbell_frame w y.bits { d with dbWaits := [] }
      exact done_gives_framed rfl ((inboundDoorbell_single hwaits hyw hbehind).trans hring) fun _ _ _ =>
        ⟨window_setWindow d w _, rfl, rfl, rfl⟩
    case inboundNone => exact fun hwaits => done_becomes rfl (inboundDoorbell_none w hwaits)
  case timeouts =>
    intro s t w htracks hwindow hanswered hfn hfab d x hvalid hms
    refine ⟨?early, ?due, ?other⟩
    case early => exact fun hearly => done_becomes rfl (windowCplTimeout_early htracks hwindow hanswered hms hearly)
    case due =>
      intro hdue
      obtain ⟨f, y, i, n, l, k, e, hcount, hy, hsynth⟩ := synthTrack_window d.glb.fid t.port (d := timeoutCounted w d) hfn
        (by rw [hwindow]; rfl) htracks
      refine done_gives_framed rfl ((windowCplTimeout_due htracks hwindow hanswered hms hvalid hdue).trans hsynth) fun _ _ _ =>
        ⟨congrArg Window.cplTimeouts (window_setWindow d w _), rfl, hcount, ?_⟩
      exact List.forall_mem_singleton.2 hy
    case other => exact fun id hid => done_becomes rfl (windowCplTimeout_other htracks hid)

end Sys2Proof.Machine
end

section
/-! The telemetry map (R141 to R145): TLM_MAP_SET, the evaluation of an entry, IPMB messages, and sensor readings. -/

namespace Sys2Proof.Machine

/-! ## TLM_MAP_SET (R145) -/

theorem tlm_of_besideAnswer {d t : Device} (h : t.besideAnswer = d.besideAnswer) : t.tlm = d.tlm := (congrArg Device.tlm h :)
theorem spw_of_besideAnswer {d t : Device} (h : t.besideAnswer = d.besideAnswer) : t.spw = d.spw := (congrArg Device.spw h :)

/-- A mapping entered is read; the others stay. -/
theorem tlmEntry_setTlm (d : Device) (e : Nat) (x : TlmEntry) : (d.setTlm e x).tlmEntry e = x := tget_tset_same tlmReset d.tlm e x
theorem tlmEntry_setTlm_other (d : Device) {e k : Nat} (x : TlmEntry) (h : k ≠ e) : (d.setTlm e x).tlmEntry k = d.tlmEntry k :=
  tget_tset_other tlmReset d.tlm x h
theorem tlmEntry_of_tlm {d t : Device} (h : t.tlm = d.tlm) (k : Nat) : t.tlmEntry k = d.tlmEntry k := congrArg (tget tlmReset · k) h

theorem tlmMapSet_eq {c : Cmd} {e : Nat} {d : Device} (he : e < 256) (htarget : c.target.toNat = e) (hparam0 : c.param0 = 0)
    (hlen : c.params.length = 32) (hfields : firstFail (tlmFields c.params) = none)
    (hclash : tlmClash e (tlmAsked c.params) d = false) (henable : (tlmAsked c.params).enable = true) :
    ∃ r, tlmMapSet c d = (d.setTlm e (tlmAsked c.params), some (ansOk r)) := by
  have hheader : headerBits 8 c = none := by simp [headerBits, htarget, hparam0, he]
  have hchecks : firstFail ([failIf (decide (c.params.length ≠ 32)) (ansLen 32), headerBits 8 c] ++ tlmFields c.params) = none :=
    firstFail_append (by simp [firstFail, failIf, hlen, hheader]) hfields
  simp only [tlmMapSet, hchecks, htarget, hclash, henable, if_true, Bool.false_eq_true, if_false]
  exact ⟨_, rfl⟩

/-! ## Evaluation (R141 to R143) -/

/-- An entry once a valid source value has been evaluated to `y`. -/
def evaluated (x : TlmEntry) (y : Int) (now : Nat) : TlmEntry :=
  { x with evals := (x.evals + 1) % 2 ^ 24, evalAt := some now, srcValid := true,
           value := max (sizeRange x.dstSize).1 (min (sizeRange x.dstSize).2 y),
           saturated := decide (y < (sizeRange x.dstSize).1) || decide ((sizeRange x.dstSize).2 < y) }

theorem evaluate_valid (x : TlmEntry) (n : Int) (now : Nat) :
    evaluate x (some n) now = evaluated x (roundShift (n * x.m) x.shift + x.b) now := rfl

theorem roundShift_zero (n : Int) : roundShift n 0 = n := by
  simp only [roundShift]
  split <;> omega

theorem tlmDue_waited {x : TlmEntry} {now : Nat} (henable : x.enable = true) (hinternal : x.srcIpmb = false)
    (hage : ∀ t, x.evalAt = some t → t + msNs ≤ now) : tlmDue x now = true := by
  cases hat : x.evalAt with
  | none => simp [tlmDue, henable, hinternal, hat]
  | some t => simp [tlmDue, henable, hinternal, hat, hage t hat]

theorem tlmDue_early {x : TlmEntry} {t now : Nat} (hat : x.evalAt = some t) (h : now < t + msNs) : tlmDue x now = false := by
  simp [tlmDue, hat, h]

theorem tlmDue_ipmb {x : TlmEntry} (now : Nat) (h : x.srcIpmb = true) : tlmDue x now = false := by simp [tlmDue, h]

/-- R144: a valid value that is not too old is available; a mapping that has not been evaluated is not. -/
theorem tlmUnavailable_fresh {x : TlmEntry} {t now : Nat} (hat : x.evalAt = some t) (hvalid : x.srcValid = true)
    (hage : now ≤ t + x.maxAgeMs * msNs) : tlmUnavailable x now = false := by
  simp [tlmUnavailable, hat, hvalid, hage]

theorem tlmUnavailable_none {x : TlmEntry} (now : Nat) (hat : x.evalAt = none) : tlmUnavailable x now = true := by
  simp [tlmUnavailable, hat]

section
variable {e : Nat} {x : TlmEntry} {s : State} (htlm : s.dev.tlm = [(e, x)])
include htlm

/-- R143: the only entry of the map is evaluated once it is due. -/
theorem tlmEvaluation_due {n : Int} (hdue : tlmDue x s.dev.now = true) (hreading : reading x.srcId s.dev = (some n, s.dev)) :
    Becomes .tlmEvaluation s (s.dev.setTlm e (evaluated x (roundShift (n * x.m) x.shift + x.b) s.dev.now)) := by
  refine done_becomes rfl ?_
  simp only [htlm, List.foldl_cons, List.foldl_nil, hdue, if_true, hreading, evaluate_valid]

theorem tlmEvaluation_idle (hdue : tlmDue x s.dev.now = false) : Becomes .tlmEvaluation s s.dev := by
  refine done_becomes rfl ?_
  simp only [htlm, List.foldl_cons, List.foldl_nil, hdue, Bool.false_eq_true, if_false]

/-- R142, R143: a message that the only entry names is evaluated. -/
theorem ipmbMessage_matching {sa netfn cmd : Nat} {bytes : List Byte} {n : Int} (hmatch : ipmbMatches x sa netfn cmd bytes = true)
    (hfield : ipmbField x bytes = some n) : Becomes (.ipmbMessage sa netfn cmd bytes) s
      (s.dev.setTlm e (evaluated x (roundShift (n * x.m) x.shift + x.b) s.dev.now)) := by
  refine done_becomes rfl ?_
  simp only [htlm, List.foldl_cons, List.foldl_nil, hmatch, if_true, hfield, evaluate_valid]

/-- R144: what a PLDM sensor of the only entry answers. -/
theorem getSensorReading_pldm (henable : x.enable = true) (hpldm : x.dstIpmb = false) : Becomes (.getSensorReading x.dstId false) s
    (emit (.message { transport := 4, inst := 0 } 5
      (if tlmUnavailable x s.dev.now then [1] else 0 :: intLe (sizeBytes x.dstSize) x.value)) s.dev) := by
  refine done_becomes rfl ?_
  simp [sensorAnswer, htlm, henable, hpldm]

end

theorem reading_vinA (d : Device) : reading 0x600 d = (some (d.feeds.vinA : Int), d) := rfl

/-- A field that is the first byte of a message. -/
theorem ipmbField_firstByte {x : TlmEntry} (b : Byte) (bytes : List Byte) (hbyte : x.fieldByte = 0) (hlsb : x.fieldLsb = 0)
    (hwidth : x.fieldWidth = 8) (hbe : x.srcBe = false) (hsigned : x.signed = false) :
    ipmbField x (b :: bytes) = some (b.toNat : Int) := by
  have hone : ceilDiv (0 + 8) 8 = 1 := rfl
  have hb : b.toNat % 256 = b.toNat := Nat.mod_eq_of_lt b.isLt
  simp [ipmbField, hbyte, hlsb, hwidth, hbe, hsigned, hone, leNat, hb]

/-! ## The statement -/

/-- Settles O16: a mapping that passes its checks is entered; an entry that is due, or that a message names, is evaluated; a
sensor answers by the age of its value. -/
theorem telemetryRows : Obligations.TelemetryRows := by
  intro s e x d clamp
  refine ⟨?set, fun htlm henable => ⟨?vinA, ?early, ?ipmbSource, ?ipmb, ?available, ?notEvaluated⟩⟩
  case set =>
    intro c he htarget hparam0 hready hlen hfields hclash hasked
    obtain ⟨r, hset⟩ := tlmMapSet_eq (d := markBegun 0x0504 c d) he htarget hparam0 hlen hfields hclash hasked
    refine packet_gives_answered rfl hready hset fun t ht hstatus => ?_
    have hentry := tlmEntry_of_tlm (tlm_of_besideAnswer ht)
    exact ⟨(hentry e).trans (tlmEntry_setTlm _ e _), hstatus, (spw_of_besideAnswer ht :),
      fun k hk => (hentry k).trans (tlmEntry_setTlm_other _ _ hk)⟩
  case vinA =>
    exact fun hinternal hid hage => tlmEvaluation_due htlm (tlmDue_waited henable hinternal hage) (by rw [hid]; exact reading_vinA d)
  case early => exact fun t hat hearly => tlmEvaluation_idle htlm (tlmDue_early hat hearly)
  case ipmbSource => exact fun hipmb => tlmEvaluation_idle htlm (tlmDue_ipmb d.now hipmb)
  case ipmb =>
    intro bytes b hipmb hmatch hbyte hlsb hwidth hbe hsigned hshift
    have hrow := ipmbMessage_matching htlm (sa := x.ipmbSa) (netfn := x.ipmbNetfn) (cmd := x.ipmbCmd)
      (by simp [ipmbMatches, henable, hipmb, hmatch]) (ipmbField_firstByte b bytes hbyte hlsb hwidth hbe hsigned)
    rwa [hshift, roundShift_zero] at hrow
  case available =>
    intro t hpldm hat hvalid hage
    have hrow := getSensorReading_pldm htlm henable hpldm
    rwa [tlmUnavailable_fresh hat hvalid hage] at hrow
  case notEvaluated =>
    intro hpldm hat
    have hrow := getSensorReading_pldm htlm henable hpldm
    rwa [tlmUnavailable_none s.dev.now hat] at hrow

end Sys2Proof.Machine
end

section
/-! The commands of the central access table (R157, R159, R166 to R169). -/

namespace Sys2Proof.Machine

/-! ## The record of a command under way -/

/-- Marking a command's record keeps what it is found by. -/
theorem find?_sameCommand_map {op : Nat} {c : Cmd} {f : Exec → Exec} (hf : ∀ e, sameCommand op c (f e) = sameCommand op c e)
    (l : List Exec) : (l.map fun e => if sameCommand op c e then f e else e).find? (sameCommand op c) =
      (l.find? (sameCommand op c)).map f := by
  induction l with
  | nil => rfl
  | cons e l ih => cases he : sameCommand op c e <;> simp [he, hf, ih]

theorem execOf_markBegun (op : Nat) (c : Cmd) (d : Device) :
    execOf op c (markBegun op c d) = (execOf op c d).map fun e => { e with begun := true } :=
  find?_sameCommand_map (f := fun e => { e with begun := true }) (fun _ => rfl) d.kme.execs

theorem execOf_markApplied (op : Nat) (c : Cmd) (d : Device) :
    execOf op c (markApplied op c d) = (execOf op c d).map fun e => { e with applied := true } :=
  find?_sameCommand_map (f := fun e => { e with applied := true }) (fun _ => rfl) d.kme.execs

/-- A TARGET that is a tenant partition in use. -/
theorem tenantTarget_eq_none {c : Cmd} {p : Nat} {d : Device} (hp : 1 ≤ p) (hp48 : p ≤ 48) (htarget : c.target.toNat = p)
    (hparam0 : c.param0 = 0) (hused : (d.part p).state ≠ .free) : tenantTarget c d = none := by
  simp [tenantTarget, firstFail, failIf, htarget, hparam0, hused, Nat.not_lt.mpr hp48, Nat.ne_of_gt hp,
    Nat.not_le.mpr (Nat.lt_of_le_of_lt hp48 (show 48 < 64 by decide))]

/-! ## ACT_DISABLE (R153, R159, R166) -/

theorem disableChecks_eq_none {c : Cmd} {d : Device} (hheader : tenantTarget c d = none) (hparams : c.params = []) :
    firstFail (disableChecks c d) = none := by
  simp [disableChecks, firstFail, failIf, hparams, hheader]

/-- A segment that was DISABLED already stays so. -/
theorem disableAdmitted_disabled {c : Cmd} {p : Nat} {d : Device} (htarget : c.target.toNat = p)
    (hstate : (d.seg p).state = .disabled) : disableAdmitted c d = d :=
  if_neg fun h => by simp [htarget, hstate] at h

section
variable {c : Cmd} {p : Nat} {d : Device} {e : Exec} (hheader : tenantTarget c d = none) (htarget : c.target.toNat = p)
  (hparams : c.params = []) (hfault : c.fault = 0)
include hheader htarget hparams hfault

/-- The command answers by the record of its admission, and by what is still inside. -/
theorem actDisable_recorded (hexec : execOf 0x0401 c (disableAdmitted c d) = some e) : actDisable c d =
    if e.applied then
      if oldInflight p (disableAdmitted c d) = 0 then
        (disableAdmitted c d, some (ansOk (disableResult p e.since (disableAdmitted c d))))
      else (disableAdmitted c d, none)
    else (disableAdmitted c d, some (ansOk (natLe 4 ((disableAdmitted c d).seg p).gen ++ natLe 4 0))) := by
  dsimp only [actDisable]
  rw [checked_pass (disableChecks_eq_none hheader hparams), if_neg (not_not_intro hfault), htarget, hexec, Option.filter_some]
  cases e.applied <;> rfl

section
variable (hstate : (d.seg p).state = .disabled) (hexec : execOf 0x0401 c d = some e)
include hstate hexec

/-- A segment that was DISABLED before the command. -/
theorem actDisable_again (happlied : e.applied = false) :
    actDisable c d = (d, some (ansOk (natLe 4 (d.seg p).gen ++ natLe 4 0))) := by
  have hkept := disableAdmitted_disabled htarget hstate
  rw [actDisable_recorded hheader htarget hparams hfault (by rw [hkept, hexec]), hkept, happlied]
  exact if_neg Bool.false_ne_true

/-- A segment that the command disabled at its admission. -/
theorem actDisable_admitted (happlied : e.applied = true) :
    actDisable c d = if oldInflight p d = 0 then (d, some (ansOk (disableResult p e.since d))) else (d, none) := by
  have hkept := disableAdmitted_disabled htarget hstate
  rw [actDisable_recorded hheader htarget hparams hfault (by rw [hkept, hexec]), hkept, if_pos happlied]

end

/-- An ENABLED segment is disabled now. -/
theorem actDisable_enabled (hstate : (d.seg p).state = .enabled) (hexec : execOf 0x0401 c d = some e) :
    actDisable c d = if oldInflight p d = 0 then
        (markApplied 0x0401 c (enterDisabled p d), some (ansOk (disableResult p e.since (enterDisabled p d))))
      else (markApplied 0x0401 c (enterDisabled p d), none) := by
  have hadmitted : disableAdmitted c d = markApplied 0x0401 c (enterDisabled p d) := by
    rw [disableAdmitted, htarget, if_pos ⟨disableChecks_eq_none hheader hparams, hstate⟩]
  have hrecord : execOf 0x0401 c (disableAdmitted c d) = some { e with applied := true } := by
    rw [hadmitted, execOf_markApplied]
    exact congrArg (Option.map _) hexec
  rw [actDisable_recorded hheader htarget hparams hfault hrecord, hadmitted]
  exact if_pos rfl

end

/-- The segment as its disabling leaves it; the others stay. -/
theorem seg_enterDisabled (p : Nat) (d : Device) : (enterDisabled p d).seg p =
    { d.seg p with state := .disabled, gen := ((d.seg p).gen + 1) % 65536, disabledAt := d.now, stallLong := false } := by
  rw [enterDisabled, disableSeg, seg_setSeg, seg_setSeg]; rfl
theorem seg_enterDisabled_other {p q : Nat} (d : Device) (h : q ≠ p) : (enterDisabled p d).seg q = d.seg q :=
  (seg_setSeg_other _ _ h).trans (seg_setSeg_other _ _ h)

/-! ## ACT_WRITE and ACT_READ (R167, R169) -/

theorem indexChecks_one {c : Cmd} {p first : Nat} {d : Device} (htarget : c.target.toNat = p) (hfirst : u32 c.params 0 = first)
    (hcount : u16 c.params 4 = 1) (hreserved : zeros c.params 6 2 = true) (hroom : first < (d.part p).actEntries) :
    firstFail (indexChecks c d) = none := by
  simp [indexChecks, firstFail, failIf, htarget, hfirst, hcount, hreserved, Nat.not_lt.mpr (Nat.succ_le_of_lt hroom)]

/-- An entry that Table 6.2 allows: whole pages, and the reserved bits of RIGHTS are 0. -/
structure AllowedEntry (e : ActEntry) : Prop where
  base : e.base % 4096 = 0
  limit : e.limit % 4096 = 4095
  order : e.base ≤ e.limit
  limit64 : e.limit < 2 ^ 64
  rid : e.rid < 2 ^ 16
  ridMask : e.ridMask < 2 ^ 16
  rights : e.rights < 8 ∨ 128 ≤ e.rights ∧ e.rights < 136

/-- The parameters of an ACT_WRITE of one entry (Table 6.4). -/
def writeParams (first : Nat) (e : ActEntry) : List Byte :=
  natLe 4 first ++ natLe 2 1 ++ natLe 2 0 ++ natLe 8 e.base ++ natLe 8 e.limit ++ natLe 2 e.rid ++ natLe 2 e.ridMask ++
    natLe 1 e.rights ++ natLe 3 0

/-- An entry is read from its bytes as it was written. -/
theorem entryBytesOf_writeParams (first : Nat) {e : ActEntry} (h : AllowedEntry e) : entryBytesOf (writeParams first e) 8 = e := by
  have hbase : u64 (writeParams first e) 8 = e.base := leNat_natLe_eight (Nat.lt_of_le_of_lt h.order h.limit64)
  have hlimit : u64 (writeParams first e) 16 = e.limit := leNat_natLe_eight h.limit64
  have hrid : u16 (writeParams first e) 24 = e.rid := leNat_natLe_two h.rid
  have hmask : u16 (writeParams first e) 26 = e.ridMask := leNat_natLe_two h.ridMask
  have hrights : u8 (writeParams first e) 28 = e.rights := toNat_ofNat_byte (by have := h.rights; omega)
  simp [entryBytesOf, hbase, hlimit, hrid, hmask, hrights]

theorem entryCheck_writeParams (first : Nat) {e : ActEntry} (h : AllowedEntry e) : entryCheck (writeParams first e) 8 = none := by
  have hreserved : zeros (writeParams first e) 29 3 = true := rfl
  have hrights : fieldOf e.rights 6 3 = 0 := by
    have := h.rights
    simp only [fieldOf]
    omega
  simp [entryCheck, entryBytesOf_writeParams first h, firstFail, failIf, h.base, h.limit, Nat.not_lt.mpr h.order, hrights, hreserved]

section
variable {c : Cmd} {p first : Nat} {d : Device} (hheader : tenantTarget c d = none) (htarget : c.target.toNat = p)
  (hroom : first < (d.part p).actEntries) (hfirst : first < 2 ^ 32)
include hheader htarget hroom hfirst

theorem actWrite_one {e : ActEntry} (he : AllowedEntry e) (hstate : (d.seg p).state = .disabled)
    (hparams : c.params = writeParams first e) : actWrite c d =
      (d.setSeg p { d.seg p with entries := tset none (d.seg p).entries first (some e) },
        some (ansOk (natLe 4 (validEntries { d.seg p with entries := tset none (d.seg p).entries first (some e) }).length))) := by
  have hindex : u32 c.params 0 = first := by rw [hparams]; exact leNat_natLe_four hfirst
  have hcount : u16 c.params 4 = 1 := by rw [hparams]; rfl
  have hlen : c.params.length = 32 := by rw [hparams]; rfl
  have hchecks := indexChecks_one htarget hindex hcount (by rw [hparams]; rfl) hroom
  have hentry : entryCheck c.params 8 = none := by rw [hparams]; exact entryCheck_writeParams first he
  have hbytes : entryBytesOf c.params 8 = e := by rw [hparams]; exact entryBytesOf_writeParams first he
  dsimp only [actWrite]
  rw [checked_pass ?checks]
  case checks =>
    refine firstFail_append (firstFail_append (firstFail_append ?_ hchecks) ?_) ?_
    · simp [firstFail, failIf, hlen, hcount, hheader]
    · simp [firstFail, hcount, hentry]
    · simp [firstFail, failIf, htarget, hstate]
  · simp [hcount, hindex, hbytes, htarget]

theorem actRead_one {e : ActEntry} (hentry : entryOf (d.seg p) first = some e) (hparams : c.params = natLe 4 first ++ natLe 2 1 ++ [0, 0]) :
    actRead c d = (d, some (ansOk (natLe 4 first ++ natLe 2 1 ++ natLe 2 0 ++ natLe 8 e.base ++ natLe 8 e.limit ++ natLe 2 e.rid ++
      natLe 2 e.ridMask ++ natLe 1 e.rights ++ natLe 3 0))) := by
  have hindex : u32 c.params 0 = first := by rw [hparams]; exact leNat_natLe_four hfirst
  have hcount : u16 c.params 4 = 1 := by rw [hparams]; rfl
  have hlen : c.params.length = 8 := by rw [hparams]; rfl
  have hchecks := indexChecks_one htarget hindex hcount (by rw [hparams]; rfl) hroom
  dsimp only [actRead]
  rw [checked_pass (firstFail_append (by simp [firstFail, failIf, hlen, hheader]) hchecks)]
  simp [hcount, hindex, htarget, hentry, storedEntry, List.append_assoc]

end

/-! ## ACT_ENABLE (R157, R168) -/

/-- R157: nothing is released where nothing of the segment is held. -/
theorem releaseHeld_none {p : Nat} {d : Device} (h : ∀ i ∈ d.items, i.stage = .held → itemSeg i ≠ p) (fuel : Nat) :
    releaseHeld p fuel d = d := by
  have hmine : (d.items.filter fun i => decide (i.stage = .held) && decide (itemSeg i = p)) = [] := by
    simpa [List.filter_eq_nil_iff] using h
  cases fuel with
  | zero => rfl
  | succ fuel => simp [releaseHeld, hmine]

section
variable {c : Cmd} {p vector : Nat} {d : Device} (hheader : tenantTarget c d = none) (htarget : c.target.toNat = p)
  (hvector : vector = 0xFFFF ∨ vector < 2048) (hparams : c.params = natLe 2 vector ++ [0, 0])
include hheader htarget hvector hparams

theorem actEnable_eq : actEnable c d =
    if (d.seg p).state = .enabled then
      (d.setSeg p { d.seg p with vector := vector }, some (ansOk (natLe 4 (validEntries (d.seg p)).length ++ natLe 4 (d.seg p).gen)))
    else (firstOverlap (validEntries (d.seg p))).elim
      (releaseHeld p d.items.length (d.setSeg p { d.seg p with vector := vector, state := .enabled, stallLong := false }),
        some (ansOk (natLe 4 (validEntries (d.seg p)).length ++ natLe 4 (d.seg p).gen)))
      fun x => (d, some { status := .overlap, detail := min x.1 0xFFFF, result := natLe 4 x.1 ++ natLe 4 x.2 }) := by
  have hv : u16 c.params 0 = vector := by rw [hparams]; exact leNat_natLe_two (by omega)
  have hlen : c.params.length = 4 := by rw [hparams]; rfl
  have hreserved : zeros c.params 2 2 = true := by rw [hparams]; rfl
  have hexists : ¬ (vector ≠ 0xFFFF ∧ 2048 ≤ vector) := by omega
  dsimp only [actEnable]
  rw [checked_pass (by simp [firstFail, failIf, hlen, hheader, hv, hreserved, hexists]), hv, htarget]
  cases firstOverlap (validEntries (d.seg p)) <;> rfl

/-- R157: without overlap, and with nothing held, the segment is enabled and nothing is released. -/
theorem actEnable_clear (hstate : (d.seg p).state = .disabled) (hclear : firstOverlap (validEntries (d.seg p)) = none)
    (hnone : ∀ i ∈ d.items, i.stage = .held → itemSeg i ≠ p) : actEnable c d =
      (d.setSeg p { d.seg p with vector := vector, state := .enabled, stallLong := false },
        some (ansOk (natLe 4 (validEntries (d.seg p)).length ++ natLe 4 (d.seg p).gen))) := by
  rw [actEnable_eq hheader htarget hvector hparams, if_neg (by rw [hstate]; decide), hclear]
  exact congrArg (·, _) (releaseHeld_none (d := d.setSeg p _) hnone _)

theorem actEnable_overlap {x y : Nat} (hstate : (d.seg p).state = .disabled)
    (hoverlap : firstOverlap (validEntries (d.seg p)) = some (x, y)) :
    actEnable c d = (d, some { status := .overlap, detail := min x 0xFFFF, result := natLe 4 x ++ natLe 4 y }) := by
  rw [actEnable_eq hheader htarget hvector hparams, if_neg (by rw [hstate]; decide), hoverlap]
  rfl

end

/-! ## The statement -/

/-- Settles O13: the checks of each command pass; ACT_DISABLE answers by the record of its admission and by what is inside. -/
theorem accessCommands : Obligations.AccessCommands := by
  intro s c p d g hp hp48 htarget hparam0 hused
  have hheader (op : Nat) : tenantTarget c (markBegun op c d) = none := tenantTarget_eq_none hp hp48 htarget hparam0 hused
  refine ⟨fun hready hparams => ⟨fun e hstate hexec => ?disabled, fun hstate => ?enabled⟩, ?write, ?enable, ?read⟩
  case disabled =>
    obtain ⟨-, hfault, -⟩ := id hready
    have hexec' := (execOf_markBegun 0x0401 c d).trans (congrArg (Option.map _) hexec)
    have hheader := hheader 0x0401
    refine ⟨fun happlied => ?again, fun happlied hempty => ?drained, fun happlied hbusy => ?waits⟩
    case again => exact packet_replies rfl hready (actDisable_again hheader htarget hparams hfault hstate hexec' happlied)
    case drained =>
      exact packet_replies rfl hready
        ((actDisable_admitted hheader htarget hparams hfault hstate hexec' happlied).trans (if_pos hempty))
    case waits =>
      exact packet_starts rfl hready
        ((actDisable_admitted hheader htarget hparams hfault hstate hexec' happlied).trans (if_neg hbusy))
  case enabled =>
    obtain ⟨⟨e, hexec, -⟩, hfault, -⟩ := id hready
    have hexec' := (execOf_markBegun 0x0401 c d).trans (congrArg (Option.map _) hexec)
    have heffect := actDisable_enabled (hheader 0x0401) htarget hparams hfault hstate hexec'
    by_cases hempty : oldInflight p d = 0
    · refine packet_gives_own rfl hready (hready.own (by decide)) (heffect.trans (if_pos hempty)) fun t ht hitems hstatus => ?_
      have hseg (q : Nat) : t.seg q = (enterDisabled p d).seg q := seg_of_segs (segs_of_besideAnswer ht :) q
      exact ⟨(hseg p).trans (seg_enterDisabled p d), hitems, fun _ => hstatus,
        fun q hq => (hseg q).trans (seg_enterDisabled_other d hq)⟩
    · refine packet_gives_waiting rfl hready (heffect.trans (if_neg hempty)) fun _ _ _ => ?_
      exact ⟨seg_enterDisabled p d, rfl, fun h => absurd h hempty, fun q hq => seg_enterDisabled_other d hq⟩
  case write =>
    intro first e hready hstate hroom hfirst hbase hlimit horder h64 hrid hmask hrights hparams g'
    exact packet_replies rfl hready (actWrite_one (hheader 0x0402) htarget hroom hfirst
      ⟨hbase, hlimit, horder, h64, hrid, hmask, hrights⟩ hstate hparams)
  case enable =>
    intro vector hready hvector hparams a
    have hheader := hheader 0x0403
    refine ⟨fun hstate => ?already, fun hstate hclear hnone => ?clear, fun x y hstate hoverlap => ?overlap⟩
    case already => exact packet_replies rfl hready ((actEnable_eq hheader htarget hvector hparams).trans (if_pos hstate))
    case clear => exact packet_replies rfl hready (actEnable_clear hheader htarget hvector hparams hstate hclear hnone)
    case overlap => exact packet_replies rfl hready (actEnable_overlap hheader htarget hvector hparams hstate hoverlap)
  case read =>
    intro first e hready hroom hfirst hentry hparams
    exact packet_replies rfl hready (actRead_one (hheader 0x0404) htarget hroom hfirst hentry hparams)

end Sys2Proof.Machine
end

section
/-! The access check at crossbar entry and what follows from it (R148, R154, R156, R159 to R165). -/

namespace Sys2Proof.Machine

/-! ## The verdict (R148, R163, R165) -/

/-- The valid entries that cover the page of a request's first byte. -/
def coveringEntries (t : Tlp) (g : Seg) : List (Nat × ActEntry) :=
  (validEntries g).filter fun e => decide (e.2.base ≤ t.addr / 4096 * 4096 ∧ t.addr / 4096 * 4096 ≤ e.2.limit)

section
variable {t : Tlp} {g : Seg} {a b : Nat × ActEntry} {rest : List (Nat × ActEntry)}

theorem checkRequest_uncovered (h : coveringEntries t g = []) : checkRequest t g none = (1, 0, 0) := by
  simp only [coveringEntries, Bool.decide_and] at h
  simp only [checkRequest, h]

theorem checkRequest_covered (h : coveringEntries t g = [a]) : checkRequest t g none =
    if t.reqId &&& a.2.ridMask ≠ a.2.rid &&& a.2.ridMask then (3, 0, 0)
    else if bitOf a.2.rights (neededRight t.kind) then (0, 0, 0) else (2, 0, 0) := by
  simp only [coveringEntries, Bool.decide_and] at h
  simp only [checkRequest, h]

theorem checkRequest_multiple (h : coveringEntries t g = a :: b :: rest) : checkRequest t g none = (4, a.1, b.1) := by
  simp only [coveringEntries, Bool.decide_and] at h
  simp only [checkRequest, h]

end

/-! ## Items at crossbar entry (R154) -/

theorem findItem_alone {i : Item} {id : Nat} {d : Device} (hi : d.items = [i]) (hid : i.id = id) : findItem id d = some i := by
  simp [findItem, hi, hid]

theorem holdsBack_self (i : Item) : holdsBack i i = false := by simp [holdsBack]

theorem itemSeg_of_checkSegment {i : Item} {p : Nat} {d : Device} (h : checkSegment i d = some p) : itemSeg i = p := by
  unfold checkSegment at h
  split at h
  · cases h
  · split at h
    · cases h
    · exact Option.some.inj h

theorem crossbarEntry_absent {id : Nat} {d : Device} (bad : Option Nat) (h : findItem id d = none) : crossbarEntry id bad d = d := by
  simp only [crossbarEntry, h]

section
variable {i : Item} {id p : Nat} {d : Device} (hi : d.items = [i]) (hid : i.id = id) (hstage : i.stage = .entry)
  (hcheck : checkSegment i d = some p)
include hi hid hstage hcheck

/-- An item alone waits behind nothing: it is held or checked by the state of its segment. -/
theorem crossbarEntry_disabled (bad : Option Nat) (hstate : (d.seg p).state = .disabled) : crossbarEntry id bad d = holdItem i d := by
  simp [crossbarEntry, findItem_alone hi hid, hi, hstage, holdsBack_self, hcheck, hstate]

theorem crossbarEntry_enabled (bad : Option Nat) (hstate : (d.seg p).state = .enabled) :
    crossbarEntry id bad d = enterBuffer id (checkItem p bad i d) := by
  simp [crossbarEntry, findItem_alone hi hid, hi, hstage, holdsBack_self, hcheck, hstate]

end

/-- R154: an item alone that its segment's share and the store have room for moves there with its cells. -/
theorem holdItem_alone {i : Item} {d : Device} (hi : d.items = [i])
    (hroom : heldCells (itemSeg i) d + i.inCells ≤ 1024 ∧ holdUsed d + i.inCells ≤ 8192) :
    (holdItem i d).items = [{ i with stage := .held, holdCells := i.inCells, inCells := 0, hdrCr := 0, dataCr := 0, order := d.nextId }] := by
  obtain ⟨l, q, hleave⟩ := leaveIngress_frame i.inCells i d
  rw [holdItem, if_pos hroom, hleave]
  extract_lets e₁ e₂
  obtain ⟨k, x, hcount⟩ := countPort_frame 0x030 i.ingress 0 i.cls i.srcPart 1 { e₂ with nextId := e₂.nextId + 1 }
  rw [hcount]
  simp [e₂, e₁, putItem, hi]

/-! ## Denials (R160, R162) -/

/-- The log of a segment after a denial: counted, and the first one captured. -/
def deniedSeg (reason : Nat) (t : Tlp) (cls : Nat) (g : Seg) : Seg :=
  let g' := { g with violCount := satAdd 0xFFFFFFFF g.violCount 1 }
  if g.violValid then g'
  else { g' with violAddr := t.addr, violReason := reason, violType := violType t.kind, violPosted := decide (cls = 0),
                 violValid := true, violRid := t.reqId }

theorem deniedSeg_violCount (reason : Nat) (t : Tlp) (cls : Nat) (g : Seg) :
    (deniedSeg reason t cls g).violCount = satAdd 0xFFFFFFFF g.violCount 1 := by
  unfold deniedSeg
  extract_lets g'
  split <;> rfl

theorem logDenial_frame (p reason : Nat) (t : Tlp) (cls : Nat) (d : Device) : ∃ a i m,
    logDenial p reason t cls d =
      { d with segs := (d.setSeg p (deniedSeg reason t cls (d.seg p))).segs, act := a, issued := i, msix := m } := by
  unfold logDenial
  extract_lets g g' g''
  split
  · rename_i hvalid
    have hlog : deniedSeg reason t cls (d.seg p) = g' := if_pos hvalid
    exact ⟨d.act, d.issued, d.msix, by rw [hlog]; rfl⟩
  · rename_i hvalid
    have hlog : deniedSeg reason t cls (d.seg p) = g'' := if_neg hvalid
    obtain ⟨i, m, h⟩ := sendVector_frame (function1 p) g.vector (actRaise 1 (d.setSeg p g''))
    exact ⟨_, i, m, by rw [h, hlog]; rfl⟩

/-- A record toward the manager is a write that waits to be issued, and a vector. -/
theorem ringWrite_frame (r : Ring) (size : Nat) (blocks : List (List Byte)) (d : Device) :
    ∃ i m, (ringWrite r size blocks d).2 = { d with issued := i, msix := m } := by
  unfold ringWrite
  extract_lets e₁ e₂
  obtain ⟨i, hissued⟩ : ∃ i, e₁ = { d with issued := i } :=
    List.foldlRecOn (List.range blocks.length) _ (motive := fun e : Device => ∃ i, e = { d with issued := i }) ⟨d.issued, rfl⟩
      fun e ⟨i, he⟩ k _ => by subst he; exact ⟨_, rfl⟩
  show ∃ i m, e₂ = _
  unfold e₂
  split
  · obtain ⟨i', m, h⟩ := sendVector_frame .mgr r.vector e₁
    exact ⟨i', m, by rw [h, hissued]⟩
  · exact ⟨i, d.msix, hissued⟩

theorem traceEnd_frame (i : Item) (outcome : Nat) (d : Device) :
    ∃ c o m, traceEnd i outcome d = { d with cnt := c, issued := o, msix := m } := by
  unfold traceEnd
  split
  · exact ⟨d.cnt, d.issued, d.msix, rfl⟩
  · extract_lets _ e r w
    split
    · obtain ⟨o, m, h⟩ := ringWrite_frame r 64 [traceRecord _ i outcome (ringPhase r 0) e] e
      exact ⟨_, o, m, congrArg (fun y : Device => { y with cnt := { w.2.cnt with tag := w.1 } }) h⟩
    · exact ⟨_, d.issued, d.msix, rfl⟩

theorem removeItem_frame (id : Nat) (d : Device) : ∃ k p,
    removeItem id d = { d with plk := k, pcie := p, items := d.items.filter fun i => decide (i.id ≠ id) } := by
  unfold removeItem
  split
  · split
    · exact ⟨d.plk, d.pcie, rfl⟩
    · obtain ⟨k, p, h⟩ := leaveIngress_frame _ _ d
      exact ⟨k, p, by rw [h]⟩
  · exact ⟨d.plk, d.pcie, rfl⟩

/-- A denied item that is logged, counted and taken away. -/
def denialLogged (p reason : Nat) (i : Item) (d : Device) : Device :=
  traceEnd i 2 (removeItem i.id
    (countPort (0x032 + violType i.tlp.kind) i.ingress 0 i.cls i.srcPart 1 (logDenial p reason i.tlp i.cls d)))

/-- A denied request that frees the lock it asked for. -/
def denialUnlocks (i : Item) (d : Device) : Device :=
  if i.tlp.kind = .lockedRead then countLockUr i.egress (lockFails i.egress i.tlp.kind d) else d

theorem denialLogged_alone (p reason : Nat) {i : Item} {d : Device} (hi : d.items = [i]) :
    (denialLogged p reason i d).segs = (d.setSeg p (deniedSeg reason i.tlp i.cls (d.seg p))).segs ∧
    (denialLogged p reason i d).parts = d.parts ∧ (denialLogged p reason i d).items = [] := by
  obtain ⟨a, o, m, hlog⟩ := logDenial_frame p reason i.tlp i.cls d
  obtain ⟨k, x, hcount⟩ := countPort_frame (0x032 + violType i.tlp.kind) i.ingress 0 i.cls i.srcPart 1 (logDenial p reason i.tlp i.cls d)
  rw [hlog] at hcount
  rw [denialLogged, hlog, hcount]
  obtain ⟨l, q, hremove⟩ := removeItem_frame i.id
    { d with segs := (d.setSeg p (deniedSeg reason i.tlp i.cls (d.seg p))).segs, act := a, issued := o, msix := m, counters := k, cnt := x }
  rw [hremove]
  obtain ⟨c, o', m', htrace⟩ := traceEnd_frame i 2
    { d with segs := (d.setSeg p (deniedSeg reason i.tlp i.cls (d.seg p))).segs, act := a, issued := o, msix := m, counters := k, cnt := x,
             plk := l, pcie := q, items := d.items.filter fun j => decide (j.id ≠ i.id) }
  rw [htrace]
  exact ⟨rfl, rfl, by simp [hi]⟩

theorem denialUnlocks_frame (i : Item) (d : Device) : ∃ l, denialUnlocks i d = { d with locks := l } := by
  unfold denialUnlocks
  split
  · obtain ⟨l, h⟩ := lockFails_frame i.egress i.tlp.kind d
    exact ⟨_, by rw [h]; rfl⟩
  · exact ⟨d.locks, rfl⟩

/-! ## The answer to a denied request (R160) -/

/-- A completion of the device's own, in its VOQ. -/
def IsOwnCpl (j : Item) : Prop := j.cls = 2 ∧ j.stage = .voq

theorem ownCpl_isOwnCpl (t : Track) (c : Tlp) (n : Nat) (f : Option FabHdr) (d : Device) : IsOwnCpl (ownCpl t c n f d) := ⟨rfl, rfl⟩

section
variable (t : Track) (st : CplStatus) (synth : Bool) {d : Device} (hitems : d.items = [])
include hitems

/-- On a device without items, ending a window's request adds its completion at most. -/
theorem endRequest_items : ∀ j ∈ (endRequest t st synth d).items, IsOwnCpl j := by
  unfold endRequest
  extract_lets c e enter
  have he : e.items = [] := congrArg (List.map _) hitems
  have henter (n : Nat) (f : Option FabHdr) : ∀ j ∈ (enter (ownCpl t c n f e) e).items, IsOwnCpl j := by
    simpa [enter, he] using ownCpl_isOwnCpl t c n f e
  split
  · extract_lets h
    split
    · exact henter _ _
    · simp [he]
  · split
    · simp [he]
    · exact henter _ _

theorem failPiece_items : ∀ j ∈ (failPiece t st synth d).items, IsOwnCpl j := by
  unfold failPiece
  extract_lets t' e
  have he : ∀ j ∈ e.items, IsOwnCpl j := endRequest_items t' st synth hitems
  split
  · split <;> simp [putTrack, hitems]
  · split
    · split <;> exact he
    · unfold keepTrack
      split <;> simp [putTrack, hitems]

end

theorem failPiece_parts (t : Track) (st : CplStatus) (synth : Bool) (d : Device) : (failPiece t st synth d).parts = d.parts := by
  unfold failPiece
  extract_lets t' e
  have he : e.parts = d.parts := by
    obtain ⟨i, n, h⟩ := endRequest_frame t' st synth d
    rw [show e = _ from h]; rfl
  split
  · split <;> rfl
  · split
    · split <;> exact he
    · unfold keepTrack
      split <;> rfl

/-- A completion toward a port leaves the items as they are. -/
theorem emitCpl_port {i : Item} (hport : i.ingress < 96) (c : Tlp) (synth : Bool) (d : Device) : (emitCpl i c synth d).items = d.items := by
  unfold emitCpl
  extract_lets near
  have hnear : (near d).items = d.items := by
    show Device.items (if 96 ≤ i.ingress then _ else _) = d.items
    rw [if_neg (Nat.not_le.mpr hport)]; rfl
  split
  · split
    · exact hnear
    · obtain ⟨o, h⟩ := emitAway_frame _ c d
      rw [h]
  · exact hnear

theorem answerItem_parts (i : Item) (st : CplStatus) (synth : Bool) (d : Device) : (answerItem i st synth d).parts = d.parts := by
  unfold answerItem
  split
  · split <;> exact failPiece_parts _ st synth d
  · obtain ⟨o, t, n, h⟩ := emitCpl_frame i (completionFor i.tlp i.srcRid i.srcTag st) synth d
    rw [h]

/-- What answering the only item, once it is taken away, can add. -/
theorem answerItem_items {i : Item} (hport : i.ingress < 96) (st : CplStatus) (synth : Bool) {d : Device} (hitems : d.items = []) :
    (∀ j ∈ (answerItem i st synth d).items, IsOwnCpl j) ∧ (i.window = none → (answerItem i st synth d).items = []) := by
  unfold answerItem
  split
  · rename_i hwindow
    refine ⟨?_, fun hnone => by simp [hnone] at hwindow⟩
    split <;> exact failPiece_items _ st synth hitems
  · rw [emitCpl_port hport, hitems]
    exact ⟨List.forall_mem_nil _, fun _ => rfl⟩

/-- R160, R162: a denied request, alone on the device, is logged and answered. -/
theorem denyItem_request {p reason a b : Nat} {i : Item} {d : Device} (hreason : reason ≠ 4) (hcls : i.cls = 1) (hi : d.items = [i])
    (hport : i.ingress < 96) :
    (denyItem p reason a b i d).seg p = deniedSeg reason i.tlp i.cls (d.seg p) ∧ (denyItem p reason a b i d).parts = d.parts ∧
    (∀ j ∈ (denyItem p reason a b i d).items, IsOwnCpl j) ∧ (i.window = none → (denyItem p reason a b i d).items = []) := by
  have hdeny : denyItem p reason a b i d = answerItem i .ur false (denialUnlocks i (denialLogged p reason i d)) := by
    simp only [denyItem, if_pos hcls, if_neg hreason]
    rfl
  obtain ⟨hsegs, hparts, hitems⟩ := denialLogged_alone p reason hi
  obtain ⟨l, hlocks⟩ := denialUnlocks_frame i (denialLogged p reason i d)
  rw [hdeny, hlocks]
  refine ⟨?_, (answerItem_parts i _ _ _).trans hparts, answerItem_items hport .ur false hitems⟩
  have hlayout := answerItem_layout i .ur false { denialLogged p reason i d with locks := l }
  exact (seg_of_segs ((segs_of_layout hlayout).trans hsegs) p).trans (seg_setSeg d p _)

theorem enterBuffer_waiting {id : Nat} {d : Device} (h : ∀ j ∈ d.items, j.stage ≠ .crossing) : enterBuffer id d = d := by
  unfold enterBuffer
  split
  · rename_i i hi
    exact if_neg (h i (List.mem_of_find?_eq_some hi))
  · rfl

/-! ## Draining (R159) -/

theorem disableExec_alone {p : Nat} {e : Exec} {d : Device} (hexecs : d.kme.execs = [e]) (hop : e.op = 0x0401)
    (htarget : e.cmd.target.toNat = p) (happlied : e.applied = true) (hbegun : e.begun = true) : disableExec p d = some e := by
  simp [disableExec, findExec, hexecs, hop, htarget, happlied, hbegun]

/-- The rows of the drain, once the ACT_DISABLE that waits on a partition is known. -/
theorem execActDrainDone_waiting {p : Nat} {e : Exec} {s : State} (h : disableExec p s.dev = some e) : execActDrainDone p s =
    done s (if oldInflight p s.dev = 0 then finishExec e (ansOk (disableResult p e.since s.dev)) s.dev else s.dev) := by
  simp only [execActDrainDone, h]

theorem execActDisableTimeout_waiting {p : Nat} {e : Exec} {s : State} (h : disableExec p s.dev = some e) :
    execActDisableTimeout p s = done s (if oldInflight p s.dev ≠ 0 ∧ e.since + msNs ≤ s.dev.now then
        finishExec e { status := .timeout, detail := min (oldInflight p s.dev) 0xFFFF, result := disableResult p e.since s.dev } s.dev
      else s.dev) := by
  simp only [execActDisableTimeout, h]

/-! ## The statement -/

/-- Settles O14: the verdict follows the entries that cover the page; an item alone is held or checked by its segment's state; a
denied request leaves a completion at most. -/
theorem accessChecksAndFlow : Obligations.AccessChecksAndFlow := by
  refine ⟨?verdict, ?events⟩
  case verdict =>
    intro t g a b rest bad covers hits
    refine ⟨checkRequest_uncovered, fun hcovered hrid => ?_, fun hcovered hrid => ⟨fun hright => ?_, fun hright => ?_⟩,
      checkRequest_multiple, rfl⟩
    · exact (checkRequest_covered hcovered).trans (if_pos hrid)
    · exact (checkRequest_covered hcovered).trans ((if_neg (not_not_intro hrid)).trans (if_pos hright))
    · exact (checkRequest_covered hcovered).trans ((if_neg (not_not_intro hrid)).trans (if_neg (Bool.eq_false_iff.1 hright)))
  case events =>
    intro s p id i d g
    refine ⟨fun hnone => ?absent, fun hi hid hstage hcheck hport => ⟨?held, ?full, ?denied⟩,
      fun e hexecs hop htarget happlied hbegun => ?draining, ?stall, ?stalled, ?clear, ?noTenant⟩
    case absent => exact done_becomes rfl (crossbarEntry_absent none hnone)
    case held =>
      intro hstate _ hused hheld
      have hseg := itemSeg_of_checkSegment hcheck
      exact done_gives_framed rfl (crossbarEntry_disabled hi hid hstage hcheck none hstate) fun _ _ _ =>
        holdItem_alone hi ⟨by rwa [hseg], hused⟩
    case full =>
      intro hstate hfull
      have hseg := itemSeg_of_checkSegment hcheck
      refine done_becomes rfl ((crossbarEntry_disabled hi hid hstage hcheck none hstate).trans (if_neg fun hroom => ?_))
      rw [hseg] at hroom
      exact Nat.not_le.mpr hfull hroom.1
    case denied =>
      intro hstate hcls hdenied
      obtain ⟨hseg, hparts, hown, hitems⟩ :=
        denyItem_request (p := p) (reason := 1) (a := 0) (b := 0) (by decide) hcls hi hport
      have hrow : crossbarEntry id none d = denyItem p 1 0 0 i d := by
        rw [crossbarEntry_enabled hi hid hstage hcheck none hstate, checkItem, hdenied]
        exact enterBuffer_waiting fun j hj => by rw [(hown j hj).2]; decide
      refine done_gives_framed rfl hrow fun _ _ _ => ⟨fun j hj => (hown j hj).1, hitems, ?_, hparts, fun hvalid => ?_⟩
      · exact (congrArg Seg.violCount hseg).trans (deniedSeg_violCount 1 i.tlp i.cls g)
      · have hcaptured : deniedSeg 1 i.tlp i.cls g = _ := if_neg (Bool.eq_false_iff.1 hvalid)
        have hlog := hseg.trans hcaptured
        exact ⟨congrArg Seg.violAddr hlog, congrArg Seg.violReason hlog, congrArg Seg.violValid hlog⟩
    case draining =>
      have hexec := disableExec_alone hexecs hop htarget happlied hbegun
      have hdone := execActDrainDone_waiting hexec
      have htimeout := execActDisableTimeout_waiting hexec
      exact ⟨fun hempty => done_becomes hdone (if_pos hempty), fun hbusy => done_becomes hdone (if_neg hbusy),
        fun hbusy hdue => done_becomes htimeout (if_pos ⟨hbusy, hdue⟩),
        fun hearly => done_becomes htimeout (if_neg fun ⟨_, hdue⟩ => Nat.not_le.mpr hearly hdue)⟩
    case stall => exact fun hstate hfirst hactive hdue => done_becomes rfl (if_pos ⟨hstate, hfirst, hactive, hdue⟩)
    case stalled => exact fun hstalled => done_becomes rfl (if_neg fun ⟨_, hfirst, _⟩ => Bool.noConfusion (hstalled.symm.trans hfirst))
    case clear => exact fun hp hp48 => done_becomes rfl (if_pos ⟨hp, hp48⟩)
    case noTenant => exact fun hp => done_becomes rfl (if_neg fun ⟨hp1, hp48⟩ => by omega)

end Sys2Proof.Machine
end

section
/-! What is left of the fabric links, and of what was put out, when items are dropped (R229, Table 8.3) and commands answered. -/

namespace Sys2Proof.Machine

/-- A link beside its queues and credit, which the loss of its items concerns (R55, R229). -/
def Plk.besideQueues (x : Plk) : Plk := { x with held := [], stream := [], rxParts := [], credits := [] }

/-- Every link stays but for its queues and credit, and what was put out stays put out. -/
structure KeepsLinks (d d' : Device) : Prop where
  links : ∀ m, (d'.pfl m).besideQueues = (d.pfl m).besideQueues
  out : d.out <:+ d'.out

namespace KeepsLinks

theorem of_plk {d d' : Device} (hplk : d'.plk = d.plk) (hout : d.out <:+ d'.out) : KeepsLinks d d' :=
  ⟨fun m => by rw [Device.pfl, hplk, Device.pfl], hout⟩

/-- Nothing of the links and the outputs changes. -/
theorem of_eq {d d' : Device} (hplk : d'.plk = d.plk) (hout : d'.out = d.out) : KeepsLinks d d' :=
  of_plk hplk (hout ▸ List.suffix_rfl)

theorem refl (d : Device) : KeepsLinks d d := of_eq rfl rfl

theorem trans {a b c : Device} (h : KeepsLinks a b) (g : KeepsLinks b c) : KeepsLinks a c :=
  ⟨fun m => (g.links m).trans (h.links m), h.out.trans g.out⟩

theorem emit (o : Output) (d : Device) : KeepsLinks d (emit o d) := of_plk rfl (List.suffix_cons o d.out)

theorem foldl {β : Type} {f : Device → β → Device} (h : ∀ d x, KeepsLinks d (f d x)) (l : List β) (d : Device) :
    KeepsLinks d (l.foldl f d) := by
  induction l generalizing d with
  | nil => exact refl d
  | cons x l ih => exact (h d x).trans (ih (f d x))

/-- A change of one link's queues and credit alone. -/
theorem setPfl {n : Nat} {x : Plk} {d : Device} (h : x.besideQueues = (d.pfl n).besideQueues) : KeepsLinks d (d.setPfl n x) := by
  refine ⟨fun m => ?_, List.suffix_rfl⟩
  by_cases hm : m = n
  · rw [hm, pfl_setPfl, h]
  · rw [pfl_setPfl_other d x hm]

end KeepsLinks

theorem CountsOnly.keepsLinks {d d' : Device} (h : CountsOnly d d') : KeepsLinks d d' := by
  obtain ⟨f, k, c, rfl⟩ := h
  exact .of_eq rfl rfl

/-! ## Items that are dropped -/

theorem freeIngress_keepsLinks (n cls q : Nat) (t : Tlp) (hdr data : Nat) (d : Device) :
    KeepsLinks d (freeIngress n cls q t hdr data d) := by
  unfold freeIngress
  split
  · exact .refl d
  · split
    · exact .setPfl rfl
    · exact .of_eq rfl rfl

theorem sendVector_keepsLinks (f : Fn) (v : Nat) (d : Device) : KeepsLinks d (sendVector f v d) := by
  obtain ⟨i, m, h⟩ := sendVector_frame f v d
  rw [h]; exact .of_eq rfl rfl

theorem removeItem_keepsLinks (id : Nat) (d : Device) : KeepsLinks d (removeItem id d) := by
  unfold removeItem
  extract_lets d₁
  have h₁ : KeepsLinks d d₁ := by
    unfold d₁
    split
    · split
      · exact .refl d
      · exact freeIngress_keepsLinks _ _ _ _ _ _ d
    · exact .refl d
  exact h₁.trans (.of_eq rfl rfl)

theorem ringWrite_keepsLinks (r : Ring) (size : Nat) (blocks : List (List Byte)) (d : Device) :
    KeepsLinks d (ringWrite r size blocks d).2 := by
  unfold ringWrite
  extract_lets d₁ d₂
  have h₁ : KeepsLinks d d₁ := by
    refine KeepsLinks.foldl (fun _ _ => ?_) (List.range blocks.length) d
    exact .of_eq rfl rfl
  show KeepsLinks d d₂
  unfold d₂
  split
  · exact h₁.trans (sendVector_keepsLinks .mgr r.vector d₁)
  · exact h₁

theorem traceEnd_keepsLinks (i : Item) (outcome : Nat) (d : Device) : KeepsLinks d (traceEnd i outcome d) := by
  unfold traceEnd
  split
  · exact .refl d
  · extract_lets _ d₁ r w
    have h₁ : KeepsLinks d d₁ := .of_eq rfl rfl
    split
    · exact (h₁.trans (ringWrite_keepsLinks r 64 _ d₁)).trans (.of_eq rfl rfl)
    · exact .of_eq rfl rfl

theorem journalWrite_keepsLinks (p src : Nat) (e : JournalEntry) (d : Device) : KeepsLinks d (journalWrite p src e d) := by
  unfold journalWrite
  extract_lets j phase
  split
  · exact .of_eq rfl rfl
  · split
    · exact .of_eq rfl rfl
    · extract_lets d₁ d₂ d₃
      have h₂ : KeepsLinks d d₂ := (KeepsLinks.emit _ d).trans (.of_eq rfl rfl)
      have h₃ : KeepsLinks d d₃ := h₂.trans (countEvent_counts _ none d₂).keepsLinks
      split
      · exact h₃.trans (sendVector_keepsLinks _ j.vector d₃)
      · exact h₃

theorem logSynth_keepsLinks (r f p n : Nat) (d : Device) : KeepsLinks d (logSynth r f p n d) := by
  obtain ⟨x, k, c, h⟩ := logSynth_frame r f p n d
  rw [h]; exact .of_eq rfl rfl

theorem emitAway_keepsLinks (f : FabHdr) (c : Tlp) (d : Device) : KeepsLinks d (emitAway f c d) := by
  unfold emitAway
  split
  · exact .emit _ d
  · exact .refl d

theorem emitCpl_keepsLinks (i : Item) (c : Tlp) (synth : Bool) (d : Device) : KeepsLinks d (emitCpl i c synth d) := by
  unfold emitCpl
  extract_lets near
  have hnear : KeepsLinks d (near d) := by
    unfold near
    split
    · exact .of_eq rfl rfl
    · exact .emit _ d
  split
  · split
    · exact hnear
    · exact emitAway_keepsLinks _ c d
  · exact hnear

theorem rmaDrop_keepsLinks (h : RmaHdr) (d : Device) : KeepsLinks d (rmaDrop h d) := by
  unfold rmaDrop
  split
  · split
    · exact .refl d
    · split
      · exact .of_eq rfl rfl
      · exact .refl d
  · exact .refl d

theorem toError_keepsLinks (n status : Nat) (psn : Option Nat) (d : Device) : KeepsLinks d (toError n status psn d) := by
  unfold toError
  split
  · exact .refl d
  · split
    · exact .refl d
    · extract_lets g g' told q' d₁
      split <;> exact .of_eq rfl rfl

theorem placementFails_keepsLinks (f : Fn) (a : Nat) (d : Device) : KeepsLinks d (placementFails f a d) := by
  unfold placementFails
  extract_lets hit placing
  split
  · exact toError_keepsLinks _ 0 none d
  · split
    · exact toError_keepsLinks _ 7 _ d
    · exact .refl d

theorem windowDrop_keepsLinks (i : Item) (reason : Nat) (d : Device) : KeepsLinks d (windowDrop i reason d) := by
  unfold windowDrop
  split
  · split
    · unfold windowFail
      extract_lets x x' x'' d₁
      split
      · exact .refl d
      · split
        · exact .of_eq rfl rfl
        · refine KeepsLinks.trans ?_ (sendVector_keepsLinks _ _ _)
          exact .of_eq rfl rfl
    · exact .refl d
  · exact .refl d

theorem endRequest_keepsLinks (t : Track) (st : CplStatus) (synth : Bool) (d : Device) :
    KeepsLinks d (endRequest t st synth d) := by
  unfold endRequest
  extract_lets c d₁ enter
  split
  · extract_lets h
    split <;> exact .of_eq rfl rfl
  · split <;> exact .of_eq rfl rfl

theorem failPiece_keepsLinks (t : Track) (st : CplStatus) (synth : Bool) (d : Device) : KeepsLinks d (failPiece t st synth d) := by
  unfold failPiece
  extract_lets t₁ d₁
  have h₁ : KeepsLinks d d₁ := endRequest_keepsLinks t₁ st synth d
  split
  · split
    · exact .of_eq rfl rfl
    · exact .refl d
  · split
    · split
      · exact h₁.trans (.of_eq rfl rfl)
      · exact h₁
    · unfold keepTrack
      split <;> exact .of_eq rfl rfl

theorem answerItem_keepsLinks (i : Item) (st : CplStatus) (synth : Bool) (d : Device) : KeepsLinks d (answerItem i st synth d) := by
  unfold answerItem
  split
  · split <;> exact failPiece_keepsLinks _ st synth d
  · exact emitCpl_keepsLinks i _ synth d

theorem lockFails_keepsLinks (n : Nat) (k : Kind) (d : Device) : KeepsLinks d (lockFails n k d) := by
  unfold lockFails
  split
  · exact .of_eq rfl rfl
  · exact .refl d

/-- Table 8.3: no report of a dropped item concerns a link, but the credit that the item held. -/
theorem dropItem_keepsLinks (reason fid port : Nat) (i : Item) (d : Device) : KeepsLinks d (dropItem reason fid port i d) := by
  unfold dropItem
  extract_lets d₁ d₂ d₃ d₄ c d₅ d₆
  have h₂ : KeepsLinks d d₂ := (removeItem_keepsLinks i.id d).trans (traceEnd_keepsLinks i _ d₁)
  have h₃ : KeepsLinks d d₃ := h₂.trans (.of_eq rfl rfl)
  have h₅ : KeepsLinks d d₅ := h₂.trans (logSynth_keepsLinks _ fid port i.part d₂)
  have h₆ : KeepsLinks d d₆ := h₂.trans (journalWrite_keepsLinks i.part _ _ d₂)
  split
  · exact h₂.trans (rmaDrop_keepsLinks _ d₂)
  · split
    case' h_4 =>
      split
      · split
        · exact h₃
        · split
          · exact h₂
          · exact h₃.trans <| (logSynth_keepsLinks _ fid port _ d₃).trans <| (lockFails_keepsLinks _ _ _).trans
              (answerItem_keepsLinks i .ca true _)
      · split
        · split
          · split
            · exact h₅.trans (.emit _ d₅)
            · exact h₅.trans (emitAway_keepsLinks _ c d₅)
          · exact h₅.trans (.emit _ d₅)
        · split
          · exact h₆.trans (placementFails_keepsLinks _ _ d₆)
          · exact h₆
    all_goals exact h₂

/-- R229: link loss empties the queues of the port's link, and leaves the rest of every link. -/
theorem lossItems_keepsLinks (n : Nat) (d : Device) : KeepsLinks d (lossItems n d) :=
  KeepsLinks.trans (KeepsLinks.foldl (fun d i => (dropItem_keepsLinks 1 _ n i d).trans (windowDrop_keepsLinks i _ _)) _ d) (.setPfl rfl)

/-! ## Commands that are answered -/

theorem mbxRaise_out (f : Fn) (bits : BitVec 5) (d : Device) : (mbxRaise f bits d).out = d.out := by
  unfold mbxRaise
  extract_lets m d'
  split
  · rfl
  · obtain ⟨i, x, h⟩ := sendVector_frame f 0 d'
    rw [h]; rfl

theorem mailboxReply_out (f : Fn) (op : Nat) (c : Cmd) (a : Ans) (flags : Nat) (d : Device) :
    (mailboxReply f op c a flags d).out = d.out := by
  unfold mailboxReply
  extract_lets m st m'
  split
  · rfl
  · exact mbxRaise_out f 0x02 _

theorem mailboxNotice_out (f : Fn) (op : Nat) (c : Cmd) (a : Ans) (flags : Nat) (d : Device) :
    (mailboxNotice f op c a flags d).out = d.out := by
  unfold mailboxNotice
  extract_lets m
  split
  · rfl
  · exact mbxRaise_out f 0x04 _

theorem storeAnswer_out (c : Cmd) (op : Nat) (notice final : Bool) (bytes : List Byte) (d : Device) :
    (storeAnswer c op notice final bytes d).out = d.out := by
  unfold storeAnswer
  split
  · rfl
  · split <;> rfl

theorem sayLines_out (l : List String) (d : Device) : d.out <:+ (sayLines l d).out :=
  (KeepsLinks.foldl (fun d x => .emit (.text x) d) l d).out

theorem sayAnswer_out (w : TextWait) (a : Ans) (d : Device) : d.out <:+ (sayAnswer w a d).out := by
  unfold sayAnswer
  extract_lets adit d₁
  have hprompt (l : List String) : d₁.out <:+ (prompt (sayLines l d₁)).out :=
    (sayLines_out l d₁).trans (List.suffix_cons _ _)
  split
  · split <;> exact hprompt _
  · exact hprompt _

theorem sendMgmt_out (cls fid : Nat) (data : List Byte) (d : Device) : (sendMgmt cls fid data d).out = d.out := by
  unfold sendMgmt
  split <;> rfl

theorem sendMessage_out (s : Source) (kind : Nat) (bytes : List Byte) (d : Device) : d.out <:+ (sendMessage s kind bytes d).out := by
  unfold sendMessage
  extract_lets d₁ r
  have h₁ : d.out <:+ d₁.out := List.suffix_cons _ _
  split
  · rw [sendMgmt_out]; exact h₁
  · split <;> exact h₁

theorem sendTimes_out (s : Source) (kind : Nat) (bytes : List Byte) (n : Nat) (d : Device) :
    d.out <:+ (sendTimes s kind bytes n d).out := by
  induction n generalizing d with
  | zero => exact List.suffix_rfl
  | succ n ih => exact (sendMessage_out s kind bytes d).trans (ih _)

theorem deliver_out (op : Nat) (c : Cmd) (a : Ans) (notice final : Bool) (d : Device) :
    d.out <:+ (deliver op c a notice final d).out := by
  unfold deliver
  extract_lets flags bytes n d₁
  have h₁ : d.out <:+ d₁.out := (storeAnswer_out c op notice final bytes d).symm ▸ List.suffix_rfl
  split
  · split
    · rw [mailboxNotice_out]
    · rw [mailboxReply_out]
  · split
    · exact List.suffix_rfl
    · split
      · exact h₁
      · split
        · exact h₁.trans (sayLines_out _ d₁)
        · split
          · exact h₁.trans (sayAnswer_out _ a d₁)
          · exact h₁.trans (sendTimes_out _ _ bytes _ d₁)

theorem lockAtReply_out (c : Cmd) (d : Device) : (lockAtReply c d).out = d.out := by
  unfold lockAtReply
  split
  · rfl
  · split
    · split <;> rfl
    · rfl

/-- The answer of a command is put out after what was put out before. -/
theorem finish_out (op : Nat) (c : Cmd) (a : Ans) (d : Device) : d.out <:+ (finish op c a d).out := by
  unfold finish
  extract_lets wasLong k d₁ d₂
  have h₂ : d₂.out = d.out := by
    unfold d₂
    split
    · rfl
    · exact lockAtReply_out c d₁
  exact h₂ ▸ deliver_out op c _ wasLong true d₂

end Sys2Proof.Machine
end

section
/-! Lanes and the states of a fabric link: what each change of state makes of the link, and what it leaves (Table 7.4). -/

namespace Sys2Proof.Machine

/-! ## Lanes -/

/-- What lanes and clock pairs go through takes free values; everything else stays. -/
def LanesOnly (d d' : Device) : Prop := ∃ f l c, d' = { d with freeCount := f, lanes := l, clockPairs := c }

namespace LanesOnly

theorem refl (d : Device) : LanesOnly d d := ⟨_, _, _, rfl⟩

theorem trans {a b c : Device} (h : LanesOnly a b) (g : LanesOnly b c) : LanesOnly a c := by
  obtain ⟨f, l, p, rfl⟩ := h
  obtain ⟨f', l', p', rfl⟩ := g
  exact ⟨f', l', p', rfl⟩

theorem setLane (k : Nat) (x : Lane) (d : Device) : LanesOnly d (d.setLane k x) := ⟨d.freeCount, _, d.clockPairs, rfl⟩

theorem foldl {β : Type} {f : Device → β → Device} (h : ∀ d x, LanesOnly d (f d x)) (l : List β) (d : Device) :
    LanesOnly d (l.foldl f d) := by
  induction l generalizing d with
  | nil => exact refl d
  | cons x l ih => exact (h d x).trans (ih (f d x))

section
variable {d d' : Device} (h : LanesOnly d d')
include h

theorem now : d'.now = d.now := by obtain ⟨f, l, c, rfl⟩ := h; rfl
theorem plk : d'.plk = d.plk := by obtain ⟨f, l, c, rfl⟩ := h; rfl
theorem ports : d'.ports = d.ports := by obtain ⟨f, l, c, rfl⟩ := h; rfl

end
end LanesOnly

theorem lanesDown_lanesOnly (n : Nat) (d : Device) : LanesOnly d (lanesDown n d) := LanesOnly.foldl (fun d k => .setLane k _ d) _ d

theorem eachLane_lanesOnly (n : Nat) (f : Lane → Lane) (d : Device) : LanesOnly d (eachLane n f d) :=
  LanesOnly.foldl (fun d k => .setLane k _ d) _ d

theorem setPreset_lanesOnly (k p : Nat) (d : Device) : LanesOnly d (setPreset k p d) := by
  unfold setPreset
  split
  · exact .setLane k _ d
  · exact ⟨_, _, d.clockPairs, rfl⟩

theorem measureLane_lanesOnly (cls k : Nat) (d : Device) : LanesOnly d (measureLane cls d k) := ⟨_, _, d.clockPairs, rfl⟩

theorem trainLane_lanesOnly (k : Nat) (d : Device) : LanesOnly d (trainLane d k) := ⟨_, _, d.clockPairs, rfl⟩

theorem lockPair_lanesOnly (h : Nat) (d : Device) : LanesOnly d (lockPair d h) := by
  unfold lockPair
  extract_lets x v p
  split
  · exact ⟨_, d.lanes, _, rfl⟩
  · exact ⟨d.freeCount, d.lanes, _, rfl⟩

/-! ## What a row gives of one link -/

/-- What a row gives is judged on the link it leaves, and on the ports, items and outputs of the device it ends with. -/
theorem done_gives_link {i : Instr} {s : State} {n : Nat} {x : Plk} {d : Device} {P : Device → Prop} (hx : exec i s = done s d)
    (hlink : d.pfl n = x)
    (h : ∀ t : Device, t.pfl n = x → t.ports = d.ports → t.items = d.items → t.out = d.out → P t) : Gives i s P :=
  done_gives_framed hx rfl fun _ _ _ => h _ hlink rfl rfl rfl

/-- Link n becomes x; the ports, the items and the outputs stay. -/
structure Relinks (n : Nat) (x : Plk) (d d' : Device) : Prop where
  link : d'.pfl n = x
  ports : d'.ports = d.ports
  items : d'.items = d.items
  out : d'.out = d.out

theorem Relinks.setPfl (n : Nat) (x : Plk) (d : Device) : Relinks n x d (d.setPfl n x) := ⟨pfl_setPfl d n x, rfl, rfl, rfl⟩

theorem Relinks.lanes {n : Nat} {x : Plk} {d e e' : Device} (h : Relinks n x d e) (hl : LanesOnly e e') : Relinks n x d e' := by
  obtain ⟨f, l, c, rfl⟩ := hl
  exact ⟨h.link, h.ports, h.items, h.out⟩

theorem LanesOnly.relinks {n : Nat} {x : Plk} {d e : Device} (h : LanesOnly d e) : Relinks n x d (e.setPfl n x) := by
  obtain ⟨f, l, c, rfl⟩ := h
  exact ⟨pfl_setPfl _ n x, rfl, rfl, rfl⟩

/-! ## DOWN -/

/-- The link of a port that has gone down (R203). -/
def fallenLink (cause now : Nat) (time : BitVec 64) (x : Plk) : Plk :=
  let y := { pflCleared x with state := .down, enteredAt := now, lastCause := cause, downTime := time,
                               linkDowns := satAdd 0xFFFF x.linkDowns 1, intStatus := x.intStatus ||| 2 }
  if x.state = .active ∨ x.state = .retrain then forgetPartner y else y

section
variable (cause now : Nat) (time : BitVec 64) (x : Plk)

@[simp] theorem fallenLink_state : (fallenLink cause now time x).state = .down := by unfold fallenLink; split <;> rfl
@[simp] theorem fallenLink_lastCause : (fallenLink cause now time x).lastCause = cause := by unfold fallenLink; split <;> rfl
@[simp] theorem fallenLink_downTime : (fallenLink cause now time x).downTime = time := by unfold fallenLink; split <;> rfl
@[simp] theorem fallenLink_linkDowns : (fallenLink cause now time x).linkDowns = satAdd 0xFFFF x.linkDowns 1 := by
  unfold fallenLink; split <;> rfl
@[simp] theorem fallenLink_intStatus : (fallenLink cause now time x).intStatus = x.intStatus ||| 2 := by
  unfold fallenLink; split <;> rfl
@[simp] theorem fallenLink_partnerRate : (fallenLink cause now time x).partnerRate = x.partnerRate := by
  unfold fallenLink; split <;> rfl
@[simp] theorem fallenLink_txNext : (fallenLink cause now time x).txNext = 0 := by unfold fallenLink; split <;> rfl
@[simp] theorem fallenLink_rxNext : (fallenLink cause now time x).rxNext = 0 := by unfold fallenLink; split <;> rfl
@[simp] theorem fallenLink_samples : (fallenLink cause now time x).samples = 0 := by unfold fallenLink; split <;> rfl

/-- R198: what has carried traffic forgets its partner. -/
theorem fallenLink_partnerValid (h : x.state = .active) : (fallenLink cause now time x).partnerValid = false := by
  simp [fallenLink, forgetPartner, h]

end

theorem pflDown_ports (n cause : Nat) (d : Device) : (pflDown n cause d).ports = d.ports :=
  ports_of_besideFall (pflDown_besideFall n cause d)

theorem pflDown_now (n cause : Nat) (d : Device) : (pflDown n cause d).now = d.now :=
  (congrArg Device.now (pflDown_besideFall n cause d) :)

/-- A link that does not carry or train stays as it is. -/
theorem pflDown_still {n : Nat} (cause : Nat) {d : Device} (h : pflCanFall (d.pfl n).state = false) : pflDown n cause d = d :=
  if_neg (by simp [h])

theorem retrainReply_answers (n : Nat) (d : Device) : AnswersOnly d (retrainReply n d) := by
  unfold retrainReply
  split
  · exact finish_answers _ _ _ d
  · exact answersOnly_refl d

theorem retrainReply_out (n : Nat) (d : Device) : d.out <:+ (retrainReply n d).out := by
  unfold retrainReply
  split
  · exact finish_out _ _ _ d
  · exact List.suffix_rfl

theorem plk_of_answers {d d' : Device} (h : AnswersOnly d d') : d'.plk = d.plk := plk_of_besideAnswer h.besideAnswer

theorem retrainReply_keepsLinks (n : Nat) (d : Device) : KeepsLinks d (retrainReply n d) :=
  .of_plk (plk_of_answers (retrainReply_answers n d)) (retrainReply_out n d)

theorem LanesOnly.keepsLinks {d d' : Device} (h : LanesOnly d d') : KeepsLinks d d' := by
  obtain ⟨f, l, c, rfl⟩ := h
  exact .of_eq rfl rfl

theorem lanesDown_lossItems_keepsLinks (n : Nat) (d : Device) : KeepsLinks d (lanesDown n (lossItems n d)) :=
  (lossItems_keepsLinks n d).trans (lanesDown_lanesOnly n _).keepsLinks

section
variable {n : Nat} {d : Device} (h : pflCanFall (d.pfl n).state = true)
include h

/-- R203: what a fall makes of the link, and that nothing put out before is taken back. -/
theorem pflDown_falls (cause : Nat) : (pflDown n cause d).pfl n = fallenLink cause d.now d.devTime (d.pfl n) ∧
    d.out <:+ (pflDown n cause d).out := by
  unfold pflDown
  extract_lets x₀ d₁ x y d₂ fab d₃
  rw [if_pos h]
  have h₁ : KeepsLinks (d.setPfl n { x₀ with state := .down }) d₁ :=
    (lanesDown_lossItems_keepsLinks n _).trans (KeepsLinks.foldl (fun e _ => .emit _ e) (List.range 4) _)
  have hfall : d₁.besideFall = d.besideFall :=
    (foldl_besideFall (fun e _ => (emit_answers _ e).besideFall) (List.range 4) _).trans <|
      (lanesDown_besideFall n _).trans (lossItems_besideFall n _)
  have hnow : d₁.now = d.now := (congrArg Device.now hfall :)
  have htime : d₁.devTime = d.devTime := (congrArg Device.devTime hfall :)
  clear_value d₁
  have hx : x = { pflCleared x₀ with state := .down } := by
    have hlink := h₁.links n
    rw [pfl_setPfl] at hlink
    exact congrArg pflCleared hlink
  have hlast : KeepsLinks d₃ (retrainReply n (blackBoxRecord 9 n cause [] d₃)) := by
    obtain ⟨z, b, hbox⟩ := blackBoxRecord_frame 9 n cause [] d₃
    refine KeepsLinks.trans ?_ (retrainReply_keepsLinks n _)
    rw [hbox]; exact .of_eq rfl rfl
  refine ⟨?_, h₁.out.trans hlast.out⟩
  have hplk : (retrainReply n (blackBoxRecord 9 n cause [] d₃)).plk = d₃.plk := by
    obtain ⟨z, b, hbox⟩ := blackBoxRecord_frame 9 n cause [] d₃
    rw [plk_of_answers (retrainReply_answers n _), hbox]
  rw [Device.pfl, hplk]
  refine (pfl_setPfl d₁ n _).trans ?_
  unfold y
  rw [hx, hnow, htime]
  rfl

theorem pflDown_pfl (cause : Nat) : (pflDown n cause d).pfl n = fallenLink cause d.now d.devTime (d.pfl n) := (pflDown_falls h cause).1

end

/-! ## TRAIN -/

/-- The link of a port that enters TRAIN. -/
def trainingLink (now : Nat) (x : Plk) : Plk := { x with state := .train, enteredAt := now, rate := 5, causeC := 0, dupHeld := false }

theorem pflTrain_relinks (n : Nat) (d : Device) : Relinks n (trainingLink d.now (d.pfl n)) d (pflTrain n d) := by
  unfold pflTrain
  extract_lets _ d₁ d₂
  obtain ⟨hlink, hports, hitems, hout⟩ := (Relinks.setPfl n (trainingLink d.now (d.pfl n)) d).lanes (eachLane_lanesOnly n _ d₁)
  exact ⟨hlink, hports, hitems, hout⟩

/-- R202: a full link reset takes the link through DOWN to TRAIN. -/
theorem pflFullReset_resets {n : Nat} {d : Device} (h : pflCanFall (d.pfl n).state = true) :
    (pflFullReset n d).pfl n = trainingLink d.now (fallenLink 9 d.now d.devTime (d.pfl n)) ∧
    (pflFullReset n d).ports = d.ports ∧ d.out <:+ (pflFullReset n d).out := by
  obtain ⟨hlink, hout⟩ := pflDown_falls h 9
  rw [pflFullReset, if_pos h]
  have htrain := pflTrain_relinks n (pflDown n 9 d)
  refine ⟨?_, htrain.ports.trans (pflDown_ports n 9 d), htrain.out ▸ hout⟩
  rw [htrain.link, hlink, pflDown_now]

/-! ## STEP -/

/-- The link of a port whose exchange is complete (R198): it shows the partner whose CAP it has. -/
def steppingLink (known : Bool) (now : Nat) (x : Plk) : Plk :=
  { x with partnerFid := x.capFid, partnerPort := x.capPort, partnerSerial := x.capSerial, partnerFw := x.capFw, state := .step,
           causeC := 0, enteredAt := now, rate := 5, partnerValid := true, fromRecord := known, goSent := 0 }

theorem enterStep_relinks (n : Nat) (d : Device) : ∃ known, Relinks n (steppingLink known d.now (d.pfl n)) d (enterStep n d) := by
  unfold enterStep
  extract_lets x y known d₁ d₂ d₃
  have hlanes : LanesOnly d₁ d₃ :=
    (eachLane_lanesOnly n _ d₁).trans (LanesOnly.foldl (fun d k => setPreset_lanesOnly k _ d) (portLanes n d₂) d₂)
  obtain ⟨hlink, hports, hitems, hout⟩ := (Relinks.setPfl n (steppingLink known d.now (d.pfl n)) d).lanes hlanes
  exact ⟨known, hlink, hports, hitems, hout⟩

/-! ## RETRAIN -/

/-- The link of a port that starts a fast retrain (R201). -/
def retrainingLink (cause : Nat) (leading : Bool) (now : Nat) (x : Plk) : Plk :=
  { x with state := .retrain, enteredAt := now, retrainAt := now, retrainCause := cause, leading := leading, reqSentAt := now, acked := false,
           txIdle := false, rxIdle := false, fastRetrains := satAdd 0xFFFF x.fastRetrains 1, intStatus := x.intStatus ||| 4,
           replay := x.replay.map fun f => { f with marked := f.marked || decide (x.limit ≤ f.retransmissions) } }

/-- A control message as a port sends it in a flit of its own (R176). -/
def ctlOutput (n : Nat) (x : Plk) (message : List Byte) : Output :=
  .flit n 2 0 (flitBytes (flitHeader 2 0 0 false x) 0 (slotPad message))

theorem ctlFlit_single (n : Nat) (x : Plk) (message : List Byte) (d : Device) : ctlFlit n x [message] d = emit (ctlOutput n x message) d := by
  simp [ctlFlit, ctlOutput]

section
variable {n : Nat} {d : Device}

theorem startRetrain_still (cause : Nat) (leading : Bool) (h : (d.pfl n).state ≠ .active) : startRetrain n cause leading d = d := if_neg h

variable (h : (d.pfl n).state = .active)
include h

theorem startRetrain_follows (cause : Nat) :
    Relinks n (retrainingLink cause false d.now (d.pfl n)) d (startRetrain n cause false d) := by
  unfold startRetrain
  extract_lets x x' d₁ c b d₂
  rw [if_pos h]
  exact ⟨pfl_setPfl d n x', rfl, rfl, rfl⟩

theorem startRetrain_leads (cause : Nat) : ∃ e, Relinks n (retrainingLink cause true d.now (d.pfl n)) d e ∧
    startRetrain n cause true d = emit (ctlOutput n (d.pfl n) (retrainBytes false cause 0 0 n d)) e := by
  unfold startRetrain
  extract_lets x x' d₁ c b d₂
  rw [if_pos h]
  exact ⟨d₂, ⟨pfl_setPfl d n x', rfl, rfl, rfl⟩, ctlFlit_single n x _ d₂⟩

end

end Sys2Proof.Machine
end

section
/-! The CAP exchange and the states before ACTIVE (R195 to R198, R204, R217), and their statement. -/

namespace Sys2Proof.Machine

/-! ## A link that falls, as a row's result -/

/-- A row that takes a link down, judged on the fallen link and the ports. -/
theorem pflDown_gives {i : Instr} {s : State} {n cause : Nat} {P : Device → Prop} (hx : exec i s = done s (pflDown n cause s.dev))
    (hfall : pflCanFall (s.dev.pfl n).state = true)
    (h : ∀ t : Device, t.pfl n = fallenLink cause s.dev.now s.dev.devTime (s.dev.pfl n) → t.ports = s.dev.ports → P t) : Gives i s P :=
  done_gives_link hx (pflDown_pfl hfall cause) fun t ht hports _ _ => h t ht (hports.trans (pflDown_ports n cause s.dev))

/-! ## A CAP that is sent -/

section
variable {n : Nat} {s : State}

/-- R196: every 1 µs in CAP. -/
theorem capSend_due (hstate : (s.dev.pfl n).state = .cap) (hdue : (s.dev.pfl n).capSentAt + 1000 ≤ s.dev.now) : exec (.capSend n) s =
    done s (ctlFlit n (s.dev.pfl n) [capBytes n s.dev] (s.dev.setPfl n { s.dev.pfl n with capSentAt := s.dev.now })) := by
  show execCapSend n s = _
  simp [execCapSend, hstate, usNs, hdue]

theorem capSend_active (hstate : (s.dev.pfl n).state = .active) : exec (.capSend n) s = done s s.dev := by
  show execCapSend n s = _
  simp [execCapSend, hstate]

end

/-! ## A CAP that arrives -/

/-- The link that has a partner's CAP to answer, and what it says noted. -/
def offeredLink (c : Cap) (x : Plk) : Plk :=
  { x with ctl := x.ctl ++ [Ctl.capAck c.serial], capFid := c.fid, capPort := c.port, capSerial := c.serial, capFw := c.fw,
           partnerRate := c.maxRate }

/-- The link whose partner's CAP passes, with the credits that both ends grant. -/
def matchedLink (n : Nat) (c : Cap) (d : Device) : Plk :=
  let x := offeredLink c (d.pfl n)
  { x with gotCap := true, credits := grantsOf x c.grants [(d.buf n).minP, (d.buf n).minNp, (d.buf n).minCpl] }

/-- The link that is held for a cause (R196). -/
def conflictLink (cause : Nat) (c : Cap) (x : Plk) : Plk := { offeredLink c x with state := .conflict, causeC := cause, gotCap := false }

section
variable {n : Nat} {c : Cap} {d : Device}

/-- R217: the link of a duplicate FID stays held, whatever CAP comes. -/
theorem capArrives_duplicate (hstate : (d.pfl n).state = .conflict) (hdup : (d.pfl n).dupHeld = true) :
    capArrives n c d = d.setPfl n (conflictLink 1 c (d.pfl n)) := by
  simp [capArrives, hstate, hdup, conflictLink, offeredLink]

theorem capArrives_other (hcap : (d.pfl n).state ≠ .cap) (hconflict : (d.pfl n).state ≠ .conflict) : capArrives n c d = d :=
  if_neg (not_or_intro hcap hconflict)

variable (hstate : (d.pfl n).state = .cap) (hdup : (d.pfl n).dupHeld = false)
include hstate hdup

/-- R196, R198: a CAP that passes completes the exchange when this end's own has been acknowledged. -/
theorem capArrives_passes (hcause : capCause n c d = 0) : capArrives n c d =
    if (d.pfl n).gotAck = true then enterStep n (d.setPfl n (matchedLink n c d)) else d.setPfl n (matchedLink n c d) := by
  simp [capArrives, hstate, hdup, hcause, matchedLink, offeredLink]

/-- R196: a CAP that fails a check holds the link, and what was queued toward it is lost. -/
theorem capArrives_fails (hcause : capCause n c d ≠ 0) :
    ((capArrives n c d).pfl n).besideQueues =
      (conflictLink (capCause n c d) c { d.pfl n with intStatus := (d.pfl n).intStatus ||| 8 }).besideQueues ∧
    (capArrives n c d).ports = d.ports := by
  let y := conflictLink (capCause n c d) c { d.pfl n with intStatus := (d.pfl n).intStatus ||| 8 }
  have hrun : capArrives n c d = { lossItems n (d.setPfl n y) with fab := { d.fab with advDue := true } } := by
    simp [capArrives, hstate, hdup, hcause, y, conflictLink, offeredLink]
  rw [hrun]
  refine ⟨((lossItems_keepsLinks n (d.setPfl n y)).links n).trans ?_, (ports_of_besideFall (lossItems_besideFall n _) :)⟩
  rw [pfl_setPfl]

end

/-! ## An acknowledgement -/

section
variable {n : Nat} {serial : BitVec 64} {d : Device}

theorem capAckArrives_cap (hstate : (d.pfl n).state = .cap) : capAckArrives n d.glb.serial d =
    if (d.pfl n).gotCap = true then enterStep n (d.setPfl n { d.pfl n with gotAck := true })
    else d.setPfl n { d.pfl n with gotAck := true } := if_pos ⟨hstate, rfl⟩

/-- R196: an acknowledgement that does not echo this device's own SERIAL is none. -/
theorem capAckArrives_foreign (hserial : serial ≠ d.glb.serial) : capAckArrives n serial d = d := if_neg fun h => hserial h.2

end

/-! ## The statement -/

/-- Settles O26: each row is traced to the state of the link that it leads to, and the rest of the device stays. -/
theorem pflLinkComesUp : Obligations.PflLinkComesUp := by
  intro s n c serial d x
  refine ⟨?capSend, ?noSend, ?passes, ?completes, ?fails, ?duplicate, ?noCap, ?ack, ?ackCompletes, ?foreignAck, ?trainTimeout, ?trainEarly,
    ?capTimeout, ?capEarly, ?restart, ?noRestart⟩
  case capSend =>
    intro hstate hdue
    exact done_becomes (capSend_due hstate hdue) (ctlFlit_single n x _ _)
  case noSend => exact fun hstate => done_becomes (capSend_active hstate) rfl
  case passes =>
    intro hstate hdup hack hcause
    have hrun : capArrives n c d = d.setPfl n (matchedLink n c d) := by rw [capArrives_passes hstate hdup hcause, if_neg (by simp [hack, x])]
    have hrow : exec (.cap n c) s = done s (d.setPfl n (matchedLink n c d)) := congrArg (done s) hrun
    refine done_gives_link hrow (pfl_setPfl d n _) fun t ht hports _ _ => ?_
    rw [ht]
    exact ⟨hstate, rfl, rfl, rfl, rfl, rfl, hports⟩
  case completes =>
    intro hstate hdup hack hcause
    have hrun : capArrives n c d = enterStep n (d.setPfl n (matchedLink n c d)) := by
      rw [capArrives_passes hstate hdup hcause, if_pos hack]
    have hrow : exec (.cap n c) s = done s (enterStep n (d.setPfl n (matchedLink n c d))) := congrArg (done s) hrun
    obtain ⟨known, hstep⟩ := enterStep_relinks n (d.setPfl n (matchedLink n c d))
    rw [pfl_setPfl] at hstep
    refine done_gives_link hrow hstep.link fun t ht hports _ _ => ?_
    rw [ht]
    exact ⟨rfl, rfl, rfl, rfl, rfl, rfl, rfl, hports.trans hstep.ports⟩
  case fails =>
    intro hstate hdup hcause
    obtain ⟨hlink, hkept⟩ := capArrives_fails hstate hdup hcause
    refine done_gives_link (n := n) rfl rfl fun t ht hports _ _ => ?_
    rw [ht]
    exact ⟨congrArg Plk.state hlink, congrArg Plk.causeC hlink, congrArg Plk.intStatus hlink, hports.trans hkept⟩
  case duplicate =>
    intro hstate hdup
    have hrow : exec (.cap n c) s = done s (d.setPfl n (conflictLink 1 c x)) := congrArg (done s) (capArrives_duplicate hstate hdup)
    refine done_gives_link hrow (pfl_setPfl d n _) fun t ht hports hitems _ => ?_
    rw [ht]
    exact ⟨rfl, rfl, hitems, hports⟩
  case noCap =>
    intro hstate
    exact done_becomes rfl (capArrives_other (by simp [x, hstate]) (by simp [x, hstate]))
  case ack =>
    intro hstate hcap
    exact done_becomes rfl ((capAckArrives_cap hstate).trans (if_neg (Bool.eq_false_iff.1 hcap)))
  case ackCompletes =>
    intro hstate hcap
    have hrow : exec (.capAck n d.glb.serial) s = done s (enterStep n (d.setPfl n { x with gotAck := true })) :=
      congrArg (done s) ((capAckArrives_cap hstate).trans (if_pos hcap))
    obtain ⟨known, hstep⟩ := enterStep_relinks n (d.setPfl n { x with gotAck := true })
    refine done_gives_link hrow hstep.link fun t ht hports _ _ => ?_
    rw [ht]
    exact ⟨rfl, hports.trans hstep.ports⟩
  case foreignAck => exact fun hserial => done_becomes rfl (capAckArrives_foreign hserial)
  case trainTimeout =>
    intro hstate hdue
    refine pflDown_gives (congrArg (done s) (if_pos ⟨.inl hstate, hdue⟩)) (congrArg pflCanFall hstate) fun t ht hports => ?_
    rw [ht]
    exact ⟨fallenLink_state .., fallenLink_lastCause .., hports⟩
  case trainEarly => exact fun hearly => done_becomes rfl (if_neg fun h => Nat.not_le.mpr hearly h.2)
  case capTimeout =>
    intro hstate hdue
    refine pflDown_gives (congrArg (done s) (if_pos ⟨hstate, hdue⟩)) (congrArg pflCanFall hstate) fun t ht hports => ?_
    rw [ht]
    exact ⟨fallenLink_state .., fallenLink_lastCause .., hports⟩
  case capEarly => exact fun hearly => done_becomes rfl (if_neg fun h => Nat.not_le.mpr hearly h.2)
  case restart =>
    intro hstate henabled hdue
    have htrain := pflTrain_relinks n d
    have hrow : exec (.restartExpiry n) s = done s (pflTrain n d) := congrArg (done s) (if_pos ⟨hstate, henabled, hdue⟩)
    exact done_gives_link hrow htrain.link fun t ht hports hitems _ => ⟨ht, hports.trans htrain.ports, hitems.trans htrain.items⟩
  case noRestart => exact fun hdisabled => done_becomes rfl (if_neg fun h => Bool.noConfusion (hdisabled.symm.trans h.2.1))

end Sys2Proof.Machine
end

section
/-! Fast retrains, full link resets and the losses of a link (R200 to R203, R207), and their statement. -/

namespace Sys2Proof.Machine

/-! ## What the partner asks for -/

/-- RETRAIN_ACK, with the FID and port that asked (Table 7.2). -/
def retrainAckBytes (full : Bool) (fid rport : Nat) : List Byte :=
  [0x05, 1, BitVec.ofNat 8 (natOfBool full), 0, BitVec.ofNat 8 fid, BitVec.ofNat 8 rport]

section
variable {n fid rport : Nat} (cause rate : Nat) {d : Device}

theorem retrainAsked_stray (full : Bool) (hpfl : (d.port n).personality ≠ .pfl) (hn : n < 96) : retrainAsked n full cause fid rport rate d =
    d.setPci n { d.pci n with stray := (d.pci n).stray + 1 } := (if_neg hpfl).trans (if_pos hn)

variable (hpfl : (d.port n).personality = .pfl)
include hpfl

/-- R201: in ACTIVE the port follows the partner's fast retrain, and says so. -/
theorem retrainAsked_fast (hactive : (d.pfl n).state = .active) : retrainAsked n false cause fid rport rate d =
    startRetrain n cause false (emit (ctlOutput n (d.pfl n) (retrainAckBytes false fid rport)) d) := by
  simp [retrainAsked, retrainReq, hpfl, hactive, ctlFlit_single, retrainAckBytes]

/-- R202: a full link reset that the partner asks for is answered before it begins. -/
theorem retrainAsked_full (hactive : (d.pfl n).state = .active) : retrainAsked n true cause fid rport rate d =
    pflFullReset n (emit (ctlOutput n (d.pfl n) (retrainAckBytes true fid rport))
      (d.setPfl n { d.pfl n with partnerRate := if rate = 0 then (d.pfl n).partnerRate else rate })) := by
  simp [retrainAsked, retrainReq, hpfl, hactive, ctlFlit_single, retrainAckBytes]

section
variable (hretrain : (d.pfl n).state = .retrain) (hleading : (d.pfl n).leading = true)
include hretrain hleading

/-- R201: of two attempts the lower FID leads. -/
theorem retrainAsked_leads (hfid : d.glb.fid < fid) : retrainAsked n false cause fid rport rate d = d := by
  simp [retrainAsked, retrainReq, hpfl, hretrain, hleading, Nat.not_lt.mpr hfid.le, hfid.ne']

theorem retrainAsked_yields (hfid : fid < d.glb.fid) : retrainAsked n false cause fid rport rate d =
    emit (ctlOutput n (d.pfl n) (retrainAckBytes false fid rport)) (d.setPfl n { d.pfl n with leading := false }) := by
  simp [retrainAsked, retrainReq, hpfl, hretrain, hleading, hfid, ctlFlit_single, retrainAckBytes]

end
end

/-- R201: the leader asks again every 2 µs until it is answered. -/
theorem flitSlot_asksAgain {n : Nat} {d : Device} (hretrain : (d.pfl n).state = .retrain) (hleading : (d.pfl n).leading = true)
    (hidle : (d.pfl n).txIdle = false) (hacked : (d.pfl n).acked = false) (hdue : (d.pfl n).reqSentAt + 2000 ≤ d.now) : flitSlot n d =
    emit (ctlOutput n (d.pfl n) (retrainBytes false (d.pfl n).retrainCause 0 0 n d)) (d.setPfl n { d.pfl n with reqSentAt := d.now }) := by
  simp [flitSlot, hretrain, hleading, hidle, hacked, usNs, hdue, ctlFlit_single]

/-! ## The statement -/

/-- Settles O27: each row is a retrain, a reset or a fall of the link, or leaves the device as it was. -/
theorem pflRetrainsAndDown : Obligations.PflRetrainsAndDown := by
  intro s n cause fid rport width rate d x flit ack
  refine ⟨?fast, ?noFast, ?asked, ?askedFull, ?stray, ?leads, ?yields, ?acked, ?asksAgain, ?noAck, ?timeout, ?early, ?reset, ?noReset,
    ?idle, ?down, ?downNotice, ?noFlit, ?partnerIdle, ?linkDown⟩
  case fast =>
    intro hactive
    obtain ⟨e, hrelinks, hrun⟩ := startRetrain_leads hactive cause
    refine done_gives_link (congrArg (done s) hrun) hrelinks.link fun t ht hports hitems hout => ?_
    rw [ht, hout]
    exact ⟨rfl, rfl, rfl, rfl, rfl, rfl, List.mem_cons_self, hitems.trans hrelinks.items, hports.trans hrelinks.ports⟩
  case noFast => exact fun hstate => done_becomes rfl (startRetrain_still cause true hstate)
  case asked =>
    intro hpfl hactive
    let e := emit (ctlOutput n x (retrainAckBytes false fid rport)) d
    have hrelinks := startRetrain_follows (d := e) hactive cause
    refine done_gives_link (congrArg (done s) (retrainAsked_fast cause rate hpfl hactive)) hrelinks.link fun t ht _ hitems hout => ?_
    rw [ht, hout, hrelinks.out]
    exact ⟨rfl, rfl, List.mem_cons_self, hitems.trans hrelinks.items⟩
  case askedFull =>
    intro hpfl hactive
    let y := { x with partnerRate := if rate = 0 then x.partnerRate else rate }
    let e := emit (ctlOutput n x (retrainAckBytes true fid rport)) (d.setPfl n y)
    have hy : e.pfl n = y := pfl_setPfl d n y
    obtain ⟨hlink, hports, hout⟩ := pflFullReset_resets (n := n) (d := e) (by rw [hy]; exact congrArg pflCanFall hactive)
    rw [hy] at hlink
    refine done_gives_link (congrArg (done s) (retrainAsked_full cause rate hpfl hactive)) hlink fun t ht hp _ ho => ?_
    rw [ht, ho]
    exact ⟨rfl, fallenLink_lastCause .., fallenLink_partnerRate .., hout.subset List.mem_cons_self, hp.trans hports⟩
  case stray => exact fun hn hpfl full => done_becomes rfl (retrainAsked_stray cause rate full hpfl hn)
  case leads => exact fun hpfl hretrain hleading hfid => done_becomes rfl (retrainAsked_leads cause rate hpfl hretrain hleading hfid)
  case yields => exact fun hpfl hretrain hleading hfid => done_becomes rfl (retrainAsked_yields cause rate hpfl hretrain hleading hfid)
  case acked => exact fun hretrain hleading => done_becomes rfl (if_pos ⟨hretrain, hleading⟩)
  case asksAgain =>
    intro hretrain hleading hidle hacked hdue
    refine done_gives_link (congrArg (done s) (flitSlot_asksAgain hretrain hleading hidle hacked hdue)) (pfl_setPfl d n _)
      fun t ht _ _ hout => ⟨ht, ?_⟩
    rw [hout]
    exact List.mem_cons_self
  case noAck => exact fun hactive => done_becomes rfl (if_neg fun h => by simp [hactive, x] at h)
  case timeout =>
    intro hretrain hdue
    refine pflDown_gives (congrArg (done s) (if_pos ⟨hretrain, hdue⟩)) (congrArg pflCanFall hretrain) fun t ht hports => ?_
    rw [ht]
    exact ⟨fallenLink_state .., fallenLink_lastCause .., fallenLink_linkDowns .., hports⟩
  case early => exact fun hearly => done_becomes rfl (if_neg fun h => Nat.not_le.mpr hearly h.2)
  case reset =>
    intro hactive
    obtain ⟨hlink, hports, -⟩ := pflFullReset_resets (congrArg pflCanFall hactive)
    refine done_gives_link rfl hlink fun t ht hp _ _ => ?_
    rw [ht]
    exact ⟨rfl, fallenLink_lastCause .., fallenLink_txNext .., fallenLink_rxNext .., fallenLink_samples .., hp.trans hports⟩
  case noReset => exact fun hdown => done_becomes rfl (if_neg (by simp [x, hdown, pflCanFall]))
  case idle => exact fun hactive => done_becomes rfl (if_pos hactive)
  case down =>
    intro hdown
    have hstill (k : Nat) : pflDown n k d = d := pflDown_still k (congrArg pflCanFall hdown)
    exact ⟨done_becomes rfl (if_neg (by simp [x, hdown])), done_becomes rfl (if_neg (by simp [x, hdown])),
      done_becomes rfl (hstill cause)⟩
  case downNotice =>
    intro hactive
    refine pflDown_gives (congrArg (done s) (if_pos (.inl hactive))) (congrArg pflCanFall hactive) fun t ht hports => ?_
    rw [ht]
    exact ⟨fallenLink_state .., fallenLink_lastCause .., hports⟩
  case noFlit =>
    intro hactive hidle hdue
    refine pflDown_gives (congrArg (done s) (if_pos ⟨hactive, hidle, hdue⟩)) (congrArg pflCanFall hactive) fun t ht hports => ?_
    rw [ht]
    exact ⟨fallenLink_state .., fallenLink_lastCause .., hports⟩
  case partnerIdle => exact fun hidle => done_becomes rfl (if_neg fun h => Bool.noConfusion (hidle.symm.trans h.2.1))
  case linkDown =>
    intro hactive
    refine pflDown_gives rfl (congrArg pflCanFall hactive) fun t ht hports => ?_
    rw [ht]
    exact ⟨fallenLink_state .., fallenLink_lastCause .., fallenLink_downTime .., fallenLink_partnerValid _ _ _ _ hactive,
      fallenLink_intStatus .., hports⟩

end Sys2Proof.Machine
end

section
/-! Lane training, losses of lock, the checker, the eye scan and the equalization records (chapter 12), and their statement. -/

namespace Sys2Proof.Machine

/-! ## From TRAIN to CAP -/

/-- R195: with its lanes locked the port exchanges CAP. -/
theorem trainLock_relinks {n : Nat} {d : Device} (hstate : (d.pfl n).state = .train) (hholdover : d.clk.holdover = false) :
    Relinks n { d.pfl n with state := .cap, enteredAt := d.now, gotAck := false, gotCap := false } d (trainLock n d) := by
  unfold trainLock
  extract_lets x d₁ d₂ d₃
  rw [if_pos ⟨hstate, hholdover⟩]
  have hlanes : LanesOnly d d₂ :=
    (LanesOnly.foldl (fun e h => lockPair_lanesOnly h e) (halfStopes n d) d).trans
      (LanesOnly.foldl (fun e k => trainLane_lanesOnly k e) (portLanes n d₁) d₁)
  have hnow : d₂.now = d.now := hlanes.now
  clear_value d₂
  obtain ⟨hlink, hports, hitems, hout⟩ := hlanes.relinks (n := n)
    (x := { x with state := .cap, enteredAt := d.now, gotAck := false, gotCap := false })
  exact ⟨by rw [← hlink, ← hnow]; rfl, hports, hitems, hout⟩

/-! ## Training sets in STEP -/

/-- A lane that has had one more GO set of a rung (Table 12.4). -/
def goLane (preset : Nat) (x : Lane) : Lane := { x with partnerPreset := preset, readyRun := x.readyRun + 1, goRun := x.goRun + 1 }

section
variable {n k : Nat} {b : List Byte} {d : Device}

/-- A GO set that asks for no preset. -/
theorem ptsLane_go (hstage : u8 b 2 = 2) (hreq : u8 b 5 = 0xFF) : ptsLane b k d = d.setLane k (goLane (u8 b 4) (d.lane k)) := by
  simp [ptsLane, hstage, hreq, goLane]

variable (hport : lanePort k d = some n)
include hport

theorem ptsReceive_bad (h : u8 b 0 ≠ 0xB5 ∨ (d.pfl n).state ≠ .step) : ptsReceive k b d = d := by
  unfold ptsReceive
  rw [hport]
  exact if_neg fun ⟨hgood, _, hstep, _⟩ => h.elim (fun hmark => hmark (by simp at hgood; exact hgood.1.2)) (fun hstate => hstate hstep)

/-- R341, R342: a good set counts on the lane; before the eighth nothing else happens. -/
theorem ptsReceive_counts (hgood : b.length = 16 ∧ u8 b 0 = 0xB5 ∧ crc16 (b.take 14) = BitVec.ofNat 16 (u16 b 14))
    (hpfl : (d.port n).personality = .pfl) (hstep : (d.pfl n).state = .step) (hrung : u8 b 1 = (d.pfl n).rate)
    (hindex : u8 b 3 = k - 4 * n) (hlanes : portLanes n d = [k]) (hstage : u8 b 2 = 2) (hreq : u8 b 5 = 0xFF)
    (hrun : (d.lane k).readyRun < 7) : ptsReceive k b d = d.setLane k (goLane (u8 b 4) (d.lane k)) := by
  obtain ⟨hlen, hmark, hcrc⟩ := hgood
  have hfew : ¬ (portLanes n (d.setLane k (goLane (u8 b 4) (d.lane k)))).all
      (fun j => decide (8 ≤ ((d.setLane k (goLane (u8 b 4) (d.lane k))).lane j).readyRun)) = true := by
    rw [show portLanes n (d.setLane k _) = portLanes n d from rfl, hlanes]
    simp [goLane]
    omega
  unfold ptsReceive
  rw [hport]
  simp only [hlen, hmark, hcrc, hpfl, hstep, hrung, hindex, ptsLane_go hstage hreq, decide_true, Bool.and_self, and_self, if_true, hfew,
    and_false, if_false, Bool.false_eq_true]

end

/-! ## From rung to rung, and to ACTIVE -/

section
variable {n : Nat} {d : Device}

/-- Reachability is announced by items (R224): no link and no port changes. -/
theorem announce_keeps (fid : Nat) (d : Device) : (announce fid d).plk = d.plk ∧ (announce fid d).ports = d.ports := by
  have hroute (reach : Bool) (e : Device) : (sendRoute fid reach e).plk = e.plk ∧ (sendRoute fid reach e).ports = e.ports :=
    List.foldlRecOn _ _ (motive := fun f : Device => f.plk = e.plk ∧ f.ports = e.ports) ⟨rfl, rfl⟩ fun _ hf _ _ => hf
  unfold announce
  extract_lets d₁ bit sent
  split
  · split
    · exact hroute true _
    · exact ⟨rfl, rfl⟩
  · split
    · exact ⟨rfl, rfl⟩
    · exact hroute false _

/-- The link of a port that enters ACTIVE. -/
def activeLink (now : Nat) (x : Plk) : Plk :=
  { x with state := .active, enteredAt := now, lastGood := now, quietSince := now, refreshAt := now, intStatus := x.intStatus ||| 1 }

theorem pflActive_enters (n : Nat) (d : Device) :
    (pflActive n d).pfl n = activeLink d.now (d.pfl n) ∧ (pflActive n d).ports = d.ports := by
  unfold pflActive
  extract_lets x d₁ d₂ fab d₃
  have h₁ : d₁.pfl n = activeLink d.now (d.pfl n) := pfl_setPfl d n _
  have h₂ : LanesOnly { d₁ with upAt := tinsert n d₁.now d₁.upAt } d₂ := eachLane_lanesOnly n _ _
  have h₃ : d₃.plk = d₁.plk ∧ d₃.ports = d.ports :=
    List.foldlRecOn _ _ (motive := fun f : Device => f.plk = d₁.plk ∧ f.ports = d.ports) ⟨h₂.plk, h₂.ports⟩ fun f hf k _ =>
      ⟨(announce_keeps k f).1.trans hf.1, (announce_keeps k f).2.trans hf.2⟩
  have h₄ := retrainReply_answers n d₃
  exact ⟨by rw [Device.pfl, plk_of_answers h₄, h₃.1]; exact h₁, (ports_of_besideAnswer h₄.besideAnswer).trans h₃.2⟩

variable (hstep : (d.pfl n).state = .step) (hgo : (d.pfl n).goSent = 8) (hall : ∀ j ∈ portLanes n d, 8 ≤ (d.lane j).goRun)
include hstep hgo hall

/-- R341, R345: the rung at the agreed rate is the last. -/
theorem rungComplete_last (hrate : min (d.port n).maxRate (d.pfl n).partnerRate ≤ (d.pfl n).rate) :
    ∃ e, LanesOnly d e ∧ rungComplete n d = pflActive n e := by
  unfold rungComplete
  extract_lets x ks agreed d₁
  have h₁ : LanesOnly d d₁ := LanesOnly.foldl (fun e k => measureLane_lanesOnly _ k e) ks d
  refine ⟨d₁, h₁, ?_⟩
  rw [if_pos ⟨hstep, hgo, by simpa [List.all_eq_true] using hall⟩, if_pos hrate]

/-- R341: below the agreed rate the next rung follows. -/
theorem rungComplete_next (hrate : (d.pfl n).rate < min (d.port n).maxRate (d.pfl n).partnerRate) (hrecord : (d.pfl n).fromRecord = false) :
    Relinks n { d.pfl n with rate := (d.pfl n).rate + 1, goSent := 0 } d (rungComplete n d) := by
  unfold rungComplete
  extract_lets x ks agreed d₁ next d₂
  have h₁ : LanesOnly d d₁ := LanesOnly.foldl (fun e k => measureLane_lanesOnly _ k e) ks d
  rw [if_pos ⟨hstep, hgo, by simpa [List.all_eq_true] using hall⟩, if_neg (Nat.not_le.mpr hrate)]
  have hnext : next = x.rate + 1 := if_neg (by simp [x, hrecord])
  have h₂ : Relinks n { x with rate := x.rate + 1, goSent := 0 } d d₂ := hnext ▸ h₁.relinks
  exact h₂.lanes (LanesOnly.foldl (fun e k => (LanesOnly.setLane k _ e).trans (setPreset_lanesOnly k _ _)) ks d₂)

end

theorem rungComplete_other {n : Nat} {d : Device} (h : (d.pfl n).state ≠ .step) : rungComplete n d = d := if_neg fun hall => h hall.1

/-! ## Losses of lock, and CKR -/

section
variable {n k : Nat} {d : Device}

/-- R337: a lane of a PCI Express port whose link is not up has nothing to recover. -/
theorem lockLoss_dsp (hlock : (d.lane k).rxLock = true) (hport : lanePort k d = some n) (hdsp : (d.port n).personality = .dsp)
    (hdown : lstateUp (d.pci n).lstate = false) : lockLoss false k d = d.setLane k
      { d.lane k with rxLock := false, rxLosses := satAdd 0xFFFF (d.lane k).rxLosses 1, intStatus := (d.lane k).intStatus ||| 1 } := by
  have hrecovery (x : Lane) : pcieRecovery n (d.setLane k x) = d.setLane k x :=
    if_neg (by simp [show (d.setLane k x).pci n = d.pci n from rfl, hdown])
  simp [lockLoss, hlock, hport, hdsp, hrecovery]

/-- R337: a pair of a half-stope without fabric links only counts its loss. -/
theorem lockLoss_pair (hk : k < 48) (hlock : (d.pair k).ckrLock = true) (hnone : halfPorts k d = []) : lockLoss true k d =
    d.setPair k { d.pair k with ckrLock := false, ckrLosses := satAdd 0xFFFF (d.pair k).ckrLosses 1 } := by
  have hports (x : ClockPair) : halfPorts k (d.setPair k x) = [] := hnone
  simp [lockLoss, hk, hlock, hports]

theorem lockLoss_unlocked (h : (d.lane k).rxLock = false) : lockLoss false k d = d := by simp [lockLoss, h]

theorem rungRestart_other (h : (d.pfl n).state ≠ .step) : rungRestart n d = d := if_neg h

/-- A pair whose frequency is known locks. -/
theorem lockPair_known (h : (d.pair k).ckrFreq ≠ 0) : lockPair d k = d.setPair k { d.pair k with ckrLock := true } := if_neg h

end

/-! ## Equalization records -/

section
variable {n u : Nat} {d : Device}

/-- The record of a DSP's first bring-up, as the device finds its lanes. -/
def firstRecord (n : Nat) (d : Device) : EqRecord :=
  { port := n, partner := (d.pci n).dsn.getD 0, width := (d.port n).width, rate := (d.pci n).curRate, cls := (d.lane (4 * n)).cls,
    writtenAt := d.now, usedAt := d.now,
    lanes := (portLanes n d).map fun k => ((d.lane k).preset, (d.lane k).il, (d.lane k).ctle, (d.lane k).vga, (d.lane k).dfe1) }

/-- R347, R348: it is written 1 s after the link has come up. -/
theorem eqRecordWrite_first (hup : linkUp n d = true) (hdsp : (d.port n).personality = .dsp) (hnone : d.eqRecords = [])
    (hat : d.upAt = [(n, u)]) (hdue : u + 1000000000 ≤ d.now) (hfresh : ∀ k ∈ portLanes n d, (d.lane k).fromRecord = false) :
    eqRecordWrite n d = { d with eqRecords := [firstRecord n d] } := by
  have hrecord : recordDue n d = (true, d) := if_neg (by simpa [List.any_eq_true] using hfresh)
  simp [eqRecordWrite, hrecord, hup, hnone, hat, secNs, hdue, hdsp, partnerId, makeRoom, firstRecord]

theorem eqRecordWrite_down (h : linkUp n d = false) : eqRecordWrite n d = d := by simp [eqRecordWrite, h]

theorem eqRecordWrite_early (hat : d.upAt = [(n, u)]) (h : d.now < u + 1000000000) : eqRecordWrite n d = d := by
  simp [eqRecordWrite, hat, secNs, Nat.not_le.mpr h]

end

/-! ## The statement -/

/-- Settles O23: each row is traced to the lane, pair, link or record that it changes. -/
theorem laneEvents : Obligations.LaneEvents := by
  intro s n k pts d x y
  refine ⟨?train, ?noTrain, ?go, ?badSet, ?last, ?next, ?noRung, ?loss, ?pairLoss, ?noLoss, ?ckr, ?ckrLocked, ?eye, ?noEye, ?checker,
    ?noChecker, ?checkerLoss, ?noCheckerLoss, ?record, ?recordDown, ?recordEarly, ?dsn⟩
  case train =>
    intro hstate hholdover
    have hrelinks := trainLock_relinks (n := n) (d := d) hstate hholdover
    refine done_gives_link rfl hrelinks.link fun t ht hports hitems _ => ?_
    rw [ht]
    exact ⟨rfl, rfl, rfl, rfl, hports.trans hrelinks.ports, hitems.trans hrelinks.items⟩
  case noTrain =>
    exact fun hnot => done_becomes rfl (if_neg fun ⟨hstate, hholdover⟩ => hnot.elim (fun h => h hstate) fun h => by simp [d, h] at hholdover)
  case go =>
    rintro hport hpfl hstep hlanes rfl hlen hmark hrung hstage hindex hreq hcrc hrun
    refine done_becomes rfl ?_
    exact ptsReceive_counts hport ⟨hlen, hmark, hcrc⟩ hpfl hstep hrung (by omega) hlanes hstage hreq hrun
  case badSet => exact fun hport hbad => done_becomes rfl (ptsReceive_bad hport hbad)
  case last =>
    intro hstep hgo hall hrate
    obtain ⟨e, hlanes, hrun⟩ := rungComplete_last hstep hgo hall hrate
    obtain ⟨hlink, hkept⟩ := pflActive_enters n e
    have hsame : e.pfl n = y := congrArg (tget plkReset · n) hlanes.plk
    refine done_gives_link (congrArg (done s) hrun) hlink fun t ht hports _ _ => ?_
    rw [ht, hsame]
    exact ⟨rfl, rfl, hports.trans (hkept.trans hlanes.ports)⟩
  case next =>
    intro hstep hgo hall hrate hrecord
    have hrelinks := rungComplete_next hstep hgo hall hrate hrecord
    exact done_gives_link rfl hrelinks.link fun t ht hports _ _ => ⟨ht, hports.trans hrelinks.ports⟩
  case noRung => exact fun hstate => done_becomes rfl (rungComplete_other hstate)
  case loss => exact fun hlock hport hdsp hdown => done_becomes rfl (lockLoss_dsp hlock hport hdsp hdown)
  case pairLoss => exact fun hk hlock hnone => done_becomes rfl (lockLoss_pair hk hlock hnone)
  case noLoss => exact fun hlock => done_becomes rfl (lockLoss_unlocked hlock)
  case ckr =>
    intro hk hlock hfreq hone hstate
    have hrow : exec (.ckrLock k) s = done s (rungRestart n (lockPair d k)) := by
      show execCkrLock k s = _
      simp [execCkrLock, hk, hlock, hone, d]
    refine done_becomes hrow ?_
    rw [lockPair_known hfreq]
    exact rungRestart_other hstate
  case ckrLocked => exact fun hlock => done_becomes rfl (if_neg fun h => Bool.noConfusion (hlock.symm.trans h.2.1))
  case eye => exact fun hbusy => done_becomes rfl (if_pos hbusy)
  case noEye => exact fun hbusy => done_becomes rfl (if_neg (Bool.eq_false_iff.1 hbusy))
  case checker => exact fun htest hon hlocked => done_becomes rfl (if_pos ⟨htest, hon, hlocked⟩)
  case noChecker => exact fun htest => done_becomes rfl (if_neg fun h => Bool.noConfusion (htest.symm.trans h.1))
  case checkerLoss => exact fun hlocked => done_becomes rfl (if_pos hlocked)
  case noCheckerLoss => exact fun hlocked => done_becomes rfl (if_neg (Bool.eq_false_iff.1 hlocked))
  case record =>
    intro u hup hdsp hnone hat hdue hfresh
    refine done_gives_framed rfl (eqRecordWrite_first hup hdsp hnone hat hdue hfresh) fun _ _ _ => ?_
    exact ⟨firstRecord n d, rfl, rfl, rfl, rfl, rfl, rfl⟩
  case recordDown => exact fun hdown => done_becomes rfl (eqRecordWrite_down hdown)
  case recordEarly => exact fun u hat hearly => done_becomes rfl (eqRecordWrite_early hat hearly)
  case dsn => exact fun v hdsp hup => done_becomes rfl (if_pos ⟨hdsp, hup⟩)

end Sys2Proof.Machine
end

section
/-! What a PFL receiver makes of a flit (R172 to R187, R207), the ACK time-out (R184, R186), and their statement. -/

namespace Sys2Proof.Machine

/-! ## An object written twice -/

theorem tinsert_tinsert {α : Type} (n : Nat) (v w : α) (t : Tbl α) : tinsert n w (tinsert n v t) = tinsert n w t := by
  induction t with
  | nil => simp [tinsert]
  | cons e t ih =>
    obtain ⟨k, u⟩ := e
    rcases Nat.lt_trichotomy n k with h | rfl | h
    · simp [tinsert, h]
    · simp [tinsert]
    · simp [tinsert, Nat.not_lt.mpr h.le, h.ne', ih]

/-- Of two links written in turn the second stays, when neither is as at reset. -/
theorem setPfl_setPfl {x y : Plk} (hx : x.state ≠ .disabled) (hy : y.state ≠ .disabled) (n : Nat) (d : Device) :
    (d.setPfl n x).setPfl n y = d.setPfl n y := by
  have hx : x ≠ plkReset := fun h => hx (congrArg Plk.state h)
  have hy : y ≠ plkReset := fun h => hy (congrArg Plk.state h)
  simp [Device.setPfl, tset, hx, hy, tinsert_tinsert]

theorem Relinks.trans {n : Nat} {x y : Plk} {a b c : Device} (h : Relinks n x a b) (g : Relinks n y b c) : Relinks n y a c :=
  ⟨g.link, g.ports.trans h.ports, g.items.trans h.items, g.out.trans h.out⟩

/-! ## A good flit -/

/-- The link once a good flit has come. -/
def goodLink (now : Nat) (x : Plk) : Plk := { x with lastGood := now, rxIdle := false, lostInIdle := false }

/-- The device once a good flit has come: a partner that was idle has woken. -/
def heard (n : Nat) (d : Device) : Device :=
  (if (d.pfl n).rxIdle then { d with wokeAt := tinsert n d.now d.wokeAt } else d).setPfl n (goodLink d.now (d.pfl n))

theorem heard_relinks (n : Nat) (d : Device) : Relinks n (goodLink d.now (d.pfl n)) d (heard n d) := by
  unfold heard
  split
  · exact ⟨pfl_setPfl _ n _, rfl, rfl, rfl⟩
  · exact .setPfl n _ d

@[simp] theorem heard_now (n : Nat) (d : Device) : (heard n d).now = d.now := by unfold heard; split <;> rfl

@[simp] theorem heard_fab (n : Nat) (d : Device) : (heard n d).fab = d.fab := by unfold heard; split <;> rfl

/-- What a DATA flit holds (Table 7.1). -/
def dataOfFlit (f : Flit) : RxHeld :=
  { seq := u16 f.bytes 1, vl := u8 f.bytes 0 / 4 % 4, firstRec := u8 f.bytes 9, payload := (f.bytes.drop 10).take 232, items := f.items }

section
variable {n : Nat} {f : Flit} {d : Device}

theorem flitReceive_bad (h : flitGood f = false) :
    flitReceive n f d = d.setPfl n { d.pfl n with badFlits := satAdd 0xFFFFFFFF (d.pfl n).badFlits 1 } := by
  simp [flitReceive, h]

/-- A good flit in ACTIVE: a lock lost while the partner was idle shows (R207), then the acknowledgement, then DATA or messages. -/
theorem flitReceive_active (hgood : flitGood f = true) (hactive : (d.pfl n).state = .active) : flitReceive n f d =
    let e := if (d.pfl n).lostInIdle then startRetrain n 3 true (heard n d) else heard n d
    let e :=
      if (e.pfl n).state = .active then
        let e := if bitOf (u8 f.bytes 0) 5 then processAck n (u16 f.bytes 3) (u32 f.bytes 5) e else e
        if (e.pfl n).state = .active ∧ u8 f.bytes 0 % 4 = 1 then ackMoves n (e.pfl n) (receiveData n (dataOfFlit f) e) else e
      else e
    if u8 f.bytes 0 % 4 = 2 then (ctlMessages 14 ((f.bytes.drop 10).take 224)).foldl (fun d m => ctlArrives n m d) e else e := by
  have hends : endsRetrain (d.pfl n) f = false := by simp [endsRetrain, hactive]
  rw [flitReceive, if_pos hgood, heard, hends]
  cases (d.pfl n).rxIdle <;> rfl

variable (hgood : flitGood f = true) (hactive : (d.pfl n).state = .active)
include hgood hactive

/-- A lock lost while the partner was idle shows with its first flit (R207). -/
theorem flitReceive_lostLock (hlost : (d.pfl n).lostInIdle = true) (htype : u8 f.bytes 0 % 4 = 0) :
    flitReceive n f d = startRetrain n 3 true (heard n d) := by
  obtain ⟨e, he, hrun⟩ := startRetrain_leads (d := heard n d) (by rw [(heard_relinks n d).link]; exact hactive) 3
  have hretrain : ((startRetrain n 3 true (heard n d)).pfl n).state ≠ .active := by
    rw [hrun]
    exact fun h => PflState.noConfusion ((congrArg Plk.state he.link).symm.trans h)
  rw [flitReceive_active hgood hactive]
  simp [hlost, hretrain, htype]

variable (hlost : (d.pfl n).lostInIdle = false)
include hlost

theorem flitReceive_null (hack : bitOf (u8 f.bytes 0) 5 = false) (htype : u8 f.bytes 0 % 4 = 0) : flitReceive n f d = heard n d := by
  rw [flitReceive_active hgood hactive]
  simp [hlost, hack, htype, (heard_relinks n d).link, goodLink, hactive]

theorem flitReceive_ack (hack : bitOf (u8 f.bytes 0) 5 = true) (htype : u8 f.bytes 0 % 4 = 0) :
    flitReceive n f d = processAck n (u16 f.bytes 3) (u32 f.bytes 5) (heard n d) := by
  rw [flitReceive_active hgood hactive]
  simp [hlost, hack, htype, (heard_relinks n d).link, goodLink, hactive]

variable (hack : bitOf (u8 f.bytes 0) 5 = false)
include hack

theorem flitReceive_data (htype : u8 f.bytes 0 % 4 = 1) :
    flitReceive n f d = ackMoves n (goodLink d.now (d.pfl n)) (receiveData n (dataOfFlit f) (heard n d)) := by
  rw [flitReceive_active hgood hactive]
  simp [hlost, hack, htype, (heard_relinks n d).link, goodLink, hactive]

theorem flitReceive_control (htype : u8 f.bytes 0 % 4 = 2) :
    flitReceive n f d = (ctlMessages 14 ((f.bytes.drop 10).take 224)).foldl (fun d m => ctlArrives n m d) (heard n d) := by
  rw [flitReceive_active hgood hactive]
  simp [hlost, hack, htype, (heard_relinks n d).link, goodLink, hactive]

end

/-! ## The messages of a CONTROL flit -/

theorem flitGood_length {f : Flit} (h : flitGood f = true) : f.bytes.length = 250 := by
  simp only [flitGood, Bool.and_eq_true, decide_eq_true_eq] at h
  exact h.1.1.2

theorem u8_drop (bs : List Byte) (k i : Nat) : u8 (bs.drop k) i = u8 bs (k + i) := by simp [u8, List.getD]

theorem u8_take {k i : Nat} (h : i < k) (bs : List Byte) : u8 (bs.take k) i = u8 bs i := by simp [u8, List.getD, h]

/-- A message of one slot that no other follows is the only one (R176). -/
theorem ctlMessages_single {fuel : Nat} {bs : List Byte} (hne : bs ≠ []) (htype : u8 bs 0 ≠ 0) (hslots : u8 bs 1 = 1) (hend : u8 bs 16 = 0) :
    ctlMessages (fuel + 2) bs = [bs.take 16] := by
  simp [ctlMessages, hne, htype, hslots, u8_drop, hend]

/-- An idle notice alone in its flit (R207). -/
theorem ctlMessages_idle {bs : List Byte} (hlen : bs.length = 250) (htype : u8 bs 10 = 6) (hslots : u8 bs 11 = 1) (hend : u8 bs 26 = 0) :
    ctlMessages 14 ((bs.drop 10).take 224) = [(bs.drop 10).take 16] := by
  have hu (i : Nat) (h : i < 224) : u8 ((bs.drop 10).take 224) i = u8 bs (10 + i) := by rw [u8_take h, u8_drop]
  have hne : (bs.drop 10).take 224 ≠ [] := fun h => by simpa [hlen] using congrArg List.length h
  rw [ctlMessages_single hne (by rw [hu 0 (by decide), htype]; decide) ((hu 1 (by decide)).trans hslots) ((hu 16 (by decide)).trans hend),
    List.take_take]
  rfl

theorem ctlArrives_idle {n : Nat} {m : List Byte} {d : Device} (htype : u8 m 0 = 6) (hactive : (d.pfl n).state = .active) :
    ctlArrives n m d = d.setPfl n { d.pfl n with rxIdle := true } := by
  simp [ctlArrives, htype, idleNoticed, hactive]

/-! ## The records of a DATA flit -/

theorem u8_padTo (m : Nat) (bs : List Byte) (i : Nat) : u8 (padTo m bs) i = u8 bs i := by
  unfold u8 padTo
  congr 1
  rcases Nat.lt_or_ge i bs.length with h | h
  · simp [List.getD, List.getElem?_append_left h]
  · simp only [List.getD, List.getElem?_append_right h, List.getElem?_replicate, List.getElem?_eq_none h]
    split <;> rfl

theorem u16_append {bs : List Byte} {i : Nat} (h : i + 2 ≤ bs.length) (cs : List Byte) : u16 (bs ++ cs) i = u16 bs i := by
  have hi : i ≤ bs.length := by omega
  have htwo : 2 ≤ (bs.drop i).length := by rw [List.length_drop]; omega
  unfold u16
  rw [List.drop_append_of_le_length hi, List.take_append_of_le_length htwo]

/-- No record begins in a flit's padding. -/
theorem cutRecords_zeros (fuel k : Nat) : cutRecords (fuel + 1) (List.replicate k 0) = ([], []) := by
  have hu : u8 (List.replicate k (0 : Byte)) 0 = 0 := by
    unfold u8 List.getD
    rw [List.getElem?_replicate]
    split <;> rfl
  exact if_pos (.inr (by rw [hu]; decide))

/-- One record and padding are cut into the record. -/
theorem cutRecords_single {r : List Byte} (hlen : r.length = recordLen r) (hversion : u8 r 0 / 16 = 1) (fuel m : Nat) :
    cutRecords (fuel + 2) (padTo m r) = ([r], []) := by
  have hbase : 16 ≤ r.length := by rw [hlen, recordLen]; omega
  have hrec : recordLen (padTo m r) = r.length := by
    rw [hlen, recordLen, recordLen, u8_padTo, padTo, u16_append (by omega)]
  have hne : (padTo m r).isEmpty = false := by
    cases r with
    | nil => cases hbase
    | cons b r => rfl
  have hlong : r.length ≤ (padTo m r).length := by simp [padTo]
  have hshort : ¬ ((padTo m r).length < 16 ∨ (padTo m r).length < recordLen (padTo m r)) := by omega
  rw [cutRecords, if_neg (by simp [hne, u8_padTo, hversion]), if_neg hshort, hrec]
  simp only [padTo, List.take_left, List.drop_left, cutRecords_zeros]

theorem recordArrival_fab {n : Nat} {b : List Byte} {given : Option Arrival} {a : Arrival} (hkind : u8 b 0 % 16 ≤ 1)
    (h : recordArrival n b given = some a) : a.fab = some (fabOfBytes b) := by
  rcases Nat.le_one_iff_eq_zero_or_eq_one.mp hkind with h0 | h1
  · simp only [recordArrival, h0, Option.map_eq_some_iff] at h
    obtain ⟨g, -, rfl⟩ := h
    rfl
  · simp only [recordArrival, h1, Option.some.injEq] at h
    rw [← h]

theorem itemVl_of_fab {d e : Device} (h : e.fab = d.fab) (t : Tlp) (q : Nat) : itemVl t q e = itemVl t q d := by
  simp [itemVl, vlOfQueue, h]

/-- The combination of VL and class that an item of fabric header h takes credit of. -/
def itemCredit (x : Plk) (a : Arrival) (h : FabHdr) (d : Device) : PflCredit := creditOf x (itemVl a.tlp h.queue d) h.cls

/-- The item stays within the credit that the port has granted. -/
def WithinCredit (x : Plk) (a : Arrival) (h : FabHdr) (d : Device) : Prop :=
  let c := itemCredit x a h d
  1 ≤ creditLeft c.rxHdr c.hdrFreed c.hdrRx ∧ cellsOf (payloadLen a.tlp) ≤ creditLeft c.rxData c.dataFreed c.dataRx

/-- The link after it has delivered an item within credit (R193). -/
def deliveredLink (a : Arrival) (h : FabHdr) (d : Device) (x : Plk) : Plk :=
  let c := itemCredit x a h d
  { setCredit x (itemVl a.tlp h.queue d) h.cls
      { c with hdrRx := (c.hdrRx + 1) % 2 ^ 32, dataRx := (c.dataRx + cellsOf (payloadLen a.tlp)) % 2 ^ 32 } with
    delivered := x.delivered ++ [a] }

section
variable {n : Nat} {a : Arrival} {h : FabHdr} {d : Device} (hactive : (d.pfl n).state = .active) (hfab : a.fab = some h)
  (hcredit : WithinCredit (d.pfl n) a h d)
include hactive hfab hcredit

theorem deliverItem_within : deliverItem n a d = d.setPfl n (deliveredLink a h d (d.pfl n)) := by
  rw [deliverItem, if_neg (not_not_intro hactive), hfab]
  exact if_pos hcredit

/-- An item that is not of VL3 waits for panel lookup. -/
theorem deliverRecord_within {b : List Byte} {given : Option Arrival} (harrival : recordArrival n b given = some a)
    (hcontrol : isControl a.tlp.kind = false) : deliverRecord n b given d = d.setPfl n (deliveredLink a h d (d.pfl n)) := by
  simp [deliverRecord, harrival, hcontrol, deliverItem_within hactive hfab hcredit]

end

section
variable {n : Nat} {h : RxHeld} {d : Device} (hparts : (d.pfl n).rxParts = [])
include hparts

/-- A flit in which no record begins delivers none. -/
theorem deliverPayload_none (hfirst : 57 < h.firstRec) : deliverPayload n h d = d.setPfl n { d.pfl n with rxParts := [] } := by
  simp [deliverPayload, hparts, tget, Nat.not_le.mpr hfirst, cutRecords, tset, terase]

/-- A flit with one record delivers it. -/
theorem deliverPayload_single {r : List Byte} (hfirst : h.firstRec = 0) (hpayload : h.payload = padTo 232 r) (hlen : r.length = recordLen r)
    (hversion : u8 r 0 / 16 = 1) :
    deliverPayload n h d = deliverRecord n r h.items.head? (d.setPfl n { d.pfl n with rxParts := [] }) := by
  simp [deliverPayload, hparts, tget, hfirst, hpayload, cutRecords_single hlen hversion, tset, terase]

end

/-- A flit with one record of an item within credit delivers the item. -/
theorem deliverPayload_within {n : Nat} {k : RxHeld} {r : List Byte} {a : Arrival} {h : FabHdr} {d : Device} (hparts : (d.pfl n).rxParts = [])
    (hfirst : k.firstRec = 0) (hpayload : k.payload = padTo 232 r) (hlen : r.length = recordLen r) (hversion : u8 r 0 / 16 = 1)
    (hactive : (d.pfl n).state = .active) (hfab : a.fab = some h)
    (hcredit : WithinCredit (d.pfl n) a h d) (harrival : recordArrival n r k.items.head? = some a) (hcontrol : isControl a.tlp.kind = false) :
    Relinks n (deliveredLink a h d { d.pfl n with rxParts := [] }) d (deliverPayload n k d) := by
  let y := { d.pfl n with rxParts := [] }
  have hy : (d.setPfl n y).pfl n = y := pfl_setPfl d n y
  have hrecord := deliverRecord_within (d := d.setPfl n y) (by rw [hy]; exact hactive) hfab (by rw [hy]; exact hcredit) harrival hcontrol
  rw [deliverPayload_single hparts hfirst hpayload hlen hversion, hrecord, hy]
  exact (Relinks.setPfl n y d).trans (.setPfl n _ _)

/-! ## The window of DATA flits -/

theorem deliverHeld_empty {n : Nat} {d : Device} (h : (d.pfl n).held = []) (fuel : Nat) : deliverHeld n fuel d = d := by
  cases fuel with
  | zero => rfl
  | succ fuel => simp [deliverHeld, h]

/-- The link as its next DATA flit is delivered (R187). -/
def nextLink (now : Nat) (x : Plk) : Plk := { x with held := [], seen := 0, quietSince := now, rxNext := (x.rxNext + 1) % 65536 }

section
variable {n : Nat} {h : RxHeld} {d : Device}

/-- The next DATA flit in sequence is delivered (R179). -/
theorem receiveData_next (hseq : h.seq = (d.pfl n).rxNext) (hheld : (d.pfl n).held = []) :
    ∃ e, Relinks n (nextLink d.now (d.pfl n)) d e ∧ e.fab = d.fab ∧
      receiveData n h d = deliverHeld n 256 (deliverPayload n h e) := by
  have hk : (h.seq + 65536 - (d.pfl n).rxNext) % 65536 = 0 := by omega
  let y : Plk := { d.pfl n with held := [h], seen := max (d.pfl n).seen 1, quietSince := d.now }
  have hy : (d.setPfl n y).pfl n = y := pfl_setPfl d n y
  refine ⟨(d.setPfl n y).setPfl n (nextLink d.now (d.pfl n)), (Relinks.setPfl n y d).trans (.setPfl n _ _), rfl, ?_⟩
  have hrun : receiveData n h d = deliverHeld n 257 (d.setPfl n y) := by simp [receiveData, hk, hheld, y]
  have hfind : y.held.find? (fun g => decide (g.seq = y.rxNext)) = some h := by simp [y, hseq]
  have hleft : y.held.filter (fun g => decide (g.seq ≠ h.seq)) = [] := by simp [y]
  rw [hrun, deliverHeld, hy]
  simp only [hfind, hleft]
  rfl

/-- One seen before is a duplicate (R182). -/
theorem receiveData_seen (hold : 64511 < (h.seq + 65536 - (d.pfl n).rxNext) % 65536) : receiveData n h d =
    d.setPfl n { d.pfl n with dups := satAdd 0xFFFFFFFF (d.pfl n).dups 1, forceAck := true } := by
  rw [receiveData, if_neg (by omega), if_neg (by omega), if_neg (by omega)]

/-- One beyond the window is counted (R182). -/
theorem receiveData_beyond (hbeyond : 256 ≤ (h.seq + 65536 - (d.pfl n).rxNext) % 65536)
    (hnear : (h.seq + 65536 - (d.pfl n).rxNext) % 65536 ≤ 1023) :
    ∃ seen, receiveData n h d = d.setPfl n { d.pfl n with beyond := satAdd 0xFFFFFFFF (d.pfl n).beyond 1, seen := seen } :=
  ⟨_, (if_neg (by omega)).trans (if_pos hnear)⟩

/-- One far off starts a retrain (R182). -/
theorem receiveData_far (hfar : 1024 ≤ (h.seq + 65536 - (d.pfl n).rxNext) % 65536) (hnew : (h.seq + 65536 - (d.pfl n).rxNext) % 65536 ≤ 64511) :
    receiveData n h d = startRetrain n 4 true (pflRaise n 0x20 d) := by
  rw [receiveData, if_neg (by omega), if_neg (by omega), if_pos hnew]

end

/-- An acknowledgement that moves ends a quiet time, and nothing else. -/
theorem ackMoves_relinks (n : Nat) (old : Plk) (d : Device) : ∃ quiet idle force,
    Relinks n { d.pfl n with quietSince := quiet, txIdle := idle, forceAck := force } d (ackMoves n old d) := by
  unfold ackMoves
  extract_lets x undone
  split
  · exact ⟨_, _, _, .setPfl n _ d⟩
  · exact ⟨x.quietSince, x.txIdle, x.forceAck, rfl, rfl, rfl, rfl⟩

theorem ackMoves_still {n : Nat} {old : Plk} {d : Device} (hnext : (d.pfl n).rxNext = old.rxNext) (hmap : nakMap (d.pfl n) = nakMap old) :
    ackMoves n old d = d := by
  simp [ackMoves, hnext, hmap]

theorem ackMoves_inactive {n : Nat} {old : Plk} {d : Device} (h : (d.pfl n).state ≠ .active) : ackMoves n old d = d := if_neg fun k => h k.1

/-! ## Acknowledgements and the ACK time-out -/

section
variable {n : Nat} {g : TxFlit} {d : Device} (hreplay : (d.pfl n).replay = [g])
include hreplay

/-- An acknowledgement of the one flit that waits for it frees the flit; the items that end in it leave (R181). -/
theorem processAck_frees (hsent : g.sentOnce = false) (hnext : (d.pfl n).txNext = g.seq + 1) (nak : Nat) :
    processAck n (g.seq + 1) nak d = { d.setPfl n { d.pfl n with replay := [], quietSince := d.now } with
      items := d.items.filter fun i => !g.ends.contains i.id } := by
  have hahead : (g.seq + 1 + 65536 - (d.pfl n).txNext) % 65536 = 0 := by omega
  have hcovers : (g.seq + 1 + 65536 - g.seq) % 65536 = 1 := by omega
  simp [processAck, hahead, hcovers, hreplay, hsent]

variable (hdue : g.lastSent + (d.pfl n).ackNs ≤ d.now) (hactive : (d.pfl n).state = .active) (hwaits : g.due = false)

theorem ackProbe_early (h : d.now < g.lastSent + (d.pfl n).ackNs) : ackProbe n d = d := by
  simp [ackProbe, hreplay, Nat.not_le.mpr h]

include hdue hactive hwaits

theorem ackProbe_late : ackProbe n d = makeDue n g.seq true d := by
  simp [ackProbe, hreplay, hactive, hwaits, hdue]

/-- R184: the oldest flit is due again. -/
theorem ackProbe_probes (hlimit : g.retransmissions < (d.pfl n).limit) : ackProbe n d =
    d.setPfl n { d.pfl n with replay := [{ g with due := true, resend := false, probe := true }] } := by
  rw [ackProbe_late hreplay hdue hactive hwaits]
  simp [makeDue, hreplay, Nat.not_le.mpr hlimit]

/-- R186: at LIMIT the flit is marked and a fast retrain starts. -/
theorem ackProbe_retrains (hlimit : (d.pfl n).limit ≤ g.retransmissions) (hmarked : g.marked = false) : ackProbe n d =
    startRetrain n 1 true (pflRaise n 0x10 (d.setPfl n { d.pfl n with replay := [{ g with marked := true }] })) := by
  rw [ackProbe_late hreplay hdue hactive hwaits]
  simp [makeDue, replayLimit, hreplay, hlimit, hmarked]

end

/-- What a retrain of a link that has raised an interrupt leaves. -/
theorem startRetrain_raised {n : Nat} {d : Device} (hactive : (d.pfl n).state = .active) (cause : Nat) (bits : BitVec 6) :
    ((startRetrain n cause true (pflRaise n bits d)).pfl n =
      retrainingLink cause true d.now { d.pfl n with intStatus := (d.pfl n).intStatus ||| bits }) ∧
    (startRetrain n cause true (pflRaise n bits d)).items = d.items := by
  have hraised : (pflRaise n bits d).pfl n = { d.pfl n with intStatus := (d.pfl n).intStatus ||| bits } := pfl_setPfl d n _
  obtain ⟨e, he, hrun⟩ := startRetrain_leads (d := pflRaise n bits d) (by rw [hraised]; exact hactive) cause
  rw [hrun]
  exact ⟨he.link.trans (congrArg _ hraised), he.items⟩

/-! ## DATA flits in ACTIVE -/

section
variable {n : Nat} {f : Flit} {d : Device} (hgood : flitGood f = true) (hactive : (d.pfl n).state = .active)
  (hlost : (d.pfl n).lostInIdle = false) (hack : bitOf (u8 f.bytes 0) 5 = false) (htype : u8 f.bytes 0 % 4 = 1)
include hgood hactive hlost hack htype

/-- A DATA flit after which the link is y, but for what ends a quiet time. -/
theorem flitReceive_relinks {y : Plk} (h : Relinks n y d (receiveData n (dataOfFlit f) (heard n d))) : ∃ quiet idle force,
    Relinks n { y with quietSince := quiet, txIdle := idle, forceAck := force } d (flitReceive n f d) := by
  obtain ⟨quiet, idle, force, hmoves⟩ :=
    ackMoves_relinks n (goodLink d.now (d.pfl n)) (receiveData n (dataOfFlit f) (heard n d))
  rw [h.link] at hmoves
  rw [flitReceive_data hgood hactive hlost hack htype]
  exact ⟨quiet, idle, force, h.trans hmoves⟩

/-- The next DATA flit in sequence does what its records do (R187). -/
theorem flitReceive_next (hseq : u16 f.bytes 1 = (d.pfl n).rxNext) (hheld : (d.pfl n).held = []) :
    ∃ e, Relinks n (nextLink d.now (goodLink d.now (d.pfl n))) d e ∧ e.fab = d.fab ∧
      ∀ y, y.held = [] → Relinks n y e (deliverPayload n (dataOfFlit f) e) → ∃ quiet idle force,
        Relinks n { y with quietSince := quiet, txIdle := idle, forceAck := force } d (flitReceive n f d) := by
  have hlink := (heard_relinks n d).link
  obtain ⟨e, he, hfab, hrun⟩ := receiveData_next (d := heard n d) (h := dataOfFlit f) (by rw [hlink]; exact hseq) (by rw [hlink]; exact hheld)
  rw [hlink, heard_now] at he
  have he := (heard_relinks n d).trans he
  refine ⟨e, he, hfab.trans (heard_fab n d), fun y hy h => flitReceive_relinks hgood hactive hlost hack htype ?_⟩
  rw [hrun, deliverHeld_empty ((congrArg Plk.held h.link).trans hy)]
  exact he.trans h

end

/-! ## The statement -/

theorem execPflFlitReceive_pfl {n : Nat} {f : Flit} {s : State} (hpfl : (s.dev.port n).personality = .pfl) {d : Device}
    (h : flitReceive n f s.dev = d) : exec (.pflFlitReceive n f) s = done s d :=
  congrArg (done s) ((if_pos hpfl).trans h)

/-- Settles O24: each kind of flit comes down to what one function does with the device that has heard it. -/
theorem flitsAreReceivedInOrder : Obligations.FlitsAreReceivedInOrder := by
  intro s n f d x good woken seq
  have hlink : (heard n d).pfl n = good := (heard_relinks n d).link
  have hitems : (heard n d).items = d.items := (heard_relinks n d).items
  refine ⟨?bad, ?notPfl, ?lostLock, ?active, ?ack, ?probe⟩
  case bad => exact fun hpfl hbad => done_becomes (execPflFlitReceive_pfl hpfl (flitReceive_bad hbad)) rfl
  case notPfl => exact fun hpfl => done_becomes rfl (if_neg hpfl)
  case lostLock =>
    intro hpfl hgood hactive hlost htype
    obtain ⟨e, he, hrun⟩ := startRetrain_leads (d := heard n d) (by rw [hlink]; exact hactive) 3
    refine done_gives_link (execPflFlitReceive_pfl hpfl ((flitReceive_lostLock hgood hactive hlost htype).trans hrun)) he.link
      fun t ht _ hi _ => ?_
    rw [ht, hlink]
    exact ⟨rfl, rfl, rfl, hi.trans (he.items.trans hitems)⟩
  case active =>
    intro hpfl hgood hactive hlost hack hnext
    have hup : good.state ≠ .disabled := fun h => PflState.noConfusion (hactive.symm.trans h)
    have hagain (y : Plk) (hy : y.state = good.state) : (heard n d).setPfl n y = woken.setPfl n y := setPfl_setPfl hup (hy ▸ hup) n woken
    have hdata (htype : u8 f.bytes 0 % 4 = 1) := execPflFlitReceive_pfl hpfl (flitReceive_data hgood hactive hlost hack htype)
    refine ⟨?null, ?idle, ?noRecord, ?record, ?seen, ?beyond, ?far⟩
    case null => exact fun htype => done_becomes (execPflFlitReceive_pfl hpfl (flitReceive_null hgood hactive hlost hack htype)) rfl
    case idle =>
      intro htype hnotice hslots hend
      refine done_becomes (execPflFlitReceive_pfl hpfl (flitReceive_control hgood hactive hlost hack htype)) ?_
      have hmessage : u8 ((f.bytes.drop 10).take 16) 0 = 6 := by rw [u8_take (by decide), u8_drop, hnotice]
      rw [ctlMessages_idle (flitGood_length hgood) hnotice hslots hend, List.foldl_cons, List.foldl_nil,
        ctlArrives_idle hmessage (by rw [hlink]; exact hactive), hlink]
      exact hagain _ rfl
    case noRecord =>
      intro htype hseq hheld hparts hfirst
      obtain ⟨e, he, -, hdelivers⟩ := flitReceive_next hgood hactive hlost hack htype hseq hheld
      have hpayload : deliverPayload n (dataOfFlit f) e = e.setPfl n { e.pfl n with rxParts := [] } :=
        deliverPayload_none (by rw [he.link]; exact hparts) (hfirst ▸ by decide : 57 < u8 f.bytes 9)
      rw [he.link] at hpayload
      obtain ⟨quiet, idle, force, hflit⟩ := hdelivers _ rfl (by rw [hpayload]; exact .setPfl n _ e)
      refine done_gives_link (execPflFlitReceive_pfl hpfl rfl) hflit.link fun t ht hp hi _ => ?_
      rw [ht]
      exact ⟨rfl, rfl, rfl, rfl, hi.trans hflit.items, hp.trans hflit.ports⟩
    case record =>
      intro r a htype hseq hheld hparts hfirst hpayload hlen _ hversion hkind harrival hcontrol h c hhdr hcells
      obtain ⟨e, he, hfab, hdelivers⟩ := flitReceive_next hgood hactive hlost hack htype hseq hheld
      have hcredit : WithinCredit (e.pfl n) a h e := by
        have hsame : itemCredit (e.pfl n) a h e = c := by rw [he.link, itemCredit, itemVl_of_fab hfab]; rfl
        rw [WithinCredit, hsame]
        exact ⟨hhdr, hcells⟩
      have hrun := deliverPayload_within (k := dataOfFlit f) (d := e) (by rw [he.link]; exact hparts) hfirst hpayload hlen hversion
        (by rw [he.link]; exact hactive) (recordArrival_fab hkind harrival) hcredit harrival hcontrol
      rw [he.link] at hrun
      obtain ⟨quiet, idle, force, hflit⟩ := hdelivers _ rfl hrun
      refine done_gives_link (execPflFlitReceive_pfl hpfl rfl) hflit.link fun t ht hp hi _ => ?_
      rw [ht]
      exact ⟨rfl, rfl, hi.trans hflit.items, hp.trans hflit.ports⟩
    case seen =>
      intro htype hk
      refine done_becomes (hdata htype) ?_
      rw [receiveData_seen (by rw [hlink]; exact hk), hlink, ackMoves_still (by rw [pfl_setPfl]; rfl) (by rw [pfl_setPfl]; rfl)]
      exact hagain _ rfl
    case beyond =>
      intro htype hbeyond hnear
      obtain ⟨seen, hrun⟩ := receiveData_beyond (h := dataOfFlit f) (n := n) (d := heard n d) (by rw [hlink]; exact hbeyond)
        (by rw [hlink]; exact hnear)
      rw [hlink] at hrun
      obtain ⟨quiet, idle, force, hflit⟩ := flitReceive_relinks hgood hactive hlost hack htype
        (by rw [hrun]; exact (heard_relinks n d).trans (.setPfl n _ _))
      refine done_gives_link (execPflFlitReceive_pfl hpfl rfl) hflit.link fun t ht _ hi _ => ?_
      rw [ht]
      exact ⟨rfl, rfl, rfl, hi.trans hflit.items⟩
    case far =>
      intro htype hfar hnew
      have hactive' : ((heard n d).pfl n).state = .active := by rw [hlink]; exact hactive
      obtain ⟨hretrain, hstay⟩ := startRetrain_raised hactive' 4 0x20
      have hrun := hdata htype
      rw [receiveData_far (by rw [hlink]; exact hfar) (by rw [hlink]; exact hnew), ackMoves_inactive (by rw [hretrain]; exact nofun)] at hrun
      refine done_gives_link hrun hretrain fun t ht _ hi _ => ?_
      rw [ht, hlink]
      exact ⟨rfl, rfl, by simp [retrainingLink], rfl, hi.trans (hstay.trans hitems)⟩
  case ack =>
    intro g hpfl hgood hactive hlost htype hack hreplay hsent hseq hackSeq htxNext
    have hrun := processAck_frees (n := n) (d := heard n d) (by rw [hlink]; exact hreplay) hsent (by rw [hlink]; exact htxNext) (u32 f.bytes 5)
    have hflit := flitReceive_ack hgood hactive hlost hack htype
    rw [hackSeq] at hflit
    refine done_gives_link (execPflFlitReceive_pfl hpfl (hflit.trans hrun)) (pfl_setPfl _ n _) fun t ht _ hi _ => ?_
    rw [ht, hi, hitems]
    exact ⟨rfl, rfl⟩
  case probe =>
    intro g hreplay hactive hwaits
    refine ⟨fun hlimit hdue => ?_, fun hlimit hmarked hdue => ?_, fun hearly => ?_⟩
    · exact done_becomes rfl (ackProbe_probes hreplay hdue hactive hwaits hlimit)
    · obtain ⟨hretrain, hstay⟩ := startRetrain_raised (n := n) (d := d.setPfl n { x with replay := [{ g with marked := true }] })
        (by rw [pfl_setPfl]; exact hactive) 1 0x10
      rw [pfl_setPfl] at hretrain
      refine done_gives_link (congrArg (done s) (ackProbe_retrains hreplay hdue hactive hwaits hlimit hmarked)) hretrain
        fun t ht _ hi _ => ?_
      rw [ht]
      exact ⟨rfl, rfl, rfl, hi.trans hstay⟩
    · exact done_becomes rfl (ackProbe_early hreplay hearly)

end Sys2Proof.Machine
end

section
/-! Fabric mode (chapter 8): what electing the time master leaves, and what the loss of a FID leaves of the fabric's tables. -/

namespace Sys2Proof.Machine

/-! ## Electing the time master (R240, R243) -/

/-- LOCK_LOST is set as TIME_LOCKED falls (R242). -/
theorem setLocked_eq (on : Bool) (d : Device) : setLocked on d = { d with fab := { d.fab with
    timeLocked := on,
    intStatus := if d.fab.timeLocked && !on then d.fab.intStatus ||| 0x40 else d.fab.intStatus } } := by
  unfold setLocked
  extract_lets was d'
  by_cases h : (d.fab.timeLocked && !on) = true
  · rw [if_pos h, if_pos h]; rfl
  · rw [if_neg h, if_neg h]

/-- Fabric mode beside what an election can change. -/
def Fab.besideElection (f : Fab) : Fab :=
  { f with masterValid := false, masterFid := 0, timeLocked := false, parentPort := 0, hops := 0, holdover := false, holdoverAt := 0,
           parentLost := false, goodOffsets := 0, badOffsets := 0, parentLocked := false, slew := 0, intStatus := 0 }

/-- An election concerns the master, the parent and the lock; it clears no interrupt. -/
theorem electMaster_frame (d : Device) : ∃ f, electMaster d = { d with fab := f } ∧ f.besideElection = d.fab.besideElection ∧
    ∀ i, d.fab.intStatus.getLsbD i = true → f.intStatus.getLsbD i = true := by
  unfold electMaster
  extract_lets f without
  split
  · exact ⟨_, rfl, rfl, fun _ h => h⟩
  · split
    · rw [setLocked_eq]
      refine ⟨_, rfl, rfl, fun i h => ?_⟩
      split
      · exact (BitVec.getLsbD_or ..).trans (by rw [show f.intStatus.getLsbD i = true from h, Bool.true_or])
      · exact h
    · split
      · exact ⟨_, rfl, rfl, fun _ h => h⟩
      · exact ⟨_, rfl, rfl, fun _ h => h⟩

/-! ## What the RMA engine leaves (R280, R376) -/

/-- Fabric mode and the tracker. -/
def Device.fabricWork (d : Device) : Fab × List Track := (d.fab, d.tracks)

theorem toError_fabricWork (n status : Nat) (psn : Option Nat) (d : Device) : (toError n status psn d).fabricWork = d.fabricWork := by
  unfold toError
  split
  · rfl
  · split
    · rfl
    · extract_lets
      split <;> rfl

theorem placementFails_fabricWork (f : Fn) (a : Nat) (d : Device) : (placementFails f a d).fabricWork = d.fabricWork := by
  unfold placementFails
  extract_lets
  split
  · exact toError_fabricWork _ 0 none d
  · split
    · exact toError_fabricWork _ 7 _ d
    · rfl

theorem localDma_fabricWork (f : Fn) (a : Nat) (d : Device) : (localDma f a d).fabricWork = d.fabricWork := by
  unfold localDma
  extract_lets
  split
  · exact placementFails_fabricWork f a d
  · split
    · exact toError_fabricWork _ 7 _ _
    · exact toError_fabricWork _ 7 _ d

theorem askFails_fabricWork (f : Fn) (page : Nat) (d : Device) : (askFails f page d).fabricWork = d.fabricWork := by
  unfold askFails
  refine List.foldlRecOn _ _ (motive := fun (e : Device) => e.fabricWork = d.fabricWork) rfl fun e he a _ => Eq.trans ?_ he
  split
  · rfl
  · split
    · rfl
    · split
      · split
        · exact toError_fabricWork _ 7 _ e
        · exact toError_fabricWork _ 7 _ _
      · split
        · exact toError_fabricWork _ 7 _ e
        · exact toError_fabricWork _ 0 none e

/-! ## What reports of losses leave (R230, R231, R233) -/

/-- Fabric mode beside what reports of losses can change. -/
def Fab.besideLoss (f : Fab) : Fab := { f with intStatus := 0, cntSynth := 0, synthInfo := { reqId := 0, fid := 0, port := 0 } }

/-- The ports stay, and fabric mode beside the reports of losses, which clear no interrupt. -/
structure KeepsFabric (d d' : Device) : Prop where
  ports : d'.ports = d.ports
  fab : d'.fab.besideLoss = d.fab.besideLoss
  raised : ∀ i, d.fab.intStatus.getLsbD i = true → d'.fab.intStatus.getLsbD i = true

namespace KeepsFabric

theorem of_eq {d d' : Device} (hports : d'.ports = d.ports) (hfab : d'.fab = d.fab) : KeepsFabric d d' :=
  ⟨hports, congrArg Fab.besideLoss hfab, fun _ h => by rw [hfab]; exact h⟩

theorem refl (d : Device) : KeepsFabric d d := of_eq rfl rfl

theorem trans {a b c : Device} (h : KeepsFabric a b) (g : KeepsFabric b c) : KeepsFabric a c :=
  ⟨g.ports.trans h.ports, g.fab.trans h.fab, fun i hi => g.raised i (h.raised i hi)⟩

theorem foldl {β : Type} {f : Device → β → Device} (h : ∀ d x, KeepsFabric d (f d x)) (l : List β) (d : Device) :
    KeepsFabric d (l.foldl f d) :=
  List.foldlRecOn l f (motive := KeepsFabric d) (.refl d) fun e he x _ => he.trans (h e x)

theorem raise (bits : BitVec 8) (d : Device) : KeepsFabric d (fabRaise bits d) :=
  ⟨rfl, rfl, fun i h => by simp [fabRaise, h]⟩

section
variable {d d' : Device} (h : KeepsFabric d d')
include h

theorem routes : d'.fab.routes = d.fab.routes := (congrArg Fab.routes h.fab :)
theorem adverts : d'.fab.adverts = d.fab.adverts := (congrArg Fab.adverts h.fab :)
theorem reach : d'.fab.reach = d.fab.reach := (congrArg Fab.reach h.fab :)
theorem dup : d'.fab.dup = d.fab.dup := (congrArg Fab.dup h.fab :)

end

end KeepsFabric

theorem countGlobal_keepsFabric (e p n : Nat) (d : Device) : KeepsFabric d (countGlobal e p n d) := by
  obtain ⟨k, c, h⟩ := countGlobal_frame e p n d
  rw [h]; exact .of_eq rfl rfl

theorem sendVector_keepsFabric (f : Fn) (v : Nat) (d : Device) : KeepsFabric d (sendVector f v d) := by
  obtain ⟨i, m, h⟩ := sendVector_frame f v d
  rw [h]; exact .of_eq rfl rfl

theorem emitAway_keepsFabric (f : FabHdr) (c : Tlp) (d : Device) : KeepsFabric d (emitAway f c d) := by
  obtain ⟨o, h⟩ := emitAway_frame f c d
  rw [h]; exact .of_eq rfl rfl

theorem lockFails_keepsFabric (n : Nat) (k : Kind) (d : Device) : KeepsFabric d (lockFails n k d) := by
  obtain ⟨l, h⟩ := lockFails_frame n k d
  rw [h]; exact .of_eq rfl rfl

theorem logSynth_keepsFabric (r f p n : Nat) (d : Device) : KeepsFabric d (logSynth r f p n d) := by
  unfold logSynth
  extract_lets x info d₁
  have h₁ : KeepsFabric d d₁ := ⟨rfl, rfl, fun _ h => h⟩
  exact (h₁.trans (.raise 4 d₁)).trans (countGlobal_keepsFabric 0x108 n 1 _)

/-- A journal entry that is lost raises its interrupt (R238, R239). -/
theorem journalWrite_keepsFabric (p src : Nat) (e : JournalEntry) (d : Device) : KeepsFabric d (journalWrite p src e d) := by
  have hlost : KeepsFabric d (journalLost p d) := ⟨rfl, rfl, (KeepsFabric.raise 0x80 d).raised⟩
  unfold journalWrite
  extract_lets j phase
  split
  · exact hlost
  · split
    · exact hlost
    · extract_lets d₁ d₂ d₃
      have h₂ : KeepsFabric d d₂ := .of_eq rfl rfl
      have h₃ : KeepsFabric d d₃ := h₂.trans (countGlobal_keepsFabric 0x107 p 1 d₂)
      split
      · exact h₃.trans (sendVector_keepsFabric _ j.vector d₃)
      · exact h₃

theorem failPiece_keepsFabric (t : Track) (st : CplStatus) (synth : Bool) (d : Device) : KeepsFabric d (failPiece t st synth d) := by
  have hend : (failPiece t st synth d).fab = d.fab := by
    unfold failPiece
    extract_lets t₁ d₁
    have h₁ : d₁.fab = d.fab := by
      obtain ⟨i, n, h⟩ := endRequest_frame t₁ st synth d
      exact (congrArg Device.fab h :)
    split
    · split <;> rfl
    · split
      · split <;> exact h₁
      · unfold keepTrack
        split <;> rfl
  exact .of_eq (ports_of_layout (failPiece_layout t st synth d)) hend

theorem synthTrack_keepsFabric (fid port : Nat) (t : Track) (d : Device) : KeepsFabric d (synthTrack fid port t d) := by
  unfold synthTrack
  extract_lets mark d₁
  have hmark (e : Device) : KeepsFabric e (mark e) := .of_eq rfl rfl
  have h₁ : KeepsFabric d d₁ := (logSynth_keepsFabric _ fid port t.part d).trans (lockFails_keepsFabric _ _ _)
  split
  · refine (hmark d).trans ?_
    split
    · exact .of_eq (ports_of_layout (askFails_layout ..)) (congrArg Prod.fst (askFails_fabricWork ..))
    · exact .of_eq (ports_of_layout (localDma_layout ..)) (congrArg Prod.fst (localDma_fabricWork ..))
  · refine h₁.trans ?_
    split
    · exact failPiece_keepsFabric t .ca true d₁
    · refine (hmark d₁).trans ?_
      split
      · exact emitAway_keepsFabric _ _ (mark d₁)
      · exact .of_eq rfl rfl

theorem lostEntry_keepsFabric (fid : Nat) (d : Device) (p : Nat) : KeepsFabric d (lostEntry fid d p) := by
  unfold lostEntry
  extract_lets n
  split
  · exact .refl d
  · exact journalWrite_keepsFabric p 255 _ d

theorem deviceLost_keepsFabric (fid : Nat) (d : Device) : KeepsFabric d (deviceLost fid d) := by
  unfold deviceLost
  extract_lets d₁
  have h₁ : KeepsFabric d d₁ := by
    refine .foldl (fun e t => ?_) _ d
    split
    · exact synthTrack_keepsFabric fid 0x7F t e
    · exact .refl e
  exact h₁.trans (.foldl (lostEntry_keepsFabric fid) _ d₁)

/-! ## What becomes of the tracked requests toward a FID that is lost (R231) -/

/-- A tracked request, answered when it is number `id`. -/
def answeredTrack (id : Nat) (x : Track) : Track := if x.id = id then { x with answered := true, held := [] } else x

theorem synthTrack_tracks (fid port : Nat) {t : Track} (hwindow : t.window = none) (d : Device) :
    (synthTrack fid port t d).tracks = d.tracks.map (answeredTrack t.id) := by
  unfold synthTrack
  extract_lets mark d₁
  have h₁ : (mark d₁).tracks = d.tracks.map (answeredTrack t.id) := by
    obtain ⟨l, hlock⟩ := lockFails_frame t.port t.kind (logSynth t.nearRid fid port t.part d)
    obtain ⟨x, k, c, hlog⟩ := logSynth_frame t.nearRid fid port t.part d
    have : d₁.tracks = d.tracks := by rw [show d₁ = _ from hlock, hlog]
    exact congrArg (List.map (answeredTrack t.id)) this
  split
  · split
    · exact congrArg Prod.snd (askFails_fabricWork _ _ (mark d))
    · exact congrArg Prod.snd (localDma_fabricWork _ _ (mark d))
  · rw [hwindow, if_neg (by decide)]
    split
    · obtain ⟨o, h⟩ := emitAway_frame (ownFab _ _ t.port true d₁) (synthTlp t) (mark d₁)
      rw [h]; exact h₁
    · exact h₁

theorem journalWrite_tracks (p src : Nat) (e : JournalEntry) (d : Device) : (journalWrite p src e d).tracks = d.tracks := by
  obtain ⟨j, f, o, i, m, k, c, h⟩ := journalWrite_frame p src e d
  rw [h]

theorem lostEntry_tracks (fid : Nat) (d : Device) (p : Nat) : (lostEntry fid d p).tracks = d.tracks := by
  unfold lostEntry
  extract_lets n
  split
  · rfl
  · exact journalWrite_tracks p 255 _ d

/-- A tracked request with its number has not been answered. -/
def unanswered (t : Track) (d : Device) : Bool := d.tracks.any fun x => decide (x.id = t.id) && !x.answered

/-- A request toward the lost FID gets its synthetic completion, unless an earlier one has answered it. -/
def loseTrack (fid : Nat) (d : Device) (t : Track) : Device := if unanswered t d then synthTrack fid 0x7F t d else d

theorem loseTrack_answers {fid : Nat} {t : Track} (hwindow : t.window = none) {d : Device} {k : Track}
    (hk : k ∈ (loseTrack fid d t).tracks) : k ∈ d.tracks ∧ k.id ≠ t.id ∨ k.answered = true := by
  unfold loseTrack at hk
  split at hk
  case isTrue =>
    rw [synthTrack_tracks fid 0x7F hwindow] at hk
    obtain ⟨x, hx, rfl⟩ := List.mem_map.mp hk
    unfold answeredTrack
    split
    · exact .inr rfl
    · exact .inl ⟨hx, ‹_›⟩
  case isFalse h =>
    by_cases hid : k.id = t.id
    · refine .inr (Bool.of_not_eq_false fun hopen => h (List.any_eq_true.mpr ⟨k, hk, ?_⟩))
      simp [hid, hopen]
    · exact .inl ⟨hk, hid⟩

/-- When every unanswered request toward a FID is in the list, all of them end answered. -/
theorem foldl_loseTrack_answers {fid : Nat} {l : List Track} (hwindow : ∀ t ∈ l, t.window = none) {d : Device}
    (hlist : ∀ k ∈ d.tracks, k.fid = some fid → k.answered = true ∨ ∃ t ∈ l, t.id = k.id) {k : Track}
    (hk : k ∈ (l.foldl (loseTrack fid) d).tracks) (hfid : k.fid = some fid) : k.answered = true := by
  induction l generalizing d with
  | nil => exact (hlist k hk hfid).elim id fun ⟨t, ht, _⟩ => absurd ht List.not_mem_nil
  | cons t l ih =>
    refine ih (fun u hu => hwindow u (List.mem_cons_of_mem t hu)) (fun x hx hxfid => ?_) hk
    rcases loseTrack_answers (hwindow t List.mem_cons_self) hx with ⟨hx, hid⟩ | hanswered
    · refine (hlist x hx hxfid).imp_right fun ⟨u, hu, huid⟩ => ?_
      rcases List.mem_cons.mp hu with rfl | hu
      · exact absurd huid.symm hid
      · exact ⟨u, hu, huid⟩
    · exact .inl hanswered

theorem deviceLost_answers {fid : Nat} {d : Device} (hwindow : ∀ t ∈ d.tracks, t.window = none) {k : Track}
    (hk : k ∈ (deviceLost fid d).tracks) (hfid : k.fid = some fid) : k.answered = true := by
  have hentries (l : List Nat) (e : Device) : (l.foldl (lostEntry fid) e).tracks = e.tracks :=
    List.foldlRecOn l _ (motive := fun x => x.tracks = e.tracks) rfl fun x hx p _ => (lostEntry_tracks fid x p).trans hx
  have hk : k ∈ ((d.tracks.filter fun t => decide (t.fid = some fid) && !t.answered).foldl (loseTrack fid) d).tracks :=
    hentries _ _ ▸ hk
  refine foldl_loseTrack_answers (fun t ht => hwindow t (List.mem_of_mem_filter ht)) (fun x hx hxfid => ?_) hk hfid
  cases hanswered : x.answered
  · exact .inr ⟨x, List.mem_filter.mpr ⟨hx, by simp [hxfid, hanswered]⟩, rfl⟩
  · exact .inl rfl

end Sys2Proof.Machine
end

section
/-! Fabric time (R240 to R243): requests and answers, the offset and the lock, holdover, the loss of the parent, and their
statement. -/

namespace Sys2Proof.Machine

/-! ## Requests and answers (R241) -/

/-- The link to the parent, with the next request to send. -/
def askingLink (x : Plk) : Plk := { x with timeSeq := (x.timeSeq + 1) % 256, ctl := x.ctl ++ [Ctl.timeReq ((x.timeSeq + 1) % 256)] }

theorem timeReq_due {n : Nat} {d : Device} (hparent : d.fab.parentPort = n) (hn : n ≠ 0x7F) (hlive : pflLive n d = true)
    (hdue : d.fab.reqAt + 10000 ≤ d.now) :
    timeReq d = { d.setPfl n (askingLink (d.pfl n)) with fab := { d.fab with reqAt := d.now } } := by
  subst hparent
  exact if_pos ⟨hn, hlive, hdue⟩

theorem timeReq_waits {d : Device} (h : d.fab.parentPort = 0x7F ∨ d.now < d.fab.reqAt + 10000) : timeReq d = d := by
  refine if_neg fun ⟨hparent, _, hdue⟩ => ?_
  rcases h with h | h
  · exact hparent h
  · exact absurd hdue (Nat.not_le.mpr h)

/-! ## The offset and the lock (R241, R242) -/

/-- An offset is kept; an unlocked parent ends the lock, and the sixteenth good offset in a row from a locked one sets it. -/
theorem lockAfter_frame (ofs : Int) (locked : Bool) (d : Device) : ∃ f, lockAfter ofs locked d = { d with fab := f } ∧
    f.offsetPs = ofs ∧ (locked = false → f.timeLocked = false) ∧
    (locked = true → d.fab.goodOffsets = 15 → -1000 ≤ ofs → ofs ≤ 1000 → f.timeLocked = true) := by
  unfold lockAfter
  extract_lets f good bad d₁
  split
  case isTrue hfalls =>
    rw [setLocked_eq]
    refine ⟨_, rfl, rfl, fun _ => rfl, fun hlocked _ hlow hhigh => absurd hfalls ?_⟩
    have hbad : bad = 0 := if_neg (by omega)
    simp [hlocked, hbad]
  case isFalse hstays =>
    have hparent : locked = true := by
      cases locked
      · exact absurd rfl hstays
      · rfl
    split
    case isTrue =>
      rw [setLocked_eq]
      exact ⟨_, rfl, rfl, fun hfree => absurd (hfree.symm.trans hparent) nofun, fun _ _ _ _ => rfl⟩
    case isFalse hfew =>
      refine ⟨_, rfl, rfl, fun hfree => absurd (hfree.symm.trans hparent) nofun, fun _ hgood hlow hhigh => absurd ?_ hfew⟩
      have : good = min 16 (f.goodOffsets + 1) := if_pos ⟨hlow, hhigh⟩
      rw [this, show f.goodOffsets = 15 from hgood]
      decide

theorem timeResp_other {n seq : Nat} {d : Device} (h : d.fab.parentPort ≠ n ∨ (d.pfl n).timeSeq ≠ seq) (locked : Bool) (t2 t3 : Nat) :
    timeResp n seq locked t2 t3 d = d := if_pos h

/-- Twice the offset to the parent, in ns (R241). -/
def twiceOffset (t1 t2 t3 t4 : Nat) : Int := ((t2 : Int) - t1) - ((t4 : Int) - t3)

section
variable {n seq : Nat} {d : Device} (hparent : d.fab.parentPort = n) (hseq : (d.pfl n).timeSeq = seq)
include hparent hseq

/-- Beyond 1,000 ns the device time is stepped. -/
theorem timeResp_steps (locked : Bool) {t2 t3 : Nat} {w : Int} (hw : twiceOffset (d.pfl n).timeT1 t2 t3 d.devTime.toNat = w)
    (hfar : 2000 < w.natAbs) : timeResp n seq locked t2 t3 d =
      { lockAfter (w * 500) locked d with
        devTime := BitVec.ofNat 64 (((d.devTime.toNat : Int) + w.tdiv 2) % 2 ^ 64).toNat
        fab := { (lockAfter (w * 500) locked d).fab with slew := 0 } } := by
  subst hw
  exact (if_neg (not_or.mpr ⟨not_not.mpr hparent, not_not.mpr hseq⟩)).trans (if_pos hfar)

/-- Within 1,000 ns it is slewed. -/
theorem timeResp_slews (locked : Bool) {t2 t3 : Nat} {w : Int} (hw : twiceOffset (d.pfl n).timeT1 t2 t3 d.devTime.toNat = w)
    (hnear : w.natAbs ≤ 2000) : timeResp n seq locked t2 t3 d =
      { lockAfter (w * 500) locked d with fab := { (lockAfter (w * 500) locked d).fab with slew := w.tdiv 2 } } := by
  subst hw
  exact (if_neg (not_or.mpr ⟨not_not.mpr hparent, not_not.mpr hseq⟩)).trans (if_neg (Nat.not_lt.mpr hnear))

end

/-! ## The loss of the parent (R240, R243) -/

section
variable {d : Device} (hfresh : freshAdverts d = [])
include hfresh

theorem chooseMaster_alone : chooseMaster d = if d.fab.priority < 255 then some d.glb.fid else none := by
  unfold chooseMaster
  rw [hfresh]
  split <;> rfl

theorem electMaster_alone (h : d.fab.priority < 255) : electMaster d =
    setLocked true { d with fab := { d.fab with
      masterValid := true, masterFid := d.glb.fid, parentPort := 0x7F, hops := 0, holdover := false, parentLost := false, slew := 0,
      parentLocked := false } } := by
  have hmaster : chooseMaster d = some d.glb.fid := (chooseMaster_alone hfresh).trans (if_pos h)
  simp only [electMaster, hmaster, if_pos]

/-- Without a master a device that had a parent is in holdover. -/
theorem electMaster_masterless (h : 255 ≤ d.fab.priority) (hparent : d.fab.parentPort ≠ 0x7F) : electMaster d =
    { d with fab := { d.fab with
      parentPort := 0x7F, hops := 0, holdover := true, holdoverAt := d.now, parentLost := true, goodOffsets := 0, badOffsets := 0,
      parentLocked := false, masterValid := false, masterFid := 0 } } := by
  have hmaster : chooseMaster d = none := (chooseMaster_alone hfresh).trans (if_neg (Nat.not_lt.mpr h))
  simp [electMaster, hmaster, hparent]

end

/-! ## The statement -/

/-- Settles O43: each row by the equation of its meaning; an answer by the offset that it gives, the loss of the parent by the
election that follows. -/
theorem fabricTime : Obligations.FabricTime := by
  intro s n seq t2 t3 locked d f x twice
  refine ⟨?request, fun h => done_becomes rfl (timeReq_waits h), fun hlive => done_becomes rfl (if_pos hlive),
    fun hdown => done_becomes rfl (if_neg (by rw [hdown]; exact Bool.false_ne_true)),
    fun h => done_becomes rfl (timeResp_other h locked t2 t3), ?answer, ?holdover, ?held, ?lost, ?alive⟩
  case request =>
    intro hparent hn hlive hdue
    exact done_gives_framed rfl (timeReq_due hparent hn hlive hdue) fun _ _ _ => ⟨pfl_setPfl d n _, rfl, rfl⟩
  case answer =>
    intro hparent hseq
    have htwice : twiceOffset (d.pfl n).timeT1 t2 t3 d.devTime.toNat = twice := rfl
    clear_value twice
    obtain ⟨g, hlock, hofs, hfree, hgood⟩ := lockAfter_frame (twice * 500) locked d
    have hset (hlocked : locked = true) (h15 : f.goodOffsets = 15) (hsmall : twice.natAbs ≤ 2) : g.timeLocked = true :=
      hgood hlocked h15 (by omega) (by omega)
    by_cases hnear : twice.natAbs ≤ 2000
    · refine done_gives_framed rfl (timeResp_slews hparent hseq locked htwice hnear) fun _ _ _ => ?_
      rw [hlock]
      exact ⟨hofs, fun _ => ⟨rfl, rfl⟩, fun hfar => absurd hnear (Nat.not_le.mpr hfar), hfree, hset, rfl, rfl⟩
    · refine done_gives_framed rfl (timeResp_steps hparent hseq locked htwice (Nat.not_le.mp hnear)) fun _ _ _ => ?_
      rw [hlock]
      exact ⟨hofs, fun hle => absurd hle hnear, fun _ => ⟨rfl, rfl⟩, hfree, hset, rfl, rfl⟩
  case holdover =>
    intro hholdover hdue
    refine done_gives_framed rfl ((if_pos ⟨hholdover, hdue⟩).trans (setLocked_eq false d)) fun _ _ _ => ⟨rfl, fun hlocked => ?_, rfl⟩
    simp [show d.fab.timeLocked = true from hlocked]
  case held =>
    intro h
    refine done_becomes rfl (if_neg fun ⟨hholdover, hdue⟩ => ?_)
    rcases h with h | h
    · exact absurd (hholdover.symm.trans h) nofun
    · exact absurd hdue (Nat.not_le.mpr h)
  case lost =>
    intro hparent hn hdown hfresh
    have hrow : exec .parentLinkFail s = done s (electMaster d) :=
      congrArg (done s) (if_pos ⟨hparent ▸ hn, (congrArg (pflLive · d) hparent).trans hdown⟩)
    by_cases hpriority : f.priority < 255
    · exact done_gives_framed hrow ((electMaster_alone hfresh hpriority).trans (setLocked_eq true _)) fun _ _ _ =>
        ⟨rfl, fun _ => ⟨rfl, rfl, rfl⟩, fun h => absurd hpriority (Nat.not_lt.mpr h)⟩
    · exact done_gives_framed hrow (electMaster_masterless hfresh (Nat.not_lt.mp hpriority) (hparent ▸ hn)) fun _ _ _ =>
        ⟨rfl, fun h => absurd h hpriority, fun _ => ⟨rfl, rfl, rfl⟩⟩
  case alive =>
    intro hlive
    exact done_becomes rfl (if_neg fun ⟨_, hdown⟩ => absurd (hlive.symm.trans hdown) nofun)

end Sys2Proof.Machine
end

section
/-! Adverts, reachability and paths of the fabric (R215 to R217, R221 to R224, R231), and their statement. -/

namespace Sys2Proof.Machine

/-! ## The fabric's tables -/

@[simp] theorem route_setRoute (d : Device) (fid : Nat) (r : FabRoute) : (d.setRoute fid r).route fid = r :=
  tget_tset_same routeNone d.fab.routes fid r

theorem route_of_routes {d t : Device} (h : t.fab.routes = d.fab.routes) (fid : Nat) : t.route fid = d.route fid :=
  congrArg (tget routeNone · fid) h

/-- The ports stay, and the routes, the adverts held, and the FIDs seen twice. -/
structure KeepsTables (d d' : Device) : Prop where
  ports : d'.ports = d.ports
  routes : d'.fab.routes = d.fab.routes
  adverts : d'.fab.adverts = d.fab.adverts
  dup : d'.fab.dup = d.fab.dup

theorem KeepsTables.trans {a b c : Device} (h : KeepsTables a b) (g : KeepsTables b c) : KeepsTables a c :=
  ⟨g.ports.trans h.ports, g.routes.trans h.routes, g.adverts.trans h.adverts, g.dup.trans h.dup⟩

theorem KeepsFabric.tables {d d' : Device} (h : KeepsFabric d d') : KeepsTables d d' := ⟨h.ports, h.routes, h.adverts, h.dup⟩

/-! ## Reachability (R215, R231) -/

theorem getLsbD_fidBit {fid : Nat} (h : fid < 32) : (BitVec.ofNat 32 (2 ^ fid)).getLsbD fid = true := by
  rw [BitVec.getLsbD_ofNat, Nat.testBit_two_pow_self, decide_eq_true h, Bool.and_true]

/-- FAB_REACH without a FID, and REACH_LOST. -/
def reachCleared (fid : Nat) (d : Device) : Device :=
  fabRaise 1 { d with fab := { d.fab with reach := d.fab.reach &&& ~~~ BitVec.ofNat 32 (2 ^ fid) } }

section
variable {fid : Nat} {d : Device}

theorem checkReach_same (h : d.fab.reach.getLsbD fid = isReachable fid d) : checkReach fid d = d := if_pos h

theorem checkReach_found (hwas : d.fab.reach.getLsbD fid = false) (his : isReachable fid d = true) : checkReach fid d =
    fabRaise 2 { d with fab := { d.fab with reach := d.fab.reach ||| BitVec.ofNat 32 (2 ^ fid) } } := by
  simp [checkReach, hwas, his]

theorem checkReach_lost (hwas : d.fab.reach.getLsbD fid = true) (his : isReachable fid d = false) : checkReach fid d =
    deviceLost fid (reachCleared fid d) := by
  simp [checkReach, reachCleared, hwas, his]

theorem checkReach_keepsTables (fid : Nat) (d : Device) : KeepsTables d (checkReach fid d) := by
  cases hwas : d.fab.reach.getLsbD fid <;> cases his : isReachable fid d
  · rw [checkReach_same (hwas.trans his.symm)]; exact ⟨rfl, rfl, rfl, rfl⟩
  · rw [checkReach_found hwas his]; exact ⟨rfl, rfl, rfl, rfl⟩
  · have hcleared : KeepsTables d (reachCleared fid d) := ⟨rfl, rfl, rfl, rfl⟩
    rw [checkReach_lost hwas his]
    exact hcleared.trans (deviceLost_keepsFabric fid _).tables
  · rw [checkReach_same (hwas.trans his.symm)]; exact ⟨rfl, rfl, rfl, rfl⟩

/-- FAB_REACH says afterwards whether the FID is reachable. -/
theorem checkReach_reach (hfid : fid < 32) : (checkReach fid d).fab.reach.getLsbD fid = isReachable fid d := by
  have hbit := getLsbD_fidBit hfid
  cases hwas : d.fab.reach.getLsbD fid <;> cases his : isReachable fid d
  · rw [checkReach_same (hwas.trans his.symm), hwas]
  · rw [checkReach_found hwas his]
    exact (BitVec.getLsbD_or ..).trans (by rw [hbit, Bool.or_true])
  · rw [checkReach_lost hwas his, (deviceLost_keepsFabric fid _).reach]
    exact (BitVec.getLsbD_and ..).trans (by rw [BitVec.getLsbD_not, hbit, Bool.not_true, Bool.and_false, Bool.and_false])
  · rw [checkReach_same (hwas.trans his.symm), hwas]

theorem isReachable_pathless (h : hasLivePath fid d = false) : isReachable fid d = false := by simp [isReachable, h]

theorem isReachable_unheard (h : d.fab.adverts = []) : isReachable fid d = false := by simp [isReachable, h]

end

/-! ## Adverts sent (R215, R216) -/

/-- This device's advert leaves by a port. -/
def sendOwnAdvert (d : Device) (n : Nat) : Device :=
  sendControl n .topo 0 (d.pfl n).partnerFid d.glb.fid 0 (advertBytes (ownAdvert d)) d

theorem sendOwnAdverts_frame (ports : List Nat) (d : Device) : ∃ is k, ports.foldl sendOwnAdvert d = { d with items := is, nextId := k } ∧
    (∀ i ∈ d.items, i ∈ is) ∧
    ∀ n ∈ ports, ∃ i ∈ is, i.egress = n ∧ i.queue = 7 ∧ i.tlp.kind = .topo ∧ i.tlp.data = advertBytes (ownAdvert d) := by
  induction ports generalizing d with
  | nil => exact ⟨_, _, rfl, fun _ h => h, nofun⟩
  | cons n ports ih =>
    obtain ⟨is, k, h, hkept, hsent⟩ := ih (sendOwnAdvert d n)
    refine ⟨is, k, h, fun i hi => hkept i (List.mem_append_left _ hi), fun m hm => ?_⟩
    rcases List.mem_cons.mp hm with rfl | hm
    · exact ⟨_, hkept _ (List.mem_append_right d.items List.mem_cons_self), rfl, rfl, rfl, rfl⟩
    · exact hsent m hm

/-- The device with its next advert numbered. -/
def advertNumbered (d : Device) : Device :=
  { d with fab := { d.fab with advSeq := (d.fab.advSeq + 1) % 65536, advSentAt := d.now, advDue := false } }

theorem topoSend_due {d : Device} (h : d.fab.advDue = true ∨ d.fab.advSentAt + 100000 ≤ d.now) :
    topoSend d = electMaster ((activePfl d).foldl sendOwnAdvert (advertNumbered d)) := if_pos h

theorem topoSend_early {d : Device} (hdue : d.fab.advDue = false) (h : d.now < d.fab.advSentAt + 100000) : topoSend d = d := by
  refine if_neg fun hsends => ?_
  rcases hsends with hsends | hsends
  · exact absurd (hdue.symm.trans hsends) nofun
  · exact absurd hsends (Nat.not_le.mpr h)

/-! ## Adverts that arrive (R215, R217) -/

section
variable {n : Nat} {a : Advert} {d : Device}

theorem topoArrives_dead (hlive : pflLive n d = false) : topoArrives n a d = d := if_pos (.inl hlive)

theorem topoArrives_own (hfid : a.fid = d.glb.fid) (hserial : a.serial = d.glb.serial) : topoArrives n a d = d := by
  simp [topoArrives, hfid, hserial]

theorem topoArrives_new (hlive : pflLive n d = true) (hfid : a.fid < 32) (hother : a.fid ≠ d.glb.fid)
    (hnew : ∀ y ∈ d.fab.adverts, y.adv.fid ≠ a.fid) : topoArrives n a d = holdAdvert n a d := by
  have hnone : d.fab.adverts.find? (fun h => decide (h.adv.fid = a.fid)) = none :=
    List.find?_eq_none.mpr fun y hy => by simpa using hnew y hy
  simp [topoArrives, hlive, hfid, hother, hnone]

variable {h : HeldAdvert} (hheld : d.fab.adverts = [h]) (hsame : h.adv.fid = a.fid) (hother : a.fid ≠ d.glb.fid)
include hheld hsame hother

theorem topoArrives_old (hserial : h.adv.serial = a.serial) (hseq : newerSeq h.adv.seq a.seq = false) : topoArrives n a d = d := by
  simp [topoArrives, hheld, hsame, hother, hserial, hseq]

theorem topoArrives_duplicate (hlive : pflLive n d = true) (hfid : a.fid < 32) (hserial : h.adv.serial < a.serial) :
    topoArrives n a d = markDup a.fid d := by
  have hne : h.adv.serial ≠ a.serial := fun heq => absurd (heq ▸ hserial) (BitVec.lt_irrefl _)
  have hnot : ¬ a.serial < h.adv.serial := BitVec.not_lt.mpr (BitVec.le_of_lt hserial)
  simp [topoArrives, hlive, hfid, hother, hheld, hsame, hne, hnot]

end

/-- The device with an advert held in the place of what it held of that FID. -/
def advertHeld (n : Nat) (a : Advert) (d : Device) : Device :=
  { d with fab := { d.fab with adverts := (d.fab.adverts.filter fun h => decide (h.adv.fid ≠ a.fid)) ++
    [{ adv := a, port := n, heldAt := d.now }] } }

theorem holdAdvert_forwards (n : Nat) (a : Advert) (d : Device) : ∃ is k, holdAdvert n a d =
    electMaster (checkReach a.fid { advertHeld n a d with items := is, nextId := k }) := by
  have hforward (l : List Nat) (e : Device) : ∃ is k, l.foldl (fun e m =>
      sendControl m .topo 0 (e.pfl m).partnerFid a.fid a.hops (advertBytes a) e) e = { e with items := is, nextId := k } := by
    refine List.foldlRecOn l _ (motive := fun x : Device => ∃ is k, x = { e with items := is, nextId := k }) ⟨_, _, rfl⟩ ?_
    rintro _ ⟨is, k, rfl⟩ m -
    exact ⟨_, _, rfl⟩
  unfold holdAdvert
  extract_lets rest f d₁ d₂
  have h₂ : ∃ is k, d₂ = { advertHeld n a d with items := is, nextId := k } := by
    unfold d₂
    split
    · exact ⟨d.items, d.nextId, rfl⟩
    · exact hforward _ d₁
  obtain ⟨is, k, h₂⟩ := h₂
  exact ⟨is, k, by rw [h₂]⟩

/-- An advert just held counts, so a live path makes its FID reachable. -/
theorem isReachable_advertHeld (n : Nat) (a : Advert) (d : Device) (is : List Item) (k : Nat) :
    isReachable a.fid { advertHeld n a d with items := is, nextId := k } = hasLivePath a.fid d := by
  have hpath : hasLivePath a.fid { advertHeld n a d with items := is, nextId := k } = hasLivePath a.fid d := rfl
  have hyoung : d.now < d.now + 300 * usNs := Nat.lt_add_of_pos_right (by decide)
  rw [isReachable, hpath]
  simp [advertHeld, hyoung]

/-! ## Adverts that expire, and FIDs that stop being reachable (R215, R231) -/

section
variable {fid : Nat} {s : State} {h : HeldAdvert} (hheld : s.dev.fab.adverts = [h]) (hfid : h.adv.fid = fid)
include hheld hfid

theorem execAdvertExpiry_old (h32 : fid < 32) (hold : h.heldAt + 300000 ≤ s.dev.now) : execAdvertExpiry fid s =
    done s (electMaster (checkReach fid { s.dev with fab := { s.dev.fab with adverts := [] } })) := by
  simp [execAdvertExpiry, hheld, hfid, h32, usNs, hold]

omit hfid in
theorem execAdvertExpiry_young (hyoung : s.dev.now < h.heldAt + 300000) : execAdvertExpiry fid s = done s s.dev := by
  simp [execAdvertExpiry, hheld, usNs, Nat.not_le.mpr hyoung]

end

/-! ## Paths and buckets (R221, R222, R224) -/

/-- Announcing changes no route but by moving buckets. -/
theorem announce_routes (fid : Nat) (d : Device) : (announce fid d).fab.routes = (moveBuckets fid d).fab.routes := by
  have hroute (reach : Bool) (e : Device) : (sendRoute fid reach e).fab = e.fab :=
    List.foldlRecOn _ _ (motive := fun x : Device => x.fab = e.fab) rfl fun _ h _ _ => h
  unfold announce
  extract_lets d₁ bit sent
  split
  · split
    · rw [hroute]
    · rfl
  · split
    · rfl
    · rw [sendUnreach, hroute]

theorem checkReach_announce_keeps (fid : Nat) (d : Device) :
    (checkReach fid (announce fid d)).ports = d.ports ∧ (checkReach fid (announce fid d)).route fid = (moveBuckets fid d).route fid :=
  have hreach := checkReach_keepsTables fid (announce fid d)
  ⟨hreach.ports.trans (announce_keeps fid d).2, route_of_routes (hreach.routes.trans (announce_routes fid d)) fid⟩

theorem moveBuckets_paths (fid : Nat) (d : Device) : ((moveBuckets fid d).route fid).paths = (d.route fid).paths := by
  rw [moveBuckets, route_setRoute]

/-- A bucket keeps its path, or moves to another and waits out its guard. -/
theorem moveBuckets_bucket {fid : Nat} {d : Device} {e : Nat × Bucket} (he : e ∈ ((moveBuckets fid d).route fid).buckets) :
    ∃ e0 ∈ (d.route fid).buckets, e0.1 = e.1 ∧
      (e.2 = e0.2 ∨ e.2 = { e0.2 with path := e.2.path, guardUntil := d.now + d.fab.guardUs * 1000 }) := by
  rw [moveBuckets, route_setRoute] at he
  obtain ⟨e0, he0, hmoved⟩ := List.mem_filterMap.mp he
  refine ⟨e0, he0, ?_⟩
  split at hmoved
  · cases hmoved
    exact ⟨rfl, .inl rfl⟩
  · obtain ⟨n, -, rfl⟩ := Option.map_eq_some_iff.mp hmoved
    exact ⟨rfl, .inr rfl⟩

section
variable {n fid : Nat} {d : Device}

theorem routeItem_live (reach : Bool) (hlive : pflLive n d = true) (hfid : fid < 32) (hother : fid ≠ d.glb.fid) :
    routeItem n fid reach d = pathsChanged fid (d.setRoute fid { d.route fid with
      paths := (d.route fid).paths.map fun x => if x.port = n then { x with withdrawn := !reach } else x }) := by
  simp [routeItem, hlive, hfid, hother]

theorem routeItem_dead (reach : Bool) (hlive : pflLive n d = false) : routeItem n fid reach d = d := if_pos (.inl hlive)

end

section
variable {fid path : Nat} {s : State}

theorem execPathDeath_absent (h : (s.dev.route fid).paths[path]? = none) : execPathDeath fid path s = done s s.dev := by
  simp only [execPathDeath, h]

variable {y : FabPath} (hy : (s.dev.route fid).paths[path]? = some y)
include hy

theorem execPathDeath_live (hlive : pathLive y s.dev = true) : execPathDeath fid path s = done s s.dev := by
  simp [execPathDeath, hy, hlive]

theorem execPathDeath_dead (hdead : pathLive y s.dev = false) (hfid : fid < 32) :
    execPathDeath fid path s = done s (pathsChanged fid s.dev) := by
  simp [execPathDeath, hy, hdead, hfid]

end

section
variable {fid b : Nat} {d : Device}

theorem guardExpiry_none (hbuckets : (d.route fid).buckets = []) : guardExpiry fid b d = d := by
  simp [guardExpiry, hbuckets]

variable {x : Bucket} (hbuckets : (d.route fid).buckets = [(b, x)])
include hbuckets

theorem guardExpiry_waits (h : d.now < x.guardUntil) : guardExpiry fid b d = d := by
  simp [guardExpiry, hbuckets, h]

/-- A bucket that has sent within its guard keeps its path. -/
theorem guardExpiry_ends (hguard : x.guardUntil ≤ d.now) (hsent : d.now < x.lastSent + d.fab.guardUs * 1000) :
    guardExpiry fid b d = d.setRoute fid { d.route fid with buckets := [(b, { x with guardUntil := 0 })] } := by
  simp [guardExpiry, hbuckets, Nat.not_lt.mpr hguard, usNs, Nat.not_le.mpr hsent, tinsert]

end

/-! ## Load samples (R223) -/

theorem pathLoadSample_single {fid : Nat} {r : FabRoute} {y : FabPath} {d : Device} (hroutes : d.fab.routes = [(fid, r)])
    (hpaths : r.paths = [y]) (hdue : isDue .pathLoad 1000 d = true) : pathLoadSample d =
    ranNow .pathLoad { d with fab := { d.fab with routes := [(fid, { r with
      sampled := min 1000 (r.sampled + 1)
      paths := [{ y with samples := (pathLoad y.port d :: y.samples).take 1000 }] })] } } := by
  have hdue' : isDue .pathLoad usNs d = true := hdue
  simp only [pathLoadSample, hdue', if_pos, hroutes, hpaths, List.map_cons, List.map_nil]

theorem pathLoadSample_early {d : Device} (h : isDue .pathLoad 1000 d = false) : pathLoadSample d = d :=
  if_neg (Bool.eq_false_iff.mp h)

/-! ## The rows -/

theorem topoSend_gives {s : State} (h : s.dev.fab.advDue = true ∨ s.dev.fab.advSentAt + 100000 ≤ s.dev.now) :
    Gives .topoSend s fun t => t.fab.advSeq = (s.dev.fab.advSeq + 1) % 65536 ∧ t.fab.advSentAt = s.dev.now ∧ t.fab.advDue = false ∧
      (∀ m ∈ activePfl s.dev, ∃ i ∈ t.items, i.egress = m ∧ i.queue = 7 ∧ i.tlp.kind = .topo ∧
        i.tlp.data = advertBytes { ownAdvert s.dev with seq := t.fab.advSeq }) ∧
      (∀ i ∈ s.dev.items, i ∈ t.items) ∧ t.ports = s.dev.ports := by
  obtain ⟨is, k, hsends, hkept, hsent⟩ := sendOwnAdverts_frame (activePfl s.dev) (advertNumbered s.dev)
  obtain ⟨f, helect, hf, -⟩ := electMaster_frame { advertNumbered s.dev with items := is, nextId := k }
  refine done_gives_framed rfl (((topoSend_due h).trans (congrArg electMaster hsends)).trans helect) fun _ _ _ => ?_
  have hseq : f.advSeq = (s.dev.fab.advSeq + 1) % 65536 := (congrArg Fab.advSeq hf :)
  refine ⟨hseq, (congrArg Fab.advSentAt hf :), (congrArg Fab.advDue hf :), fun m hm => ?_, hkept, rfl⟩
  obtain ⟨i, hi, hegress, hqueue, hkind, hdata⟩ := hsent m hm
  exact ⟨i, hi, hegress, hqueue, hkind, by rw [hdata, hseq]; rfl⟩

/-- What a row gives of the fabric's tables is judged on the device before the election that ends it. -/
theorem elected_gives {i : Instr} {s : State} {e : Device} {P : Device → Prop} (hx : exec i s = done s (electMaster e))
    (h : ∀ t, KeepsTables e t → t.fab.reach = e.fab.reach →
      (∀ b, e.fab.intStatus.getLsbD b = true → t.fab.intStatus.getLsbD b = true) → t.tracks = e.tracks → P t) : Gives i s P := by
  obtain ⟨f, helect, hf, hraised⟩ := electMaster_frame e
  exact done_gives_framed hx helect fun _ _ _ =>
    h _ ⟨rfl, (congrArg Fab.routes hf :), (congrArg Fab.adverts hf :), (congrArg Fab.dup hf :)⟩ (congrArg Fab.reach hf :) hraised rfl

theorem topo_gives {s : State} {n : Nat} {a : Advert} (hlive : pflLive n s.dev = true) (hfid : a.fid < 32) (hother : a.fid ≠ s.dev.glb.fid)
    (hnew : ∀ y ∈ s.dev.fab.adverts, y.adv.fid ≠ a.fid) : Gives (.topo n a) s fun t =>
      t.fab.adverts = s.dev.fab.adverts ++ [{ adv := a, port := n, heldAt := s.dev.now }] ∧
      (hasLivePath a.fid s.dev = true → t.fab.reach.getLsbD a.fid = true) ∧ t.fab.dup = s.dev.fab.dup ∧ t.ports = s.dev.ports := by
  obtain ⟨is, k, hforwards⟩ := holdAdvert_forwards n a s.dev
  have hrow : exec (.topo n a) s =
      done s (electMaster (checkReach a.fid { advertHeld n a s.dev with items := is, nextId := k })) :=
    congrArg (done s) ((topoArrives_new hlive hfid hother hnew).trans hforwards)
  refine elected_gives hrow fun t ht hreach _ _ => ?_
  have hkept := (checkReach_keepsTables a.fid { advertHeld n a s.dev with items := is, nextId := k }).trans ht
  refine ⟨hkept.adverts.trans ?_, fun hpath => ?_, hkept.dup, hkept.ports⟩
  · have hrest : s.dev.fab.adverts.filter (fun h => decide (h.adv.fid ≠ a.fid)) = s.dev.fab.adverts :=
      List.filter_eq_self.mpr fun y hy => decide_eq_true (hnew y hy)
    exact congrArg (· ++ _) hrest
  · rw [hreach, checkReach_reach hfid, isReachable_advertHeld, hpath]

theorem advertExpiry_gives {s : State} {fid : Nat} {h : HeldAdvert} (hheld : s.dev.fab.adverts = [h]) (hfid : h.adv.fid = fid)
    (h32 : fid < 32) (hold : h.heldAt + 300000 ≤ s.dev.now) : Gives (.advertExpiry fid) s fun t =>
      t.fab.adverts = [] ∧ t.fab.reach.getLsbD fid = false ∧ t.ports = s.dev.ports := by
  refine elected_gives (execAdvertExpiry_old hheld hfid h32 hold) fun t ht hreach _ _ => ?_
  have hkept := (checkReach_keepsTables fid { s.dev with fab := { s.dev.fab with adverts := [] } }).trans ht
  exact ⟨hkept.adverts, by rw [hreach, checkReach_reach h32, isReachable_unheard rfl], hkept.ports⟩

theorem fidUnreachable_gives {s : State} {fid : Nat} (hfid : fid < 32) (hpath : hasLivePath fid s.dev = false)
    (hwas : s.dev.fab.reach.getLsbD fid = true) (hwindow : ∀ k ∈ s.dev.tracks, k.window = none) : Gives (.fidUnreachable fid) s fun t =>
      t.fab.reach.getLsbD fid = false ∧ t.fab.intStatus.getLsbD 0 = true ∧ (∀ k ∈ t.tracks, k.fid = some fid → k.answered = true) ∧
      t.ports = s.dev.ports := by
  have his := isReachable_pathless hpath
  have hrow : exec (.fidUnreachable fid) s = done s (electMaster (checkReach fid s.dev)) := congrArg (done s) (if_pos hfid)
  refine elected_gives hrow fun t ht hreach hraised htracks => ?_
  refine ⟨by rw [hreach, checkReach_reach hfid, his], hraised 0 ?_, fun k hk => ?_,
    ht.ports.trans (checkReach_keepsTables fid s.dev).ports⟩
  · rw [checkReach_lost hwas his]
    refine (deviceLost_keepsFabric fid _).raised 0 ((BitVec.getLsbD_or ..).trans ?_)
    rw [show (1 : BitVec 8).getLsbD 0 = true from rfl, Bool.or_true]
  · rw [htracks, checkReach_lost hwas his] at hk
    exact deviceLost_answers (d := reachCleared fid s.dev) hwindow hk

/-- What a row that changes a route's paths gives is judged on the route after its buckets have moved. -/
theorem pathsChanged_gives {i : Instr} {s : State} {fid : Nat} {d : Device} {P : Device → Prop} (hx : exec i s = done s (pathsChanged fid d))
    (h : ∀ t : Device, t.route fid = (moveBuckets fid d).route fid → t.ports = d.ports → P t) : Gives i s P :=
  have hkept := checkReach_announce_keeps fid d
  elected_gives hx fun t ht _ _ _ => h t ((route_of_routes ht.routes fid).trans hkept.2) (ht.ports.trans hkept.1)

/-! ## The statement -/

/-- Settles O42: what a row gives is judged before the election that ends it; reachability by what FAB_REACH then says, the loss of
a FID by the requests that it answers, a change of paths by the buckets that it moves. -/
theorem fabricTopologyEvents : Obligations.FabricTopologyEvents := by
  intro s n fid path b a h reach x d f
  refine ⟨topoSend_gives, fun hdue hearly => done_becomes rfl (topoSend_early hdue hearly),
    fun hdead => ⟨done_becomes rfl (topoArrives_dead hdead), done_becomes rfl (routeItem_dead reach hdead)⟩,
    fun hfid hserial => done_becomes rfl (topoArrives_own hfid hserial),
    topo_gives, fun hheld hsame hother hserial hseq => done_becomes rfl (topoArrives_old hheld hsame hother hserial hseq),
    fun hlive hfid hheld hsame hother hserial => done_becomes rfl (topoArrives_duplicate hheld hsame hother hlive hfid hserial),
    fun hheld hfid h32 => ⟨advertExpiry_gives hheld hfid h32, execAdvertExpiry_young hheld⟩,
    fun hlarge => done_becomes rfl (if_neg (Nat.not_lt.mpr hlarge)), fidUnreachable_gives, ?route, execPathDeath_absent,
    fun y hy hlive => execPathDeath_live hy hlive, ?death,
    fun hbuckets hguard hsent => done_becomes rfl (guardExpiry_ends hbuckets hguard hsent),
    fun hbuckets hguard => done_becomes rfl (guardExpiry_waits hbuckets hguard),
    fun hbuckets => done_becomes rfl (guardExpiry_none hbuckets),
    fun r y hroutes hpaths hdue => done_becomes rfl (pathLoadSample_single hroutes hpaths hdue),
    fun hearly => done_becomes rfl (pathLoadSample_early hearly)⟩
  case route =>
    intro hlive hfid hother
    refine pathsChanged_gives (congrArg (done s) (routeItem_live reach hlive hfid hother)) fun t hroute hports => ⟨?_, hports⟩
    rw [hroute, moveBuckets_paths, route_setRoute]
  case death =>
    intro y hy hdead hfid
    refine pathsChanged_gives (execPathDeath_dead hy hdead hfid) fun t hroute hports => ?_
    rw [hroute, moveBuckets_paths]
    exact ⟨rfl, fun e he => moveBuckets_bucket he, hports⟩

end Sys2Proof.Machine
end

section
/-! FAB_ROUTE_SET on a route that is lost (R221, R444), and the refutation that rests on it. -/

namespace Sys2Proof.Machine

/-! ## A route that a command rewrites -/

/-- FAB_ROUTE_SET of FID 31: one path, by port 40, with weight 15. -/
def rewritingRoute : Cmd :=
  { source := { transport := 0, inst := 0 }, flags := 0, seq := 0, target := 31, param0 := 0,
    params := [0, 1, 0, 0, 40, 15] ++ List.replicate 10 0 }

/-- Its record, admitted and not begun. -/
def rewritingExec : Exec :=
  { op := 0x0601, cmd := rewritingRoute, since := 0, accepted := false, applied := false, reported := 0, begun := false }

/-- Port 40 is a PFL port, and the entry of the route to FID 31 is lost in both its copies. -/
def lostRouteState : State :=
  { State.reset with dev := { State.reset.dev with
    ports := [(40, { portReset with personality := .pfl })]
    can := { State.reset.dev.can with lostEntries := [.route 31] }
    kme := { State.reset.dev.kme with execs := [rewritingExec] } } }

theorem ready_lostRouteState : Ready 0x0601 rewritingRoute lostRouteState.dev :=
  ⟨⟨rewritingExec, by decide +kernel, rfl⟩, rfl, fun h => absurd h (by decide)⟩

/-- R444: the command rewrites the entry, which is lost no more. -/
theorem runPacket_lostRouteState :
    (runPacket 0x0601 (fabRouteSet rewritingRoute) rewritingRoute lostRouteState.dev).can.lostEntries = [] := by decide +kernel

/-- Refutes O41: its clause on FAB_ROUTE_SET has the command change the route and what follows from it alone, so that the entry
of a lost route would stay lost, and the command takes it from the lost ones. -/
theorem not_fabricCommands : ¬ Obligations.FabricCommands := by
  intro h
  obtain ⟨-, hroute, -⟩ := h lostRouteState rewritingRoute 31 40 15
    { adv := ownAdvert lostRouteState.dev, port := 40, heldAt := 0 }
  have hreplies := hroute ready_lostRouteState rfl rfl (by decide) (by decide) (by decide) (by decide +kernel) (by decide +kernel)
    (by decide) rfl
  have hrow : exec (.fabRouteSet rewritingRoute) lostRouteState =
    done lostRouteState (runPacket 0x0601 (fabRouteSet rewritingRoute) rewritingRoute lostRouteState.dev) := rfl
  have hdev := congrArg Device.besideAnswer (congrArg State.dev (Host.Outcome.next.inj (hrow.symm.trans hreplies)))
  rw [notify_besideAnswer, notify_besideAnswer] at hdev
  have hlost := (congrArg (·.can.lostEntries) hdev).symm.trans runPacket_lostRouteState
  -- The device that the clause ends with still counts the entry among the lost ones.
  exact absurd hlost (by decide +kernel)

end Sys2Proof.Machine
end

section
/-! SMBus, MCTP and relayed commands (R226, R380, R381, R400, R547), and their statement. -/

namespace Sys2Proof.Machine

/-! ## Replies on SMBus (R381) -/

section
variable {n : Nat} {r : SmbReply} {d : Device} (hreplies : d.kme.smbReplies = [(n, r)])
include hreplies

theorem smbusReplyRetry_acked : smbusReplyRetry n true d = { d with kme := { d.kme with smbReplies := [] } } := by
  simp [smbusReplyRetry, hreplies, terase]

theorem smbusReplyRetry_early (hearly : d.now < r.sentAt + msNs) : smbusReplyRetry n false d = d := by
  simp [smbusReplyRetry, hreplies, hearly]

theorem smbusReplyRetry_again (hdue : r.sentAt + msNs ≤ d.now) (htries : r.tries < 2) : smbusReplyRetry n false d = { d with
    out := .message { transport := 3, inst := n } 2 r.bytes :: d.out
    kme := { d.kme with smbReplies := [(n, { r with tries := r.tries + 1, sentAt := d.now })] } } := by
  simp [smbusReplyRetry, hreplies, Nat.not_lt.mpr hdue, htries, tinsert, emit]

theorem smbusReplyRetry_dropped (hdue : r.sentAt + msNs ≤ d.now) (htries : 2 ≤ r.tries) : smbusReplyRetry n false d = { d with
    kme := { d.kme with
      smbReplies := [], undelivered := satAdd 0xFFFF d.kme.undelivered 1, intStatus := d.kme.intStatus ||| 0x10 } } := by
  simp [smbusReplyRetry, hreplies, Nat.not_lt.mpr hdue, Nat.not_lt.mpr htries, terase, kmeRaise]

end

/-! ## Relayed commands (R226, R400) -/

/-- A code of Table 14.7 is read as the status that it stands for. -/
theorem statusOf_statusCode (st : Status) : statusOf (statusCode st) = st := by cases st <;> rfl

section
variable {r : Relay} {d : Device} (hrelays : d.fab.relays = [r])
include hrelays

theorem relayTimeout_early (hearly : d.now < r.sentAt + 800000) : relayTimeout d = d := by
  simp [relayTimeout, hrelays, usNs, Nat.not_le.mpr hearly]

theorem relayTimeout_due (hshort : ∀ e ∈ d.kme.execs, sameCommand r.op r.cmd e = true → e.accepted = false)
    (hdue : r.sentAt + 800000 ≤ d.now) : relayTimeout d =
    finish r.op r.cmd { status := .timeout, detail := 0, result := [] } { d with fab := { d.fab with relays := [] } } := by
  simp [relayTimeout, hrelays, usNs, hdue, if_pos hshort]

variable {bytes : List Byte} (hop : u16 bytes 0 = r.op) (hseq : bytes.getD 3 0 = r.cmd.seq)
include hop hseq

theorem relayReply_accepted (hcode : u16 bytes 6 = 1) : relayReply r.fid bytes d = acceptLong r.op r.cmd d := by
  have hstatus : statusOf (u16 bytes 6) = .accepted := hcode ▸ statusOf_statusCode .accepted
  unfold relayReply
  rw [hrelays, hstatus]
  simp [hop, ← hseq]

theorem relayReply_ends {st : Status} (hcode : statusCode st = u16 bytes 6) (hok : st ≠ .ok) (haccepted : st ≠ .accepted)
    (hdegraded : st ≠ .doneDegraded) : relayReply r.fid bytes d =
    finish r.op r.cmd { status := st, detail := u16 bytes 8, result := (bytes.drop 16).take (u16 bytes 4) }
      { d with fab := { d.fab with relays := [] } } := by
  have hstatus : statusOf (u16 bytes 6) = st := hcode ▸ statusOf_statusCode st
  unfold relayReply
  rw [hrelays, hstatus]
  simp [hop, ← hseq, hok, haccepted, hdegraded]

end

/-! ## The statement -/

/-- Settles O5: each row by the equation of its meaning, for the one reply, or the one relayed command, that the device holds. -/
theorem transportsCarryCommands : Obligations.TransportsCarryCommands := by
  refine ⟨fun s => ⟨fun n r hreplies => ⟨done_becomes rfl (smbusReplyRetry_acked hreplies),
      fun hearly => done_becomes rfl (smbusReplyRetry_early hreplies hearly),
      fun hdue htries => done_becomes rfl (smbusReplyRetry_again hreplies hdue htries),
      fun hdue htries => done_becomes rfl (smbusReplyRetry_dropped hreplies hdue htries)⟩,
    fun hlow => done_becomes rfl (if_pos hlow), fun hhigh => done_becomes rfl (if_neg (by rw [hhigh]; exact Bool.false_ne_true)),
    fun src eid => ⟨rfl, rfl⟩, rfl, fun p frame hnone => done_becomes rfl (if_neg (by rw [hnone]; exact Bool.false_ne_true))⟩, ?relays⟩
  case relays =>
    intro s r bytes hrelays
    refine ⟨fun hshort => ⟨fun hearly => done_becomes rfl (relayTimeout_early hrelays hearly),
      fun hdue => done_becomes rfl (relayTimeout_due hrelays hshort hdue)⟩, fun hop hseq => ⟨fun hcode => ?_, ?_⟩⟩
    · exact done_becomes rfl (relayReply_accepted hrelays hop hseq hcode)
    · intro st hcode hok haccepted hdegraded
      exact done_becomes rfl (relayReply_ends hrelays hop hseq hcode hok haccepted hdegraded)

end Sys2Proof.Machine
end

section
/-! The RMA engine's doorbells (R262, R263, R265, R362), and their statement. -/

namespace Sys2Proof.Machine

/-! ## Doorbell writes (R265, Table 13.6) -/

/-- A function takes doorbell writes: no FLR, no fence, Memory Space Enable 1, not in D3hot. -/
def TakesDoorbells (f : Fn) (d : Device) : Prop :=
  (d.func f).flr = .idle ∧ d.fenced (fnPart f d) = false ∧ (d.func f).mse = true ∧ (d.func f).d3hot = false

/-- The 8 bytes of a doorbell write: what the object is named by, and its index. -/
def doorbellBytes (lo pi : Nat) : List Byte := natLe 4 lo ++ natLe 4 pi

section
variable {f : Fn} {d : Device}

theorem doorbellWrite_flr (hflr : (d.func f).flr ≠ .idle) (addr off : Nat) (data : List Byte)
    (act : Nat → Nat → Nat → Device → Device) : doorbellWrite f addr off data act d = d := by
  simp [doorbellWrite, hflr]

theorem doorbellWrite_memoryOff (hflr : (d.func f).flr = .idle) (hfence : d.fenced (fnPart f d) = false) (hmse : (d.func f).mse = false)
    (addr off : Nat) (data : List Byte) (act : Nat → Nat → Nat → Device → Device) :
    doorbellWrite f addr off data act d = fnError f 20 true d := by
  simp [doorbellWrite, hflr, hfence, hmse]

theorem doorbellWrite_size (hlive : TakesDoorbells f d) {data : List Byte} (hlen : data.length ≠ 8) (addr off : Nat)
    (act : Nat → Nat → Nat → Device → Device) : doorbellWrite f addr off data act d = fnError f 15 false (badDoorbell d) := by
  obtain ⟨hflr, hfence, hmse, hd3⟩ := hlive
  simp [doorbellWrite, hflr, hfence, hmse, hd3, hlen]

/-- A doorbell write of 8 bytes at its place of a page acts with what it names and its index. -/
theorem doorbellWrite_acts (hlive : TakesDoorbells f d) {addr off page lo pi : Nat} (hplace : addr % 4096 = off)
    (hpage : addr / 4096 = page) (hlo : lo < 2 ^ 32) (hpi : pi < 2 ^ 32) (act : Nat → Nat → Nat → Device → Device) :
    doorbellWrite f addr off (doorbellBytes lo pi) act d = act page lo pi d := by
  obtain ⟨hflr, hfence, hmse, hd3⟩ := hlive
  have hlen : (doorbellBytes lo pi).length = 8 := rfl
  have hname : leNat ((doorbellBytes lo pi).take 4) = lo := leNat_natLe_four hlo
  have hindex : leNat ((doorbellBytes lo pi).drop 4) = pi := leNat_natLe_four hpi
  simp [doorbellWrite, hflr, hfence, hmse, hd3, hlen, hplace, hpage, hname, hindex]

end

/-! ## What a doorbell names (R262, R263) -/

/-- A fold whose steps all leave the value as it is. -/
theorem foldl_fixed_of_mem {α β : Type} {f : α → β → α} {a : α} {l : List β} (h : ∀ b ∈ l, f a b = a) : l.foldl f a = a :=
  List.foldlRecOn l f (motive := (· = a)) rfl fun x hx b hb => by rw [hx]; exact h b hb

section
variable {f : Fn} {page n pi : Nat} {d : Device} (hn : n < 2 ^ 24)
include hn

theorem sqDoorbell_moves {q : Qp} (hq : d.qp n = some q) (hfn : q.fn = f) (hpage : q.dbPage = page) (hstate : q.state ≠ .reset)
    (hring : ahead pi q.freed ≤ q.sqDepth) (hforward : ahead q.sqPi q.freed ≤ ahead pi q.freed) :
    sqDoorbell f page n pi d = d.putQp n { q with sqPi := pi } := by
  have hname : n % 2 ^ 24 = n := Nat.mod_eq_of_lt hn
  simp only [sqDoorbell, hname, hq]
  rw [if_neg (by simp [hfn, hpage]), if_neg (by simp [hring, hforward]), if_neg hstate]

theorem sqDoorbell_none (hq : d.qp n = none) : sqDoorbell f page n pi d = badDoorbell d := by
  have hname : n % 2 ^ 24 = n := Nat.mod_eq_of_lt hn
  simp only [sqDoorbell, hname, hq]

theorem sqDoorbell_bad {q : Qp} (hq : d.qp n = some q) (hbad : q.fn ≠ f ∨ q.dbPage ≠ page ∨ q.sqDepth < ahead pi q.freed) :
    sqDoorbell f page n pi d = badDoorbell d := by
  have hname : n % 2 ^ 24 = n := Nat.mod_eq_of_lt hn
  simp only [sqDoorbell, hname, hq]
  by_cases hbound : q.fn ≠ f ∨ q.dbPage ≠ page
  · rw [if_pos hbound]
  · rw [if_neg hbound, if_pos (.inl ((or_assoc.mpr hbad).resolve_left hbound))]

/-- Consumed entries that no responder wrote free no notice. -/
theorem cqDoorbell_moves {q : Cq} (hq : d.cq n = some q) (hfn : q.fn = f) (hpage : q.dbPage = page)
    (hring : ahead pi q.ci ≤ ahead q.prod q.ci) (hnotices : ∀ k ∈ q.noticeOf, k = 0) (arm : Bool) :
    cqDoorbell f page (n + 2 ^ 24 * natOfBool arm) pi d =
      d.putCq n { q with ci := pi, noticeOf := q.noticeOf.drop (ahead pi q.ci), armed := q.armed || arm } := by
  have hname : (n + 2 ^ 24 * natOfBool arm) % 2 ^ 24 = n := by omega
  have harm : bitOf (n + 2 ^ 24 * natOfBool arm) 24 = arm := by
    have hdiv : (n + 2 ^ 24 * natOfBool arm) / 2 ^ 24 = natOfBool arm := by omega
    rw [bitOf, Nat.testBit_eq_decide_div_mod_eq, hdiv]
    cases arm <;> rfl
  simp only [cqDoorbell, hname, hq, harm]
  rw [if_neg (by simp [hfn, hpage, hring]), foldl_fixed_of_mem fun k hk => by simp [hnotices k (List.mem_of_mem_take hk)]]

theorem cqDoorbell_bad {q : Cq} (hq : d.cq n = some q) (hbad : q.fn ≠ f ∨ q.dbPage ≠ page ∨ ahead q.prod q.ci < ahead pi q.ci) :
    cqDoorbell f page n pi d = badDoorbell d := by
  have hname : n % 2 ^ 24 = n := Nat.mod_eq_of_lt hn
  simp only [cqDoorbell, hname, hq, if_pos hbad]

end

/-! ## The statement -/

section
variable {s : State} {f : Fn} {page lo pi : Nat} {e : Device} (hlive : TakesDoorbells f s.dev) (hlo : lo < 2 ^ 32) (hpi : pi < 2 ^ 32)
include hlive hlo hpi

theorem sqDoorbell_becomes (h : sqDoorbell f page lo pi s.dev = e) :
    Becomes (.sqDoorbell f (page * 4096) (doorbellBytes lo pi)) s e :=
  done_becomes rfl ((doorbellWrite_acts hlive (by omega) (by omega) hlo hpi (sqDoorbell f)).trans h)

theorem cqDoorbell_becomes (h : cqDoorbell f page lo pi s.dev = e) :
    Becomes (.cqDoorbell f (page * 4096 + 8) (doorbellBytes lo pi)) s e :=
  done_becomes rfl ((doorbellWrite_acts hlive (by omega) (by omega) hlo hpi (cqDoorbell f)).trans h)

end

/-- Settles O37: a write is taken or not by the state of its function, and what it names moves or not by the object's own fields. -/
theorem doorbellsMoveTheIndices : Obligations.DoorbellsMoveTheIndices := by
  intro s f page n pi hn hpi d x data bad live
  have hlo : n < 2 ^ 32 := Nat.lt_trans hn (by decide)
  refine ⟨fun q hlive hq hfn hpage hstate hring hforward => ?sqMoves,
    fun q hlive hq hbad => sqDoorbell_becomes hlive hlo hpi (sqDoorbell_bad hn hq hbad),
    fun hlive hq => sqDoorbell_becomes hlive hlo hpi (sqDoorbell_none hn hq),
    fun hlive => done_becomes rfl (doorbellWrite_size hlive (data := natLe 4 n) (by simp [natLe]) _ 0 _),
    fun q arm hlive hq hfn hpage hring hnotices => ?cqMoves,
    fun q hlive hq hbad => cqDoorbell_becomes hlive hlo hpi (cqDoorbell_bad hn hq hbad),
    fun hflr => ⟨done_becomes rfl (doorbellWrite_flr hflr _ 0 _ _), done_becomes rfl (doorbellWrite_flr hflr _ 8 _ _)⟩,
    fun hflr hfence hmse => ⟨done_becomes rfl (doorbellWrite_memoryOff hflr hfence hmse _ 0 _ _),
      done_becomes rfl (doorbellWrite_memoryOff hflr hfence hmse _ 8 _ _)⟩⟩
  case sqMoves => exact sqDoorbell_becomes hlive hlo hpi (sqDoorbell_moves hn hq hfn hpage hstate hring hforward)
  case cqMoves =>
    have harm : natOfBool arm ≤ 1 := by unfold natOfBool; split <;> decide
    exact cqDoorbell_becomes hlive (by omega) hpi (cqDoorbell_moves hn hq hfn hpage hring hnotices arm)

end Sys2Proof.Machine
end

section
/-! The tenant commands of the RMA engine (R253, R254, R257, R261, R263 to R265, R282 to R284), and their statement. -/

namespace Sys2Proof.Machine

/-! ## While no home slots are in use (R253) -/

theorem Unbacked.backed {d : Device} (h : Unbacked d) (region : Bool) : backed region d = false := by
  cases region <;> simp [Machine.backed, h.1, h.2]

/-- Every entry is resident, so that none has a use to count. -/
theorem Unbacked.touch {d : Device} (h : Unbacked d) (region : Bool) (n : Nat) : touch region n d = d := if_pos (h.backed region)

theorem Unbacked.putQp {d : Device} (h : Unbacked d) (n : Nat) (q : Qp) : Unbacked (d.putQp n q) := h
theorem Unbacked.putCq {d : Device} (h : Unbacked d) (n : Nat) (q : Cq) : Unbacked (d.putCq n q) := h
theorem Unbacked.setRegion {d : Device} (h : Unbacked d) (i : Nat) (x : Region) : Unbacked (d.setRegion i x) := h

/-! ## Doorbell pages (R265) -/

section
variable {c : Cmd} {d : Device} (htenant : c.source.transport = 1 ∨ c.source.transport = 2) (hheader : NoTarget c)
include htenant hheader

theorem tenantHeader_eq_none : tenantHeader c d = none := by
  have hmailbox : (decide (c.source.transport = 1) || decide (c.source.transport = 2)) = true := by simpa using htenant
  simp [tenantHeader, hmailbox, headerZero, hheader.1, hheader.2]

theorem dbAlloc_eq {g : Nat} (hparams : c.params = [0, 0, 0, 0])
    (hfree : lowest (fun k => !pageHeld (tenantFn c) k d) 0 (pageCount (tenantFn c)) = some g) : dbAlloc c d =
    ({ d with dbPages := tset 0 d.dbPages (pageKey (tenantFn c) g) 1 }, some (ansOk (natLe 2 g ++ [0, 0]))) := by
  have hflags : u8 c.params 2 = 0 ∧ u8 c.params 3 = 0 ∧ bitOf 0 0 = false ∧ c.params.length = 4 := by
    rw [hparams]; decide
  obtain ⟨h2, h3, hbit, hlen⟩ := hflags
  dsimp only [dbAlloc]
  rw [checked_pass ?checks]
  case checks => simp [firstFail, failIf, tenantHeader_eq_none htenant hheader, hlen, h2, h3, hbit, hfree]
  · simp only [h2, hbit, hfree]
    rfl

/-! ## Completion queues (R263) -/

theorem cqCreate_eq {n : Nat} (hu : Unbacked d) (hlen : c.params.length = 16) (hbase : u64 c.params 0 % 4096 = 0)
    (hdepth : powerIn (u32 c.params 8) 256 4194304 = true) (hvector : u16 c.params 12 = 0xFFFF)
    (hpage : pageHeld (tenantFn c) (u16 c.params 14) d = true) (hfree : freeContext (fnPart (tenantFn c) d) d = some n) :
    cqCreate c d = (d.putCq n
      { fn := tenantFn c, base := u64 c.params 0, depth := u32 c.params 8, vector := 0xFFFF, dbPage := u16 c.params 14, prod := 0,
        ci := 0, armed := false, noticeOf := [], lastUse := 0 }, some (ansOk (natLe 4 n))) := by
  dsimp only [cqCreate]
  rw [checked_pass ?checks]
  case checks => simp [firstFail, failIf, tenantHeader_eq_none htenant hheader, hlen, hbase, hdepth, hvector, hpage, hfree]
  · simp only [hfree, Option.getD_some, hvector, (hu.putCq n _).touch]

theorem cqDestroy_eq {n : Nat} {x : Cq} (hparams : c.params = natLe 4 n) (hn : n < 2 ^ 32) (hx : d.cq n = some x)
    (hfn : x.fn = tenantFn c) (hqps : d.qps = []) :
    cqDestroy c d = ({ d with cqs := terase n d.cqs }, some (ansOk [])) := by
  have hname : u32 c.params 0 = n := by rw [hparams]; exact leNat_natLe_four hn
  have hlen : c.params.length = 4 := by rw [hparams]; rfl
  dsimp only [cqDestroy]
  rw [checked_pass ?checks]
  case checks => simp [firstFail, failIf, tenantHeader_eq_none htenant hheader, hlen, hname, hx, hfn, hqps]
  · rw [hname]

/-! ## Queue pairs (R282 to R284) -/

theorem qpCreate_eq {n : Nat} {x : Cq} (hu : Unbacked d) (hlen : c.params.length = 32) (hone : u32 c.params 4 = u32 c.params 0)
    (hx : d.cq (u32 c.params 0) = some x) (hfn : x.fn = tenantFn c) (hbase : u64 c.params 8 % 4096 = 0)
    (hdepth : powerIn (u32 c.params 16) 64 65536 = true) (hpage : pageHeld (tenantFn c) (u16 c.params 22) d = true)
    (hqueue : u8 c.params 26 < 8) (hzeros : zeros c.params 27 5 = true) (hfree : freeContext (fnPart (tenantFn c) d) d = some n)
    (hroom : cqCommitted (u32 c.params 0) d + (u32 c.params 16 + u16 c.params 20) ≤ x.depth) :
    qpCreate c d = (d.putQp n (newQp (tenantFn c) c.params d), some (ansOk (natLe 4 n))) := by
  dsimp only [qpCreate]
  rw [checked_pass ?checks]
  case checks =>
    simp [firstFail, failIf, tenantHeader_eq_none htenant hheader, hlen, hone, hx, hfn, hbase, hdepth, hpage,
      Nat.not_le.mpr hqueue, hzeros, hfree, Nat.not_lt.mpr hroom]
  · simp only [hfree, Option.getD_some, (hu.putQp n _).touch]

/-- R283: INIT to RTS, toward a peer on this device, the settings that are 0 kept. -/
theorem qpModify_rts {n : Nat} {q : Qp} (hu : Unbacked d) (hlen : c.params.length = 28) (hn : u32 c.params 0 = n)
    (hq : d.qp n = some q) (hfn : q.fn = tenantFn c) (hnext : u8 c.params 4 = 2) (hstate : q.state = .init)
    (hfid : u8 c.params 5 = d.glb.fid) (hfid32 : d.glb.fid < 32) (hretry : u8 c.params 6 ≤ 15) (hrnr : u8 c.params 7 ≤ 15)
    (hqpn : u32 c.params 8 < 2 ^ 24) (hpsn : u32 c.params 12 < 2 ^ 24) (hepsn : u32 c.params 16 < 2 ^ 24)
    (hack : u16 c.params 20 = 0) (hdelay : u16 c.params 22 = 0) (hreasm : u16 c.params 24 = 0) (hzeros : zeros c.params 26 2 = true) :
    qpModify c d = (d.putQp n { q with
      state := .rts, dstFid := u8 c.params 5, dstQpn := u32 c.params 8
      retryLimit := if u8 c.params 6 = 0 then q.retryLimit else u8 c.params 6, rnrLimit := u8 c.params 7
      nextPsn := u32 c.params 12, epsn := u32 c.params 16, progressAt := d.now, epsnAt := d.now, retries := 0, rnrRetries := 0 },
      some (ansOk [])) := by
  dsimp only [qpModify]
  rw [checked_pass ?checks]
  case checks =>
    simp only [failIf, tenantHeader_eq_none htenant hheader, hlen, hn, hq, hfn, hnext, hstate, hack, hdelay, hreasm,
      hzeros, Nat.not_lt.mpr hretry, Nat.not_lt.mpr hrnr, Nat.not_le.mpr hqpn, Nat.not_le.mpr hpsn, Nat.not_le.mpr hepsn,
      Option.getD_some]
    simp [firstFail, hfid, Nat.not_le.mpr hfid32, keepRange]
  · simp only [hn, hnext, hu.touch, hq, Option.getD_some]
    simp [qpToRts, kept, hack, hdelay, hreasm]

/-- R283: RTS to ERROR. -/
theorem qpModify_error {n : Nat} {q : Qp} (hu : Unbacked d) (hparams : c.params = natLe 4 n ++ [3] ++ List.replicate 23 0)
    (hn : n < 2 ^ 32) (hq : d.qp n = some q) (hfn : q.fn = tenantFn c) (hstate : q.state = .rts) :
    qpModify c d = (toError n 0 none d, some (ansOk [])) := by
  have hname : u32 c.params 0 = n := by rw [hparams]; exact leNat_natLe_four hn
  have hnext : u8 c.params 4 = 3 := by rw [hparams]; rfl
  have hlen : c.params.length = 28 := by rw [hparams]; rfl
  have hzeros : u8 c.params 5 = 0 ∧ u8 c.params 6 = 0 ∧ u8 c.params 7 = 0 ∧ u32 c.params 8 = 0 ∧ u32 c.params 12 = 0 ∧
      u32 c.params 16 = 0 ∧ u16 c.params 20 = 0 ∧ u16 c.params 22 = 0 ∧ u16 c.params 24 = 0 ∧ zeros c.params 26 2 = true := by
    rw [hparams]; exact ⟨rfl, rfl, rfl, rfl, rfl, rfl, rfl, rfl, rfl, rfl⟩
  dsimp only [qpModify]
  rw [checked_pass ?checks]
  case checks =>
    simp [firstFail, failIf, tenantHeader_eq_none htenant hheader, hlen, hname, hq, hfn, hnext, hstate, hzeros, keepRange]
  · simp only [hname, hnext, hu.touch, if_true]

/-- What QP_DESTROY comes to for a queue pair in ERROR (R284). -/
theorem qpDestroy_eq {n : Nat} {q : Qp} (hparams : c.params = natLe 4 n) (hn : n < 2 ^ 32) (hq : d.qp n = some q)
    (hfn : q.fn = tenantFn c) (hstate : q.state = .error) : qpDestroy c d =
    if q.completed = q.sqPi then ({ markApplied 0x7103 c d with qps := terase n d.qps }, some (ansOk []))
    else (markApplied 0x7103 c d, none) := by
  have hname : u32 c.params 0 = n := by rw [hparams]; exact leNat_natLe_four hn
  have hlen : c.params.length = 4 := by rw [hparams]; rfl
  have hstays : toError n 0 none d = d := by simp [toError, hq, hstate]
  have hq' : (markApplied 0x7103 c d).qp n = some q := hq
  dsimp only [qpDestroy]
  rw [checked_pass ?checks]
  case checks => simp [firstFail, failIf, tenantHeader_eq_none htenant hheader, hlen, hname, hq, hfn]
  · simp only [hname, hstays, hq', flushed, hstate]
    by_cases hdone : q.completed = q.sqPi
    · simp [hdone]; rfl
    · simp [hdone]

/-! ## Regions (R257, R261) -/

theorem regRegister_eq {i : Nat} (hu : Unbacked d) (hlen : c.params.length = 24) (hsome : 0 < u64 c.params 8)
    (hlarge : u64 c.params 8 ≤ 2 ^ 42) (hrights : u8 c.params 18 < 16) (hzeros : zeros c.params 19 5 = true)
    (hfree : freeRegion d = some i)
    (hregions : (regionsOf (fnPart (tenantFn c) d) d).length < (poolOf (fnPart (tenantFn c) d) d).regLimit)
    (hpages : pageSum (regionsOf (fnPart (tenantFn c) d) d) + ceilDiv (u64 c.params 0 % 4096 + u64 c.params 8) 4096 ≤
      (poolOf (fnPart (tenantFn c) d) d).pageLimit)
    (hall : pageSum (regionsIn d) + ceilDiv (u64 c.params 0 % 4096 + u64 c.params 8) 4096 ≤ 2 ^ 30) :
    regRegister c d = (d.setRegion i (newRegion (tenantFn c) c.params (d.region i)),
      some (ansOk (natLe 4 (i * 256 + (newRegion (tenantFn c) c.params (d.region i)).variant)))) := by
  dsimp only [regRegister]
  rw [checked_pass ?checks]
  case checks =>
    simp only [failIf, tenantHeader_eq_none htenant hheader, hlen, hzeros, hfree, Nat.ne_of_gt hsome,
      Nat.not_lt.mpr hlarge, Nat.not_le.mpr hrights, Nat.not_le.mpr hregions, Nat.not_lt.mpr hpages, Nat.not_lt.mpr hall]
    rfl
  · simp only [hfree, Option.getD_some, (hu.setRegion i _).touch]

/-- The device after a region has become invalid, the command in force. -/
def deregistered (c : Cmd) (i : Nat) (x : Region) (d : Device) : Device :=
  markApplied 0x7107 c (d.setRegion i { x with inUse := false })

theorem regDeregister_eq {n : Nat} {x : Region} (hparams : c.params = natLe 4 n) (hn : n < 2 ^ 32) (hx : d.region (n / 256) = x)
    (huse : x.inUse = true) (hvariant : x.variant = n % 256) (hfn : x.fn = tenantFn c) :
    regDeregister c d = (deregistered c (n / 256) x d, if regionBusy (n / 256) d then none else some (ansOk [])) := by
  have hname : u32 c.params 0 = n := by rw [hparams]; exact leNat_natLe_four hn
  have hlen : c.params.length = 4 := by rw [hparams]; rfl
  dsimp only [regDeregister]
  rw [checked_pass ?checks]
  case checks => simp [firstFail, failIf, tenantHeader_eq_none htenant hheader, hlen, hname, hx, huse, hvariant, hfn]
  · rw [hname, hx]
    rfl

end

/-! ## The statement -/

/-- Settles O35: the checks of each command pass, and its own effect is the object's that it makes, changes or ends. -/
theorem rmaTenantCommands : Obligations.RmaTenantCommands := by
  intro s c n htenant hheader hu d f p
  refine ⟨fun g hready hparams hfree => packet_replies rfl hready (dbAlloc_eq htenant hheader hparams hfree),
    fun hready hlen hbase hdepth hvector hpage hfree =>
      packet_replies rfl hready (cqCreate_eq htenant hheader hu hlen hbase hdepth hvector hpage hfree),
    fun x hready hparams hx hn hfn hqps => packet_replies rfl hready (cqDestroy_eq htenant hheader hparams hn hx hfn hqps),
    fun x hready hlen hone hx hfn hbase hdepth hpage hqueue hzeros hfree hroom =>
      packet_replies rfl hready (qpCreate_eq htenant hheader hu hlen hone hx hfn hbase hdepth hpage hqueue hzeros hfree hroom),
    fun q hready hlen hn hq hfn hnext hstate hfid hfid32 hretry hrnr hqpn hpsn hepsn hack hdelay hreasm hzeros =>
      packet_replies rfl hready (qpModify_rts htenant hheader hu hlen hn hq hfn hnext hstate hfid hfid32 hretry hrnr hqpn hpsn hepsn
        hack hdelay hreasm hzeros),
    fun q hready hparams hn hq hfn hstate => packet_replies rfl hready (qpModify_error htenant hheader hu hparams hn hq hfn hstate),
    fun q hready hparams hn hq hfn hstate => ?destroy,
    fun i hready hlen hsome hlarge hrights hzeros hfree hregions hpages hall => ⟨rfl, rfl, rfl, rfl, fun hused => if_pos hused,
      packet_replies rfl hready (regRegister_eq htenant hheader hu hlen hsome hlarge hrights hzeros hfree hregions hpages hall)⟩,
    fun x hready hparams hn hx huse hvariant hfn => ?deregister⟩
  case destroy =>
    have heffect := qpDestroy_eq (d := markBegun 0x7103 c s.dev) htenant hheader hparams hn hq hfn hstate
    exact ⟨fun hdone => packet_replies rfl hready (heffect.trans (if_pos hdone)),
      fun hleft => packet_starts rfl hready (heffect.trans (if_neg hleft))⟩
  case deregister =>
    have heffect := regDeregister_eq (d := markBegun 0x7107 c s.dev) htenant hheader hparams hn hx huse hvariant hfn
    have hbusy : regionBusy (n / 256) (markBegun 0x7107 c s.dev) = regionBusy (n / 256) d := rfl
    rw [hbusy] at heffect
    exact ⟨fun hidle => packet_replies rfl hready (heffect.trans (by rw [hidle]; rfl)),
      fun hwaits => packet_starts rfl hready (heffect.trans (by rw [hwaits]; rfl))⟩

end Sys2Proof.Machine
end

section
/-! The manager commands of the RMA engine (R251, R253, R285), and their statement. -/

namespace Sys2Proof.Machine

/-! ## VFs (R251) -/

theorem target_toNat {c : Cmd} {p : Nat} (htarget : c.target = BitVec.ofNat _ p) (hp : p < 2 ^ 32) : c.target.toNat = p := by
  rw [htarget, BitVec.toNat_ofNat]; exact Nat.mod_eq_of_lt hp

/-- The device with VF `v` made as the last of the PF of partition `p`. -/
def vfMade (p v : Nat) (d : Device) : Device :=
  { d with vfPart := tinsert v p d.vfPart, vfIndex := tset 0 d.vfIndex v (vfsOf p d).length, funcs := terase (64 + v) d.funcs }

section
variable {c : Cmd} {p v : Nat} {d : Device} (hparams : c.params = []) (hparam0 : c.param0 = 0)
include hparams hparam0

section
variable (htarget : c.target.toNat = p) (hp : 1 ≤ p) (hp48 : p ≤ 48) (hstate : (d.part p).state ≠ .free)
include htarget hp hp48 hstate

theorem rmaVfCreate_eq (hflr : (d.func (.pf p)).flr = .idle) (henable : (d.func (.pf p)).vfEnable = false)
    (hroom : (vfsOf p d).length < 256) (hleft : d.vfPart.length < 4096)
    (hfree : lowest (fun v => !d.vfPart.any fun e => decide (e.1 = v)) 0 4096 = some v) :
    rmaVfCreate c d = (vfMade p v d, some (ansOk (natLe 2 v ++ natLe 2 (vfsOf p d).length ++
      natLe 2 (4096 - (tinsert v p d.vfPart).length) ++ [0, 0]))) := by
  have hheader : partTarget c d = none := partTarget_eq_none hp hp48 htarget hparam0 hstate
  have hvfs : freeVfs d ≠ 0 := Nat.sub_ne_zero_of_lt hleft
  dsimp only [rmaVfCreate]
  rw [htarget, if_neg (by simp [hflr]), checked_pass ?checks]
  case checks => simp [firstFail, failIf, hheader, hparams, henable, Nat.not_le.mpr hroom, hvfs]
  · simp only [hfree, Option.getD_some]
    rfl

/-- Table 13.5: during an FLR of the PF the command waits for its end. -/
theorem rmaVfCreate_flr (hflr : (d.func (.pf p)).flr ≠ .idle) : rmaVfCreate c d = (d, none) := by
  have hheader : partTarget c d = none := partTarget_eq_none hp hp48 htarget hparam0 hstate
  simp [rmaVfCreate, hparams, hheader, htarget, hflr]

end

theorem rmaVfDestroy_eq (htarget : c.target.toNat = v) (hmem : (v, p) ∈ d.vfPart) (hpart : tget 0 d.vfPart v = p)
    (htop : tget 0 d.vfIndex v + 1 = (vfsOf p d).length) (henable : (d.func (.pf p)).vfEnable = false) :
    rmaVfDestroy c d = (dropVf v d, some (ansOk [])) := by
  have hexists : fnExists (.vf v) d = true := List.any_eq_true.2 ⟨(v, p), hmem, by simp⟩
  dsimp only [rmaVfDestroy]
  rw [htarget, checked_pass ?checks]
  case checks => simp [firstFail, failIf, hparams, hparam0, hpart, htop, henable, hexists]

end

/-! ## Limits and the backing store (R253, R285) -/

theorem rmaPoolSet_eq {c : Cmd} {p x y z : Nat} {d : Device} (hheader : partTarget c d = none) (htarget : c.target.toNat = p)
    (hparams : c.params = natLe 4 x ++ natLe 4 y ++ natLe 4 z) (hx : x ≤ 16777216) (hy : y ≤ 16777216) (hz : z ≤ 2 ^ 30)
    (hcontexts : contextsOf p d ≤ x) (hregions : (regionsOf p d).length ≤ y) (hpages : pageSum (regionsOf p d) ≤ z) :
    rmaPoolSet c d = ({ d with pools := tset poolReset d.pools p { ctxLimit := x, regLimit := y, pageLimit := z } },
      some (ansOk (natLe 4 (contextsOf p d) ++ natLe 4 (regionsOf p d).length ++ natLe 4 (pageSum (regionsOf p d))))) := by
  have hlen : c.params.length = 12 := by rw [hparams]; rfl
  have h0 : u32 c.params 0 = x := by rw [hparams]; exact leNat_natLe_four (by omega)
  have h4 : u32 c.params 4 = y := by rw [hparams]; exact leNat_natLe_four (by omega)
  have h8 : u32 c.params 8 = z := by rw [hparams]; exact leNat_natLe_four (by omega)
  dsimp only [rmaPoolSet]
  rw [htarget, checked_pass ?checks]
  case checks =>
    simp only [failIf, hlen, hheader, h0, h4, h8, Nat.not_lt.mpr hx, Nat.not_lt.mpr hy, Nat.not_lt.mpr hz]
    simp [firstFail, Nat.not_lt.mpr hcontexts, Nat.not_lt.mpr hregions, Nat.not_lt.mpr hpages]
  · simp only [h0, h4, h8, List.map_cons, List.map_nil, List.flatten_cons, List.flatten_nil, List.append_nil, List.append_assoc]

section
variable {c : Cmd} {d : Device} (hheader : NoTarget c)
include hheader

theorem rmaBackingSet_eq {a b x y : Nat} (ha4096 : a % 4096 = 0) (hb4096 : b % 4096 = 0) (ha : a < 2 ^ 64) (hb : b < 2 ^ 64)
    (hx65536 : x % 65536 = 0) (hy65536 : y % 65536 = 0) (hx : 1048576 ≤ x) (hxmax : x ≤ 16777216) (hy : 524288 ≤ y)
    (hymax : y ≤ 16777216) (hqps : d.qps = []) (hcqs : d.cqs = []) (hregions : regionsIn d = [])
    (hparams : c.params = natLe 8 a ++ natLe 8 b ++ natLe 4 x ++ natLe 4 y ++ List.replicate 8 0) :
    rmaBackingSet c d = ({ d with rma := { d.rma with ctxBase := a, regBase := b, ctxCount := x, regCount := y } },
      some (ansOk (natLe 4 (x / 65536 + y)))) := by
  have hlen : c.params.length = 32 := by rw [hparams]; rfl
  have h0 : u64 c.params 0 = a := by rw [hparams]; exact leNat_natLe_eight ha
  have h8 : u64 c.params 8 = b := by rw [hparams]; exact leNat_natLe_eight hb
  have h16 : u32 c.params 16 = x := by rw [hparams]; exact leNat_natLe_four (by omega)
  have h20 : u32 c.params 20 = y := by rw [hparams]; exact leNat_natLe_four (by omega)
  have hzeros : zeros c.params 24 8 = true := by rw [hparams]; rfl
  have hword : x / 65536 + 65536 * (y / 65536) = x / 65536 + y := by omega
  dsimp only [rmaBackingSet]
  rw [checked_pass ?checks]
  case checks =>
    simp [firstFail, failIf, headerZero, hheader.1, hheader.2, hlen, h0, h8, h16, h20, hzeros, ha4096, hb4096, hx, hxmax, hy, hymax,
      hx65536, hy65536, hqps, hcqs, hregions]
  · simp only [h0, h8, h16, h20, backingWord, hword]

/-! ## CTX_ZERO (R285) -/

/-- What CTX_ZERO comes to for contexts: it names slots of the home store, and is LONG above 65,536 of them. -/
theorem ctxZero_eq {first count : Nat} (hparams : c.params = [0, 0, 0, 0] ++ natLe 4 first ++ natLe 4 count)
    (hspace : first + count ≤ contextSpace d) (hrange : first + count < 2 ^ 32) : ctxZero c d =
    if 65536 < count then (acceptLong 0x0705 c (markApplied 0x0705 c d), none)
    else (emit (.zeroSlots false first count) d, some (zeroAnswer c.params d)) := by
  have hkind : u8 c.params 0 = 0 := by rw [hparams]; rfl
  have hfirst : u32 c.params 4 = first := by rw [hparams]; exact leNat_natLe_four (by omega)
  have hcount : u32 c.params 8 = count := by rw [hparams]; exact leNat_natLe_four (by omega)
  have hzeros : zeros c.params 1 3 = true := by rw [hparams]; rfl
  have hlen : c.params.length = 12 := by rw [hparams]; rfl
  dsimp only [ctxZero]
  rw [checked_pass ?checks]
  case checks =>
    simp [firstFail, failIf, headerZero, hheader.1, hheader.2, hlen, hkind, hfirst, hcount, hzeros, Nat.not_lt.mpr hspace]
  · simp only [hcount, zeroEffect, hkind, hfirst]
    rfl

end

/-- Without entries in use every slot of the range is set to zero. -/
theorem zeroAnswer_empty {p : List Byte} {first count : Nat} {d : Device} (hparams : p = [0, 0, 0, 0] ++ natLe 4 first ++ natLe 4 count)
    (hrange : first + count < 2 ^ 32) (hqps : d.qps = []) (hcqs : d.cqs = []) :
    zeroAnswer p d = ansOk (natLe 4 count ++ [0, 0, 0, 0]) := by
  have hkind : u8 p 0 = 0 := by rw [hparams]; rfl
  have hcount : u32 p 8 = count := by rw [hparams]; exact leNat_natLe_four (by omega)
  have hskipped : zeroSkipped p d = 0 := by simp [zeroSkipped, hkind, hqps, hcqs]
  rw [zeroAnswer, hskipped, hcount]
  rfl

/-! ## The statement -/

/-- Settles O36: the checks of each command pass, and its own effect is on the VFs, the limits, the backing store or its slots. -/
theorem rmaManagerCommands : Obligations.RmaManagerCommands := by
  intro s c p v d
  refine ⟨fun hready hparams hparam0 htarget hp hp48 hstate hflr henable hroom hleft hfree => ?create,
    fun hready hparams hparam0 htarget hp hp48 hstate hflr => ?waits,
    fun hready hparams hparam0 htarget hv hmem hpart htop henable => ?destroy,
    fun x y z hready hparam0 htarget hp hp48 hstate hparams hx hy hz hcontexts hregions hpages => ?pool,
    fun a b x y hready hheader ha4096 hb4096 ha hb hx65536 hy65536 hx hxmax hy hymax hqps hcqs hregions hparams =>
      packet_replies rfl hready (rmaBackingSet_eq hheader ha4096 hb4096 ha hb hx65536 hy65536 hx hxmax hy hymax hqps hcqs hregions
        hparams),
    fun first count hready hheader hparams hspace hrange => ⟨fun hshort hqps hcqs => ?zeroed, fun hlong => ?long⟩⟩
  case create =>
    have htarget : c.target.toNat = p := target_toNat htarget (Nat.lt_of_le_of_lt hp48 (by decide))
    exact packet_replies rfl hready (rmaVfCreate_eq hparams hparam0 htarget hp hp48 hstate hflr henable hroom hleft hfree)
  case waits =>
    have htarget : c.target.toNat = p := target_toNat htarget (Nat.lt_of_le_of_lt hp48 (by decide))
    exact packet_starts rfl hready (rmaVfCreate_flr hparams hparam0 htarget hp hp48 hstate hflr)
  case destroy =>
    have htarget : c.target.toNat = v := target_toNat htarget (Nat.lt_trans hv (by decide))
    exact packet_replies rfl hready (rmaVfDestroy_eq hparams hparam0 htarget hmem hpart htop henable)
  case pool =>
    have htarget : c.target.toNat = p := target_toNat htarget (Nat.lt_of_le_of_lt hp48 (by decide))
    have hheader : partTarget c (markBegun 0x0703 c d) = none := partTarget_eq_none hp hp48 htarget hparam0 hstate
    exact packet_replies rfl hready (rmaPoolSet_eq hheader htarget hparams hx hy hz hcontexts hregions hpages)
  case zeroed =>
    have heffect := ctxZero_eq (d := markBegun 0x0705 c d) hheader hparams hspace hrange
    rw [if_neg (Nat.not_lt.mpr hshort), zeroAnswer_empty (d := markBegun 0x0705 c d) hparams hrange hqps hcqs] at heffect
    exact packet_replies rfl hready heffect
  case long =>
    have heffect := ctxZero_eq (d := markBegun 0x0705 c d) hheader hparams hspace hrange
    rw [if_pos hlong] at heffect
    exact packet_starts rfl hready heffect

end Sys2Proof.Machine
end

section
/-! What the RMA engine's shared operations make of its objects (chapter 9): queue pairs and completion queues by number, the memory
requests and items that it issues, and what counting leaves. -/

namespace Sys2Proof.Machine

/-! ## Objects by number -/

theorem find?_tinsert_same {α : Type} (n : Nat) (v : α) (t : Tbl α) : (tinsert n v t).find? (fun e => decide (e.1 = n)) = some (n, v) := by
  induction t with
  | nil => simp [tinsert]
  | cons e t ih =>
    obtain ⟨k, w⟩ := e
    simp only [tinsert]
    split
    · simp
    · split
      · simp
      · rename_i hne
        rw [List.find?_cons_of_neg (by simpa using Ne.symm hne), ih]

@[simp] theorem qp_putQp (n : Nat) (q : Qp) (d : Device) : (d.putQp n q).qp n = some q := by
  simp [Device.qp, Device.putQp, find?_tinsert_same]
@[simp] theorem cq_putCq (n : Nat) (c : Cq) (d : Device) : (d.putCq n c).cq n = some c := by
  simp [Device.cq, Device.putCq, find?_tinsert_same]
@[simp] theorem putQp_putQp (n : Nat) (a b : Qp) (d : Device) : (d.putQp n a).putQp n b = d.putQp n b := by
  simp [Device.putQp, tinsert_tinsert]
@[simp] theorem cq_putQp (n m : Nat) (q : Qp) (d : Device) : (d.putQp n q).cq m = d.cq m := rfl
@[simp] theorem qp_putCq (n m : Nat) (c : Cq) (d : Device) : (d.putCq n c).qp m = d.qp m := rfl

theorem qp_single {n : Nat} {q : Qp} {d : Device} (h : d.qps = [(n, q)]) : d.qp n = some q := by simp [Device.qp, h]
theorem qp_other {n m : Nat} {q : Qp} {d : Device} (h : d.qps = [(n, q)]) (hm : m ≠ n) : d.qp m = none := by
  simp [Device.qp, h, Ne.symm hm]
theorem putQp_single {n : Nat} {q : Qp} {d : Device} (h : d.qps = [(n, q)]) (q' : Qp) : (d.putQp n q').qps = [(n, q')] := by
  simp [Device.putQp, h, tinsert]

/-! ## What a step issues stays issued -/

theorem notify_issues (old new : Device) :
    ∃ o m l, notify old new = { new with issued := new.issued ++ o, msix := m, glb := { new.glb with alertLow := l } } := by
  have hvector (d : Device) : ∃ o m, sendVector .mgr 1 d = { d with issued := d.issued ++ o, msix := m } := by
    unfold sendVector sendVectorAt
    extract_lets k e
    split
    · split
      · exact ⟨[], _, by rw [List.append_nil]⟩
      · exact ⟨_, _, rfl⟩
    · exact ⟨[], _, by rw [List.append_nil]⟩
  unfold notify
  split
  · obtain ⟨l, hl⟩ := alertStep_frame (summaryBits old) (summaryBits new) new
    exact ⟨[], _, l, by rw [hl, List.append_nil]⟩
  · obtain ⟨o, m, hv⟩ := hvector new
    obtain ⟨l, hl⟩ := alertStep_frame (summaryBits old) (summaryBits new) (sendVector .mgr 1 new)
    exact ⟨o, m, l, by rw [hl, hv]⟩

/-- What a row gives is judged on the device it ends with, to which the interrupt outputs only add (R381, R407). -/
theorem done_gives_issues {i : Instr} {s : State} {d d' : Device} {P : Device → Prop} (hx : exec i s = done s d) (hd : d = d')
    (h : ∀ o m l, P { d' with issued := d'.issued ++ o, msix := m, glb := { d'.glb with alertLow := l } }) : Gives i s P := by
  obtain ⟨o, m, l, hn⟩ := notify_issues s.dev d
  exact done_gives hx (by rw [hn, hd]; exact h o m l)

/-! ## Counting -/

section
variable (ev port q cls part k : Nat) (d : Device)

@[simp] theorem countPort_qp (n : Nat) : (countPort ev port q cls part k d).qp n = d.qp n := by
  obtain ⟨v, w, h⟩ := countPort_frame ev port q cls part k d
  rw [h]; rfl
@[simp] theorem countPort_now : (countPort ev port q cls part k d).now = d.now := by
  obtain ⟨v, w, h⟩ := countPort_frame ev port q cls part k d
  rw [h]
@[simp] theorem countPort_items : (countPort ev port q cls part k d).items = d.items := by
  obtain ⟨v, w, h⟩ := countPort_frame ev port q cls part k d
  rw [h]
@[simp] theorem countPort_issued : (countPort ev port q cls part k d).issued = d.issued := by
  obtain ⟨v, w, h⟩ := countPort_frame ev port q cls part k d
  rw [h]

end

/-! ## Memory requests of a function that asks for no translations (R23, R365) -/

section
variable {f : Fn} {d : Device} (hoff : (d.func f).atsEnable = false)
include hoff

theorem hostAddr_off (a : Nat) : hostAddr f a d = a := if_neg (by rw [hoff]; exact Bool.false_ne_true)
theorem atsVerdict_off (write : Bool) (a len : Nat) : atsVerdict f write a len d = 0 := if_pos hoff
theorem atsUse_off (a : Nat) : atsUse f a d = d := by simp [atsUse, hoff]

end

/-- A write of the engine to host memory as it is issued. -/
def writeArrival (n : Nat) (f : Fn) (a : Nat) (data : List Byte) (d : Device) : Arrival :=
  { port := slicePort n, tlp := engineTlp .memWrite f a data.length data d, fab := none, rma := none, fn := some f }

theorem fnWrite_off {f : Fn} {d : Device} (hoff : (d.func f).atsEnable = false) (n a : Nat) (data : List Byte) :
    fnWrite n f a data d = { d with issued := d.issued ++ [writeArrival n f a data d] } := by
  rw [fnWrite, atsUse_off hoff]
  rfl

theorem writeArrival_addr {f : Fn} {d : Device} (hoff : (d.func f).atsEnable = false) (n a : Nat) (data : List Byte) :
    (writeArrival n f a data d).tlp.addr = a := hostAddr_off hoff a

end Sys2Proof.Machine
end

section
/-! The flush of a queue pair in ERROR (R263, R269, R279), and its statement. -/

namespace Sys2Proof.Machine

/-! ## Completions (R263) -/

/-- The entry that a completion queue's next place takes, by its PHASE. -/
def cqePhase (c : Cq) : Nat := natOfBool (decide (c.prod / c.depth % 2 = 0))
theorem cqePhase_eq (c : Cq) : cqePhase c = if c.prod / c.depth % 2 = 0 then 1 else 0 := by simp [cqePhase, natOfBool]
def cqeArrival (n : Nat) (c : Cq) (entry : Nat → List Byte) (d : Device) : Arrival :=
  writeArrival n c.fn (c.base + c.prod % c.depth * 32) (entry (cqePhase c)) d

/-- A completion queue after an entry has been written, that of a requester or a responder. -/
def cqFilled (c : Cq) (notice : Nat) : Cq :=
  { c with prod := wrapAdd 32 c.prod 1, noticeOf := c.noticeOf ++ [notice], armed := false }

section
variable {cqn : Nat} {c : Cq} {d : Device} (hc : d.cq cqn = some c) (hreach : Reaches c.fn d)
include hc hreach

theorem cqVerdict_reaches : cqVerdict cqn d = 0 := by
  obtain ⟨henabled, hoff⟩ := hreach
  simp [cqVerdict, hc, henabled, atsVerdict_off hoff]

/-- The entry is one posted write; a queue that is not armed sends no vector. -/
theorem writeCqe_unarmed (harmed : c.armed = false) (n part notice : Nat) (entry : Nat → List Byte) : ∃ k x,
    writeCqe n part cqn notice entry d = { d with
      issued := d.issued ++ [cqeArrival n c entry d], cqs := tinsert cqn (cqFilled c notice) d.cqs, counters := k, cnt := x } := by
  obtain ⟨-, hoff⟩ := hreach
  obtain ⟨k, x, hcount⟩ := countPort_frame 0x062 (slicePort n) 0 0 part 1
    ((fnWrite n c.fn (c.base + c.prod % c.depth * 32) (entry (cqePhase c)) d).putCq cqn (cqFilled c notice))
  refine ⟨k, x, ?_⟩
  have hwrite : writeCqe n part cqn notice entry d = countPort 0x062 (slicePort n) 0 0 part 1
      ((fnWrite n c.fn (c.base + c.prod % c.depth * 32) (entry (cqePhase c)) d).putCq cqn (cqFilled c notice)) := by
    simp only [writeCqe, hc, harmed]
    rfl
  rw [hwrite, hcount, fnWrite_off hoff]
  rfl

end

/-! ## One request that fails (R269, R279) -/

/-- A queue pair whose request `r` has ended with a completion, `rest` being what is left of its requests. -/
def retiredQp (q : Qp) (rest : List WorkReq) : Qp :=
  { q with reqs := rest, completed := wrapAdd 32 q.completed 1, freed := wrapAdd 32 q.completed 1 }

/-- The completion entry of a request that fails. -/
def failedEntry (n : Nat) (q : Qp) (r : WorkReq) (status phase : Nat) : List Byte :=
  cqeBytes r.wqe.wrId n r.wqe.op (movedBytes q r) 0 status phase r.firstPsn

/-- R279: the status of a request that the flush ends. -/
def flushStatus (q : Qp) (r : WorkReq) : Nat := if q.errorPsn = some r.firstPsn ∧ q.errorStatus ≠ 0 then q.errorStatus else 1

theorem flushStatus_ne_zero (q : Qp) (r : WorkReq) : flushStatus q r ≠ 0 := by
  unfold flushStatus
  split
  · rename_i h
    exact h.2
  · exact Nat.one_ne_zero

section
variable {n : Nat} {q : Qp} {r : WorkReq} {c : Cq} {d : Device} (hc : d.cq q.cqn = some c) (hreach : Reaches c.fn d)
include hc hreach

theorem retire_failed (harmed : c.armed = false) {status : Nat} (hstatus : status ≠ 0) (rest : List WorkReq) : ∃ k x,
    retire n q r rest status d = { d with
    qps := tinsert n (retiredQp q rest) d.qps, issued := d.issued ++ [cqeArrival n c (failedEntry n q r status) d],
    cqs := tinsert q.cqn (cqFilled c 0) d.cqs, counters := k, cnt := x } := by
  obtain ⟨k, x, hwrite⟩ := writeCqe_unarmed (d := d.putQp n (retiredQp q rest)) hc hreach harmed n q.part 0 (failedEntry n q r status)
  let e := writeCqe n q.part q.cqn 0 (failedEntry n q r status) (d.putQp n (retiredQp q rest))
  obtain ⟨k', x', hcount⟩ := countPort_frame 0x063 (slicePort n) 0 0 q.part (e.now - r.fetchedAt) e
  have hretire : retire n q r rest status d = countPort 0x063 (slicePort n) 0 0 q.part (e.now - r.fetchedAt) e := by
    simp only [retire, hstatus, ne_eq, not_false_eq_true, decide_true, Bool.true_or, if_true, if_false]
    rfl
  exact ⟨k', x', by rw [hretire, hcount, show e = _ from hwrite]; rfl⟩

theorem flushOne_single (hq : d.qp n = some q) (hreqs : q.reqs = [r]) (hpsns : r.psns ≠ 0) :
    flushOne n r d = retire n q r [] (flushStatus q r) d := by
  simp [flushOne, hq, hreqs, hpsns, cqVerdict_reaches hc hreach, flushStatus]

end

/-! ## The flush of one request -/

theorem answerDestroys_none {d : Device} (h : ∀ e ∈ d.kme.execs, e.op ≠ 0x7103) : answerDestroys d = d := by
  have hnone : d.kme.execs.filter (fun e => decide (e.op = 0x7103) && e.applied) = [] :=
    List.filter_eq_nil_iff.2 fun e he => by simp [h e he]
  unfold answerDestroys
  rw [hnone]
  rfl

/-- The flush of a queue pair with one request: without posted entries beyond it, nothing else is written. -/
theorem qpFlush_single {n : Nat} {q q' : Qp} {r : WorkReq} {d e : Device} (hq : d.qp n = some q) (hstate : q.state = .error)
    (hreqs : q.reqs = [r]) (hwritten : cqVerdict q.cqn d ≠ 1) (he : flushOne n r d = e) (hq' : e.qp n = some q') (hreqs' : q'.reqs = [])
    (hnone : ∀ x ∈ e.kme.execs, x.op ≠ 0x7103) :
    qpFlush n [] d = e.putQp n { q' with unacked := [], fetched := q'.completed } := by
  have hflush : flushList n q.cqn [r] d = e := by simp [flushList, hwritten, he]
  unfold qpFlush
  simp only [hq, hstate, hreqs, hflush, hq', hreqs', List.take_nil, List.map_nil, flushList, qp_putQp, putQp_putQp, ne_eq,
    not_true_eq_false, if_false]
  exact answerDestroys_none hnone

/-! ## The statement -/

/-- Settles O39: the flush ends the one request with an entry of its own status, or FLUSHED. -/
theorem qpFlushCompletesEveryRequest : Obligations.QpFlushCompletesEveryRequest := by
  intro s n q c r d hqps hstate hreqs hpsns hc harmed hreach hnone status entry
  have hq : d.qp n = some q := qp_single hqps
  obtain ⟨k, x, hretire⟩ := retire_failed (n := n) (r := r) hc hreach harmed (flushStatus_ne_zero q r) []
  have hone := (flushOne_single hc hreach hq hreqs hpsns).trans hretire
  have hq' : (flushOne n r d).qp n = some (retiredQp q []) := by rw [hone]; exact qp_putQp n (retiredQp q []) d
  have hflush := qpFlush_single hq hstate hreqs (by rw [cqVerdict_reaches hc hreach]; decide) rfl hq' rfl (by rw [hone]; exact hnone)
  rw [hone] at hflush
  refine done_gives_issues rfl hflush fun o m l => ⟨⟨_, qp_putQp n _ _, rfl, rfl, rfl, hstate⟩, ⟨_, cq_putCq q.cqn _ d, rfl⟩, ?_, rfl⟩
  exact ⟨_, List.mem_append_left o (List.mem_append_right d.issued (List.mem_singleton_self _)), rfl, rfl, rfl,
    writeArrival_addr hreach.2 n _ _, congrArg (failedEntry n q r (flushStatus q r)) (cqePhase_eq c)⟩

end Sys2Proof.Machine
end

section
/-! The items that a queue pair sends (R252, R266, R275), its entry to ERROR (R279), and what the answers of commands leave of them. -/

namespace Sys2Proof.Machine

/-! ## Items sent -/

/-- An item of queue pair `n` waits to be issued. -/
def Sends (n : Nat) (h : RmaHdr) (d : Device) : Prop := ∃ x ∈ d.issued, x.port = 96 + n % 4 ∧ x.rma = some h

theorem Sends.mono {n : Nat} {h : RmaHdr} {d e : Device} (hs : Sends n h d) (hi : d.issued <+: e.issued) : Sends n h e := by
  obtain ⟨x, hx, hport, hrma⟩ := hs
  exact ⟨x, hi.subset hx, hport, hrma⟩

theorem sends_sendRma (n : Nat) (h : RmaHdr) (d : Device) : Sends n h (sendRma n h d) :=
  ⟨_, List.mem_append_right d.issued (List.mem_singleton_self _), rfl, rfl⟩

theorem sendRma_issues (n : Nat) (h : RmaHdr) (d : Device) : d.issued <+: (sendRma n h d).issued := List.prefix_append _ _

@[simp] theorem sendRma_qps (n : Nat) (h : RmaHdr) (d : Device) : (sendRma n h d).qps = d.qps := rfl
@[simp] theorem sendRma_qp (n m : Nat) (h : RmaHdr) (d : Device) : (sendRma n h d).qp m = d.qp m := rfl
@[simp] theorem sendRma_items (n : Nat) (h : RmaHdr) (d : Device) : (sendRma n h d).items = d.items := rfl
@[simp] theorem sendRma_now (n : Nat) (h : RmaHdr) (d : Device) : (sendRma n h d).now = d.now := rfl

/-- A write of queue pair `n`'s engine to host memory waits to be issued. -/
def Writes (n : Nat) (f : Fn) (a : Nat) (data : List Byte) (d : Device) : Prop :=
  ∃ x ∈ d.issued, x.port = 96 + n % 4 ∧ x.fn = some f ∧ x.tlp.kind = .memWrite ∧ x.tlp.addr = a ∧ x.tlp.data = data

theorem Writes.mono {n : Nat} {f : Fn} {a : Nat} {data : List Byte} {d e : Device} (hw : Writes n f a data d)
    (hi : d.issued <+: e.issued) : Writes n f a data e := by
  obtain ⟨x, hx, hwrite⟩ := hw
  exact ⟨x, hi.subset hx, hwrite⟩

theorem writes_fnWrite {f : Fn} {d : Device} (hoff : (d.func f).atsEnable = false) (n a : Nat) (data : List Byte) :
    Writes n f a data (fnWrite n f a data d) := by
  rw [fnWrite_off hoff]
  exact ⟨writeArrival n f a data d, List.mem_append_right d.issued (List.mem_singleton_self _), rfl, rfl, rfl,
    writeArrival_addr hoff n a data, rfl⟩

section
variable {f : Fn} {d : Device} (hoff : (d.func f).atsEnable = false) (n a : Nat) (data : List Byte)
include hoff

theorem fnWrite_qp (m : Nat) : (fnWrite n f a data d).qp m = d.qp m := by rw [fnWrite_off hoff]; rfl
theorem fnWrite_items : (fnWrite n f a data d).items = d.items := by rw [fnWrite_off hoff]

end

/-! ## Acknowledgements and the entry to ERROR (R275, R279) -/

/-- A queue pair that enters ERROR from RTS, where its peer is told. -/
def erroredQp (q : Qp) (status : Nat) (psn : Option Nat) : Qp :=
  { q with state := .error, errorStatus := status, errorPsn := psn, rereads := [], faultSent := true }

/-- The device that has counted the entry. -/
def countError (n : Nat) (d : Device) : Device :=
  { d with rma := { d.rma with qpErrors := d.rma.qpErrors.set (n % 4) (satAdd 0xFFFF (d.rma.qpErrors.getD (n % 4) 0) 1),
                               intStatus := d.rma.intStatus ||| 2 } }

section
variable {n : Nat} {q : Qp} {d : Device} (hq : d.qp n = some q)
include hq

/-- R275: an acknowledgement covers every completion so far. -/
theorem sendAck_eq (syndrome psn : Nat) : sendAck n syndrome psn d =
    (sendRma n (ackHdr n syndrome psn q d) d).putQp n { q with sinceAck := 0, uncoveredAt := none } := by
  simp only [sendAck, hq]

theorem toError_error (hstate : q.state = .error) (status : Nat) (psn : Option Nat) : toError n status psn d = d := by
  simp [toError, hq, hstate]

theorem toError_rts (hstate : q.state = .rts) (status : Nat) (psn : Option Nat) : toError n status psn d =
    sendRma n (ackHdr n 5 q.epsn q d) ((countError n d).putQp n (erroredQp q status psn)) := by
  unfold toError
  simp only [hq, hstate, decide_true, if_true, reduceCtorEq, if_false]
  rfl

theorem toError_qp (hstate : q.state = .rts) (status : Nat) (psn : Option Nat) :
    (toError n status psn d).qp n = some (erroredQp q status psn) := by
  rw [toError_rts hq hstate, sendRma_qp, qp_putQp]

theorem toError_issues (hstate : q.state = .rts) (status : Nat) (psn : Option Nat) :
    d.issued <+: (toError n status psn d).issued := by
  rw [toError_rts hq hstate]
  exact (sendRma_issues n _ ((countError n d).putQp n (erroredQp q status psn)) :)

end

theorem intStatus_countError (n : Nat) (d : Device) : (countError n d).rma.intStatus.getLsbD 1 = true := by
  simp [countError]

/-! ## What answers leave waiting to be issued -/

theorem sendVector_issues (f : Fn) (v : Nat) (d : Device) : d.issued <+: (sendVector f v d).issued := by
  unfold sendVector sendVectorAt
  extract_lets k e
  split
  · split
    · exact List.prefix_rfl
    · exact List.prefix_append _ _
  · exact List.prefix_rfl

theorem mbxRaise_issues (f : Fn) (bits : BitVec 5) (d : Device) : d.issued <+: (mbxRaise f bits d).issued := by
  unfold mbxRaise
  extract_lets m d'
  split
  · exact List.prefix_rfl
  · exact sendVector_issues f 0 d'

theorem mailboxReply_issues (f : Fn) (op : Nat) (c : Cmd) (a : Ans) (flags : Nat) (d : Device) :
    d.issued <+: (mailboxReply f op c a flags d).issued := by
  unfold mailboxReply
  extract_lets m st m'
  split
  · exact List.prefix_rfl
  · exact (mbxRaise_issues f 0x02 (d.setMailbox f _) :)

theorem mailboxNotice_issues (f : Fn) (op : Nat) (c : Cmd) (a : Ans) (flags : Nat) (d : Device) :
    d.issued <+: (mailboxNotice f op c a flags d).issued := by
  unfold mailboxNotice
  extract_lets m
  split
  · exact List.prefix_rfl
  · exact (mbxRaise_issues f 0x04 (d.setMailbox f _) :)

theorem storeAnswer_issued (c : Cmd) (op : Nat) (notice final : Bool) (bytes : List Byte) (d : Device) :
    (storeAnswer c op notice final bytes d).issued = d.issued := by
  unfold storeAnswer
  split
  · rfl
  · split <;> rfl

theorem sayLines_issued (l : List String) (d : Device) : (sayLines l d).issued = d.issued :=
  List.foldlRecOn l _ (motive := fun e : Device => e.issued = d.issued) rfl fun _ he _ _ => he

theorem sayAnswer_issued (w : TextWait) (a : Ans) (d : Device) : (sayAnswer w a d).issued = d.issued := by
  unfold sayAnswer
  extract_lets adit d₁
  split
  · split <;> exact sayLines_issued _ d₁
  · exact sayLines_issued _ d₁

theorem sendTimes_issued (s : Source) (kind : Nat) (bytes : List Byte) (n : Nat) (d : Device) :
    (sendTimes s kind bytes n d).issued = d.issued := by
  have hsend (d : Device) : (sendMessage s kind bytes d).issued = d.issued := by
    unfold sendMessage sendMgmt
    extract_lets d₁ r
    split
    · split <;> rfl
    · split <;> rfl
  induction n generalizing d with
  | zero => rfl
  | succ n ih => exact (ih _).trans (hsend d)

theorem lockAtReply_issued (c : Cmd) (d : Device) : (lockAtReply c d).issued = d.issued := by
  unfold lockAtReply
  split
  · rfl
  · split
    · split <;> rfl
    · rfl

theorem deliver_issues (op : Nat) (c : Cmd) (a : Ans) (notice final : Bool) (d : Device) :
    d.issued <+: (deliver op c a notice final d).issued := by
  unfold deliver
  extract_lets flags bytes n d₁
  have h₁ : d₁.issued = d.issued := storeAnswer_issued c op notice final bytes d
  rw [← h₁]
  split
  · rw [h₁]
    split
    · exact mailboxNotice_issues _ op c a flags d
    · exact mailboxReply_issues _ op c a flags d
  · split
    · rw [h₁]
    · split
      · exact List.prefix_rfl
      · split
        · rw [sayLines_issued]
        · split
          · rw [sayAnswer_issued]
          · rw [sendTimes_issued]

/-- What waits to be issued still waits after an answer. -/
theorem finish_issues (op : Nat) (c : Cmd) (a : Ans) (d : Device) : d.issued <+: (finish op c a d).issued := by
  unfold finish
  extract_lets wasLong k d₁ d₂
  have h₂ : d₂.issued = d.issued := by
    unfold d₂
    split
    · rfl
    · exact lockAtReply_issued c d₁
  rw [← h₂]
  exact deliver_issues op c _ wasLong true d₂

/-- R261: the answers to REG_DEREGISTER leave the queue pairs, and what waits to be issued; without relayed commands they are no
items. -/
theorem answerDeregister_leaves (d : Device) (hown : ∀ y ∈ d.kme.execs, y.cmd.source.transport ≠ 6) :
    (answerDeregister d).qps = d.qps ∧ (answerDeregister d).items = d.items ∧ d.issued <+: (answerDeregister d).issued := by
  unfold answerDeregister
  refine List.foldlRecOn _ _ (motive := fun (e : Device) => e.qps = d.qps ∧ e.items = d.items ∧ d.issued <+: e.issued)
    ⟨rfl, rfl, List.prefix_rfl⟩ fun e he y hy => ?_
  obtain ⟨hqps, hitems, hissued⟩ := he
  split
  · exact ⟨hqps, hitems, hissued⟩
  · have hbeside := (finishExec_answers y (ansOk []) e).besideAnswer
    exact ⟨(congrArg Device.qps hbeside :).trans hqps, (finish_items (hown y (List.mem_filter.1 hy).1) _ _ e).trans hitems,
      hissued.trans (finish_issues _ _ _ e)⟩

end Sys2Proof.Machine
end

section
/-! The responder of the RMA engine (Table 9.6, R253, R255, R272 to R277), and its statement. -/

namespace Sys2Proof.Machine

/-! ## PSNs (R266) -/

theorem psnFrom_self (a : Nat) : psnFrom a a = 0 := by unfold psnFrom; omega
theorem psnFrom_succ {a : Nat} (h : a < 2 ^ 24) : psnFrom (psnAdd a 1) a = 1 := by unfold psnFrom psnAdd; omega
theorem psnAdd_zero {a : Nat} (h : a < 2 ^ 24) : psnAdd a 0 = a := Nat.mod_eq_of_lt h

/-! ## An item that arrives (Table 9.6) -/

theorem lacking_unbacked {d : Device} (hu : Unbacked d) (n : Nat) (key : Option Nat) : lacking n key d = none := by
  have hresident (region : Bool) (k : Nat) : isResident region k d = true := by simp [isResident, hu.backed]
  cases key <;> simp [lacking, hresident]

theorem responderArrival_none {h : RmaHdr} {d : Device} (hq : d.qp h.dstQpn = none) : responderArrival h d = countStray d := by
  simp only [responderArrival, hq]

/-- What arrives for a queue pair from elsewhere, or during the fence of its partition, is stray. -/
theorem responderArrival_stray {h : RmaHdr} {q : Qp} {d : Device} (hq : d.qp h.dstQpn = some q)
    (hstray : fromPeer q h = false ∨ d.fenced q.part = true) : responderArrival h d = countStray d := by
  simp only [responderArrival, hq]
  split
  · rfl
  · rename_i hruns
    rw [if_pos (hstray.resolve_left fun hpeer => hruns (by simp [hpeer]))]

/-- The checks of Table 9.6 from the duplicates on, for an item of a running queue pair. -/
def judgeArrival (n : Nat) (q : Qp) (h : RmaHdr) (d : Device) : Device :=
  let behind := psnFrom q.epsn h.psn
  if (1 ≤ behind ∧ behind ≤ 2 ^ 23) ∨ (q.rx.any fun x => decide (psnFrom h.psn x.hdr.psn < x.psns)) = true then duplicate n q h d
  else if 256 ≤ psnFrom h.psn q.epsn then sendAck n 0 q.epsn (countBeyond d)
  else if keyAdmits q h.key (some (remoteRight h)) h.address (remoteLen h) d = false then
    toError n 0 none (sendRma n (ackHdr n 3 h.psn q d) d)
  else if isAtomicOp h.op ∧ (h.address % 8 ≠ 0 ∨ q.atomicBusy = true) then toError n 0 none (sendRma n (ackHdr n 4 h.psn q d) d)
  else if h.op = 2 ∧ h.last = true ∧ q.immDepth ≤ noticesOpen q then sendRma n (ackHdr n 2 h.psn q d) d
  else
    let q' := { q with rx := q.rx ++ [{ hdr := h, psns := arrivalPsns h, complete := false }],
                       atomicBusy := q.atomicBusy || isAtomicOp h.op }
    let a := beginAccess n q' h (d.putQp n q')
    if a.2 then a.1 else placementFault n a.1

/-- What the statement asks of an item for a running queue pair. -/
structure Heard (n : Nat) (q : Qp) (h : RmaHdr) (d : Device) : Prop where
  resident : Unbacked d
  object : d.qp n = some q
  running : q.state = .rts
  dst : h.dstQpn = n
  peer : fromPeer q h = true
  function : (d.func q.fn).flr = .idle
  open_ : d.fenced q.part = false
  psn : h.psn < 2 ^ 24
  epsn : q.epsn < 2 ^ 24

namespace Heard
variable {n : Nat} {q : Qp} {h : RmaHdr} {d : Device} (hh : Heard n q h d)
include hh

theorem responderArrival_eq : responderArrival h d = judgeArrival n q h d := by
  have hruns : (!(decide (q.state = .rts) && fromPeer q h && decide ((d.func q.fn).flr = .idle))) = false := by
    simp [hh.running, hh.peer, hh.function]
  simp only [responderArrival, hh.dst, hh.object, hruns, hh.open_, lacking_unbacked hh.resident, hh.resident.touch,
    Bool.false_eq_true, if_false]
  rfl

/-- R273: a duplicate write is counted and acknowledged. -/
theorem duplicate_write (hwrite : isWriteOp h.op = true) (hepsn : q.epsn = psnAdd h.psn 1) :
    responderArrival h d = sendAck n 0 q.epsn (countDup d) := by
  have hbehind : psnFrom q.epsn h.psn = 1 := by rw [hepsn]; exact psnFrom_succ hh.psn
  have hatomic : isAtomicOp h.op = false ∧ h.op ≠ 3 := by
    rcases (by simpa [isWriteOp] using hwrite : h.op = 1 ∨ h.op = 2) with hop | hop <;> simp [hop, isAtomicOp]
  rw [hh.responderArrival_eq, judgeArrival, hbehind, if_pos (.inl (by decide))]
  simp [duplicate, hatomic]

section
variable (hrx : q.rx = [])
include hrx

/-- An item beyond the window is acknowledged only. -/
theorem beyond (hpsn : h.psn = psnAdd q.epsn 256) : responderArrival h d = sendAck n 0 q.epsn (countBeyond d) := by
  have hlt := hh.epsn
  have hbehind : psnFrom q.epsn h.psn = 2 ^ 24 - 256 := by rw [hpsn]; unfold psnFrom psnAdd; omega
  have hahead : psnFrom h.psn q.epsn = 256 := by rw [hpsn]; unfold psnFrom psnAdd; omega
  rw [hh.responderArrival_eq, judgeArrival, hbehind, hahead, hrx, if_neg (by simp), if_pos (Nat.le_refl 256)]

variable (hpsn : h.psn = q.epsn)
include hpsn

/-- R259: a key that does not allow the access ends the queue pair. -/
theorem refused (hkey : keyAdmits q h.key (some (remoteRight h)) h.address (remoteLen h) d = false) :
    responderArrival h d = toError n 0 none (sendRma n (ackHdr n 3 q.epsn q d) d) := by
  rw [hh.responderArrival_eq, judgeArrival, hpsn, psnFrom_self, hrx, if_neg (by simp), if_neg (by decide), if_pos hkey]

/-- R272: a write that is accepted is placed. -/
theorem accepted (hoff : (d.func q.fn).atsEnable = false) (hop : h.op = 1) (hdata : 0 < h.data.length)
    (hkey : keyAdmits q h.key (some remoteWrite) h.address h.data.length d = true) : responderArrival h d =
    fnWrite n q.fn h.address h.data (d.putQp n { q with rx := [{ hdr := h, psns := 1, complete := false }] }) := by
  have hkey : keyAdmits q h.key (some (remoteRight h)) h.address (remoteLen h) d ≠ false := by
    simp [remoteRight, remoteLen, isWriteOp, hop, hkey]
  have hbegin (q' : Qp) (hfn : q'.fn = q.fn) :
      beginAccess n q' h (d.putQp n q') = (fnWrite n q.fn h.address h.data (d.putQp n q'), true) := by
    have hverdict (write : Bool) (a len : Nat) : atsVerdict q.fn write a len (d.putQp n q') = 0 := atsVerdict_off hoff write a len
    simp [beginAccess, remoteLen, isWriteOp, hop, Nat.ne_of_gt hdata, hfn, hverdict]
  rw [hh.responderArrival_eq, judgeArrival, hpsn, psnFrom_self, hrx, if_neg (by simp), if_neg (by decide), if_neg hkey,
    if_neg (by simp [hop, isAtomicOp]), if_neg (by simp [hop])]
  simp only [hbegin, if_true, hop, isAtomicOp, arrivalPsns]
  simp

end
end Heard

/-! ## A placement that is complete (R273 to R275) -/

section
variable {n : Nat} {q : Qp} {x : RxSeg} {d : Device} (hq : d.qp n = some q)
include hq

theorem segmentComplete_none (hrx : q.rx = []) (hrereads : q.rereads = []) (psn : Nat) (data : List Byte) :
    segmentComplete n psn data d = d := by
  simp [segmentComplete, hq, hrx, hrereads]

/-- A queue pair whose item with a PSN is complete, and one whose EPSN has passed the one write that it held, a whole message. -/
def completedQp (q : Qp) (x : RxSeg) (psn now : Nat) : Qp :=
  { q with rx := q.rx.map (fun y => if y.hdr.psn = psn then { y with complete := true } else y)
           sinceAck := q.sinceAck + x.psns, uncoveredAt := some (q.uncoveredAt.getD now) }
def passedQp (q : Qp) (now : Nat) : Qp :=
  { q with epsn := psnAdd q.epsn 1, epsnAt := now, nakAt := none, rx := [], msgBytes := 0 }

/-- R275: the acknowledgement of a whole message, or of 64 PSNs. -/
def ackWhenDue (n : Nat) (a : Device × Bool) : Device :=
  match a.1.qp n with
  | some z => if decide (z.state = .rts) && (a.2 || decide (64 ≤ z.sinceAck)) then sendAck n 0 z.epsn a.1 else a.1
  | none => a.1

theorem advanceEpsn_write (hrx : q.rx = [x]) (hdone : x.complete = true) (hpsn : x.hdr.psn = q.epsn) (hpsns : x.psns = 1)
    (hop : x.hdr.op = 1) (hlast : x.hdr.last = true) (hfirst : q.msgBytes = 0) (htotal : x.hdr.totalLen = x.hdr.data.length)
    (fuel : Nat) : advanceEpsn n (fuel + 2) false d =
    (d.putQp n (passedQp q d.now), true) := by
  simp [advanceEpsn, passedQp, hq, hrx, hdone, hpsn, hpsns, hop, hlast, hfirst, htotal, isWriteOp]

section
variable (hrx : q.rx = [x]) (hopen : x.complete = false) (hpsn : x.hdr.psn = q.epsn) (hop : x.hdr.op = 1) (hrts : q.state = .rts)
  (henabled : fnEnabled q.fn d = true) (hasks : d.atsAsks = [])
include hrx hopen hpsn hop hrts henabled hasks

/-- A placement that is still inside is not complete. -/
theorem segmentComplete_inside (hout : accessOut q.fn x.hdr.address x.hdr.data.length d = true) (data : List Byte) :
    segmentComplete n q.epsn data d = d := by
  simp [segmentComplete, hq, hrx, hopen, hpsn, hrts, henabled, responderWaits, hasks, remoteLen, isWriteOp, hop, hout]

theorem segmentComplete_completes (hout : accessOut q.fn x.hdr.address x.hdr.data.length d = false) (data : List Byte) :
    segmentComplete n q.epsn data d = answerDeregister (ackWhenDue n (advanceEpsn n 256 false
      (concludeItem n (completedQp q x q.epsn d.now) x.hdr data (d.putQp n (completedQp q x q.epsn d.now))))) := by
  have hfind : q.rx.find? (fun y => decide (y.hdr.psn = q.epsn) && !y.complete) = some x := by simp [hrx, hpsn, hopen]
  have hleft : ¬ (fnEnabled q.fn d = false ∨ responderWaits n d = true ∨ accessOut q.fn x.hdr.address (remoteLen x.hdr) d = true) := by
    simp [henabled, responderWaits, hasks, remoteLen, isWriteOp, hop, hout]
  simp only [segmentComplete, hq, hfind]
  rw [if_neg (by simp [hrts]), if_neg hleft]
  rfl

/-- R274, R275: EPSN passes a complete message, which is acknowledged at once. -/
theorem segmentComplete_write (hpsns : x.psns = 1) (hlast : x.hdr.last = true) (hfirst : q.msgBytes = 0)
    (htotal : x.hdr.totalLen = x.hdr.data.length) (hout : accessOut q.fn x.hdr.address x.hdr.data.length d = false)
    (data : List Byte) : segmentComplete n q.epsn data d =
      answerDeregister (sendAck n 0 (psnAdd q.epsn 1) (d.putQp n (passedQp (completedQp q x q.epsn d.now) d.now))) := by
  have hconclude (z : Qp) (e : Device) : concludeItem n z x.hdr data e = e := by simp [concludeItem, hop, isAtomicOp]
  have hadvance := advanceEpsn_write (x := { x with complete := true }) (qp_putQp n (completedQp q x q.epsn d.now) d)
    (by simp [completedQp, hrx, hpsn]) rfl hpsn hpsns hop hlast hfirst htotal 254
  rw [segmentComplete_completes hq hrx hopen hpsn hop hrts henabled hasks hout, hconclude, hadvance, putQp_putQp]
  simp only [ackWhenDue, qp_putQp]
  rw [if_pos (by simp [passedQp, completedQp, hrts])]
  rfl

end
end

/-! ## Times (R275 to R277) -/

section
variable {n : Nat} {q : Qp} {d : Device} (hq : d.qp n = some q)
include hq

theorem reasmTimeout_hole {x : RxSeg} (hrts : q.state = .rts) (hrx : q.rx = [x]) (hpsn : x.hdr.psn ≠ q.epsn) (hnak : q.nakAt = none)
    (hdue : q.epsnAt + q.reasmTimeout * 10000 ≤ d.now) :
    reasmTimeout n d = sendAck n 1 q.epsn (d.putQp n { q with nakAt := some d.now }) := by
  have hlate : max q.epsnAt (q.nakAt.getD 0) + q.reasmTimeout * 10 * usNs ≤ d.now := by
    have hns : q.reasmTimeout * 10 * usNs = q.reasmTimeout * 10000 := Nat.mul_assoc _ 10 1000
    simpa only [hnak, hns, Option.getD_none, Nat.max_eq_left (Nat.zero_le _)] using hdue
  simp only [reasmTimeout, hq]
  rw [if_pos ⟨hrts, by simp [hrx, hpsn], hlate⟩]

theorem reasmTimeout_none (hrx : q.rx = []) : reasmTimeout n d = d := by
  simp [reasmTimeout, hq, hrx]

end

/-! ## The backing store (R253, R255) -/

section
variable {m : MissWait} {region : Bool} {n : Nat} {d : Device}

theorem touch_leaves (region : Bool) (n : Nat) (d : Device) : (touch region n d).missWait = d.missWait ∧
    (touch region n d).rma.cntEvict = d.rma.cntEvict ∧ (touch region n d).items = d.items := by
  unfold touch
  split
  · exact ⟨rfl, rfl, rfl⟩
  · extract_lets u e
    split
    · split <;> exact ⟨rfl, rfl, rfl⟩
    · split
      · exact ⟨rfl, rfl, rfl⟩
      · split <;> exact ⟨rfl, rfl, rfl⟩

/-- An entry that comes while a slot is free makes none go. -/
theorem backingFetch_room (hwait : d.missWait = [m]) (hregion : m.region = region) (hnumber : m.number = n) (hop : m.hdr.op = 0)
    (hroom : (usesOf region d).length < residentSlots region d) :
    backingFetch region n d = countGlobal 0x103 0x3F 1 (touch region n { d with missWait := [] }) := by
  have hnotFull : ¬ residentSlots region d ≤ ((usesOf region d).filter fun e => isResident region e.1 d).length :=
    Nat.not_le.mpr (Nat.lt_of_le_of_lt (List.length_filter_le _ _) hroom)
  have hgone : d.missWait.filter (fun m => !(decide (m.region = region) && decide (m.number = n))) = [] := by
    simp [hwait, hregion, hnumber]
  have hcome : d.missWait.filter (fun m => decide (m.region = region) && decide (m.number = n)) = [m] := by
    simp [hwait, hregion, hnumber]
  have hresume (e : Device) : resumeItem m e = e := by simp [resumeItem, hop]
  simp only [backingFetch, hcome, List.isEmpty_cons, List.foldl_cons, List.foldl_nil, hresume, hnotFull, decide_false,
    Bool.false_eq_true, if_false]
  split <;> rw [hgone]

theorem backingFetch_none (hwait : d.missWait = []) : backingFetch region n d = d := by simp [backingFetch, hwait]

end

section
variable {s : State} {region : Bool} {n : Nat}

theorem execBackingStall_none (hwait : s.dev.missWait = []) : execBackingStall region n s = done s s.dev := by
  simp [execBackingStall, hwait]

theorem execBackingStall_late {m : MissWait} (hwait : s.dev.missWait = [m]) (hregion : m.region = region) (hnumber : m.number = n)
    (hlate : m.since + msNs ≤ s.dev.now) : execBackingStall region n s =
    done s { s.dev with rma := { s.dev.rma with intStatus := s.dev.rma.intStatus ||| 1 } } := by
  simp [execBackingStall, hwait, hregion, hnumber, hlate]

end

/-! ## Rows of one queue pair (R275, R277) -/

section
variable {s : State} {n : Nat} {q : Qp} (hq : s.dev.qp n = some q)

theorem execPlacementFault_none (hnone : s.dev.qp n = none) : execPlacementFault n s = done s s.dev := by
  simp only [execPlacementFault, hnone]

include hq

theorem execPlacementFault_rts (hrts : q.state = .rts) : execPlacementFault n s = done s (toError n 0 none s.dev) := by
  simp only [execPlacementFault, hq, if_pos hrts, placementFault]

theorem execRmaAckSend_due {t : Nat} (hrts : q.state = .rts) (ht : q.uncoveredAt = some t) (hdue : t + 1000 ≤ s.dev.now) :
    execRmaAckSend n s = done s (sendAck n 0 q.epsn s.dev) := by
  simp only [execRmaAckSend, hq, ht, if_pos (⟨hrts, hdue⟩ : q.state = .rts ∧ t + usNs ≤ s.dev.now)]

theorem execRmaAckSend_early {t : Nat} (ht : q.uncoveredAt = some t) (hearly : s.dev.now < t + 1000) :
    execRmaAckSend n s = done s s.dev := by
  have hwaits : ¬ (q.state = .rts ∧ t + usNs ≤ s.dev.now) := fun h => absurd h.2 (Nat.not_le.mpr hearly)
  simp only [execRmaAckSend, hq, ht, if_neg hwaits]

theorem execRmaAckSend_covered (ht : q.uncoveredAt = none) : execRmaAckSend n s = done s s.dev := by
  simp only [execRmaAckSend, hq, ht]

end

/-! ## What the placement of a write gives -/

/-- The queue pair that places the one item it holds. -/
def placingQp (q : Qp) (h : RmaHdr) : Qp := { q with rx := [{ hdr := h, psns := 1, complete := false }] }

theorem Heard.gives_placement {s : State} {n : Nat} {q : Qp} {h : RmaHdr} (hh : Heard n q h s.dev) (hrx : q.rx = [])
    (hpsn : h.psn = q.epsn) (hoff : (s.dev.func q.fn).atsEnable = false) (hop : h.op = 1) (hdata : 0 < h.data.length)
    (hkey : keyAdmits q h.key (some remoteWrite) h.address h.data.length s.dev = true) :
    Gives (.responderArrival h) s fun t => Writes n q.fn h.address h.data t ∧
      (∃ q', t.qp n = some q' ∧ q'.rx = [{ hdr := h, psns := 1, complete := false }] ∧ q'.epsn = q.epsn ∧ q'.state = .rts) ∧
      t.items = s.dev.items := by
  have hoff' : ((s.dev.putQp n (placingQp q h)).func q.fn).atsEnable = false := hoff
  have hwrites := writes_fnWrite hoff' n h.address h.data
  have hqp := (fnWrite_qp hoff' n h.address h.data n).trans (qp_putQp n (placingQp q h) s.dev)
  exact done_gives_issues rfl (hh.accepted hrx hpsn hoff hop hdata hkey) fun o _ _ =>
    ⟨hwrites.mono (List.prefix_append _ o), ⟨placingQp q h, hqp, rfl, rfl, hh.running⟩, fnWrite_items hoff' n h.address h.data⟩

section
variable {s : State} {n : Nat} {q : Qp} {x : RxSeg} (hq : s.dev.qp n = some q) (hrx : q.rx = [x]) (hopen : x.complete = false)
  (hpsn : x.hdr.psn = q.epsn) (hop : x.hdr.op = 1) (hrts : q.state = .rts) (henabled : fnEnabled q.fn s.dev = true)
  (hasks : s.dev.atsAsks = [])
include hq hrx hopen hpsn hop hrts henabled hasks

theorem gives_passed (hpsns : x.psns = 1) (hlast : x.hdr.last = true) (hfirst : q.msgBytes = 0)
    (htotal : x.hdr.totalLen = x.hdr.data.length) (hout : accessOut q.fn x.hdr.address x.hdr.data.length s.dev = false)
    (hown : ∀ y ∈ s.dev.kme.execs, y.cmd.source.transport ≠ 6) : Gives (.segmentComplete n q.epsn []) s fun t =>
      (∃ q', t.qp n = some q' ∧ q'.rx = [] ∧ q'.epsn = psnAdd q.epsn 1 ∧ q'.state = .rts ∧ q'.sinceAck = 0) ∧
      (∃ a, Sends n a t ∧ a.op = 8 ∧ a.syndrome = 0 ∧ a.psn = psnAdd q.epsn 1) ∧ t.items = s.dev.items := by
  let z := passedQp (completedQp q x q.epsn s.dev.now) s.dev.now
  let e := sendAck n 0 (psnAdd q.epsn 1) (s.dev.putQp n z)
  have hack := sendAck_eq (qp_putQp n z s.dev) 0 (psnAdd q.epsn 1)
  have hown' : ∀ y ∈ e.kme.execs, y.cmd.source.transport ≠ 6 := by unfold e; rw [hack]; exact hown
  obtain ⟨hqps, hitems, hissues⟩ := answerDeregister_leaves e hown'
  have hz : (answerDeregister e).qp n = some { z with sinceAck := 0, uncoveredAt := none } := by
    rw [Device.qp, hqps]
    unfold e
    rw [hack]
    exact qp_putQp n _ _
  have hsends : Sends n (ackHdr n 0 (psnAdd q.epsn 1) z (s.dev.putQp n z)) e := by
    unfold e
    rw [hack]
    exact sends_sendRma n _ (s.dev.putQp n z)
  refine done_gives_issues rfl
    (segmentComplete_write hq hrx hopen hpsn hop hrts henabled hasks hpsns hlast hfirst htotal hout []) fun o _ _ =>
    ⟨⟨_, hz, rfl, rfl, hrts, rfl⟩, ⟨_, hsends.mono (hissues.trans (List.prefix_append _ o)), rfl, rfl, rfl⟩, hitems.trans ?_⟩
  unfold e
  rw [hack]
  rfl

end

theorem gives_fault {s : State} {n : Nat} {q : Qp} (hq : s.dev.qp n = some q) (hrts : q.state = .rts) :
    Gives (.placementFault n) s fun t => Sends n (ackHdr n 5 q.epsn q s.dev) t ∧
      (∃ q', t.qp n = some q' ∧ q'.state = .error ∧ q'.errorStatus = 0 ∧ q'.rx = q.rx) ∧ t.rma.intStatus.getLsbD 1 = true ∧
      t.items = s.dev.items := by
  let e := (countError n s.dev).putQp n (erroredQp q 0 none)
  exact done_gives_issues (execPlacementFault_rts hq hrts) (toError_rts hq hrts 0 none) fun o _ _ =>
    ⟨(sends_sendRma n _ e).mono (List.prefix_append _ o),
      ⟨erroredQp q 0 none, qp_putQp n _ (countError n s.dev), rfl, rfl, rfl⟩, intStatus_countError n s.dev, rfl⟩

/-! ## The statement -/

/-- Settles O40: an item by the first of Table 9.6's checks that it fails, or its placement; a completion by what is still inside; the
rest by their times. -/
theorem rmaResponder : Obligations.RmaResponder := by
  intro s n q h x t0 region m d sent
  refine ⟨fun hu hrun => ?_, fun hnone => done_becomes (execPlacementFault_none hnone) rfl,
    fun hwait hregion hnumber hop hroom => ?fetch,
    fun hwait => ⟨done_becomes rfl (backingFetch_none hwait), done_becomes (execBackingStall_none hwait) rfl⟩,
    fun hwait hregion hnumber hlate => done_becomes (execBackingStall_late hwait hregion hnumber hlate) rfl⟩
  case fetch =>
    obtain ⟨k, w, hcount⟩ := countGlobal_frame 0x103 0x3F 1 (touch region n { d with missWait := [] })
    obtain ⟨hmiss, hevict, hitems⟩ := touch_leaves region n { d with missWait := [] }
    exact done_gives_framed rfl ((backingFetch_room hwait hregion hnumber hop hroom).trans hcount) fun _ _ _ => ⟨hmiss, hevict, hitems⟩
  obtain ⟨hqps, hrts, -, -, -⟩ := hrun
  have hq : d.qp n = some q := qp_single hqps
  have hheard (hmine : h.dstQpn = n ∧ fromPeer q h = true ∧ (d.func q.fn).flr = .idle ∧ d.fenced q.part = false ∧ h.psn < 2 ^ 24 ∧
      q.epsn < 2 ^ 24) : Heard n q h d := by
    obtain ⟨hdst, hpeer, hflr, hfence, hpsn, hepsn⟩ := hmine
    exact ⟨hu, hq, hrts, hdst, hpeer, hflr, hfence, hpsn, hepsn⟩
  refine ⟨fun hstray => ?stray, fun hmine hwrite hepsn => ?duplicate, fun hmine hrx hpsn => ?beyond, fun hmine hrx hpsn hkey => ?refused,
    fun hmine hreach hrx hpsn hop hdata hkey => ?accepted,
    fun hrx hopen hpsn hpsns hop hlast hfirst htotal henabled hasks hown => ⟨fun hout => ?inside, fun hout => ?completes⟩,
    fun hrx hrereads => done_becomes rfl (segmentComplete_none hq hrx hrereads q.epsn []),
    fun ht hdue => ?ackDue, fun ht hearly => done_becomes (execRmaAckSend_early hq ht hearly) rfl,
    fun ht => done_becomes (execRmaAckSend_covered hq ht) rfl,
    fun hrx hpsn hnak hdue => ?reasm, fun hrx => done_becomes rfl (reasmTimeout_none hq hrx), ?fault⟩
  case stray =>
    refine done_becomes rfl ?_
    by_cases hdst : h.dstQpn = n
    · exact responderArrival_stray (hdst ▸ hq) (hstray.resolve_left (not_not.mpr hdst))
    · exact responderArrival_none (qp_other hqps hdst)
  case duplicate =>
    refine done_gives_issues rfl (((hheard hmine).duplicate_write hwrite hepsn).trans (sendAck_eq (d := countDup d) hq 0 q.epsn))
      fun o _ _ => ⟨rfl, (sends_sendRma n _ (countDup d)).mono (List.prefix_append _ o), fun q' hq' => ?_, rfl⟩
    obtain rfl := Option.some.inj ((qp_putQp n _ _).symm.trans hq')
    exact ⟨rfl, rfl⟩
  case beyond =>
    exact done_gives_issues rfl (((hheard hmine).beyond hrx hpsn).trans (sendAck_eq (d := countBeyond d) hq 0 q.epsn))
      fun o _ _ => ⟨rfl, (sends_sendRma n _ (countBeyond d)).mono (List.prefix_append _ o)⟩
  case refused =>
    let e := sendRma n (ackHdr n 3 q.epsn q d) d
    have hissues := toError_issues (d := e) hq hrts 0 none
    exact done_gives_issues rfl ((hheard hmine).refused hrx hpsn hkey) fun o _ _ =>
      ⟨(sends_sendRma n _ d).mono (hissues.trans (List.prefix_append _ o)), _, toError_qp (d := e) hq hrts 0 none, rfl, rfl⟩
  case accepted => exact (hheard hmine).gives_placement hrx hpsn hreach.2 hop hdata hkey
  case inside => exact done_becomes rfl (segmentComplete_inside hq hrx hopen hpsn hop hrts henabled hasks hout [])
  case completes =>
    exact gives_passed hq hrx hopen hpsn hop hrts henabled hasks hpsns hlast hfirst htotal hout hown
  case ackDue =>
    exact done_gives_issues (execRmaAckSend_due hq hrts ht hdue) (sendAck_eq hq 0 q.epsn) fun o _ _ =>
      ⟨(sends_sendRma n _ d).mono (List.prefix_append _ o), qp_putQp n _ _⟩
  case reasm =>
    exact done_gives_issues rfl ((reasmTimeout_hole hq hrts hrx hpsn hnak hdue).trans (sendAck_eq (qp_putQp n _ d) 1 q.epsn))
      fun o _ _ => ⟨⟨_, (sends_sendRma n _ (d.putQp n _)).mono (List.prefix_append _ o), rfl, rfl⟩, _, qp_putQp n _ _, rfl⟩
  case fault => exact gives_fault hq hrts

end Sys2Proof.Machine
end

section
/-! A queue pair that sends, alone on its device and without a shaper (R262, R268, R271, R296): its turn, the reads of its slice, the
fetch of an entry, and the item that it begins with. -/

namespace Sys2Proof.Machine

/-! ## Its turn (R288, R296) -/

theorem Running.object {n : Nat} {q : Qp} {d : Device} (h : Running n q d) : d.qp n = some q := qp_single h.1
theorem Running.rts {n : Nat} {q : Qp} {d : Device} (h : Running n q d) : q.state = .rts := h.2.1

/-- What a queue pair's own progress leaves of it. -/
theorem Running.putQp {n : Nat} {q q' : Qp} {d : Device} (h : Running n q d) (hstate : q'.state = q.state)
    (hshaped : q'.shape.cfg.shaped = false) (hnext : q'.shape.next = none) (hpeer : q'.dstFid = q.dstFid) :
    Running n q' (d.putQp n q') := by
  obtain ⟨hqps, hrts, -, -, hfid⟩ := h
  exact ⟨putQp_single hqps q', hstate.trans hrts, hshaped, hnext, hpeer.trans hfid⟩

theorem Running.peerReachable {n : Nat} {q : Qp} {d : Device} (h : Running n q d) : peerReachable q d = true := by
  obtain ⟨-, -, -, -, hfid⟩ := h
  simp [Machine.peerReachable, hfid]

theorem refill_unshaped {e : EQueue} (hshaped : e.cfg.shaped = false) (hnext : e.next = none) (backlogged : Bool) :
    refill backlogged e = unshapedLevels e := by
  simp [refill, applyShape, hnext, hshaped]

theorem refillBy_unshaped {e : EQueue} (hshaped : e.cfg.shaped = false) (hnext : e.next = none) (k : Nat) (backlogged : Bool) :
    (refillBy k backlogged e).cfg.shaped = false ∧ (refillBy k backlogged e).next = none := by
  have hcfg : (unshapedLevels e).cfg.shaped = false := hshaped
  unfold refillBy
  rw [refill_unshaped hshaped hnext]
  split
  · exact ⟨hshaped, hnext⟩
  · simp only [hcfg, if_true]
    exact ⟨trivial, hnext⟩

/-- A queue pair whose shaper has been evaluated. -/
def evaluatedQp (q : Qp) (d : Device) : Qp := { q with shape := shapeNow q d, evalAt := d.now }

theorem evalShape_eq {n : Nat} {q : Qp} {d : Device} (hq : d.qp n = some q) : evalShape n d = d.putQp n (evaluatedQp q d) := by
  simp only [evalShape, hq]
  rfl

theorem Running.evaluated {n : Nat} {q : Qp} {d : Device} (h : Running n q d) :
    Running n (evaluatedQp q d) (d.putQp n (evaluatedQp q d)) := by
  obtain ⟨hshaped, hnext⟩ := refillBy_unshaped h.2.2.1 h.2.2.2.1 (d.now / 125 - q.evalAt / 125) (segmentReady q d)
  exact h.putQp rfl hshaped hnext rfl

/-- The slice chooses the one queue pair that it has. -/
theorem Running.sliceChooses {n : Nat} {q : Qp} {d : Device} (h : Running n q d) (hready : segmentReady q d = true) :
    sliceChooses n q d = true := by
  obtain ⟨hqps, -, hshaped, hnext, -⟩ := h
  obtain ⟨hfree, -⟩ := refillBy_unshaped hshaped hnext (d.now / 125 - q.evalAt / 125) (segmentReady q d)
  have heligible : queueEligible (shapeNow q d) = true := by simp [queueEligible, shapeNow, hfree]
  have hbest : sliceBest (n % 4) d = [(n, { q with shape := shapeNow q d })] := by simp [sliceBest, hqps, hready, heligible]
  simp only [Machine.sliceChooses, hbest, List.any_cons, List.all_cons, List.any_nil, List.all_nil, decide_true, Nat.le_refl,
    Bool.or_false, Bool.and_true]

theorem chargeQp_unshaped {q : Qp} (h : q.shape.cfg.shaped = false) (x : RmaHdr) : chargeQp x q = q := by simp [chargeQp, h]

@[simp] theorem served_qp (n m : Nat) (q : Qp) (d : Device) : (served n q d).qp m = d.qp m := rfl

/-! ## The reads of a slice (R23) -/

/-- A read of queue pair `n`'s engine from host memory waits to be issued. -/
def Fetches (n : Nat) (f : Fn) (a : Nat) (d : Device) : Prop :=
  ∃ x ∈ d.issued, x.port = 96 + n % 4 ∧ x.fn = some f ∧ x.tlp.kind = .memRead ∧ x.tlp.addr = a

theorem Fetches.mono {n : Nat} {f : Fn} {a : Nat} {d e : Device} (h : Fetches n f a d) (hi : d.issued <+: e.issued) :
    Fetches n f a e := by
  obtain ⟨x, hx, hread⟩ := h
  exact ⟨x, hi.subset hx, hread⟩

/-- The reads of a range are issued, and change nothing else but the tags that are in use. -/
theorem reads_issue {f : Fn} (n : Nat) (cs : List (Nat × Nat)) {d : Device} (hoff : (d.func f).atsEnable = false) : ∃ l k,
    cs.foldl (fun d c => issueRead n f (engineTlp .memRead f c.1 c.2 [] d) (atsUse f c.1 d)) d =
      { d with issued := d.issued ++ l, freeCount := k } ∧
    ∀ c ∈ cs, ∃ x ∈ l, x.port = 96 + n % 4 ∧ x.fn = some f ∧ x.tlp.kind = .memRead ∧ x.tlp.addr = c.1 := by
  induction cs generalizing d with
  | nil => exact ⟨[], d.freeCount, by simp, by simp⟩
  | cons c cs ih =>
    let x : Arrival := { port := slicePort n, tlp := { engineTlp .memRead f c.1 c.2 [] d with tag := (engineTag f d).1 },
                         fab := none, rma := none, fn := some f }
    have hone : issueRead n f (engineTlp .memRead f c.1 c.2 [] d) (atsUse f c.1 d) =
        { d with issued := d.issued ++ [x], freeCount := d.freeCount + 1 } := by
      rw [atsUse_off hoff]
      rfl
    obtain ⟨l, k, hl, hreads⟩ := ih (d := { d with issued := d.issued ++ [x], freeCount := d.freeCount + 1 }) hoff
    refine ⟨x :: l, k, ?_, fun e he => ?_⟩
    · rw [List.foldl_cons, hone, hl]
      simp
    · obtain rfl | he := List.mem_cons.1 he
      · exact ⟨x, List.mem_cons_self, rfl, rfl, rfl, hostAddr_off hoff _⟩
      · obtain ⟨y, hy, hread⟩ := hreads e he
        exact ⟨y, List.mem_cons_of_mem x hy, hread⟩

theorem cutRange_head (m fuel a len : Nat) : ∃ k, (a, k) ∈ cutRange m (fuel + 1) a len := by
  unfold cutRange
  extract_lets k
  split
  · exact ⟨len, List.mem_singleton_self _⟩
  · exact ⟨k, List.mem_cons_self⟩

theorem fnRead_fetches {f : Fn} {d : Device} (hoff : (d.func f).atsEnable = false) (n a len : Nat) :
    Fetches n f a (fnRead n f a len d) ∧ (fnRead n f a len d).items = d.items ∧ ∀ m, (fnRead n f a len d).qp m = d.qp m := by
  obtain ⟨l, k, hl, hreads⟩ := reads_issue n (cutRange 4096 (len / 4096 + 3) a len) hoff
  obtain ⟨c, hc⟩ := cutRange_head 4096 (len / 4096 + 2) a len
  obtain ⟨x, hx, hread⟩ := hreads _ hc
  have hfetch : fnRead n f a len d = { d with issued := d.issued ++ l, freeCount := k } := hl
  rw [hfetch]
  exact ⟨⟨x, List.mem_append_right d.issued hx, hread⟩, rfl, fun _ => rfl⟩

/-! ## RMA_SEGMENT_SEND in its steps (R262, R268, R271) -/

/-- The first of a queue pair's requests that has items left to send. -/
def unsent (q : Qp) : Option WorkReq := q.reqs.find? fun r => decide (r.sent < itemsOf r)

/-- A request's next item goes to a peer that can be reached. -/
def sendToPeer (n : Nat) (q : Qp) (r : WorkReq) (data : List Byte) (d : Device) : Device :=
  if peerReachable q d then sendNext n q r data d else toError n 6 (some r.firstPsn) d

/-- What follows the fetch of an entry. -/
def sendFetched (n : Nat) (data : List Byte) (d : Device) : Device :=
  match d.qp n with
  | none => d
  | some q => match (if q.state = .rts then unsent q else none) with
    | some r => sendToPeer n q r data d
    | none => d

/-- What follows the completions and the retransmissions. -/
def sendFurther (n : Nat) (entry : Option (List Byte)) (data : List Byte) (d : Device) : Device :=
  match d.qp n with
  | none => d
  | some q =>
    if qpRuns q d = false then d
    else match unsent q with
      | some r => sendToPeer n q r data d
      | none => if q.fetched = q.sqPi ∨ d.fenced q.part = true then d else sendFetched n data (fetchEntry n q entry d)

theorem segmentSend_stopped {n : Nat} {q : Qp} {d : Device} (hq : d.qp n = some q) (hstops : qpRuns q d = false)
    (entry : Option (List Byte)) (data : List Byte) : segmentSend n entry data d = d := by
  simp only [segmentSend, hq, hstops, if_true]

theorem sendFetched_idle {n : Nat} {q : Qp} {d : Device} (hq : d.qp n = some q) (hidle : q.reqs = [] ∨ q.state ≠ .rts)
    (data : List Byte) : sendFetched n data d = d := by
  obtain hreqs | hstate := hidle
  · simp [sendFetched, hq, unsent, hreqs]
  · simp [sendFetched, hq, hstate]

theorem qpRuns_rts {q : Qp} {d : Device} (hrts : q.state = .rts) (henabled : fnEnabled q.fn d = true) : qpRuns q d = true := by
  simp [qpRuns, hrts, henabled]

section
variable {n : Nat} {q : Qp} {d : Device} (hu : Unbacked d) (hrun : Running n q d) (henabled : fnEnabled q.fn d = true)
include hu hrun henabled

theorem segmentSend_runs (entry : Option (List Byte)) (data : List Byte) : segmentSend n entry data d =
    let e := completeHeads n q.reqs.length (d.putQp n (evaluatedQp q d))
    sendFurther n entry data (resendDue n q.unacked.length e) := by
  have hlacking (key : Option Nat) : lacking n key d = none := lacking_unbacked hu n key
  have htouch : touch false n (d.putQp n (evaluatedQp q d)) = d.putQp n (evaluatedQp q d) := (hu.putQp n _).touch false n
  simp only [segmentSend, hrun.object, qpRuns_rts hrun.rts henabled, hlacking, evalShape_eq hrun.object, htouch, Bool.true_eq_false, if_false]
  rfl

/-- A queue pair with nothing left to send, and nothing to send again, fetches the next entry. -/
theorem segmentSend_fetches (hreqs : q.reqs = []) (hunacked : q.unacked = []) (hposted : q.fetched ≠ q.sqPi)
    (hopen : d.fenced q.part = false) (entry : Option (List Byte)) (data : List Byte) : segmentSend n entry data d =
    sendFetched n data (fetchEntry n (evaluatedQp q d) entry (d.putQp n (evaluatedQp q d))) := by
  have hruns : qpRuns (evaluatedQp q d) (d.putQp n (evaluatedQp q d)) = true := qpRuns_rts hrun.rts henabled
  have hunsent : unsent (evaluatedQp q d) = none := by simp [unsent, evaluatedQp, hreqs]
  have hfetches : ¬ ((evaluatedQp q d).fetched = (evaluatedQp q d).sqPi ∨
      (d.putQp n (evaluatedQp q d)).fenced (evaluatedQp q d).part = true) :=
    not_or.2 ⟨hposted, fun h => Bool.false_ne_true (hopen.symm.trans h)⟩
  rw [segmentSend_runs hu hrun henabled, hreqs, hunacked]
  simp only [List.length_nil, completeHeads, resendDue, sendFurther, qp_putQp, hruns, hunsent, Bool.true_eq_false, if_false, if_neg hfetches]

end

/-! ## The fetch of an entry (R262) -/

section
variable {n : Nat} {q : Qp} {d : Device}

/-- The place of the next entry in the send queue. -/
def sqSlot (q : Qp) : Nat := q.sqBase + q.fetched % q.sqDepth * 64

/-- A queue pair that has taken over an entry. -/
def takenQp (q : Qp) (w : Wqe) (now : Nat) : Qp :=
  { q with
    reading := none
    reqs := q.reqs ++ [{ wqe := w, firstPsn := q.nextPsn, psns := psnsOf w, sent := 0, placed := [], fetchedAt := now }]
    fetched := wrapAdd 32 q.fetched 1, nextPsn := psnAdd q.nextPsn (psnsOf w) }

theorem takeEntry_eq (w : Wqe) : takeEntry n { q with reading := none } w d = d.putQp n (takenQp q w d.now) := rfl

theorem readReady_slot (hreading : q.reading = some (sqSlot q, 64)) (hout : accessOut q.fn (sqSlot q) 64 d = false) :
    readReady n q (sqSlot q) 64 d = (d.putQp n { q with reading := none }, true) := by
  simp [readReady, hreading, hout]

variable (hoff : (d.func q.fn).atsEnable = false)
include hoff

theorem fetchEntry_begins (entry : Option (List Byte)) (hreading : q.reading ≠ some (sqSlot q, 64)) : fetchEntry n q entry d =
    fnRead n q.fn (sqSlot q) 64 (d.putQp n { q with reading := some (sqSlot q, 64) }) := by
  have hready : readReady n q (sqSlot q) 64 d =
      (fnRead n q.fn (sqSlot q) 64 (d.putQp n { q with reading := some (sqSlot q, 64) }), false) := if_neg hreading
  unfold sqSlot at hready ⊢
  simp only [fetchEntry, atsVerdict_off hoff, hready, if_true]

variable (hreading : q.reading = some (sqSlot q, 64))
include hreading

theorem fetchEntry_inside (entry : Option (List Byte)) (hout : accessOut q.fn (sqSlot q) 64 d = true) : fetchEntry n q entry d = d := by
  have hready : readReady n q (sqSlot q) 64 d = (d, false) := by simp [readReady, hreading, hout]
  unfold sqSlot at hready
  simp only [fetchEntry, atsVerdict_off hoff, hready, if_true]

variable (hout : accessOut q.fn (sqSlot q) 64 d = false)
include hout

theorem fetchEntry_takes {b : List Byte} (hvalid : wqeValid (wqeOf b) = true) :
    fetchEntry n q (some b) d = d.putQp n (takenQp q (wqeOf b) d.now) := by
  have hready := readReady_slot (n := n) hreading hout
  unfold sqSlot at hready
  simp only [fetchEntry, atsVerdict_off hoff, hready, hvalid, takeEntry_eq, Bool.true_eq_false, if_false, if_true]
  exact putQp_putQp n _ _ d

/-- An entry that could not be read takes the queue pair to ERROR (R262). -/
theorem fetchEntry_fails : fetchEntry n q none d = toError n 7 (some q.nextPsn)
    (d.freed.putQp n (takenQp q (blankWqe (Config.freeNat d.freeCount % 2 ^ 64)) d.now)) := by
  have hready := readReady_slot (n := n) hreading hout
  unfold sqSlot at hready
  simp only [fetchEntry, atsVerdict_off hoff, hready, takeEntry_eq, Bool.true_eq_false, if_false]
  congr 1
  exact putQp_putQp n _ _ d.freed

end

/-! ## A message of one item without data (R266, R268) -/

/-- A queue pair whose one request has sent its first item. -/
def begunQp (q : Qp) (r : WorkReq) (h : RmaHdr) (now : Nat) : Qp :=
  { q with reading := none, unacked := [{ hdr := h, lastSent := now, accepted := false, dueAt := none }], progressAt := now,
           reqs := [{ r with sent := r.sent + 1 }] }

theorem messageCuts_zero (a : Nat) : messageCuts a 0 = [(a, 0)] := by simp [messageCuts, cutRange]

theorem psnsOf_empty {w : Wqe} (hop : w.op = 1) (hlength : w.length = 0) : psnsOf w = 1 := by
  have hpages : ceilDiv (w.remoteAddr % 4096) 4096 ≤ 1 := by unfold ceilDiv; omega
  simpa [psnsOf, hop, hlength, isAtomicOp, isWriteOp] using Nat.max_eq_left hpages

theorem unsent_write {q : Qp} {r : WorkReq} (hreqs : q.reqs = [r]) (hop : r.wqe.op = 1) (hsent : r.sent = 0) (hpsns : r.psns = 1) :
    unsent q = some r := by
  simp [unsent, hreqs, itemsOf, isWriteOp, hop, hsent, hpsns]

section
variable {n : Nat} {q : Qp} {r : WorkReq} {d : Device} (hop : r.wqe.op = 1) (hlength : r.wqe.length = 0) (hsent : r.sent = 0)
include hop hlength hsent

theorem localPart_empty : localPart r = (r.wqe.localAddr, 0, none) := by
  simp [localPart, isWriteOp, hop, hlength, hsent, messageCuts_zero]

theorem itemHdr_empty (hpsns : r.psns = 1) (hfirst : r.firstPsn < 2 ^ 24) (data : List Byte) :
    (itemHdr n q r data d).psn = r.firstPsn ∧ (itemHdr n q r data d).address = r.wqe.remoteAddr ∧ (itemHdr n q r data d).last = true := by
  have hpsn := psnAdd_zero hfirst
  clear hfirst
  simp [itemHdr, isWriteOp, hop, hlength, hsent, messageCuts_zero, hpsns, baseHdr, hpsn]

variable (hrun : Running n q d) (henabled : fnEnabled q.fn d = true) (hreqs : q.reqs = [r]) (hpsns : r.psns = 1) (hunacked : q.unacked = [])
include hrun henabled hreqs hpsns hunacked

theorem sendNext_empty (hflags : r.wqe.flags = 0) (hkey : keyAdmits q r.wqe.localKey none r.wqe.localAddr 0 d = true) (data : List Byte) :
    sendNext n q r data d =
      sendRma n (itemHdr n q r data d) (served n q (d.putQp n (begunQp q r (itemHdr n q r data d) d.now))) := by
  have hlocal := localPart_empty hop hlength hsent
  have hunsent := unsent_write hreqs hop hsent hpsns
  have hneeds : needsRead r = false := by simp [needsRead, hlocal]
  have hsource : sourceRead q r d = true := by simp [sourceRead, hneeds]
  have holdest : oldestPsn q = psnAdd r.firstPsn r.sent := by
    simp only [oldestPsn, hunacked, nextToSend]
    rw [show (q.reqs.find? fun r => decide (r.sent < itemsOf r)) = some r from hunsent]
  have hmay : mayStartItem q r d = true := by
    simp [mayStartItem, hreqs, hflags, bitOf, holdest, psnFrom_self]
  have hready : segmentReady q d = true := by
    simp only [segmentReady, qpRuns_rts hrun.rts henabled]
    rw [show (q.reqs.find? fun r => decide (r.sent < itemsOf r)) = some r from hunsent]
    simp [hmay, hsource]
  simp only [sendNext, hmay, hlocal, hkey, hneeds, hsource, hrun.sliceChooses hready, Bool.true_eq_false, Bool.false_eq_true, false_and,
    if_false]
  rw [chargeQp_unshaped ?unshaped]
  case unshaped => exact hrun.2.2.1
  simp [begunQp, hunacked, hreqs]

theorem sendFetched_empty (hflags : r.wqe.flags = 0) (hkey : keyAdmits q r.wqe.localKey none r.wqe.localAddr 0 d = true) (data : List Byte) :
    sendFetched n data d =
      sendRma n (itemHdr n q r data d) (served n q (d.putQp n (begunQp q r (itemHdr n q r data d) d.now))) := by
  simp only [sendFetched, hrun.object, hrun.rts, if_true, unsent_write hreqs hop hsent hpsns, sendToPeer, hrun.peerReachable]
  exact sendNext_empty hop hlength hsent hrun henabled hreqs hpsns hunacked hflags hkey data

end

end Sys2Proof.Machine
end

section
/-! What acknowledgements, NAKs, responses and time-outs do to a queue pair's requester (R269 to R271). -/

namespace Sys2Proof.Machine

/-! ## Completions (R269) -/

/-- A queue pair whose head request has ended without a completion, `rest` being what is left of its requests. -/
def endedQp (q : Qp) (rest : List WorkReq) : Qp := { q with reqs := rest, completed := wrapAdd 32 q.completed 1 }

/-- A READ has ended when what it places has left the device. -/
theorem reqEnded_read {r : WorkReq} (hop : r.wqe.op = 3) (q : Qp) (d : Device) :
    reqEnded q r d = (reqDone q r && !accessOut q.fn r.wqe.localAddr r.wqe.length d) := by
  simp [reqEnded, hop, isWriteOp, isAtomicOp]

theorem reqEnded_inside {q : Qp} {r : WorkReq} {d : Device} (hop : r.wqe.op = 3)
    (hout : accessOut q.fn r.wqe.localAddr r.wqe.length d = true) : reqEnded q r d = false := by
  rw [reqEnded_read hop, hout, Bool.not_true, Bool.and_false]

section
variable {n : Nat} {q : Qp} {d : Device} (hq : d.qp n = some q)
include hq

theorem completeHeads_stops {r : WorkReq} {rest : List WorkReq} (hreqs : q.reqs = r :: rest) (hopen : reqEnded q r d = false)
    (fuel : Nat) : completeHeads n fuel d = d := by
  cases fuel with
  | zero => rfl
  | succ fuel => simp [completeHeads, hq, hreqs, hopen]

/-- A request that is not signaled ends without a completion. -/
theorem completeHeads_one {r : WorkReq} (hrts : q.state = .rts) (hreqs : q.reqs = [r]) (hended : reqEnded q r d = true)
    (hflags : r.wqe.flags = 0) : completeHeads n 1 d = d.putQp n (endedQp q []) := by
  have hretire : retire n q r [] 0 d = d.putQp n (endedQp q []) := by
    simp [retire, hflags, bitOf, endedQp]
  simp [completeHeads, hq, hrts, hreqs, hended, hflags, bitOf, hretire]

end

/-! ## The EPSN and bitmap of an answer (R269) -/

/-- A segment lies below an EPSN. -/
def coveredBy (epsn : Nat) (x : SentSeg) : Bool := decide (x.hdr.psn ≠ epsn) && decide (psnFrom epsn x.hdr.psn ≤ 2 ^ 23)

/-- A segment with what a bitmap shows of it, where there is one. -/
def markedSeg (epsn : Nat) (map : Option Nat) (x : SentSeg) : SentSeg :=
  match map with
  | none => x
  | some m => { x with accepted := !coveredBy epsn x && decide (psnFrom x.hdr.psn epsn < 256) && bitOf m (psnFrom x.hdr.psn epsn) }

/-- A queue pair to which an answer has been applied. -/
def ackedQp (q : Qp) (epsn : Nat) (map : Option Nat) (now : Nat) : Qp :=
  let q' := { q with unacked := (q.unacked.filter fun x => !(isWriteOp x.hdr.op && coveredBy epsn x)).map (markedSeg epsn map) }
  if oldestPsn q' = oldestPsn q then q' else { q' with progressAt := now }

theorem markedSeg_hdr (epsn : Nat) (map : Option Nat) (x : SentSeg) : (markedSeg epsn map x).hdr = x.hdr := by cases map <;> rfl
theorem markedSeg_dueAt (epsn : Nat) (map : Option Nat) (x : SentSeg) : (markedSeg epsn map x).dueAt = x.dueAt := by cases map <;> rfl

theorem ackedQp_keeps (q : Qp) (epsn : Nat) (map : Option Nat) (now : Nat) : (ackedQp q epsn map now).reqs = q.reqs ∧
    (ackedQp q epsn map now).state = q.state ∧ (ackedQp q epsn map now).completed = q.completed ∧ (ackedQp q epsn map now).unacked =
      (q.unacked.filter fun x => !(isWriteOp x.hdr.op && coveredBy epsn x)).map (markedSeg epsn map) := by
  dsimp only [ackedQp]
  split <;> exact ⟨rfl, rfl, rfl, rfl⟩

section
variable {n epsn : Nat} {q : Qp} {d : Device}

theorem applyAck_eq (hq : d.qp n = some q) (hnew : psnFrom epsn (oldestPsn q) ≤ 2 ^ 23)
    (hsent : psnFrom epsn (oldestPsn q) ≤ psnFrom (nextToSend q) (oldestPsn q)) (map : Option Nat) :
    applyAck n epsn map d = completeHeads n (ackedQp q epsn map d.now).reqs.length (d.putQp n (ackedQp q epsn map d.now)) := by
  simp only [applyAck, hq, if_neg (Nat.not_lt.2 hnew), if_neg (Nat.not_lt.2 hsent)]
  rfl

/-- The oldest PSN is that of the first segment while that belongs to a write. -/
theorem oldestPsn_write {x : SentSeg} {rest : List SentSeg} {r : WorkReq} (hunacked : q.unacked = x :: rest) (hreqs : q.reqs = [r])
    (hop : isWriteOp r.wqe.op = true) : oldestPsn q = x.hdr.psn := by
  simp only [oldestPsn, hunacked, hreqs]
  split
  · rfl
  · rename_i r' hfind
    obtain rfl := List.mem_singleton.1 (List.mem_of_find?_eq_some hfind)
    rw [if_pos hop]

/-- The acknowledgement of all that was sent of the one request, a write, ends it. -/
theorem applyAck_write {x : SentSeg} {r : WorkReq} (hq : d.qp n = some q) (hrts : q.state = .rts) (hunacked : q.unacked = [x])
    (hwrite : isWriteOp x.hdr.op = true) (hpsn : x.hdr.psn < 2 ^ 24) (hreqs : q.reqs = [r]) (hop : isWriteOp r.wqe.op = true)
    (hsent : r.sent = r.psns) (hflags : r.wqe.flags = 0) (hnext : q.nextPsn = psnAdd x.hdr.psn 1) (map : Option Nat) :
    applyAck n q.nextPsn map d = d.putQp n (endedQp (ackedQp q q.nextPsn map d.now) []) ∧
      (ackedQp q q.nextPsn map d.now).unacked = [] := by
  have holdest := oldestPsn_write hunacked hreqs hop
  have hfrom : psnFrom q.nextPsn x.hdr.psn = 1 := by rw [hnext]; exact psnFrom_succ hpsn
  have hnextToSend : nextToSend q = q.nextPsn := by simp [nextToSend, hreqs, itemsOf, hop, hsent]
  have hne : x.hdr.psn ≠ q.nextPsn := fun h => by rw [← h, psnFrom_self] at hfrom; exact absurd hfrom (by decide)
  have hcovered : coveredBy q.nextPsn x = true := by simp [coveredBy, hne, hfrom]
  obtain ⟨hreqs', hstate, -, hunacked'⟩ := ackedQp_keeps q q.nextPsn map d.now
  have hnone : (ackedQp q q.nextPsn map d.now).unacked = [] := by simp [hunacked', hunacked, hwrite, hcovered]
  have hended : reqEnded (ackedQp q q.nextPsn map d.now) r (d.putQp n (ackedQp q q.nextPsn map d.now)) = true := by
    simp [reqEnded, reqDone, hop, hsent, hnone]
  refine ⟨?_, hnone⟩
  rw [applyAck_eq hq (by rw [holdest, hfrom]; decide) (by rw [holdest, hnextToSend]), hreqs', hreqs]
  exact (completeHeads_one (qp_putQp n _ d) (hstate.trans hrts) (hreqs'.trans hreqs) hended hflags).trans (putQp_putQp n _ _ d)

/-- A queue pair whose one unacknowledged segment has been marked. -/
def markedQp (q : Qp) (epsn : Nat) (map : Option Nat) (x : SentSeg) : Qp := { q with unacked := [markedSeg epsn map x] }

/-- An answer that names the oldest PSN acknowledges nothing. -/
theorem applyAck_oldest {x : SentSeg} (hq : d.qp n = some q) (hunacked : q.unacked = [x]) (hpsn : x.hdr.psn = epsn)
    (holdest : oldestPsn q = epsn) (hopen : ∀ r ∈ q.reqs, reqDone q r = false) (map : Option Nat) :
    applyAck n epsn map d = d.putQp n (markedQp q epsn map x) := by
  have hcovered : coveredBy epsn x = false := by simp [coveredBy, hpsn]
  have hsame : oldestPsn (markedQp q epsn map x) = oldestPsn q := by simp [oldestPsn, markedQp, hunacked, markedSeg_hdr]
  have hacked : ackedQp q epsn map d.now = markedQp q epsn map x := by
    have hq' : { q with unacked := (q.unacked.filter fun x => !(isWriteOp x.hdr.op && coveredBy epsn x)).map (markedSeg epsn map) } =
        markedQp q epsn map x := by simp [hunacked, hcovered, markedQp]
    simp only [ackedQp, hq', hsame, if_true]
  rw [applyAck_eq hq (by rw [holdest, psnFrom_self]; decide) (by rw [holdest, psnFrom_self]; exact Nat.zero_le _), hacked]
  cases hreqs : q.reqs with
  | nil => rw [show (markedQp q epsn map x).reqs = [] from hreqs]; rfl
  | cons r rest =>
    have hdone : reqDone (markedQp q epsn map x) r = reqDone q r := by simp [reqDone, markedQp, hunacked, markedSeg_hdr]
    have hended : reqEnded (markedQp q epsn map x) r (d.putQp n (markedQp q epsn map x)) = false := by
      rw [reqEnded, hdone, hopen r (by simp [hreqs]), Bool.false_and]
    exact completeHeads_stops (qp_putQp n (markedQp q epsn map x) d) hreqs hended _

end

/-! ## Retransmissions (R270, R271) -/

/-- A segment as it is sent again. -/
def resentSeg (x : SentSeg) (now : Nat) : SentSeg :=
  { hdr := { x.hdr with retx := true }, lastSent := now, accepted := x.accepted, dueAt := none }

/-- A queue pair that has sent a due segment again. -/
def resentQp (q : Qp) (x : SentSeg) (now : Nat) : Qp :=
  { q with unacked := q.unacked.map fun y => if y.hdr.psn = x.hdr.psn then resentSeg x now else y }

/-- The device after that. -/
def resendOne (n : Nat) (q : Qp) (x : SentSeg) (d : Device) : Device :=
  let z := chargeQp { x.hdr with retx := true } (resentQp q x d.now)
  sendRma n { x.hdr with retx := true } (countPort 0x061 (slicePort n) 0 0 z.part 1 (served n z (d.putQp n z)))

/-- A queue pair whose segments that `p` names are due. -/
def dueQp (q : Qp) (p : SentSeg → Bool) (now : Nat) : Qp :=
  { q with unacked := q.unacked.map fun x => if p x then { x with dueAt := some now } else x }

/-- A queue pair that has counted a retry. -/
def retriedQp (q : Qp) (now : Nat) : Qp := { q with retries := q.retries + 1, progressAt := now }

theorem chargeQp_retries (h : RmaHdr) (q : Qp) : (chargeQp h q).retries = q.retries := by
  unfold chargeQp
  split <;> rfl

theorem resendOne_qp (n : Nat) (q : Qp) (x : SentSeg) (d : Device) :
    (resendOne n q x d).qp n = some (chargeQp { x.hdr with retx := true } (resentQp q x d.now)) := by
  simp [resendOne]

section
variable {n : Nat} {q : Qp} {d : Device} (hq : d.qp n = some q)
include hq

theorem resendDue_none (hdue : firstDue q d.now = none) (fuel : Nat) : resendDue n fuel d = d := by
  cases fuel with
  | zero => rfl
  | succ fuel => simp only [resendDue, hq, hdue]

theorem resendDue_stopped (hstops : qpRuns q d = false) (fuel : Nat) : resendDue n fuel d = d := by
  cases fuel with
  | zero => rfl
  | succ fuel =>
    simp only [resendDue, hq, hstops, if_true]
    split <;> rfl

theorem countRetry_within (hlimit : q.retries < q.retryLimit) : countRetry n d = d.putQp n (retriedQp q d.now) := by
  simp only [countRetry, hq, if_neg (Nat.not_lt.2 (Nat.succ_le_of_lt hlimit))]
  rfl

theorem countRetry_exceeded (hlimit : q.retryLimit ≤ q.retries) :
    countRetry n d = toError n 5 (q.unacked.head?.map (·.hdr.msgPsn)) (d.putQp n (retriedQp q d.now)) := by
  simp only [countRetry, hq, if_pos (Nat.lt_succ_of_le hlimit)]
  rfl

theorem resendDue_sends {x : SentSeg} (hdue : firstDue q d.now = some x) (hruns : qpRuns q d = true)
    (hpeer : peerReachable q d = true) (hturn : sliceChooses n q d = true) (fuel : Nat) :
    resendDue n (fuel + 1) d = resendDue n fuel (resendOne n q x d) := by
  simp only [resendDue, hq, hdue, hruns, hpeer, hturn, Bool.true_eq_false, if_false]
  rfl

theorem toError_retries (status : Nat) (psn : Option Nat) :
    ∃ q', (toError n status psn d).qp n = some q' ∧ q'.retries = q.retries := by
  simp only [toError, hq]
  split
  · exact ⟨q, hq, rfl⟩
  · split <;> exact ⟨_, qp_putQp n _ _, rfl⟩

theorem retransmit_eq (p : SentSeg → Bool) : retransmit n p d = resendDue n q.unacked.length
    (d.putQp n (evaluatedQp (dueQp q p d.now) (d.putQp n (dueQp q p d.now)))) := by
  have heval := (evalShape_eq (qp_putQp n (dueQp q p d.now) d)).trans (putQp_putQp n _ _ d)
  rw [← heval]
  simp only [retransmit, hq]
  rfl

end

/-- Sending again is no retry of its own. -/
theorem resendDue_retries {n : Nat} (fuel : Nat) {q : Qp} {d : Device} (hq : d.qp n = some q) :
    ∃ q', (resendDue n fuel d).qp n = some q' ∧ q'.retries = q.retries := by
  induction fuel generalizing q d with
  | zero => exact ⟨q, hq, rfl⟩
  | succ fuel ih =>
    cases hdue : firstDue q d.now with
    | none => exact ⟨q, by rw [resendDue_none hq hdue]; exact hq, rfl⟩
    | some x =>
      by_cases hruns : qpRuns q d = true
      · by_cases hpeer : peerReachable q d = true
        · by_cases hturn : sliceChooses n q d = true
          · obtain ⟨q', hq', hretries⟩ := ih (resendOne_qp n q x d)
            exact ⟨q', by rw [resendDue_sends hq hdue hruns hpeer hturn]; exact hq', hretries.trans (chargeQp_retries _ _)⟩
          · exact ⟨q, by simp [resendDue, hq, hdue, hruns, hpeer, hturn], rfl⟩
        · obtain ⟨q', hq', hretries⟩ := toError_retries hq 6 (some x.hdr.msgPsn)
          exact ⟨q', by simpa [resendDue, hq, hdue, hruns, hpeer] using hq', hretries⟩
      · exact ⟨q, by rw [resendDue_stopped hq (Bool.not_eq_true _ ▸ hruns)]; exact hq, rfl⟩

/-- The one segment that is due is sent again. -/
theorem resendDue_one {n : Nat} {q : Qp} {x : SentSeg} {d : Device} (hrun : Running n q d) (hruns : qpRuns q d = true)
    (hdue : firstDue q d.now = some x) : resendDue n 1 d = resendOne n q x d := by
  have hready : segmentReady q d = true := by simp [segmentReady, hruns, hdue]
  exact resendDue_sends hrun.object hdue hruns hrun.peerReachable (hrun.sliceChooses hready) 0

theorem retransmit_retries {n : Nat} {q : Qp} {d : Device} (hq : d.qp n = some q) (p : SentSeg → Bool) :
    ∃ q', (retransmit n p d).qp n = some q' ∧ q'.retries = q.retries := by
  rw [retransmit_eq hq]
  exact resendDue_retries (q := evaluatedQp (dueQp q p d.now) _) q.unacked.length (qp_putQp n _ d)

/-- A queue pair in ERROR sends nothing again. -/
theorem retransmit_error {n : Nat} {q : Qp} {d : Device} (hq : d.qp n = some q) (herror : q.state = .error) (p : SentSeg → Bool) :
    ∃ q', (retransmit n p d).qp n = some q' ∧ q'.state = .error ∧ q'.errorStatus = q.errorStatus ∧ q'.retries = q.retries := by
  let z := evaluatedQp (dueQp q p d.now) (d.putQp n (dueQp q p d.now))
  have hstops : qpRuns z (d.putQp n z) = false := by simp [qpRuns, z, evaluatedQp, dueQp, herror]
  rw [retransmit_eq hq, resendDue_stopped (qp_putQp n z d) hstops]
  exact ⟨z, qp_putQp n z d, herror, rfl, rfl⟩

/-- R270: past the limit the queue pair enters ERROR with RETRY_EXCEEDED, and sends nothing again. -/
theorem retransmit_exceeded {n : Nat} {q : Qp} {d : Device} (hq : d.qp n = some q) (hrts : q.state = .rts)
    (hlimit : q.retryLimit ≤ q.retries) (p : SentSeg → Bool) : ∃ q', (retransmit n p (countRetry n d)).qp n = some q' ∧
      q'.state = .error ∧ q'.errorStatus = 5 ∧ q'.retries = q.retries + 1 := by
  rw [countRetry_exceeded hq hlimit]
  exact retransmit_error (toError_qp (qp_putQp n (retriedQp q d.now) d) hrts 5 _) rfl p

end Sys2Proof.Machine
end

section
/-! The statement of the requester (R262, R266, R268 to R271, R279), by its clauses. -/

namespace Sys2Proof.Machine

/-! ## What a row leaves of a device on which only queue pairs move -/

theorem notify_quiet {old new : Device} (hbits : summaryBits new = summaryBits old) (hmask : new.glb.intMask = old.glb.intMask) :
    ∃ l, notify old new = { new with glb := { new.glb with alertLow := l } } := by
  have hsilent : (summaryBits new &&& ~~~ new.glb.intMask) &&& ~~~ (summaryBits old &&& ~~~ old.glb.intMask) = 0 := by
    rw [hbits, hmask, BitVec.and_not_self]
  obtain ⟨l, hl⟩ := alertStep_frame (summaryBits old) (summaryBits new) new
  exact ⟨l, by rw [notify, if_pos hsilent, hl]⟩

theorem qp_of_qps {n : Nat} {q : Qp} {t : Tbl Qp} {d : Device} (h : d.qps = tinsert n q t) : d.qp n = some q := by
  simp [Device.qp, h, find?_tinsert_same]

/-- A row that changes one queue pair only issues nothing. -/
theorem done_gives_qp {i : Instr} {s : State} {d : Device} {P : Device → Prop} {n : Nat} {q : Qp} (hx : exec i s = done s d)
    (hd : d = s.dev.putQp n q) (h : ∀ l, P { s.dev.putQp n q with glb := { s.dev.glb with alertLow := l } }) : Gives i s P := by
  obtain ⟨l, hl⟩ := notify_quiet (old := s.dev) (new := s.dev.putQp n q) rfl rfl
  exact done_gives hx (by rw [hd, hl]; exact h l)

/-- What a row leaves a queue pair as. -/
theorem done_gives_found {i : Instr} {s : State} {d : Device} {P : Qp → Prop} {n : Nat} {q : Qp} (hx : exec i s = done s d)
    (hq : d.qp n = some q) (h : P q) : Gives i s fun t => ∃ q', t.qp n = some q' ∧ P q' :=
  done_gives_issues hx rfl fun _ _ _ => ⟨q, hq, h⟩

/-- A queue pair that a row leaves in ERROR. -/
theorem done_gives_error {i : Instr} {s : State} {d e : Device} {n : Nat} {q : Qp} {status : Nat} (hx : exec i s = done s d)
    {psn : Option Nat} (hd : d = toError n status psn e) (hq : e.qp n = some q) (hrts : q.state = .rts) :
    Gives i s fun t => ∃ q', t.qp n = some q' ∧ q'.state = .error ∧ q'.errorStatus = status :=
  done_gives_found (hd ▸ hx) (toError_qp hq hrts status psn) ⟨rfl, rfl⟩

/-! ## RMA_SEGMENT_SEND -/

section
variable {s : State} {n : Nat} {q : Qp} (hu : Unbacked s.dev) (hrun : Running n q s.dev) (henabled : fnEnabled q.fn s.dev = true)
include hu hrun henabled

section
variable (hoff : (s.dev.func q.fn).atsEnable = false) (hreqs : q.reqs = []) (hunacked : q.unacked = []) (hposted : q.fetched ≠ q.sqPi)
  (hopen : s.dev.fenced q.part = false)
include hoff hreqs hunacked hposted hopen

/-- R262, R268: the read of an entry leaves first. -/
theorem segmentSend_gives_read (entry : Option (List Byte)) (hreading : q.reading ≠ some (sqSlot q, 64)) :
    Gives (.rmaSegmentSend n entry []) s fun t => (∃ q', t.qp n = some q' ∧ q'.reading = some (sqSlot q, 64) ∧ q'.reqs = [] ∧
      q'.fetched = q.fetched) ∧ Fetches n q.fn (sqSlot q) t ∧ t.items = s.dev.items := by
  let z : Qp := { evaluatedQp q s.dev with reading := some (sqSlot q, 64) }
  let e := fnRead n q.fn (sqSlot q) 64 (s.dev.putQp n z)
  obtain ⟨hread, hitems, hqps⟩ := fnRead_fetches (d := s.dev.putQp n z) hoff n (sqSlot q) 64
  have hz : e.qp n = some z := (hqps n).trans (qp_putQp n z s.dev)
  have hfetch : fetchEntry n (evaluatedQp q s.dev) entry (s.dev.putQp n (evaluatedQp q s.dev)) = e := by
    rw [fetchEntry_begins (q := evaluatedQp q s.dev) (d := s.dev.putQp n (evaluatedQp q s.dev)) hoff entry hreading, putQp_putQp]
    rfl
  have hsend := segmentSend_fetches hu hrun henabled hreqs hunacked hposted hopen entry []
  rw [hfetch, sendFetched_idle hz (.inl hreqs)] at hsend
  exact done_gives_issues rfl hsend fun o _ _ => ⟨⟨z, hz, rfl, hreqs, rfl⟩, hread.mono (List.prefix_append _ o), hitems⟩

variable (hreading : q.reading = some (sqSlot q, 64))
include hreading

/-- A read that is still inside is waited for. -/
theorem segmentSend_gives_inside (entry : Option (List Byte)) (hout : accessOut q.fn (sqSlot q) 64 s.dev = true) :
    Gives (.rmaSegmentSend n entry []) s fun t => t.issued = s.dev.issued ∧ ∃ q', t.qp n = some q' ∧ q'.reqs = [] ∧
      q'.fetched = q.fetched := by
  have hsend := segmentSend_fetches hu hrun henabled hreqs hunacked hposted hopen entry []
  rw [fetchEntry_inside (q := evaluatedQp q s.dev) (d := s.dev.putQp n _) hoff hreading entry hout,
    sendFetched_idle (qp_putQp n (evaluatedQp q s.dev) s.dev) (.inl hreqs)] at hsend
  exact done_gives_qp rfl hsend fun _ => ⟨rfl, _, qp_putQp n (evaluatedQp q s.dev) s.dev, hreqs, rfl⟩

variable (hout : accessOut q.fn (sqSlot q) 64 s.dev = false)
include hout

/-- An entry that could not be read (R262). -/
theorem segmentSend_gives_unread : Gives (.rmaSegmentSend n none []) s fun t => ∃ q', t.qp n = some q' ∧ q'.state = .error ∧
    q'.errorStatus = 7 := by
  let z := takenQp (evaluatedQp q s.dev) (blankWqe (Config.freeNat s.dev.freeCount % 2 ^ 64)) s.dev.now
  let e := s.dev.freed.putQp n z
  have hfails : fetchEntry n (evaluatedQp q s.dev) none (s.dev.putQp n (evaluatedQp q s.dev)) = toError n 7 (some q.nextPsn) e :=
    (fetchEntry_fails (q := evaluatedQp q s.dev) (d := s.dev.putQp n _) hoff hreading hout).trans
      (congrArg (toError n 7 (some q.nextPsn)) (putQp_putQp n _ z s.dev.freed))
  have hz : e.qp n = some z := qp_putQp n z s.dev.freed
  have hsend := segmentSend_fetches hu hrun henabled hreqs hunacked hposted hopen none []
  rw [hfails, sendFetched_idle (toError_qp hz hrun.rts 7 _) (.inr nofun)] at hsend
  exact done_gives_error rfl hsend hz hrun.rts

section
variable {b : List Byte} (hnext : q.nextPsn < 2 ^ 24) (hop : (wqeOf b).op = 1) (hlength : (wqeOf b).length = 0)
  (hflags : (wqeOf b).flags = 0) (hkey : keyAdmits q (wqeOf b).localKey none (wqeOf b).localAddr 0 s.dev = true)
include hnext hop hlength hflags hkey

/-- An entry is taken over, and its first item sent (R266, R268). -/
theorem segmentSend_item : ∃ h r, h.psn = q.nextPsn ∧ h.address = (wqeOf b).remoteAddr ∧ h.last = true ∧
    segmentSend n (some b) [] s.dev = sendRma n h (served n (takenQp (evaluatedQp q s.dev) (wqeOf b) s.dev.now)
      (s.dev.putQp n (begunQp (takenQp (evaluatedQp q s.dev) (wqeOf b) s.dev.now) r h s.dev.now))) := by
  let r : WorkReq := { wqe := wqeOf b, firstPsn := q.nextPsn, psns := psnsOf (wqeOf b), sent := 0, placed := [], fetchedAt := s.dev.now }
  let z := takenQp (evaluatedQp q s.dev) (wqeOf b) s.dev.now
  let e := s.dev.putQp n z
  have hpsns : psnsOf (wqeOf b) = 1 := psnsOf_empty hop hlength
  have hvalid : wqeValid (wqeOf b) = true := by simp [wqeValid, hop, hlength]
  have hz : z.reqs = [r] := by simp [z, takenQp, evaluatedQp, hreqs, r]
  have hrun' : Running n z e := hrun.putQp rfl hrun.evaluated.2.2.1 hrun.evaluated.2.2.2.1 rfl
  have htakes : fetchEntry n (evaluatedQp q s.dev) (some b) (s.dev.putQp n (evaluatedQp q s.dev)) = e :=
    (fetchEntry_takes (q := evaluatedQp q s.dev) (d := s.dev.putQp n _) hoff hreading hout hvalid).trans (putQp_putQp n _ z s.dev)
  obtain ⟨hpsn, haddress, hlast⟩ := itemHdr_empty (n := n) (q := z) (r := r) (d := e) hop hlength rfl hpsns hnext []
  refine ⟨_, r, hpsn, haddress, hlast, ?_⟩
  rw [segmentSend_fetches hu hrun henabled hreqs hunacked hposted hopen, htakes,
    sendFetched_empty (r := r) hop hlength rfl hrun' henabled hz hpsns hunacked hflags hkey]
  exact congrArg (fun d => sendRma n _ (served n z d)) (putQp_putQp n z _ s.dev)

theorem segmentSend_gives_item : Gives (.rmaSegmentSend n (some b) []) s fun t =>
    (∃ q' x, t.qp n = some q' ∧ q'.unacked = [x] ∧ x.hdr.psn = q.nextPsn ∧
      x.hdr.address = (wqeOf b).remoteAddr ∧ x.hdr.last = true ∧ Sends n x.hdr t ∧
      q'.fetched = (q.fetched + 1) % 2 ^ 32 ∧ q'.nextPsn = (q.nextPsn + 1) % 2 ^ 24) ∧ t.items = s.dev.items := by
  obtain ⟨h, r, hpsn, haddress, hlast, hsend⟩ :=
    segmentSend_item hu hrun henabled hoff hreqs hunacked hposted hopen hreading hout hnext hop hlength hflags hkey
  exact done_gives_issues rfl hsend fun o _ _ => ⟨⟨_, _, qp_of_qps rfl, rfl, hpsn, haddress, hlast,
    (sends_sendRma n h (served n _ _)).mono (List.prefix_append _ o), rfl, congrArg (psnAdd q.nextPsn) (psnsOf_empty hop hlength)⟩, rfl⟩

end

end

/-- R269: a READ is complete when what its responses place has left the device. -/
theorem segmentSend_gives_completion {r : WorkReq} (hreqs : q.reqs = [r]) (hunacked : q.unacked = []) (hall : q.fetched = q.sqPi)
    (hop : r.wqe.op = 3) (hpsns : r.psns = 1) (hsent : r.sent = 1) (hplaced : r.placed = [r.firstPsn]) (hflags : r.wqe.flags = 0) :
    Gives (.rmaSegmentSend n none []) s fun t => ∃ q', t.qp n = some q' ∧ q'.state = .rts ∧
      (accessOut q.fn r.wqe.localAddr r.wqe.length s.dev = false → q'.reqs = [] ∧ q'.completed = (q.completed + 1) % 2 ^ 32) ∧
      (accessOut q.fn r.wqe.localAddr r.wqe.length s.dev = true → q'.reqs = [r] ∧ q'.completed = q.completed) := by
  let z := evaluatedQp q s.dev
  have hz := qp_putQp n z s.dev
  have hended : reqEnded z r (s.dev.putQp n z) = !accessOut q.fn r.wqe.localAddr r.wqe.length s.dev := by
    have hdone : reqDone z r = true := by simp [reqDone, isWriteOp, hop, hplaced, hpsns]
    rw [reqEnded_read hop, hdone, Bool.true_and]
    rfl
  have hidle (q' : Qp) (hreqs' : q'.reqs = [] ∨ q'.reqs = [r]) (hall' : q'.fetched = q'.sqPi) :
      sendFurther n none [] (s.dev.putQp n q') = s.dev.putQp n q' := by
    have hunsent : unsent q' = none := by
      obtain h | h := hreqs' <;> simp [unsent, h, itemsOf, isWriteOp, hop, hsent]
    simp [sendFurther, hunsent, hall']
  have hsend := segmentSend_runs hu hrun henabled none []
  rw [hreqs, hunacked] at hsend
  simp only [List.length_nil, List.length_cons, resendDue] at hsend
  cases hout : accessOut q.fn r.wqe.localAddr r.wqe.length s.dev
  · have hone := (completeHeads_one hz hrun.rts hreqs (by rw [hended, hout]; rfl) hflags).trans (putQp_putQp n z _ s.dev)
    refine done_gives_qp (n := n) (q := endedQp z []) rfl (hsend.trans ?_) fun _ =>
      ⟨_, qp_putQp n _ s.dev, hrun.rts, fun _ => ⟨rfl, rfl⟩, nofun⟩
    exact (congrArg (sendFurther n none []) hone).trans (hidle _ (.inl rfl) hall)
  · have hone := completeHeads_stops hz hreqs (by rw [hended, hout]; rfl) 1
    refine done_gives_qp (n := n) (q := z) rfl (hsend.trans ?_) fun _ => ⟨_, hz, hrun.rts, nofun, fun _ => ⟨hreqs, rfl⟩⟩
    exact (congrArg (sendFurther n none []) hone).trans (hidle _ (.inr hreqs) hall)

end

end Sys2Proof.Machine
end

section
/-! The answers that a requester hears (R269, R270), and the statement of the requester. -/

namespace Sys2Proof.Machine

/-! ## Answers by row -/

section
variable {n : Nat} {q : Qp} {h : RmaHdr} {d : Device} (hq : d.qp n = some q) (hdst : h.dstQpn = n)
include hq hdst

/-- What does not come from the connected peer changes nothing. -/
theorem answers_foreign (hforeign : fromPeer q h = false) (map : Nat) : rmaAck h map d = d ∧ nakMissing h map d = d ∧ nakRnr h d = d ∧
    nakAccess h d = d ∧ readResp h d = d := by
  simp [rmaAck, nakMissing, nakRnr, nakAccess, readResp, hdst, hq, hforeign]

variable (hu : Unbacked d) (hrts : q.state = .rts) (hpeer : fromPeer q h = true)
include hu hrts hpeer

theorem rmaAck_eq (map : Nat) : rmaAck h map d = applyAck n h.psn (some map) d := by
  simp [rmaAck, hdst, hq, hrts, hpeer, lacking_unbacked hu, hu.touch]

/-- A NAK_MISSING whose bitmap is empty names nothing to send again. -/
theorem nakMissing_empty : nakMissing h 0 d =
    retransmit n (fun _ => false) (countRetry n (applyAck n h.psn (some 0) (countNak n 1 q d))) := by
  simp [nakMissing, hdst, hq, hrts, hpeer, lacking_unbacked hu, hu.touch]

theorem nakRnr_eq {q' : Qp} {e : Device} (happlied : applyAck n h.psn none (countNak n 2 q d) = e) (hq' : e.qp n = some q') :
    nakRnr h d =
    if q'.rnrLimit ≠ 0 ∧ q'.rnrLimit < q'.rnrRetries + 1 then
      toError n 5 ((q'.unacked.find? fun s => decide (s.hdr.psn = h.msgPsn)).map fun s => s.hdr.msgPsn)
        (e.putQp n { q' with rnrRetries := q'.rnrRetries + 1 })
    else e.putQp n { q' with
      rnrRetries := q'.rnrRetries + 1
      unacked := q'.unacked.map fun s => if s.hdr.psn = h.msgPsn then { s with dueAt := some (e.now + q'.rnrDelayUs * usNs) } else s } := by
  simp only [nakRnr, hdst, hq, hrts, hpeer, lacking_unbacked hu, hu.touch, happlied, hq', and_self, if_true]

theorem nakAccess_eq {q' : Qp} {e : Device} (happlied : applyAck n h.psn none (countNak n h.syndrome q d) = e) (hq' : e.qp n = some q') :
    ∃ psn, nakAccess h d = toError n (if h.syndrome = 3 then 3 else if h.syndrome = 4 then 4 else 8) psn e := by
  simp only [nakAccess, hdst, hq, hrts, hpeer, lacking_unbacked hu, hu.touch, happlied, hq', and_self, if_true]
  exact ⟨_, rfl⟩

end

/-! ## Answers that name the oldest PSN -/

section
variable (n m syndrome : Nat) (q : Qp) (d : Device)

theorem countNak_qp : (countNak n syndrome q d).qp m = d.qp m := countPort_qp 0x060 (slicePort n) syndrome 0 q.part 1 d m
theorem countNak_now : (countNak n syndrome q d).now = d.now := countPort_now 0x060 (slicePort n) syndrome 0 q.part 1 d

end

/-- The peer names the one segment that is not acknowledged, and no request is complete. -/
structure NamesOldest (n : Nat) (q : Qp) (h : RmaHdr) (x : SentSeg) (d : Device) : Prop where
  resident : Unbacked d
  running : Running n q d
  dst : h.dstQpn = n
  peer : fromPeer q h = true
  unacked : q.unacked = [x]
  psn : x.hdr.psn = h.psn
  oldest : oldestPsn q = h.psn
  incomplete : ∀ r ∈ q.reqs, reqDone q r = false

namespace NamesOldest
variable {s : State} {n : Nat} {q : Qp} {h : RmaHdr} {x : SentSeg} (hn : NamesOldest n q h x s.dev)
include hn

theorem applyAck_counted (map : Option Nat) (syndrome : Nat) : applyAck n h.psn map (countNak n syndrome q s.dev) =
    (countNak n syndrome q s.dev).putQp n (markedQp q h.psn map x) :=
  applyAck_oldest ((countNak_qp ..).trans hn.running.object) hn.unacked hn.psn hn.oldest hn.incomplete map

theorem nakMissing_eq : nakMissing h 0 s.dev = retransmit n (fun _ => false)
    (countRetry n ((countNak n 1 q s.dev).putQp n (markedQp q h.psn (some 0) x))) := by
  rw [nakMissing_empty hn.running.object hn.dst hn.resident hn.running.rts hn.peer, hn.applyAck_counted]

/-- R270: a retry is counted; nothing is sent again. -/
theorem gives_retry (hdue : x.dueAt = none) (hlimit : q.retries < q.retryLimit) : Gives (.nakMissing h 0) s fun t =>
    ∃ q', t.qp n = some q' ∧ q'.retries = q.retries + 1 ∧ q'.progressAt = s.dev.now ∧ q'.state = .rts := by
  let e := countNak n 1 q s.dev
  let m := markedQp q h.psn (some 0) x
  let z := retriedQp m e.now
  let w := dueQp z (fun _ => false) e.now
  let y := evaluatedQp w (e.putQp n w)
  have hnow : z.progressAt = s.dev.now := countNak_now n 1 q s.dev
  have hcount : countRetry n (e.putQp n m) = e.putQp n z := by
    rw [countRetry_within (qp_putQp n m e) hlimit, putQp_putQp]
    rfl
  have hnone : firstDue y (e.putQp n y).now = none := by
    simp [firstDue, y, w, evaluatedQp, dueQp, z, retriedQp, m, markedQp, markedSeg_dueAt, hdue]
  have hnak : nakMissing h 0 s.dev = e.putQp n y := by
    rw [hn.nakMissing_eq, hcount, retransmit_eq (qp_putQp n z e), putQp_putQp, putQp_putQp]
    exact resendDue_none (qp_putQp n y e) hnone _
  exact done_gives_found (congrArg (done s) hnak) (qp_putQp n y e) ⟨rfl, hnow, hn.running.rts⟩

theorem gives_retriesExceeded (hlimit : q.retryLimit ≤ q.retries) : Gives (.nakMissing h 0) s fun t =>
    ∃ q', t.qp n = some q' ∧ q'.state = .error ∧ q'.errorStatus = 5 := by
  obtain ⟨y, hy, hstate, hstatus, -⟩ := retransmit_exceeded (qp_putQp n (markedQp q h.psn (some 0) x) (countNak n 1 q s.dev))
    hn.running.rts hlimit (fun _ => false)
  exact done_gives_found (congrArg (done s) hn.nakMissing_eq) hy ⟨hstate, hstatus⟩

/-- R270: the named segment is due after RNR_DELAY. -/
theorem gives_rnrDelay (hmsg : h.msgPsn = h.psn) (hlimit : q.rnrLimit = 0) : Gives (.nakRnr h) s fun t =>
    ∃ q', t.qp n = some q' ∧ q'.rnrRetries = q.rnrRetries + 1 ∧
      q'.unacked.map (·.dueAt) = [some (s.dev.now + q.rnrDelayUs * 1000)] ∧ q'.state = .rts := by
  let e := (countNak n 2 q s.dev).putQp n (markedQp q h.psn none x)
  have hnow : e.now = s.dev.now := countNak_now n 2 q s.dev
  have hnak := nakRnr_eq hn.running.object hn.dst hn.resident hn.running.rts hn.peer (hn.applyAck_counted none 2) (qp_putQp n _ _)
  rw [if_neg fun hover => hover.1 hlimit] at hnak
  refine done_gives_found (congrArg (done s) hnak) (qp_putQp n _ e) ⟨rfl, ?_, hn.running.rts⟩
  simp only [markedQp, markedSeg, List.map_cons, List.map_nil, hn.psn, hmsg, if_true]
  exact congrArg (fun t => [some (t + q.rnrDelayUs * 1000)]) hnow

theorem gives_rnrExceeded (hlimited : q.rnrLimit ≠ 0) (hlimit : q.rnrLimit ≤ q.rnrRetries) : Gives (.nakRnr h) s fun t =>
    ∃ q', t.qp n = some q' ∧ q'.state = .error ∧ q'.errorStatus = 5 := by
  have hnak := nakRnr_eq hn.running.object hn.dst hn.resident hn.running.rts hn.peer (hn.applyAck_counted none 2) (qp_putQp n _ _)
  rw [if_pos ⟨hlimited, Nat.lt_succ_of_le hlimit⟩] at hnak
  exact done_gives_error rfl hnak (qp_putQp n _ _) hn.running.rts

/-- Table 9.3: the status by the answer's syndrome. -/
theorem gives_accessError : Gives (.nakAccess h) s fun t => ∃ q', t.qp n = some q' ∧ q'.state = .error ∧
    q'.errorStatus = (if h.syndrome = 3 then 3 else if h.syndrome = 4 then 4 else 8) := by
  obtain ⟨psn, hnak⟩ := nakAccess_eq hn.running.object hn.dst hn.resident hn.running.rts hn.peer (hn.applyAck_counted none h.syndrome)
    (qp_putQp n _ _)
  exact done_gives_error rfl hnak (qp_putQp n _ _) hn.running.rts

end NamesOldest

/-! ## Times (R270) -/

section
variable {s : State} {n : Nat} {q : Qp}

theorem execRnrDelayExpiry_none (hq : s.dev.qp n = some q) (hunacked : q.unacked = []) : execRnrDelayExpiry n s = done s s.dev := by
  simp [execRnrDelayExpiry, hq, firstDue, hunacked]

theorem execRnrDelayExpiry_due {x : SentSeg} (hrun : Running n q s.dev) (hruns : qpRuns q s.dev = true) (hunacked : q.unacked = [x])
    (hdue : x.dueAt = some s.dev.now) : execRnrDelayExpiry n s =
    done s (resendOne n (evaluatedQp q s.dev) x (s.dev.putQp n (evaluatedQp q s.dev))) := by
  have hfirst (q' : Qp) (h : q'.unacked = [x]) : firstDue q' s.dev.now = some x := by simp [firstDue, h, hdue]
  have hone := resendDue_one (x := x) hrun.evaluated hruns (hfirst (evaluatedQp q s.dev) hunacked)
  simp only [execRnrDelayExpiry, hrun.object, hfirst q hunacked, Option.isSome_some, if_true, evalShape_eq hrun.object, hunacked,
    List.length_cons, List.length_nil]
  exact congrArg (done s) hone

/-- R270: the segment is sent again, once. -/
theorem gives_resent {x : SentSeg} (hrun : Running n q s.dev) (hruns : qpRuns q s.dev = true) (hunacked : q.unacked = [x])
    (hdue : x.dueAt = some s.dev.now) : Gives (.rnrDelayExpiry n) s fun t => Sends n { x.hdr with retx := true } t ∧
      ∃ q' y, t.qp n = some q' ∧ q'.unacked = [y] ∧ y.dueAt = none ∧ y.hdr = { x.hdr with retx := true } ∧ q'.retries = q.retries := by
  let z := evaluatedQp q s.dev
  have hcharge : chargeQp { x.hdr with retx := true } (resentQp z x s.dev.now) = resentQp z x s.dev.now :=
    chargeQp_unshaped (q := resentQp z x s.dev.now) hrun.evaluated.2.2.1 _
  have hqp : (resendOne n z x (s.dev.putQp n z)).qp n = some (resentQp z x s.dev.now) :=
    (resendOne_qp n z x (s.dev.putQp n z)).trans (congrArg some hcharge)
  have hseg : (resentQp z x s.dev.now).unacked = [resentSeg x s.dev.now] := by simp [resentQp, z, evaluatedQp, hunacked]
  exact done_gives_issues (execRnrDelayExpiry_due hrun hruns hunacked hdue) rfl fun o _ _ =>
    ⟨(sends_sendRma n _ _).mono (List.prefix_append _ o), _, _, hqp, hseg, rfl, rfl, rfl⟩

variable (hq : s.dev.qp n = some q)
include hq

theorem ackTimeout_none (hunacked : q.unacked = []) : ackTimeout n s.dev = s.dev := by
  simp [ackTimeout, hq, hunacked]

theorem ackTimeout_early (hearly : s.dev.now < q.progressAt + q.ackTimeout * 10000) : ackTimeout n s.dev = s.dev := by
  have hns : q.ackTimeout * 10 * usNs = q.ackTimeout * 10000 := Nat.mul_assoc _ 10 1000
  simp only [ackTimeout, hq, hns]
  rw [if_neg fun h => absurd h.2.2 (Nat.not_le.2 hearly)]

/-- R270: a retry is counted, with the segments sent again that no bitmap has shown accepted. -/
theorem gives_ackTimeout (hrts : q.state = .rts) (hunacked : q.unacked ≠ [])
    (hlate : q.progressAt + q.ackTimeout * 10000 ≤ s.dev.now) : Gives (.rmaAckTimeout n) s fun t => ∃ q', t.qp n = some q' ∧
      q'.retries = q.retries + 1 ∧ (q.retryLimit ≤ q.retries → q'.state = .error ∧ q'.errorStatus = 5) := by
  have hns : q.ackTimeout * 10 * usNs = q.ackTimeout * 10000 := Nat.mul_assoc _ 10 1000
  have htimeout : ackTimeout n s.dev = retransmit n (fun x => !x.accepted) (countRetry n s.dev) := by
    simp only [ackTimeout, hq, hns]
    rw [if_pos ⟨hrts, hunacked, hlate⟩]
  refine (?_ : ∃ q', (ackTimeout n s.dev).qp n = some q' ∧ _).elim fun q' h => done_gives_found rfl h.1 h.2
  rw [htimeout]
  obtain hlimit | hlimit := Nat.lt_or_ge q.retries q.retryLimit
  · obtain ⟨q', hq', hretries⟩ := retransmit_retries (qp_putQp n (retriedQp q s.dev.now) s.dev) (fun x => !x.accepted)
    rw [countRetry_within hq hlimit]
    exact ⟨q', hq', hretries, fun h => absurd hlimit (Nat.not_lt.2 h)⟩
  · obtain ⟨q', hq', hstate, hstatus, hretries⟩ := retransmit_exceeded hq hrts hlimit (fun x => !x.accepted)
    exact ⟨q', hq', hretries, fun _ => ⟨hstate, hstatus⟩⟩

end

/-! ## Responses to a READ (R259, R269) -/

/-- A response to the one request, a READ of one PSN. -/
structure Responds (n : Nat) (q : Qp) (h : RmaHdr) (r : WorkReq) (d : Device) : Prop where
  resident : Unbacked d
  object : d.qp n = some q
  running : q.state = .rts
  dst : h.dstQpn = n
  peer : fromPeer q h = true
  reqs : q.reqs = [r]
  op : r.wqe.op = 3
  psns : r.psns = 1
  sent : r.sent = 1
  placed : r.placed = []
  psn : h.psn = r.firstPsn
  offset : h.msgOffset = 0
  total : h.totalLen = r.wqe.length
  cuts : messageCuts r.wqe.localAddr r.wqe.length = [(r.wqe.localAddr, r.wqe.length)]

/-- A queue pair that has placed a response to request `r`. -/
def answeredQp (q : Qp) (r : WorkReq) (psn now : Nat) : Qp :=
  let placed := psn :: r.placed
  let q' := { q with
    reqs := q.reqs.map fun y => if y.firstPsn = r.firstPsn then { y with placed := placed } else y
    unacked := q.unacked.filter fun x => !(decide (placed.length = r.psns) && decide (x.hdr.msgPsn = r.firstPsn)) }
  if oldestPsn q' = oldestPsn q then q' else { q' with progressAt := now }

theorem answeredQp_keeps (q : Qp) (r : WorkReq) (psn now : Nat) : (answeredQp q r psn now).fn = q.fn ∧
    (answeredQp q r psn now).completed = q.completed ∧ (answeredQp q r psn now).state = q.state ∧
    (answeredQp q r psn now).reqs = q.reqs.map fun y => if y.firstPsn = r.firstPsn then { y with placed := psn :: r.placed } else y := by
  dsimp only [answeredQp]
  split <;> exact ⟨rfl, rfl, rfl, rfl⟩

/-- A write that waits to be issued is still inside. -/
theorem accessOut_write {f : Fn} {d e : Device} (hoff : (d.func f).atsEnable = false) (hoff' : (e.func f).atsEnable = false)
    {n a len : Nat} {data : List Byte} (hmem : writeArrival n f a data d ∈ e.issued) : accessOut f a len e = true := by
  have hcovers : coversAddr f a len a e = true := by
    refine List.any_eq_true.2 ⟨0, List.mem_range.2 (Nat.succ_pos _), ?_⟩
    have hpage : a < (a / 4096 + 0 + 1) * 4096 := by omega
    have hhi : a < min (a + max len 1) ((a / 4096 + 0 + 1) * 4096) := lt_min (by omega) hpage
    simp only [if_true, hostAddr_off hoff']
    simp only [Bool.and_eq_true, decide_eq_true_eq]
    omega
  have haddr : (writeArrival n f a data d).tlp.addr = a := writeArrival_addr hoff n a data
  have hany : e.issued.any (fun x => decide (x.fn = some f) && x.rma.isNone && coversAddr f a len x.tlp.addr e) = true :=
    List.any_eq_true.2 ⟨_, hmem, by rw [haddr, hcovers]; simp [writeArrival]⟩
  simp only [accessOut, hany, Bool.true_or]

namespace Responds
variable {s : State} {n : Nat} {q : Qp} {h : RmaHdr} {r : WorkReq} (hr : Responds n q h r s.dev)
include hr

/-- R259: a length that the request does not have. -/
theorem gives_protocol (hdata : h.data.length ≠ r.wqe.length) : Gives (.readResp h) s fun t => ∃ q', t.qp n = some q' ∧
    q'.state = .error ∧ q'.errorStatus = 9 := by
  have hresp : readResp h s.dev = toError n 9 (some r.firstPsn) s.dev := by
    simp [readResp, hr.dst, hr.object, hr.running, hr.peer, hr.reqs, hr.op, hr.psns, hr.sent, hr.placed, hr.psn, hr.offset, hr.cuts,
      lacking_unbacked hr.resident, hr.resident.touch, isWriteOp, isAtomicOp, psnFrom_self, hdata]
  exact done_gives_error rfl hresp hr.object hr.running

variable (hdata : h.data.length = r.wqe.length) (hsome : 0 < r.wqe.length) (hreach : Reaches q.fn s.dev)
  (hkey : keyAdmits q r.wqe.localKey (some localWrite) r.wqe.localAddr r.wqe.length s.dev = true)
include hdata hsome hreach hkey

theorem readResp_placing : readResp h s.dev =
    let z := answeredQp q r h.psn s.dev.now
    completeHeads n z.reqs.length ((fnWrite n q.fn r.wqe.localAddr h.data s.dev).putQp n z) := by
  obtain ⟨henabled, hoff⟩ := hreach
  have hfind : q.reqs.find? (fun r => decide (psnFrom h.psn r.firstPsn < r.psns) && !isWriteOp r.wqe.op && decide (0 < r.sent)) = some r := by
    simp [hr.reqs, hr.op, hr.psns, hr.sent, hr.psn, isWriteOp, psnFrom_self]
  have hcut : ((if isAtomicOp r.wqe.op = true then [(r.wqe.localAddr, 8)] else
      messageCuts r.wqe.localAddr r.wqe.length)[psnFrom h.psn r.firstPsn]?).getD (0, 0) = (r.wqe.localAddr, r.wqe.length) := by
    simp [hr.op, hr.psn, hr.cuts, isAtomicOp, psnFrom_self]
  have hnew : r.placed.contains h.psn = false := by simp [hr.placed]
  have haddr : r.wqe.localAddr + h.msgOffset = r.wqe.localAddr := by rw [hr.offset, Nat.add_zero]
  have hfits : ¬ (r.wqe.localAddr ≠ r.wqe.localAddr ∨ h.data.length ≠ r.wqe.length ∨
      h.last = true ∧ isAtomicOp r.wqe.op = false ∧ h.totalLen ≠ r.wqe.length) := by simp [hdata, hr.total]
  simp only [readResp, hr.dst, hr.object, if_pos (⟨hr.running, hr.peer⟩ : q.state = .rts ∧ fromPeer q h = true), hfind, hnew,
    Bool.false_eq_true, if_false, lacking_unbacked hr.resident, hr.resident.touch, hcut, haddr, if_neg hfits, hkey, if_neg (Nat.ne_of_gt hsome),
    atsVerdict_off hoff, henabled, Bool.true_eq_false]
  rfl

/-- R259, R269: what has been placed is complete only when it has left the device. -/
theorem gives_placed : Gives (.readResp h) s fun t => Writes n q.fn r.wqe.localAddr h.data t ∧
    (∃ q', t.qp n = some q' ∧ q'.reqs = [{ r with placed := [h.psn] }] ∧ q'.completed = q.completed ∧ q'.state = .rts) ∧
    t.items = s.dev.items := by
  let z := answeredQp q r h.psn s.dev.now
  let e := (fnWrite n q.fn r.wqe.localAddr h.data s.dev).putQp n z
  have hoff := hreach.2
  have hwrite := fnWrite_off hoff n r.wqe.localAddr h.data
  obtain ⟨hfn, hcompleted, hstate, hplaced⟩ := answeredQp_keeps q r h.psn s.dev.now
  have hreqs : z.reqs = [{ r with placed := [h.psn] }] := by simpa [hr.reqs, hr.placed] using hplaced
  have hout : accessOut q.fn r.wqe.localAddr r.wqe.length e = true := by
    refine accessOut_write (n := n) (data := h.data) hoff ?_ ?_ <;> unfold e <;> rw [hwrite]
    · exact hoff
    · exact List.mem_append_right s.dev.issued (List.mem_singleton_self _)
  have hopen : reqEnded z { r with placed := [h.psn] } e = false :=
    reqEnded_inside hr.op ((congrArg (accessOut · r.wqe.localAddr r.wqe.length e) hfn).trans hout)
  have hstops : completeHeads n z.reqs.length e = e := completeHeads_stops (qp_putQp n z _) hreqs hopen _
  have hresp := (hr.readResp_placing hdata hsome hreach hkey).trans hstops
  exact done_gives_issues rfl hresp fun o _ _ => ⟨(writes_fnWrite hoff n r.wqe.localAddr h.data).mono (List.prefix_append _ o),
    ⟨z, qp_of_qps rfl, hreqs, hcompleted, hstate.trans hr.running⟩, fnWrite_items hoff n r.wqe.localAddr h.data⟩

end Responds

/-! ## The statement -/

theorem gives_acknowledged {s : State} {n : Nat} {q : Qp} {h : RmaHdr} {x : SentSeg} {r : WorkReq} (hu : Unbacked s.dev)
    (hrun : Running n q s.dev) (hdst : h.dstQpn = n) (hpeer : fromPeer q h = true) (hunacked : q.unacked = [x])
    (hwrite : isWriteOp x.hdr.op = true) (hpsn : x.hdr.psn < 2 ^ 24) (hreqs : q.reqs = [r]) (hop : isWriteOp r.wqe.op = true)
    (hsent : r.sent = r.psns) (hflags : r.wqe.flags = 0) (hnext : q.nextPsn = psnAdd x.hdr.psn 1) (hall : h.psn = q.nextPsn)
    (map : Nat) : Gives (.rmaAck h map) s fun t => (∃ q', t.qp n = some q' ∧ q'.unacked = [] ∧ q'.reqs = [] ∧
      q'.completed = (q.completed + 1) % 2 ^ 32 ∧ q'.state = .rts) ∧ t.items = s.dev.items := by
  let z := ackedQp q q.nextPsn (some map) s.dev.now
  obtain ⟨happlied, hnone⟩ := applyAck_write hrun.object hrun.rts hunacked hwrite hpsn hreqs hop hsent hflags hnext (some map)
  obtain ⟨-, hstate, hcompleted, -⟩ := ackedQp_keeps q q.nextPsn (some map) s.dev.now
  have hack : rmaAck h map s.dev = s.dev.putQp n (endedQp z []) := by
    rw [rmaAck_eq hrun.object hdst hu hrun.rts hpeer, hall, happlied]
  exact done_gives_issues rfl hack fun _ _ _ => ⟨⟨endedQp z [], qp_of_qps rfl, hnone, rfl,
    congrArg (wrapAdd 32 · 1) hcompleted, hstate.trans hrun.rts⟩, rfl⟩

/-- Only a queue pair in ERROR is flushed (R279). -/
theorem qpFlush_rts {n : Nat} {q : Qp} {d : Device} (hq : d.qp n = some q) (hrts : q.state = .rts) (posted : List (List Byte)) :
    qpFlush n posted d = d := by
  simp [qpFlush, hq, hrts]

/-- Settles O38: each row by what the queue pair holds when it runs. -/
theorem rmaRequester : Obligations.RmaRequester := by
  intro s n q b h seg map hu hrun d w slot mine
  have hq : d.qp n = some q := hrun.object
  have hnamed (hmine : mine) : NamesOldest n q h seg d := by
    obtain ⟨hdst, hpeer, hunacked, hpsn, -, -, holdest, hopen⟩ := hmine
    exact ⟨hu, hrun, hdst, hpeer, hunacked, hpsn, holdest, hopen⟩
  refine ⟨fun ⟨henabled, hoff⟩ hreqs hunacked hposted hopen hreading =>
      segmentSend_gives_read hu hrun henabled hoff hreqs hunacked hposted hopen (some b) hreading,
    fun ⟨henabled, hoff⟩ hreqs hunacked hposted hopen hreading => ⟨
      segmentSend_gives_inside hu hrun henabled hoff hreqs hunacked hposted hopen hreading (some b),
      fun hout hnext hop hlength hflags hkey => segmentSend_gives_item hu hrun henabled hoff hreqs hunacked hposted hopen hreading hout
        hnext hop hlength hflags hkey,
      segmentSend_gives_unread hu hrun henabled hoff hreqs hunacked hposted hopen hreading⟩,
    fun hdisabled => done_becomes rfl (segmentSend_stopped hq (by simp [qpRuns, hdisabled]) (some b) []),
    fun r hdst hpeer hunacked hwrite hpsn hreqs hop hsent hflags hnext hall =>
      gives_acknowledged hu hrun hdst hpeer hunacked hwrite hpsn hreqs hop hsent hflags hnext hall map,
    fun hdst hforeign => ?foreign,
    fun hmine => (hnamed hmine).gives_retry,
    fun hmine => (hnamed hmine).gives_retriesExceeded,
    fun hmine => (hnamed hmine).gives_rnrDelay,
    fun hmine => (hnamed hmine).gives_rnrExceeded,
    fun hruns hunacked hdue => gives_resent hrun hruns hunacked hdue,
    fun hunacked => ⟨done_becomes (execRnrDelayExpiry_none hq hunacked) rfl, done_becomes rfl (ackTimeout_none hq hunacked)⟩,
    fun hmine => (hnamed hmine).gives_accessError,
    gives_ackTimeout hq hrun.rts,
    fun hearly => done_becomes rfl (ackTimeout_early hq hearly),
    fun r hreach hdst hpeer hreqs hop hpsns hsent hplaced _ hpsn _ hoffset _ htotal hcuts hsome => ?response,
    fun r hreqs hunacked hall hop hpsns hsent hplaced hflags henabled =>
      segmentSend_gives_completion hu hrun henabled hreqs hunacked hall hop hpsns hsent hplaced hflags,
    done_becomes rfl (qpFlush_rts hq hrun.rts [])⟩
  case foreign =>
    obtain ⟨hack, hmissing, hrnr, haccess, hresp⟩ := answers_foreign hq hdst hforeign map
    exact ⟨done_becomes rfl hack, done_becomes rfl hmissing, done_becomes rfl hrnr, done_becomes rfl haccess, done_becomes rfl hresp⟩
  case response =>
    have hr : Responds n q h r d :=
      ⟨hu, hq, hrun.rts, hdst, hpeer, hreqs, hop, hpsns, hsent, hplaced, hpsn, hoffset, htotal, hcuts⟩
    exact ⟨fun hdata hkey => hr.gives_placed hdata hsome hreach hkey, hr.gives_protocol⟩

end Sys2Proof.Machine
end

section
/-! The settings and the refill of shaped queues (R288, R291 to R293, R295, R299, R300). -/

namespace Sys2Proof.Machine

@[simp] theorem equeue_setEqueue (d : Device) (n q : Nat) (x : EQueue) : (d.setEqueue n q x).equeue n q = x :=
  tget_tset_same equeueReset d.equeues (n * 8 + q) x
theorem equeue_setEqueue_other (d : Device) (n : Nat) {q r : Nat} (x : EQueue) (h : r ≠ q) :
    (d.setEqueue n q x).equeue n r = d.equeue n r :=
  tget_tset_other equeueReset d.equeues x (by omega)

/-! ## SHP_SET (R299, R300) -/

/-- Parameters of SHP_SET without SET_MAP and without a peak limit, at the default sizes (Table 10.4). -/
structure PlainShape (p : List Byte) : Prop where
  length : p.length = 32
  flags : u8 p 2 < 2
  cir : u32 p 4 ≤ 2048000
  pir : u32 p 8 = 0
  steep : u32 p 12 ≤ 2048000
  cbs : u16 p 16 = 64
  pbs : u16 p 18 = 64
  smax : u16 p 20 = 64
  reserved22 : zeros p 22 2 = true
  tcMap : u32 p 24 = 0
  reserved28 : zeros p 28 4 = true

/-- SET_MAP is not asked for. -/
theorem PlainShape.noMap {p : List Byte} (hp : PlainShape p) : bitOf (u8 p 2) 1 = false := Nat.testBit_lt_two_pow hp.flags

/-- What step 2 of R300 asks of the values. -/
theorem PlainShape.inRange {p : List Byte} (hp : PlainShape p) : ¬ 4 ≤ u8 p 2 ∧ ¬ 2048000 < u32 p 4 ∧ u32 p 8 = 0 ∧
    ¬ 2048000 < u32 p 12 ∧ u16 p 16 = 64 ∧ u16 p 18 = 64 ∧ u16 p 20 = 64 ∧ zeros p 22 2 = true ∧ u32 p 24 = 0 ∧ zeros p 28 4 = true :=
  ⟨Nat.not_le.mpr (Nat.lt_trans hp.flags (by decide)), Nat.not_lt.mpr hp.cir, hp.pir, Nat.not_lt.mpr hp.steep, hp.cbs, hp.pbs,
    hp.smax, hp.reserved22, hp.tcMap, hp.reserved28⟩

section
variable {c : Cmd} {n : Nat} {d : Device} (hp : PlainShape c.params) (htarget : c.target.toNat = n) (hparam0 : c.param0 = 0)
include hp htarget hparam0

/-- KIND 0: the settings of Q0 wait for the next refill, and so does the answer (R295). -/
theorem shpSet_queue (hport : portExists n d = true) (hkind : u8 c.params 0 = 0) (hmask : u8 c.params 1 = 1) :
    shpSet c d = (markApplied 0x0801 c (d.setEqueue n 0 { d.equeue n 0 with next := some (shapeAsked c.params) }), none) := by
  dsimp only [shpSet]
  rw [checked_pass ?checks]
  case checks => simp [firstFail, failIf, htarget, hparam0, hport, hkind, hmask, hp.length, hp.noMap, hp.inRange]
  · rw [hkind, hmask, hp.noMap, htarget]
    rfl

/-- KIND 1: the settings of the QP wait for its next evaluation, and the command is answered (R296, R299). -/
theorem shpSet_qp {w : Qp} (hqps : d.qps = [(n, w)]) (hkind : u8 c.params 0 = 1) (hmask : u8 c.params 1 = 0) :
    shpSet c d = ({ d with qps := [(n, { w with shape := { w.shape with next := some (shapeAsked c.params) } })] },
      some (ansOk (natLe 8 d.devTime.toNat))) := by
  dsimp only [shpSet]
  rw [checked_pass ?checks]
  case checks => simp [firstFail, failIf, htarget, hparam0, hqps, hkind, hmask, hp.length, hp.noMap, hp.inRange]
  · simp [hkind, htarget, hqps, tinsert]

end

/-! ## The refill (R291 to R293, R295) -/

/-- SHP_SET commands are answered at a refill, which changes nothing else. -/
theorem answerShapes_answers (d : Device) : AnswersOnly d (answerShapes d) :=
  List.foldlRecOn _ _ (motive := AnswersOnly d) (answersOnly_refl d) fun _ h e _ => answersOnly_trans h (finishExec_answers e _ _)

theorem answerShapes_items {d : Device} (h : NoneRelayed d) : (answerShapes d).items = d.items :=
  List.foldlRecOn _ _ (motive := fun t : Device => t.items = d.items) rfl fun t ht e he =>
    (finish_items (h e (List.mem_filter.mp he).1) e.op _ t).trans ht

/-- The queues as a refill leaves them: those at their reset values are not listed. -/
def refilledQueues (d : Device) : Tbl EQueue :=
  (d.equeues.map fun e => (e.1, refill (candidate (e.1 / 8) (e.1 % 8) d).isSome e.2)).filter fun e => decide (e.2 ≠ equeueReset)

theorem shaperRefill_early {d : Device} (h : d.now < (d.shp.refills + 1) * 125) : shaperRefill d = d := if_neg (Nat.not_le.mpr h)

/-- The device as a refill leaves it, before its answers, with the egress settings that then hold. -/
def refilled (settings : Tbl EPort) (d : Device) : Device :=
  { d with equeues := refilledQueues d, eports := settings, shp := { d.shp with refills := d.shp.refills + 1 } }

theorem shaperRefill_due {d : Device} (h : (d.shp.refills + 1) * 125 ≤ d.now) :
    ∃ settings, shaperRefill d = answerShapes (refilled settings d) := ⟨_, if_pos h⟩

/-- A queue alone on the device is refilled. -/
theorem tget_refilledQueues {n q : Nat} {e : EQueue} {d : Device} (hqueues : d.equeues = [(n * 8 + q, e)]) (hq : q < 8) :
    tget equeueReset (refilledQueues d) (n * 8 + q) = refill (candidate n q d).isSome e := by
  have hn : (n * 8 + q) / 8 = n := by omega
  have hr : (n * 8 + q) % 8 = q := by omega
  rw [refilledQueues, hqueues, List.map_singleton, hn, hr]
  by_cases hreset : refill (candidate n q d).isSome e = equeueReset <;> simp [hreset, tget]

/-- Table 10.1: a committed rate adds to C, up to CBS. -/
theorem refill_c {e : EQueue} (hnext : e.next = none) (hshaped : e.cfg.shaped = true) (hcir : 0 < e.cfg.cir) (backlogged : Bool) :
    (refill backlogged e).c = min (levelBound e.cfg.cbs) (e.c + (e.cfg.cir : Int)) := by
  have happly : applyShape e = e := by simp [applyShape, hnext]
  simp [refill, happly, hshaped, Nat.ne_of_gt hcir]

/-- A refill that is due, with one queue on the device: counted, the queue refilled, no port moved and no item of this device's
own commands made. -/
theorem gives_refilled {s : State} {n q : Nat} {e : EQueue} (hdue : (s.dev.shp.refills + 1) * 125 ≤ s.dev.now)
    (hqueues : s.dev.equeues = [(n * 8 + q, e)]) (hq : q < 8) : Gives .shaperRefill s fun t =>
      t.shp.refills = s.dev.shp.refills + 1 ∧ t.equeue n q = refill (candidate n q s.dev).isSome e ∧
      (NoneRelayed s.dev → t.items = s.dev.items) ∧ t.ports = s.dev.ports := by
  obtain ⟨settings, hrefill⟩ := shaperRefill_due hdue
  have hrow : exec .shaperRefill s = done s (answerShapes (refilled settings s.dev)) := congrArg (done s) hrefill
  have hbeside : (notify s.dev (answerShapes (refilled settings s.dev))).besideAnswer = (refilled settings s.dev).besideAnswer :=
    (notify_besideAnswer _ _).trans (answerShapes_answers _).besideAnswer
  have hqueue := congrArg (fun t : Device => tget equeueReset t.equeues (n * 8 + q)) hbeside
  exact done_gives hrow ⟨congrArg (fun t : Device => t.shp.refills) hbeside, hqueue.trans (tget_refilledQueues hqueues hq),
    fun hown => (notify_items _ _).trans (answerShapes_items (d := refilled settings s.dev) hown), (congrArg Device.ports hbeside :)⟩

end Sys2Proof.Machine
end

section
/-! UpdateFCs (R287, R309) and the samples of queues (R301, R302), and the statement on shaping and sampling. -/

namespace Sys2Proof.Machine

/-! ## UpdateFC -/

/-- R309: an UpdateFC for non-posted requests or completions carries all the credit freed since the last one. -/
theorem gives_updateFc {s : State} {n cls : Nat} (hpos : 0 < cls) (hcls : cls < 3) (hup : lstateUp (s.dev.pci n).lstate = true)
    (hshaft : shaftHolds false n s.dev = false) : Gives (.updatefcRefresh n cls) s fun t =>
      Output.updateFc n cls ((s.dev.pci n).owedHdr.getD cls 0) ((s.dev.pci n).owed.getD cls 0) ∈ t.out ∧
      (t.pci n).owed = (s.dev.pci n).owed.set cls 0 ∧ (t.pci n).fcSentAt = (s.dev.pci n).fcSentAt.set cls s.dev.now ∧
      (t.pci n).txHdr = (s.dev.pci n).txHdr ∧ t.items = s.dev.items := by
  refine done_gives_framed rfl (if_pos ⟨hcls, hup, hshaft⟩) fun o m l => ⟨?_, ?_, ?_, ?_, rfl⟩
  · rw [if_neg (Nat.ne_of_gt hpos)]
    exact List.mem_cons_self
  · show ((s.dev.setPci n _).pci n).owed = _
    rw [pci_setPci]
  · show ((s.dev.setPci n _).pci n).fcSentAt = _
    rw [pci_setPci]
  · show ((s.dev.setPci n _).pci n).txHdr = _
    rw [pci_setPci]

/-! ## SHP_SAMPLE_SET (R302) -/

/-- Of the lowest port alone at most one port is sampled. -/
theorem sampledPorts_one_length (d : Device) : (sampledPorts 1 d).length ≤ 1 := by
  have hbits : (List.range 101).filter (bitOf 1) = [0] := by decide
  calc (sampledPorts 1 d).length
      = (((List.range 101).filter (bitOf 1)).filter fun n => decide (96 ≤ n) || portExists n d).length := by
        rw [List.filter_filter, sampledPorts]; simp only [Bool.and_comm]
    _ ≤ [0].length := hbits ▸ List.length_filter_le _ _

/-- Sampling into the registers of one port alone: no ring, and the count of samples lost stays. -/
theorem shpSampleSet_registers {c : Cmd} (d : Device) (hheader : NoTarget c) (hlen : c.params.length = 48) (hflags : u8 c.params 42 = 1)
    (hreserved : zeros c.params 43 5 = true) (hpos : 0 < u32 c.params 20) (hmax : u32 c.params 20 ≤ 1000000)
    (hmask : maskOf c.params 24 = 1) : ∃ r : Ring, r.on = true ∧ r.entries = 0 ∧ r.intervalUs = u32 c.params 20 ∧
      r.lost = d.shp.ring.lost ∧ shpSampleSet c d =
        ({ d with shp := { d.shp with ring := r, portMask := 1, regOnly := true } }, some (ansOk [0, 0, 0, 0])) := by
  obtain ⟨htarget, hparam0⟩ := hheader
  have hreg : bitOf 1 0 = true := rfl
  have hports : ¬ u32 c.params 20 < ceilDiv (sampledPorts 1 d).length 16 := by
    have := sampledPorts_one_length d
    unfold ceilDiv
    omega
  dsimp only [shpSampleSet]
  rw [checked_pass ?checks]
  case checks =>
    simp [firstFail, failIf, headerZero, htarget, hparam0, hlen, hflags, hreg, hreserved, hmask, hports, Nat.ne_of_gt hpos,
      Nat.not_lt.mpr hmax]
  · simp only [hflags, hreg, hmask, Bool.true_or, if_true]
    refine ⟨_, ?_, ?_, ?_, ?_, rfl⟩ <;> rfl

/-! ## Samples (R301) -/

/-- The capture of one queue of a port, as device `d₀` holds it, into the queue's registers. -/
def sampleQueue (n : Nat) (d₀ d : Device) (q : Nat) : Device :=
  d.setEqueue n q { d.equeue n q with depth := queueDepth n q d₀, delay := headDelay n q d₀ }

theorem foldl_sampleQueue_frame (n : Nat) (d₀ : Device) (l : List Nat) (d : Device) :
    ∃ queues, l.foldl (sampleQueue n d₀) d = { d with equeues := queues } := by
  induction l generalizing d with
  | nil => exact ⟨d.equeues, rfl⟩
  | cons q l ih => exact ih (sampleQueue n d₀ d q)

theorem equeue_foldl_sampleQueue (n q : Nat) (d₀ : Device) (l : List Nat) (d : Device) :
    (l.foldl (sampleQueue n d₀) d).equeue n q =
      if q ∈ l then { d.equeue n q with depth := queueDepth n q d₀, delay := headDelay n q d₀ } else d.equeue n q := by
  induction l generalizing d with
  | nil => rfl
  | cons r l ih =>
    rw [List.foldl_cons, ih]
    by_cases hqr : q = r
    · subst hqr
      simp [sampleQueue]
    · simp [sampleQueue, equeue_setEqueue_other d n _ hqr, hqr]

/-- A sample of one port with REG_ONLY: its eight queues are captured, and the multiple is served. -/
theorem takeSample_registers {n : Nat} {d : Device} (hreg : d.shp.regOnly = true) (hports : sampledPorts d.shp.portMask d = [n]) :
    ∃ queues, (∀ q < 8, tget equeueReset queues (n * 8 + q) =
        { d.equeue n q with depth := queueDepth n q d, delay := headDelay n q d }) ∧
      takeSample d = { d with
        equeues := queues
        shp := { d.shp with ring := { d.shp.ring with lastMultiple := d.devTime.toNat / (d.shp.ring.intervalUs * usNs) } } } := by
  obtain ⟨queues, hfold⟩ := foldl_sampleQueue_frame n d (List.range 8) d
  refine ⟨queues, fun q hq => ?_, ?_⟩
  · have hqueue := equeue_foldl_sampleQueue n q d (List.range 8) d
    rwa [hfold, if_pos (List.mem_range.mpr hq)] at hqueue
  · unfold sampleQueue at hfold
    simp only [takeSample, hports, List.foldl_cons, List.foldl_nil, hfold, hreg, if_true]

theorem gives_sampled {s : State} {n : Nat} (hon : s.dev.shp.ring.on = true)
    (hdue : s.dev.shp.ring.lastMultiple < s.dev.devTime.toNat / (s.dev.shp.ring.intervalUs * 1000)) (hreg : s.dev.shp.regOnly = true)
    (hports : sampledPorts s.dev.shp.portMask s.dev = [n]) : Gives .shpSample s fun t =>
      (∀ q < 8, (t.equeue n q).depth = queueDepth n q s.dev ∧ (t.equeue n q).delay = headDelay n q s.dev ∧
        (t.equeue n q).cfg = (s.dev.equeue n q).cfg) ∧
      t.shp.ring = { s.dev.shp.ring with lastMultiple := s.dev.devTime.toNat / (s.dev.shp.ring.intervalUs * 1000) } ∧
      t.items = s.dev.items := by
  have hrow : exec .shpSample s = done s (takeSample s.dev) := congrArg (done s) (if_pos ⟨hon, hdue⟩)
  obtain ⟨queues, hqueues, hsample⟩ := takeSample_registers hreg hports
  exact done_gives_framed hrow hsample fun _ _ _ => ⟨fun q hq => ⟨(congrArg EQueue.depth (hqueues q hq) :),
    (congrArg EQueue.delay (hqueues q hq) :), (congrArg EQueue.cfg (hqueues q hq) :)⟩, rfl, rfl⟩

/-! ## The statement -/

/-- Settles O44: the checks of each command pass, and each row acts once its time has come and while its link is up. -/
theorem shaperAndSampling : Obligations.ShaperAndSampling := by
  intro s c n q cls h k e d p x
  refine ⟨?setQueue, ?setQp, ?sampleSet, fun hdue hqueues hq => ?refill, fun hearly => done_becomes rfl (shaperRefill_early hearly),
    fun hcls hup => done_becomes rfl (if_pos ⟨hcls, hup⟩), fun hdown => ?down,
    fun hshaft => done_becomes rfl (if_neg fun ⟨_, _, hfree⟩ => ?held), gives_updateFc,
    gives_sampled, fun hidle => done_becomes rfl (if_neg fun ⟨hon, hdue⟩ => ?idle)⟩
  case setQueue =>
    intro hready htarget hparam0 hport hlen hkind hmask hflags hcir hpir hsteep hcbs hpbs hsmax h22 hmap h28
    have hn : c.target.toNat = n := target_toNat htarget (Nat.lt_trans (portExists_iff.mp hport).1 (by decide))
    exact packet_starts rfl hready
      (shpSet_queue ⟨hlen, hflags, hcir, hpir, hsteep, hcbs, hpbs, hsmax, h22, hmap, h28⟩ hn hparam0 hport hkind hmask)
  case setQp =>
    intro w hready htarget hsmall hparam0 hqps hlen hkind hmask hflags hcir hpir hsteep hcbs hpbs hsmax h22 hmap h28
    have hn : c.target.toNat = n := target_toNat htarget (Nat.lt_trans hsmall (by decide))
    exact packet_replies rfl hready
      (shpSet_qp ⟨hlen, hflags, hcir, hpir, hsteep, hcbs, hpbs, hsmax, h22, hmap, h28⟩ hn hparam0 hqps hkind hmask)
  case sampleSet =>
    intro hready hheader hlen hflags hreserved hpos hmax hmask
    obtain ⟨r, hon, hentries, hinterval, hlost, hset⟩ :=
      shpSampleSet_registers (markBegun 0x0802 c d) hheader hlen hflags hreserved hpos hmax hmask
    exact ⟨r, hon, hentries, hinterval, hlost, packet_replies rfl hready hset⟩
  case refill =>
    obtain ⟨t, hstep, hpending, hrefills, hqueue, hitems, hkept⟩ := gives_refilled hdue hqueues hq
    exact ⟨t, hstep, hpending, hrefills, hqueue,
      fun hnext hshaped hcir => (congrArg EQueue.c hqueue).trans (refill_c hnext hshaped hcir _), hitems, hkept⟩
  case down =>
    exact ⟨done_becomes rfl (if_neg fun ⟨_, hup⟩ => absurd (hdown.symm.trans hup) Bool.false_ne_true),
      done_becomes rfl (if_neg fun ⟨_, hup, _⟩ => absurd (hdown.symm.trans hup) Bool.false_ne_true)⟩
  case held => exact absurd (hfree.symm.trans hshaft) Bool.false_ne_true
  case idle => exact hidle.elim (fun hoff => absurd (hoff.symm.trans hon) Bool.false_ne_true) (Nat.not_le.mpr hdue)

end Sys2Proof.Machine
end

section
/-! The block as a whole (R24, R381, R407, R480): what every step signals, whatever waits, and a step with nothing waiting. -/

namespace Sys2Proof.Machine

/-- Settles O53: the front of the queue is what the step takes. -/
theorem stepRunsFront : Obligations.StepRunsFront := fun _ _ _ => rfl

/-- Settles O55: ALERT_N is high at reset. -/
theorem resetReleasesAlert : Obligations.ResetReleasesAlert := fun hlow => absurd hlow Bool.false_ne_true

/-! ## What every step signals (R381, R407) -/

/-- Every step ends as a row does, on the device with the front of the queue gone. -/
theorem step_done (s : State) : ∃ d, step s = done { s with pending := s.pending.tail } d := by
  obtain ⟨pending, dev⟩ := s
  cases pending with
  | nil => exact ⟨tick dev, rfl⟩
  | cons c rest => exact exec_done c { pending := rest, dev := dev }

section
variable (old new : Device)

/-- The interrupt outputs move no summary bit, mask or enable. -/
theorem notify_summaryBits : summaryBits (notify old new) = summaryBits new := by
  obtain ⟨i, m, a, h⟩ := notify_frame old new
  rw [h]
  rfl

theorem notify_intMask : (notify old new).glb.intMask = new.glb.intMask := by
  obtain ⟨i, m, a, h⟩ := notify_frame old new
  rw [h]

theorem notify_alertEn : (notify old new).glb.alertEn = new.glb.alertEn := by
  obtain ⟨i, m, a, h⟩ := notify_frame old new
  rw [h]

end

/-- R381: ALERT_N after a change: low where an enabled bit became 1, high where none is 1, else as it was. -/
theorem alertStep_alertLow (so sn : BitVec 14) (d : Device) : (alertStep so sn d).glb.alertLow =
    if sn &&& ~~~ so &&& d.glb.alertEn ≠ 0 then true else if sn &&& d.glb.alertEn = 0 then false else d.glb.alertLow := by
  unfold alertStep
  split
  · rfl
  · split <;> rfl

theorem sendVector_glb (f : Fn) (v : Nat) (d : Device) : (sendVector f v d).glb = d.glb := by
  obtain ⟨i, m, h⟩ := sendVector_frame f v d
  rw [h]

theorem notify_alertLow (old new : Device) : (notify old new).glb.alertLow =
    if summaryBits new &&& ~~~ summaryBits old &&& new.glb.alertEn ≠ 0 then true
    else if summaryBits new &&& new.glb.alertEn = 0 then false else new.glb.alertLow := by
  unfold notify
  rw [alertStep_alertLow]
  split <;> simp only [sendVector_glb]

/-- A bit that has just become 1 is 1: an enabled one is among the enabled bits. -/
theorem enabled_of_risen {so sn en : BitVec 14} (h : sn &&& ~~~ so &&& en ≠ 0) : sn &&& en ≠ 0 := by
  intro hzero
  apply h
  rw [BitVec.and_assoc, BitVec.and_comm (~~~ so) en, ← BitVec.and_assoc, hzero]
  exact BitVec.zero_and

/-- R381: after any change, ALERT_N is low only while an enabled bit is 1. -/
theorem notify_alertWf (s : State) (old new : Device) : State.alertWf { s with dev := notify old new } := by
  intro hlow
  rw [notify_summaryBits, notify_alertEn]
  rw [notify_alertLow] at hlow
  split at hlow
  case isTrue hrisen => exact enabled_of_risen hrisen
  case isFalse =>
    split at hlow
    case isTrue => exact absurd hlow Bool.false_ne_true
    case isFalse henabled => exact henabled

/-- The event of a vector has been signalled: pending where the vector is masked, else the newest of what waits to be
issued (R364). -/
def Signalled (d : Device) : Prop :=
  let e := tget msixReset d.msix 1
  (e.masked = true → e.pending = true) ∧
  (e.masked = false → ∃ a, d.issued.getLast? = some a ∧ a.port = 100 ∧ a.fn = some .mgr ∧ a.tlp.kind = .memWrite ∧
    a.tlp.addr = e.addr ∧ a.tlp.data = natLe 4 e.data.toNat)

theorem sendVector_signalled (d : Device) : Signalled (sendVector .mgr 1 d) := by
  have hvector : sendVector .mgr 1 d = if (tget msixReset d.msix 1).masked
      then { d with msix := tset msixReset d.msix 1 { tget msixReset d.msix 1 with pending := true } }
      else issue 100 (some .mgr) (requestTlp .memWrite .mgr (tget msixReset d.msix 1).addr 4
        (natLe 4 (tget msixReset d.msix 1).data.toNat) d) none d := rfl
  rw [hvector]
  split
  case isTrue hmasked => exact ⟨fun _ => by simp, fun hfree => by simp [hmasked] at hfree⟩
  case isFalse hfree =>
    exact ⟨fun hmasked => absurd hmasked hfree, fun _ => ⟨_, List.getLast?_concat .., rfl, rfl, rfl, rfl, rfl⟩⟩

theorem alertStep_signalled {so sn : BitVec 14} {d : Device} (h : Signalled d) : Signalled (alertStep so sn d) := by
  obtain ⟨a, ha⟩ := alertStep_frame so sn d
  rw [ha]
  exact h

/-- R407: a summary bit that became both 1 and unmasked has been signalled. -/
theorem notify_signalled {old new : Device}
    (h : (summaryBits new &&& ~~~ new.glb.intMask) &&& ~~~ (summaryBits old &&& ~~~ old.glb.intMask) ≠ 0) :
    Signalled (notify old new) := by
  unfold notify
  rw [if_neg h]
  exact alertStep_signalled (sendVector_signalled new)

/-- Settles O56: every step ends with the interrupt outputs of its change, and they are as R381 and R407 ask. -/
theorem everyStepSignalsTheHost : Obligations.EveryStepSignalsTheHost := by
  intro s _
  obtain ⟨d, hstep⟩ := step_done s
  refine ⟨_, hstep, rfl, notify_alertWf { s with pending := s.pending.tail } s.dev d, fun hrisen => ?alert, fun hunmasked => ?vector⟩
  case alert =>
    rw [notify_summaryBits, notify_alertEn] at hrisen
    exact (notify_alertLow s.dev d).trans (if_pos hrisen)
  case vector =>
    rw [notify_summaryBits, notify_intMask] at hunmasked
    exact notify_signalled hunmasked

/-! ## A nanosecond (R480) -/

/-- Discharging gates sends outputs. -/
theorem foldl_emitIf_frame {α : Type} (p : α → Device → Prop) [∀ x d, Decidable (p x d)] (o : α → Output) (l : List α) (d : Device) :
    ∃ out, l.foldl (fun d x => if p x d then emit (o x) d else d) d = { d with out := out } := by
  induction l generalizing d with
  | nil => exact ⟨d.out, rfl⟩
  | cons x l ih =>
    rw [List.foldl_cons]
    split
    · exact ih (emit (o x) d)
    · exact ih d

theorem gateDischarge_frame (d : Device) : ∃ o, gateDischarge d = { d with out := o } :=
  foldl_emitIf_frame (fun (e : Nat × Spw) (d : Device) => e.2.state = .shutdown ∧ e.2.enteredAt + 10 * usNs = d.now)
    (fun e => .gate e.1 2) d.spw d

theorem linkTime_counts (d : Device) (n : Nat) : CountsOnly d (linkTime d n) := by
  unfold linkTime
  extract_lets b v
  split
  · exact countsOnly_refl d
  · split
    · split
      · exact countFixed_counts n 4 b d
      · have hfresh : CountsOnly d v.2 := ⟨_, _, _, rfl⟩
        exact countsOnly_trans hfresh (countsOnly_trans (countFixed_counts n 4 v.1 v.2) (countFixed_counts n 5 (b - v.1) _))
    · exact countFixed_counts n _ b d

theorem timedEvents_counts (d : Device) (n : Nat) : CountsOnly d (timedEvents d n) := by
  unfold timedEvents
  extract_lets waiting cs d₁ d₂
  have h₁ : CountsOnly d d₁ := by
    unfold d₁
    split
    · exact countsOnly_refl d
    · split
      · split
        · exact countsOnly_refl d
        · exact countPort_counts _ _ _ _ _ _ d
      · exact countsOnly_refl d
  have h₂ : CountsOnly d d₂ := by
    unfold d₂
    split
    · exact countsOnly_trans h₁ (countPort_counts _ _ _ _ _ _ d₁)
    · exact h₁
  split
  · exact h₂
  · exact countsOnly_trans h₂ (countPort_counts _ _ _ _ _ _ d₂)

theorem countTime_counts (d : Device) : CountsOnly d (countTime d) := by
  unfold countTime proxyWaits
  split
  · exact countsOnly_refl d
  · exact countsOnly_trans (foldl_counts timedEvents_counts _ d) (foldl_counts (fun d i => countPort_counts _ _ _ _ _ _ d) _ _)

theorem foldl_inside_frame (l : List Item) (d : Device) :
    ∃ t, l.foldl (fun d i => { d with insideAt := tinsert i.part d.now d.insideAt }) d = { d with insideAt := t } := by
  induction l generalizing d with
  | nil => exact ⟨d.insideAt, rfl⟩
  | cons i l ih => exact ih { d with insideAt := tinsert i.part d.now d.insideAt }

theorem markInside_frame (d : Device) : ∃ t, markInside d = { d with insideAt := t } := foldl_inside_frame d.items d

/-- With no command under way, nothing is answered as time passes. -/
theorem findExec_idle (p : Exec → Bool) {d : Device} (h : d.kme.execs = []) : findExec p d = none := by
  rw [findExec, h, List.find?_nil]

theorem retrainTimeout_idle {d : Device} (h : d.kme.execs = []) : retrainTimeout d = d := by
  simp only [retrainTimeout, findExec_idle _ h]

theorem resetDrained_idle {d : Device} (h : d.kme.execs = []) : resetDrained d = d := by
  simp only [resetDrained, findExec_idle _ h]

theorem answerDeregister_idle {d : Device} (h : d.kme.execs = []) : answerDeregister d = d := by
  rw [answerDeregister, h, List.filter_nil, List.foldl_nil]

/-- What the part of a nanosecond before the passing of time can change. -/
theorem counted_frame (d : Device) : ∃ f k c l t, markInside ((List.range 101).foldl linkTime (lanesTick (countTime d))) =
    { d with freeCount := f, counters := k, cnt := c, lanes := l, insideAt := t } := by
  obtain ⟨f, k, c, hcount⟩ := countTime_counts d
  obtain ⟨f', k', c', hlinks⟩ := foldl_counts linkTime_counts (List.range 101) (lanesTick (countTime d))
  obtain ⟨t, hmark⟩ := markInside_frame ((List.range 101).foldl linkTime (lanesTick (countTime d)))
  exact ⟨f', k', c', _, t, by rw [hmark, hlinks, hcount]; rfl⟩

/-- A nanosecond with no command under way. -/
theorem tick_idle {d : Device} (h : d.kme.execs = []) : ∃ f k c l t o, tick d = { d with
    freeCount := f, counters := k, cnt := c, lanes := l, insideAt := t, out := o, now := d.now + 1
    devTime := d.devTime + BitVec.ofNat 64 (timeStep d).1, fab := { d.fab with slew := (timeStep d).2 } } := by
  obtain ⟨f, k, c, l, t, hcounted⟩ := counted_frame d
  have htick : tick d = gateDischarge (answerDeregister (resetDrained (retrainTimeout (timeTick
      (markInside ((List.range 101).foldl linkTime (lanesTick (countTime d)))))))) := rfl
  obtain ⟨o, hgate⟩ := gateDischarge_frame (timeTick { d with freeCount := f, counters := k, cnt := c, lanes := l, insideAt := t })
  refine ⟨f, k, c, l, t, o, htick.trans ?_⟩
  rw [hcounted, retrainTimeout_idle, resetDrained_idle, answerDeregister_idle]
  · exact hgate
  all_goals exact h

theorem timeStep_locked {d : Device} (hlock : d.clk.mainLock = true) (hslew : d.fab.slew = 0) : timeStep d = (1, 0) := by
  simp [timeStep, hlock, hslew]

theorem timeStep_unlocked {d : Device} (hlock : d.clk.mainLock = false) : timeStep d = (0, d.fab.slew) := by
  simp [timeStep, hlock]

/-- Settles O54: the step is a nanosecond, which moves times, counts and outputs alone. -/
theorem idleStepLetsTimePass : Obligations.IdleStepLetsTimePass := by
  intro s hpending hexecs
  have hstep : step s = done s (tick s.dev) := by rw [step, hpending]
  obtain ⟨f, k, c, l, t, o, htick⟩ := tick_idle hexecs
  obtain ⟨i, m, a, hn⟩ := notify_frame s.dev (tick s.dev)
  refine ⟨_, hstep, hpending, ?_⟩
  rw [hn, htick]
  refine ⟨rfl, fun hlock hslew => ?locked, fun hlock => ?unlocked, rfl, rfl, rfl, rfl, rfl, rfl, rfl, rfl, rfl, rfl, rfl, rfl⟩
  case locked =>
    show s.dev.devTime + BitVec.ofNat 64 (timeStep s.dev).1 = _
    rw [timeStep_locked hlock hslew]
    rfl
  case unlocked =>
    show s.dev.devTime + BitVec.ofNat 64 (timeStep s.dev).1 = _
    rw [timeStep_unlocked hlock]
    exact BitVec.add_zero s.dev.devTime

end Sys2Proof.Machine
end

section
/-! Mailboxes, transports and health (R383 to R388, R396, R398, R404, R405, R453, R454): how commands reach the arbiter, and
what the commands about the device answer. -/

namespace Sys2Proof.Machine

/-! ## Doorbells of a mailbox that exists (R386, R388) -/

section
variable {f : Fn} {d : Device} (hf : f ∈ mailboxes d)
include hf

theorem mailboxes_contains : (mailboxes d).contains f = true := List.contains_iff_mem.mpr hf

/-- SUBMIT where nothing is under way. -/
theorem submit_free (h : (d.mailbox f).state = .idle ∨ (d.mailbox f).state = .done) : doorbell f true false d =
    d.setMailbox f { d.mailbox f with state := .submitted, submittedAt := d.now, starveMs := d.kme.starveMs, starved := false } := by
  rcases h with h | h <;> simp [doorbell, hf, h]

/-- SUBMIT where a command waits or executes. -/
theorem submit_taken (h : (d.mailbox f).state = .submitted ∨ (d.mailbox f).state = .executing) :
    doorbell f true false d = mbxRaise f 0x08 d := by
  rcases h with h | h <;> simp [doorbell, hf, h]

theorem cancel_submitted (h : (d.mailbox f).state = .submitted) : doorbell f false true d =
    mbxRaise f 0x01 (d.setMailbox f { d.mailbox f with state := .idle, starved := false }) := by
  simp [doorbell, hf, h]

theorem cancel_other (h : (d.mailbox f).state ≠ .submitted) : doorbell f false true d = d := by
  cases hs : (d.mailbox f).state <;> simp_all [doorbell]

theorem noticeCons_eq (v : W32) : noticeCons f v d = d.setMailbox f { d.mailbox f with cons := v } := by
  rw [noticeCons, if_pos (mailboxes_contains hf)]

end

/-! ## Frames that arrive (R383, R384, R396, R398) -/

section
variable {s : Source} {frame : List Byte} {d : Device}

theorem frameArrival_short (h : frameShort s frame = true) : frameArrival s frame d = discardFrame s d := by
  simp only [frameArrival, h, if_true]

variable (hlong : frameShort s frame = false) (hnew : repeatOf (framePacket s frame) d = none)
include hlong hnew

/-- A whole frame that repeats nothing is dropped, discarded, answered or held. -/
theorem frameArrival_new : frameArrival s frame d =
    if holdingFull s d then kmeRaise 0x20 { d with kme := { d.kme with dropped := satAdd 0xFFFF d.kme.dropped 1 } }
    else if !frameCrcOk s frame && lockedOut s d then discardFrame s d
    else if lockedOut s d then answerLocked (framePacket s frame).op (framePacket s frame).cmd d
    else { d with kme := { d.kme with held := d.kme.held ++
      [{ source := s, frame := frame, since := d.now, starveMs := d.kme.starveMs, starved := false }] } } := by
  simp only [frameArrival, hlong, hnew, ite_self, Bool.false_eq_true, if_false]

theorem frameArrival_full (hfull : holdingFull s d = true) : frameArrival s frame d =
    kmeRaise 0x20 { d with kme := { d.kme with dropped := satAdd 0xFFFF d.kme.dropped 1 } } := by
  rw [frameArrival_new hlong hnew, if_pos hfull]

variable (hroom : holdingFull s d = false)
include hroom

theorem frameArrival_locked (hlock : lockedOut s d = true) (hcrc : frameCrcOk s frame = true) :
    frameArrival s frame d = answerLocked (framePacket s frame).op (framePacket s frame).cmd d := by
  rw [frameArrival_new hlong hnew]
  simp [hroom, hlock, hcrc]

theorem frameArrival_held (hfree : lockedOut s d = false) : frameArrival s frame d =
    { d with kme := { d.kme with held := d.kme.held ++
      [{ source := s, frame := frame, since := d.now, starveMs := d.kme.starveMs, starved := false }] } } := by
  rw [frameArrival_new hlong hnew]
  simp [hroom, hfree]

end

/-- The rows of SMBus, VDMs and relays take a frame from their source. -/
theorem arrival_row {s : State} {src : Source} {i : Instr} {frame : List Byte} {n : Nat}
    (h : (src = { transport := 3, inst := n % 128 } ∧ i = .smbusCommandArrival n frame) ∨
      (src = { transport := 4, inst := n % 64 } ∧ i = .vdmCommandArrival n frame ∧ (uspOf n s.dev).isSome) ∨
      (src = { transport := 6, inst := n % 32 } ∧ i = .relayCommandArrival n frame)) :
    exec i s = done s (frameArrival src frame s.dev) := by
  rcases h with ⟨rfl, rfl⟩ | ⟨rfl, rfl, husp⟩ | ⟨rfl, rfl⟩
  · rfl
  · exact congrArg (done s) (if_pos husp)
  · rfl

/-- Settles O1: the doorbells by the mailbox's state, the frames by the branch of the arrival that takes them. -/
theorem commandsReachTheArbiter : Obligations.CommandsReachTheArbiter := by
  refine ⟨?mailbox, ?frame⟩
  case mailbox =>
    intro s f v hf
    exact ⟨fun h => done_becomes rfl (submit_free hf h), fun h => done_becomes rfl (submit_taken hf h),
      fun h => done_becomes rfl (cancel_submitted hf h), fun h => done_becomes rfl (cancel_other hf h),
      done_becomes rfl (noticeCons_eq hf v)⟩
  case frame =>
    intro s src i frame n hrow
    have hexec := arrival_row hrow
    refine ⟨fun hshort => done_becomes hexec (frameArrival_short hshort), fun hlong hnew =>
      ⟨fun hfull => done_becomes hexec (frameArrival_full hlong hnew hfull), fun hroom => ⟨fun hlock hcrc => ?_, fun hfree => ?_⟩⟩⟩
    · exact done_becomes hexec (frameArrival_locked hlong hnew hroom hlock hcrc)
    · exact done_becomes hexec (frameArrival_held hlong hnew hroom hfree)

/-! ## Commands about the device (R404, R405, R453, R454) -/

theorem headerZero_none {c : Cmd} (h : NoTarget c) : headerZero c = none := by
  obtain ⟨htarget, hparam0⟩ := h
  simp [headerZero, htarget, hparam0]

theorem sysInfo_eq {c : Cmd} (hheader : NoTarget c) (hparams : c.params = []) (d : Device) :
    sysInfo c d = (d, some (ansOk (infoResult c.source d))) := by
  rw [sysInfo, checked_pass]
  simp [firstFail, failIf, hparams, headerZero_none hheader]

/-- R405: each field of ARB_SET that is 0 leaves the value in force. -/
theorem arbSet_eq {c : Cmd} {starve gap max : Nat} (hheader : NoTarget c)
    (hparams : c.params = natLe 2 starve ++ natLe 2 gap ++ natLe 2 max ++ [0, 0]) (hstarve : starve ≤ 1000) (hgap : gap ≤ 1000)
    (hmax : max ≤ 1000) (d : Device) : ∃ e, e = { d with kme := { d.kme with
        starveMs := if starve = 0 then d.kme.starveMs else starve, lockGap := if gap = 0 then d.kme.lockGap else gap
        lockMaxMs := if max = 0 then d.kme.lockMaxMs else max } } ∧
      arbSet c d = (e, some (ansOk (natLe 4 (arbCfgWord e)))) := by
  have hlen : c.params.length = 8 := by rw [hparams]; rfl
  have h0 : u16 c.params 0 = starve := by rw [hparams]; exact leNat_natLe_two (by omega)
  have h2 : u16 c.params 2 = gap := by rw [hparams]; exact leNat_natLe_two (by omega)
  have h4 : u16 c.params 4 = max := by rw [hparams]; exact leNat_natLe_two (by omega)
  have hzeros : zeros c.params 6 2 = true := by rw [hparams]; rfl
  refine ⟨_, rfl, ?_⟩
  dsimp only [arbSet]
  rw [checked_pass ?checks]
  case checks =>
    simp [firstFail, failIf, hlen, headerZero_none hheader, h0, h2, h4, hzeros, Nat.not_lt.mpr hstarve, Nat.not_lt.mpr hgap,
      Nat.not_lt.mpr hmax]
  · simp only [h0, h2, h4]

/-- R454: what SYS_HEALTH answers is sampled before the latched fault is cleared. -/
theorem sysHealth_eq {c : Cmd} {flags : Byte} (hheader : NoTarget c) (hparams : c.params = [flags, 0, 0, 0]) (hflags : flags.toNat < 2)
    (d : Device) : sysHealth c d = ({ d with can := { d.can with fault := d.can.fault && decide (flags.toNat = 0) } },
      some (ansOk (natLe 4 (canGradeWord d) ++ natLe 4 (canInputsWord d) ++ natLe 4 (spareObWord d) ++ natLe 4 (spareCaddyWord d) ++
        natLe 4 (shaftWord d) ++ natLe 4 (mramWord d) ++ natLe 8 d.devTime.toNat))) := by
  have hlen : c.params.length = 4 := by rw [hparams]; rfl
  have h0 : u8 c.params 0 = flags.toNat := by rw [hparams]; rfl
  have hzeros : zeros c.params 1 3 = true := by rw [hparams]; rfl
  have hclear : (!bitOf flags.toNat 0) = decide (flags.toNat = 0) := by
    have hflag : flags.toNat = 0 ∨ flags.toNat = 1 := by omega
    rcases hflag with h | h <;> rw [h] <;> rfl
  rw [sysHealth, checked_pass ?checks]
  case checks => simp [firstFail, failIf, hlen, headerZero_none hheader, h0, hzeros, Nat.not_le.mpr hflags]
  · simp only [h0, hclear]

/-- The sequence number of the oldest record that the black box holds (R453). -/
def oldestSeq (d : Device) : Nat :=
  match d.blackBox.head? with
  | some r => r.seq
  | none => d.can.nextSeq

theorem mramLogRead_eq {c : Cmd} {first count : Nat} (hheader : NoTarget c) (hcount : 0 < count) (hmax : count ≤ 63)
    (hfirst : first < 2 ^ 32 - 1) (hparams : c.params = natLe 4 first ++ natLe 2 count ++ [0, 0]) (d : Device) :
    mramLogRead c d = (d, some (ansOk (natLe 4 (oldestSeq d) ++ natLe 4 d.can.nextSeq ++
      (((d.blackBox.filter fun r => decide ((r.seq + 2 ^ 32 - first) % 2 ^ 32 < 2 ^ 31)).take count).map blackBoxBytes).flatten))) := by
  have hlen : c.params.length = 8 := by rw [hparams]; rfl
  have h0 : u32 c.params 0 = first := by rw [hparams]; exact leNat_natLe_four (by omega)
  have h4 : u16 c.params 4 = count := by rw [hparams]; exact leNat_natLe_two (by omega)
  have hzeros : zeros c.params 6 2 = true := by rw [hparams]; rfl
  have hnext : first ≠ 0xFFFFFFFF := by omega
  rw [mramLogRead, checked_pass ?checks]
  case checks =>
    simp [firstFail, failIf, hlen, headerZero_none hheader, h4, hzeros, Nat.ne_of_gt hcount, Nat.not_lt.mpr hmax]
  · cases hhead : d.blackBox.head? <;> simp only [h0, h4, hnext, oldestSeq, hhead, decide_false, Bool.false_or]

/-- Settles O2: each command's checks pass, and its answer is read on the device as the command finds it. -/
theorem deviceCommandsAnswer : Obligations.DeviceCommandsAnswer := by
  refine ⟨fun s c hheader => ⟨fun hready hparams => ?info, fun starve gap max hready hparams hstarve hgap hmax => ?arb⟩,
    fun s c hheader => ⟨fun flags hready hflags hparams => ?health, fun first count hready hcount hmax hfirst hparams => ?log⟩⟩
  case info => exact packet_replies rfl hready (sysInfo_eq hheader hparams _)
  case arb =>
    obtain ⟨e, rfl, harb⟩ := arbSet_eq hheader hparams hstarve hgap hmax (markBegun 0x0C02 c s.dev)
    exact packet_replies rfl hready harb
  case health => exact packet_replies rfl hready (sysHealth_eq hheader hparams hflags _)
  case log =>
    have hread := packet_replies (i := .mramLogRead c) (f := id) rfl hready (mramLogRead_eq hheader hcount hmax hfirst hparams _)
    exact hread

end Sys2Proof.Machine
end

section
/-! What answers leave of the KME, and a restart of it (R390, R506). -/

namespace Sys2Proof.Machine

/-! ## The KME beside an answer -/

/-- What is left of the KME beside the records that answering a command changes. -/
def Kme.besideAnswers (k : Kme) : Kme :=
  { k with lastOp := 0, lastSource := 0, lastStatus := 0, lastSeq := 0, lock := none, execs := [], last := [], smbReplies := [] }

/-- What sending an answer changes of the KME: the answers to repeat, and the writes not yet acknowledged. -/
def KeepsKme (d d' : Device) : Prop := ∃ l r, d'.kme = { d.kme with last := l, smbReplies := r }

theorem KeepsKme.of_eq {d d' : Device} (h : d'.kme = d.kme) : KeepsKme d d' := ⟨d.kme.last, d.kme.smbReplies, h⟩

theorem KeepsKme.trans {a b c : Device} (h : KeepsKme a b) (g : KeepsKme b c) : KeepsKme a c := by
  obtain ⟨l, r, h⟩ := h
  obtain ⟨l', r', g⟩ := g
  exact ⟨l', r', by rw [g, h]⟩

theorem storeAnswer_keepsKme (c : Cmd) (op : Nat) (notice final : Bool) (bytes : List Byte) (d : Device) :
    KeepsKme d (storeAnswer c op notice final bytes d) := by
  unfold storeAnswer
  split
  · exact .of_eq rfl
  · split
    · exact ⟨_, _, rfl⟩
    · exact .of_eq rfl

theorem sendMgmt_kme (cls fid : Nat) (bytes : List Byte) (d : Device) : (sendMgmt cls fid bytes d).kme = d.kme := by
  unfold sendMgmt
  split <;> rfl

theorem sendMessage_keepsKme (s : Source) (kind : Nat) (bytes : List Byte) (d : Device) : KeepsKme d (sendMessage s kind bytes d) := by
  unfold sendMessage
  split
  · exact .of_eq (sendMgmt_kme _ _ _ _)
  · split
    · exact ⟨_, _, rfl⟩
    · exact .of_eq rfl

theorem sendTimes_keepsKme (s : Source) (kind : Nat) (bytes : List Byte) (n : Nat) (d : Device) :
    KeepsKme d (sendTimes s kind bytes n d) := by
  induction n generalizing d with
  | zero => exact .of_eq rfl
  | succ n ih => exact (sendMessage_keepsKme s kind bytes d).trans (ih _)

theorem deliver_keepsKme (op : Nat) (c : Cmd) (a : Ans) (notice final : Bool) (d : Device) :
    KeepsKme d (deliver op c a notice final d) := by
  unfold deliver
  extract_lets flags bytes n d₁
  have h₁ : KeepsKme d d₁ := storeAnswer_keepsKme c op notice final bytes d
  split
  · split
    · exact .of_eq (mailboxNotice_kme _ op c a flags d)
    · exact .of_eq (mailboxReply_kme _ op c a flags d)
  · split
    · exact .of_eq rfl
    · split
      · exact h₁
      · split
        · exact h₁.trans (.of_eq (sayLines_kme _ d₁))
        · split
          · exact h₁.trans (.of_eq (sayAnswer_kme _ a d₁))
          · exact h₁.trans (sendTimes_keepsKme _ _ bytes _ d₁)

theorem lockAtReply_frame (c : Cmd) (d : Device) : ∃ l, lockAtReply c d = { d with kme := { d.kme with lock := l } } := by
  unfold lockAtReply
  split
  · exact ⟨d.kme.lock, rfl⟩
  · split
    · split <;> exact ⟨_, rfl⟩
    · exact ⟨d.kme.lock, rfl⟩

/-- The KME once a command has its final answer: its record is gone, and it is the last one answered. -/
def Kme.answered (op : Nat) (c : Cmd) (st : Status) (k : Kme) : Kme :=
  { k with execs := k.execs.filter fun e => !sameCommand op c e
           lastOp := op, lastSource := sourceNum c.source, lastStatus := statusCode st, lastSeq := c.seq }

/-- The final answer is delivered after the command's record has ended: as a notice where it was LONG. -/
theorem finish_delivers (op : Nat) (c : Cmd) (a : Ans) (d : Device) : ∃ long l,
    (∀ e, execOf op c d = some e → long = e.accepted) ∧
    finish op c a d = deliver op c (statedResult op c a { d with kme := { d.kme.answered op c a.status with lock := l } }) long true
      { d with kme := { d.kme.answered op c a.status with lock := l } } := by
  obtain ⟨l, hlock⟩ := lockAtReply_frame c { d with kme := d.kme.answered op c a.status }
  have hfinish (long : Bool) (hlong : (match execOf op c d with | some e => e.accepted | none => false) = long) :
      finish op c a d = deliver op c (statedResult op c a (if long then { d with kme := d.kme.answered op c a.status }
          else lockAtReply c { d with kme := d.kme.answered op c a.status })) long true
        (if long then { d with kme := d.kme.answered op c a.status }
          else lockAtReply c { d with kme := d.kme.answered op c a.status }) := by
    subst hlong
    rfl
  cases hexec : execOf op c d with
  | none => exact ⟨false, l, fun e he => by simp at he, by rw [hfinish false (by rw [hexec]), if_neg Bool.false_ne_true, hlock]⟩
  | some e =>
    have hlong := hfinish e.accepted (by rw [hexec])
    refine ⟨e.accepted, if e.accepted then d.kme.lock else l, fun x hx => by rw [Option.some.inj hx], hlong.trans ?_⟩
    cases e.accepted
    · rw [if_neg Bool.false_ne_true, if_neg Bool.false_ne_true, hlock]
    · rfl

/-- The final answer of a command ends its record, and is the last one answered. -/
theorem finish_kme (op : Nat) (c : Cmd) (a : Ans) (d : Device) : ∃ k l r, (finish op c a d).kme =
    { d.kme.answered op c a.status with lock := k, last := l, smbReplies := r } := by
  obtain ⟨long, k, -, hfinish⟩ := finish_delivers op c a d
  obtain ⟨l, r, hdeliver⟩ := deliver_keepsKme op c (statedResult op c a { d with kme := { d.kme.answered op c a.status with lock := k } })
    long true { d with kme := { d.kme.answered op c a.status with lock := k } }
  exact ⟨k, l, r, by rw [hfinish, hdeliver]⟩

theorem finish_execs (op : Nat) (c : Cmd) (a : Ans) (d : Device) :
    (finish op c a d).kme.execs = d.kme.execs.filter fun e => !sameCommand op c e := by
  obtain ⟨k, l, r, h⟩ := finish_kme op c a d
  rw [h]; rfl

theorem finish_besideAnswers (op : Nat) (c : Cmd) (a : Ans) (d : Device) :
    (finish op c a d).kme.besideAnswers = d.kme.besideAnswers := by
  obtain ⟨k, l, r, h⟩ := finish_kme op c a d
  rw [h]; rfl

/-! ## The steps of a restart -/

theorem abortAll_answers (d : Device) : AnswersOnly d (abortAll d) :=
  List.foldlRecOn _ _ (motive := AnswersOnly d) (answersOnly_refl d) fun _ h _ _ => answersOnly_trans h (finish_answers _ _ _ _)

theorem abortAll_besideAnswers (d : Device) : (abortAll d).kme.besideAnswers = d.kme.besideAnswers :=
  List.foldlRecOn _ _ (motive := fun e : Device => e.kme.besideAnswers = d.kme.besideAnswers) rfl fun _ h _ _ =>
    (finish_besideAnswers _ _ _ _).trans h

/-- Where no other device has sent a command, no answer is an item. -/
theorem abortAll_items {d : Device} (hown : ∀ e ∈ d.kme.execs, e.cmd.source.transport ≠ 6) : (abortAll d).items = d.items :=
  List.foldlRecOn d.kme.execs _ (motive := fun e : Device => e.items = d.items) rfl fun _ h e he =>
    (finish_items (hown e he) _ _ _).trans h

/-- A lock that ends before its LOCK_END. -/
theorem expireLock_kme (d : Device) : ∃ x b, expireLock d = { d with kme := { d.kme with lock := none, expired := x, intStatus := b } } := by
  unfold expireLock
  split
  case h_1 hnone => exact ⟨d.kme.expired, d.kme.intStatus, by rw [← hnone]⟩
  case h_2 => exact ⟨_, _, rfl⟩

/-- A restart's notice to a mailbox: a command that executed is done, and ABORTED is set. -/
def abortMailbox (d : Device) (f : Fn) : Device :=
  mbxRaise f 0x10 (d.setMailbox f { d.mailbox f with state := if (d.mailbox f).state = .executing then .done else (d.mailbox f).state })

theorem mailbox_mbxRaise (f g : Fn) (bits : BitVec 5) (d : Device) : (mbxRaise f bits d).mailbox g =
    (d.setMailbox f { d.mailbox f with intStatus := (d.mailbox f).intStatus ||| bits }).mailbox g := by
  unfold mbxRaise
  extract_lets m e
  split
  · rfl
  · obtain ⟨i, x, h⟩ := sendVector_frame f 0 e
    rw [h]; rfl

theorem mailbox_setMailbox_ite (d : Device) (f g : Fn) (m : Mbx) :
    (d.setMailbox f m).mailbox g = if fnKey g = fnKey f then m else d.mailbox g := by
  unfold Device.mailbox Device.setMailbox
  split
  case isTrue h => rw [h]; exact tget_tset_same _ _ _ _
  case isFalse h => exact tget_tset_other _ _ _ h

theorem mbxRaise_items (f : Fn) (bits : BitVec 5) (d : Device) : (mbxRaise f bits d).items = d.items := congrArg Prod.fst (mbxRaise_work f bits d)

/-- ABORTED of mailbox `g` is set by the notice to it, and by no other notice cleared. -/
theorem abortMailbox_aborted {d : Device} {f g : Fn} (h : f = g ∨ (d.mailbox g).intStatus.getLsbD 4 = true) :
    ((abortMailbox d f).mailbox g).intStatus.getLsbD 4 = true := by
  unfold abortMailbox
  simp only [mailbox_mbxRaise, mailbox_setMailbox_ite]
  split
  case isTrue => simp
  case isFalse hkey => exact h.resolve_left fun hfg => hkey (congrArg fnKey hfg.symm)

theorem foldl_abortMailbox_aborted (l : List Fn) {d : Device} {g : Fn} (h : g ∈ l ∨ (d.mailbox g).intStatus.getLsbD 4 = true) :
    ((l.foldl abortMailbox d).mailbox g).intStatus.getLsbD 4 = true := by
  induction l generalizing d with
  | nil => exact h.resolve_left List.not_mem_nil
  | cons f l ih =>
    rcases h with h | h
    · rcases List.mem_cons.1 h with rfl | h
      · exact ih (.inr (abortMailbox_aborted (.inl rfl)))
      · exact ih (.inl h)
    · exact ih (.inr (abortMailbox_aborted (.inr h)))

theorem foldl_abortMailbox_keeps (l : List Fn) (d : Device) : AnswersOnly d (l.foldl abortMailbox d) ∧
    (l.foldl abortMailbox d).kme = d.kme ∧ (l.foldl abortMailbox d).items = d.items :=
  List.foldlRecOn l abortMailbox (motive := fun e => AnswersOnly d e ∧ e.kme = d.kme ∧ e.items = d.items)
    ⟨answersOnly_refl d, rfl, rfl⟩ fun _ ⟨hanswers, hkme, hitems⟩ f _ =>
      ⟨answersOnly_trans hanswers (answersOnly_trans ⟨_, _, _, _, _, _, _, _, _, _, rfl⟩ (mbxRaise_answers f 0x10 _)),
        (mbxRaise_kme f 0x10 _).trans hkme, (mbxRaise_items f 0x10 _).trans hitems⟩

/-! ## The restart -/

/-- The device on which a restart ends every command and lock, and tells every mailbox of it. -/
def restartAborted (d : Device) : Device := (mailboxes (expireLock (abortAll d))).foldl abortMailbox (expireLock (abortAll d))

theorem kmeRestart_eq (d : Device) : ∃ x b, kmeRestart d = { restartAborted d with
    kme := { (restartAborted d).kme with restarts := satAdd 0xFFFF (restartAborted d).kme.restarts 1, execs := []
                                         intStatus := (restartAborted d).kme.intStatus ||| 8 }
    adit := { (restartAborted d).adit with level := 0, baud := 115200, challenge := none, waiting := none }
    can := x, blackBox := b } := by
  obtain ⟨x, b, h⟩ := blackBoxRecord_frame 7 0 0 [] { restartAborted d with
    kme := { (restartAborted d).kme with restarts := satAdd 0xFFFF (restartAborted d).kme.restarts 1, execs := [] }
    adit := { (restartAborted d).adit with level := 0, baud := 115200, challenge := none, waiting := none }
    can := { (restartAborted d).can with restarts := (restartAborted d).now :: (restartAborted d).can.restarts } }
  exact ⟨x, b, congrArg (kmeRaise 8) h⟩

section
variable (d : Device)

theorem mailboxes_of_answers {d d' : Device} (h : AnswersOnly d d') : mailboxes d' = mailboxes d := by
  obtain ⟨k, m, x, o, a, i, t, n, v, w, rfl⟩ := h
  rfl

theorem expireLock_answers : AnswersOnly d (expireLock d) := by
  obtain ⟨x, b, h⟩ := expireLock_kme d
  exact ⟨_, _, _, _, _, _, _, _, _, _, h⟩

theorem restartAborted_answers : AnswersOnly d (restartAborted d) :=
  answersOnly_trans (answersOnly_trans (abortAll_answers d) (expireLock_answers _)) (foldl_abortMailbox_keeps _ _).1

theorem restartAborted_kme : (restartAborted d).kme = (expireLock (abortAll d)).kme := (foldl_abortMailbox_keeps _ _).2.1

theorem restartAborted_lock : (restartAborted d).kme.lock = none := by
  obtain ⟨x, b, h⟩ := expireLock_kme (abortAll d)
  rw [restartAborted_kme, h]

theorem restartAborted_restarts : (restartAborted d).kme.restarts = d.kme.restarts := by
  obtain ⟨x, b, h⟩ := expireLock_kme (abortAll d)
  have habort : (abortAll d).kme.restarts = d.kme.restarts :=
    (congrArg Kme.restarts (abortAll_besideAnswers d) :)
  rw [restartAborted_kme, h]
  exact habort

theorem restartAborted_mailbox {f : Fn} (hf : f ∈ mailboxes d) :
    ((restartAborted d).mailbox f).intStatus.getLsbD 4 = true := by
  refine foldl_abortMailbox_aborted _ (.inl ?_)
  rwa [mailboxes_of_answers (answersOnly_trans (abortAll_answers d) (expireLock_answers _))]

theorem restartAborted_items (hown : ∀ e ∈ d.kme.execs, e.cmd.source.transport ≠ 6) : (restartAborted d).items = d.items := by
  obtain ⟨x, b, h⟩ := expireLock_kme (abortAll d)
  refine (foldl_abortMailbox_keeps _ _).2.2.trans ?_
  rw [h]
  exact abortAll_items hown

end

/-- What the rows of a restart give is judged beside the interrupt outputs, which touch nothing that it names. -/
theorem restart_gives {i : Instr} {s : State} {P : Device → Prop} (hx : exec i s = done s (kmeRestart s.dev))
    (h : ∀ x b o m l, P { restartAborted s.dev with
      kme := { (restartAborted s.dev).kme with restarts := satAdd 0xFFFF (restartAborted s.dev).kme.restarts 1, execs := []
                                               intStatus := (restartAborted s.dev).kme.intStatus ||| 8 }
      adit := { (restartAborted s.dev).adit with level := 0, baud := 115200, challenge := none, waiting := none }
      can := x, blackBox := b, issued := o, msix := m, glb := { (restartAborted s.dev).glb with alertLow := l } }) : Gives i s P := by
  obtain ⟨x, b, hrestart⟩ := kmeRestart_eq s.dev
  exact done_gives_framed hx hrestart (h x b)

/-- Settles O4: answering, telling the mailboxes and the restart's own record touch no configuration. -/
theorem kmeRestartKeepsConfiguration : Obligations.KmeRestartKeepsConfiguration := by
  intro s
  refine restart_gives rfl fun x b o m l => ?_
  refine ⟨rfl, restartAborted_lock s.dev, rfl, rfl, congrArg (satAdd 0xFFFF · 1) (restartAborted_restarts s.dev), by simp,
    fun f hf => restartAborted_mailbox s.dev hf, ?_⟩
  have hitems := restartAborted_items s.dev
  obtain ⟨k, m, v, o, a, i, t, n, c, w, h⟩ := restartAborted_answers s.dev
  rw [h] at hitems ⊢
  exact ⟨rfl, rfl, rfl, rfl, rfl, rfl, rfl, rfl, rfl, rfl, rfl, rfl, hitems⟩

end Sys2Proof.Machine
end

section
/-! The adit monitor (R506, R507, R509 to R514): how a text command is taken, what each does, and how a session ends. -/

namespace Sys2Proof.Machine

/-! ## Lines that are said -/

theorem sayLines_frame (l : List String) (d : Device) :
    ∃ o, sayLines l d = { d with out := o } ∧ (∀ x ∈ l, Output.text x ∈ o) ∧ ∀ x ∈ d.out, x ∈ o := by
  unfold sayLines
  induction l generalizing d with
  | nil => exact ⟨d.out, rfl, fun x hx => absurd hx List.not_mem_nil, fun x hx => hx⟩
  | cons y l ih =>
    obtain ⟨o, h, hlines, hout⟩ := ih (emit (.text y) d)
    refine ⟨o, h, fun x hx => ?_, fun x hx => hout x (List.mem_cons_of_mem _ hx)⟩
    rcases List.mem_cons.1 hx with rfl | hx
    · exact hout _ List.mem_cons_self
    · exact hlines x hx

/-- A reply is its lines, OK and the prompt (R507). -/
theorem sayOk_frame (l : List String) (d : Device) :
    ∃ o, sayOk l d = { d with out := o } ∧ (∀ x ∈ l, Output.text x ∈ o) ∧ Output.text "OK" ∈ o := by
  obtain ⟨o, h, hlines, -⟩ := sayLines_frame (l ++ ["OK"]) d
  refine ⟨_, by rw [sayOk, h]; rfl, fun x hx => ?_, ?_⟩
  · exact List.mem_cons_of_mem _ (hlines x (List.mem_append_left _ hx))
  · exact List.mem_cons_of_mem _ (hlines "OK" (List.mem_append_right _ List.mem_cons_self))

/-! ## How a command is taken (R507, R514) -/

section
variable {t : TextCmd} {act : Device → Device} {d : Device}

theorem monitor_deaf (hrun : d.kme.running = false) : monitor t act d = d := if_pos hrun

variable (hrun : d.kme.running = true) (hraw : d.adit.raw = false)
include hrun hraw

/-- In text mode the monitor judges the arguments, then the level. -/
theorem monitor_text : monitor t act d =
    if textOk t = false then sayErr 2 (received d)
    else if d.adit.level < textLevel t then sayErr 3 (received d) else act (received d) := by
  have hraw' : (received d).adit.raw = false := hraw
  simp only [monitor, hrun, hraw', Bool.true_eq_false, Bool.false_eq_true, if_false]
  rfl

theorem monitor_malformed (hbad : textOk t = false) : monitor t act d = sayErr 2 (received d) := by
  rw [monitor_text hrun hraw, if_pos hbad]

theorem monitor_barred (hok : textOk t = true) (hlevel : d.adit.level < textLevel t) : monitor t act d = sayErr 3 (received d) := by
  simp only [monitor_text hrun hraw, hok, hlevel, Bool.true_eq_false, if_true, if_false]

theorem monitor_acts (hok : textOk t = true) (hlevel : textLevel t ≤ d.adit.level) : monitor t act d = act (received d) := by
  simp only [monitor_text hrun hraw, hok, Nat.not_lt.mpr hlevel, Bool.true_eq_false, if_false]

end

/-! ## Unlocking (R509) -/

section
variable {d : Device} (hfree : d.adit.barredAt = none)
include hfree

theorem doUnlock_challenge (response : Option Nat) : doUnlock none response d = sayOk ["CHALLENGE " ++ hex32 (d.fresh (2 ^ 32)).1]
    { d.freed with adit := { d.adit with challenge := some (d.fresh (2 ^ 32)).1 } } := by
  simp [doUnlock, hfree, Device.fresh]

theorem doUnlock_level (n : Nat) : doUnlock (some n) none d = sayOk [] { d with adit := { d.adit with level := n } } := by
  simp [doUnlock, hfree]

theorem doUnlock_right {n h : Nat} (hc : d.adit.challenge = some h) :
    doUnlock (some n) (some (unlockResponse h n d)) d = sayOk [] { d with adit := { d.adit with challenge := none, level := n } } := by
  simp [doUnlock, hfree, hc]

/-- A response that is wrong, or to no challenge, counts against the session. -/
theorem doUnlock_wrong {n r : Nat} (hwrong : ∀ h, d.adit.challenge = some h → r ≠ unlockResponse h n d) :
    doUnlock (some n) (some r) d = sayErr 6 { d with adit := { d.adit with
      challenge := none, wrong := d.adit.wrong + 1, barredAt := if 2 ≤ d.adit.wrong then some d.now else none } } := by
  cases hc : d.adit.challenge <;> simp_all [doUnlock]

end

theorem doUnlock_barred {d : Device} (h : d.adit.barredAt ≠ none) (level response : Option Nat) :
    doUnlock level response d = sayErr 6 d := by
  exact if_pos (Option.isSome_iff_ne_none.mpr h)

/-! ## Lines of text (R507) -/

/-- An empty line is no command. -/
theorem line_of_parse {line : List Char} {t : TextCmd} (hparse : parseLine line = .inl t) : ¬(lineWords line [] = [] ∧ line.length ≤ 255) := by
  rintro ⟨hwords, hlen⟩
  rw [parseLine, if_neg (Nat.not_lt.mpr hlen), hwords] at hparse
  exact absurd hparse Sum.inr_ne_inl

section
variable {line : List Char} {d : Device} (hrun : d.kme.running = true) (hraw : d.adit.raw = false)
include hrun hraw

/-- A line that is not empty is echoed, parsed, and run or answered with its error. -/
theorem textLine_text (hline : ¬(lineWords line [] = [] ∧ line.length ≤ 255)) : textLine line d =
    match parseLine line with
    | .inr e => sayErr e (emit (.text (String.ofList line)) (received d))
    | .inl t => monitor t (textAct t) (emit (.text (String.ofList line)) (received d)) := by
  have hraw' : (received d).adit.raw = false := hraw
  simp only [textLine, hrun, hraw', hline, Bool.true_eq_false, Bool.false_eq_true, if_false] <;> rfl

theorem textLine_error {n : Nat} (hparse : parseLine line = .inr n) (hline : ¬(lineWords line [] = [] ∧ line.length ≤ 255)) :
    textLine line d = sayErr n { received d with out := .text (String.ofList line) :: d.out } := by
  rw [textLine_text hrun hraw hline, hparse]
  rfl

theorem textLine_lock (hparse : parseLine line = .inl .lock) : textLine line d =
    sayOk [] { received d with adit := { (received d).adit with level := 0 }, out := .text (String.ofList line) :: d.out } := by
  rw [textLine_text hrun hraw (line_of_parse hparse), hparse]
  exact monitor_acts (t := .lock) hrun hraw rfl (Nat.zero_le _)

end

/-! ## Registers (R512) -/

theorem touchesDbg_one (a : Nat) : touchesDbg a 1 = inDbg a := by simp [touchesDbg]

theorem doPeek_one {a x : Nat} {d e : Device} (hdefined : regDefined a d = true) (hread : regRead a d = some (x, e)) :
    doPeek a 1 d = sayOk [hex32 a ++ ": " ++ hex32 x] e := by
  simp [doPeek, peekRun, hdefined, hread]

theorem doLanes_one (k : Nat) (d : Device) : doLanes k 1 d = sayOk [laneLine k d] d := by simp [doLanes]

theorem doPeek_undefined {a : Nat} {d : Device} (h : regDefined a d = false) : doPeek a 1 d = sayErr 4 d := by
  simp [doPeek, h]

/-! ## Packets of text commands (R513) -/

/-- The packet that a text command issues. -/
def textPacket (params : List Byte) (d : Device) : Cmd :=
  { source := { transport := 5, inst := d.adit.level }, flags := 0, seq := d.adit.seq + 1, target := 0, param0 := 0, params := params }

/-- The lines that print an answer of `info` and of `log`. -/
def answerLines : TextWait → List Byte → List String
  | .info => infoLines
  | .log => logLines

theorem storeAnswer_frame (c : Cmd) (op : Nat) (notice final : Bool) (bytes : List Byte) (d : Device) :
    ∃ l, storeAnswer c op notice final bytes d = { d with kme := { d.kme with last := l } } := by
  unfold storeAnswer
  split
  · exact ⟨d.kme.last, rfl⟩
  · split
    · exact ⟨_, rfl⟩
    · exact ⟨d.kme.last, rfl⟩

theorem sayAnswer_ok (w : TextWait) (r : List Byte) (d : Device) : sayAnswer w (ansOk r) d =
    sayOk (answerLines w r) { d with adit := { d.adit with waiting := none } } := by
  cases w <;> rfl

/-- Admitting a command concerns the KME and the counters, and records it with the others. -/
theorem admitCommand_frame (op : Nat) (c : Cmd) (d : Device) : ∃ k v x,
    admitCommand op c d = { d with kme := k, counters := v, cnt := x } ∧ k.execs = d.kme.execs ++
      [{ op := op, cmd := c.packet, since := d.now, accepted := false, applied := false, reported := 0, begun := false }] := by
  have hlock (e : Device) : ∃ l x, applyLockBits c e = { e with kme := { e.kme with lock := l, expired := x } } := by
    unfold applyLockBits
    repeat' split
    case h_1 => exact ⟨e.kme.lock, e.kme.expired, rfl⟩
    all_goals exact ⟨_, _, rfl⟩
  unfold admitCommand
  extract_lets k fresh stream run k'
  obtain ⟨v, x, hcount⟩ := countGlobal_frame 0x100 0x3F 1 { d with kme := k' }
  obtain ⟨l, y, happly⟩ := hlock (countGlobal 0x100 0x3F 1 { d with kme := k' })
  rw [happly, hcount]
  exact ⟨_, _, _, rfl, rfl⟩

section
variable {op : Nat} {c : Cmd} {w : TextWait} {r : List Byte} {d : Device} (hsource : c.source.transport = 5)
  (hreply : noReply c = false) (hseq : d.adit.seq = c.seq) (hwait : d.adit.waiting = some w)
include hsource hreply hseq hwait

/-- In text mode the reply to the packet of a text command is printed. -/
theorem deliver_text (final : Bool) : ∃ l, deliver op c (ansOk r) false final d =
    sayOk (answerLines w r) { d with kme := { d.kme with last := l }, adit := { d.adit with waiting := none } } := by
  have hfn : sourceFn c.source = none := by simp [sourceFn, hsource]
  obtain ⟨l, hstore⟩ := storeAnswer_frame c op false final
    (withCrc c.source (answerBytes op (natOfBool false + 2 * natOfBool (holdsLock c.source d)) c.seq (ansOk r) d)) d
  refine ⟨l, ?_⟩
  have h7 : c.source.transport ≠ 7 := by omega
  have htext : textWaits c { d with kme := { d.kme with last := l } } = some w := (if_pos ⟨hsource, hseq⟩).trans hwait
  simp only [deliver, hfn, hstore, hreply, h7, htext, Bool.false_eq_true, if_false, and_false]
  exact sayAnswer_ok w r { d with kme := { d.kme with last := l } }

theorem finish_text {e : Exec} (hop : op ≠ 0x0201) (hexec : execOf op c d = some e) (hshort : e.accepted = false) :
    ∃ k, k.execs = d.kme.execs.filter (fun e => !sameCommand op c e) ∧ finish op c (ansOk r) d =
      sayOk (answerLines w r) { d with kme := k, adit := { d.adit with waiting := none } } := by
  obtain ⟨long, l, hlong, hfinish⟩ := finish_delivers op c (ansOk r) d
  obtain ⟨m, hdeliver⟩ := deliver_text (op := op) (r := r) (d := { d with kme := { d.kme.answered op c .ok with lock := l } })
    hsource hreply hseq hwait true
  have hresult (x : Device) : statedResult op c (ansOk r) x = ansOk r := if_neg fun h => hop h.1
  rw [hlong e hexec, hshort, hresult] at hfinish
  exact ⟨{ d.kme.answered op c .ok with lock := l, last := m }, rfl, hfinish.trans hdeliver⟩

end

/-- With nothing under way, a packet of the adit port may be admitted where the KME admits it and no other source locks it. -/
theorem mayAdmit_idle {op : Nat} {c : Cmd} {d : Device} (h : d.kme.execs = []) (hsource : c.source.transport = 5) :
    mayAdmit op c d = (kmeAdmits op d && !lockedOut c.source d) := by
  have hroom : noticeRoom c.source d = true := by simp [noticeRoom, sourceFn, hsource]
  simp [mayAdmit, kmeBusy, waitsForLong, h, hroom]

/-- A packet that may be admitted and passes the checks is admitted and executed at once. -/
theorem runPacket_admits {op : Nat} {f : Device → Device × Option Ans} {c : Cmd} {d : Device} (he : execOf op c d = none)
    (hm : mayAdmit op c d = true) (hchecks : commandChecks op c d = none) :
    runPacket op f c d = execute op f c (admitCommand op c d) := by
  simp only [runPacket, he, hm, if_true, admitAndCheck, hchecks]

/-- A packet that meets no failure and answers at once. -/
theorem execute_answers {op : Nat} {f : Device → Device × Option Ans} {c : Cmd} {d d' : Device} {a : Ans} (hfault : c.fault = 0)
    (hf : f (markBegun op c d) = (d', some a)) : execute op f c d = finish op c a d' := by
  simp only [execute, hf, hwFails, hfault, ne_eq, not_true, decide_false, Bool.false_and, Bool.false_eq_true, if_false]

/-- The record of a packet that is admitted now and has begun. -/
def begunRecord (op : Nat) (c : Cmd) (d : Device) : Exec :=
  { op := op, cmd := c.packet, since := d.now, accepted := false, applied := false, reported := 0, begun := true }

theorem begunRecord_same (op : Nat) (c : Cmd) (d : Device) : sameCommand op c (begunRecord op c d) = true := by
  simp [sameCommand, begunRecord]

/-- The device on which a packet executes that was admitted with nothing under way. -/
theorem markBegun_admitCommand (op : Nat) (c : Cmd) {d : Device} (h : d.kme.execs = []) : ∃ k v x,
    markBegun op c (admitCommand op c d) = { d with kme := k, counters := v, cnt := x } ∧ k.execs = [begunRecord op c d] := by
  obtain ⟨k, v, x, hadmitted, hk⟩ := admitCommand_frame op c d
  refine ⟨_, v, x, by rw [markBegun, hadmitted], ?_⟩
  rw [h] at hk
  simp [hk, sameCommand, begunRecord]

/-- A text command with nothing under way issues its packet, which is run and answered at once. -/
theorem issueText_answered {w : TextWait} {op : Nat} {params : List Byte} {f : Effect} {g : Device → List Byte} {d : Device}
    (hop : op ≠ 0x0201) (hexecs : d.kme.execs = []) (hadmit : mayAdmit op (textPacket params d) d = true)
    (hroom : holdingFull (textPacket params d).source d = false) (hchecks : commandChecks op (textPacket params d) d = none)
    (hf : ∀ e, f (textPacket params d) e = (e, some (ansOk (g e)))) : ∃ k k' v x, k'.execs = [] ∧
      issueText w op params f d = sayOk (answerLines w (g { d with
          kme := k, counters := v, cnt := x, adit := { d.adit with seq := d.adit.seq + 1, waiting := some w } }))
        { d with kme := k', counters := v, cnt := x, adit := { d.adit with seq := d.adit.seq + 1, waiting := none } } := by
  let c := textPacket params d
  let d₁ : Device := { d with adit := { d.adit with seq := d.adit.seq + 1, waiting := some w } }
  have hidle : mayAdmit op c d = (kmeAdmits op d && !lockedOut c.source d) := mayAdmit_idle hexecs rfl
  have hadmit₁ : mayAdmit op c d₁ = true := (mayAdmit_idle (c := c) (d := d₁) hexecs rfl).trans (hidle.symm.trans hadmit)
  have hlock : ¬ lockedOut c.source d = true := by
    rw [hadmit] at hidle
    simpa using (Bool.and_eq_true_iff.1 hidle.symm).2
  have hnone : execOf op c d₁ = none := by rw [execOf, show d₁.kme.execs = [] from hexecs, List.find?_nil]
  have hissue : issueText w op params f d = runPacket op (f c) c d₁ :=
    (if_neg hlock).trans ((if_neg (ne_true_of_eq_false hroom)).trans (if_pos hadmit₁))
  obtain ⟨k, v, x, hbegun, hk⟩ := markBegun_admitCommand op c (d := d₁) hexecs
  have hfound : execOf op c (markBegun op c (admitCommand op c d₁)) = some (begunRecord op c d₁) := by
    rw [execOf, hbegun, hk]
    exact List.find?_cons_of_pos (begunRecord_same op c d₁)
  have hreply : noReply c = false := by simp [noReply, c, textPacket]
  obtain ⟨k', hk', hfinish⟩ := finish_text (op := op) (c := c) (w := w)
    (r := g (markBegun op c (admitCommand op c d₁))) rfl hreply (by rw [hbegun]; rfl)
    (by rw [hbegun]) hop hfound rfl
  refine ⟨k, k', v, x, ?_, ?_⟩
  · rw [hk', hbegun, hk, List.filter_cons_of_neg (by rw [begunRecord_same]; decide), List.filter_nil]
  · rw [hissue, runPacket_admits hnone hadmit₁ hchecks, execute_answers rfl (hf _), hfinish, hbegun]

/-! ## The commands, as rows -/

section
variable {s : State} (hrun : s.dev.kme.running = true) (hraw : s.dev.adit.raw = false)
include hrun hraw

theorem text_acts {i : Instr} {t : TextCmd} {act : Device → Device} (hx : exec i s = done s (monitor t act s.dev))
    (hok : textOk t = true) (hlevel : textLevel t ≤ s.dev.adit.level) : Becomes i s (act (received s.dev)) :=
  done_becomes hx (monitor_acts hrun hraw hok hlevel)

theorem text_barred {i : Instr} {t : TextCmd} {act : Device → Device} (hx : exec i s = done s (monitor t act s.dev))
    (hok : textOk t = true) (hlevel : s.dev.adit.level < textLevel t) : Becomes i s (sayErr 3 (received s.dev)) :=
  done_becomes hx (monitor_barred hrun hraw hok hlevel)

/-- What a command's lines leave is all but the outputs. -/
theorem text_gives {i : Instr} {t : TextCmd} {act : Device → Device} {l : List String} {d' : Device} {P : Device → Prop}
    (hx : exec i s = done s (monitor t act s.dev)) (hok : textOk t = true) (hlevel : textLevel t ≤ s.dev.adit.level)
    (hact : act (received s.dev) = sayOk l d')
    (hP : ∀ out o m a, (∀ x ∈ l, Output.text x ∈ out) → Output.text "OK" ∈ out →
      P { d' with out := out, issued := o, msix := m, glb := { d'.glb with alertLow := a } }) : Gives i s P := by
  obtain ⟨out, hsay, hlines, hdone⟩ := sayOk_frame l d'
  exact done_gives_framed hx ((monitor_acts hrun hraw hok hlevel).trans (hact.trans hsay)) fun o m a => hP out o m a hlines hdone

/-- R506: a rate takes effect after the reply. -/
theorem baud_gives {rate : Nat} (hrate : baudRates.contains rate = true) : Gives (.baud rate) s fun t =>
    t.adit = { s.dev.adit with lastRx := s.dev.now, baud := rate } ∧ Output.text "OK" ∈ t.out ∧ t.ports = s.dev.ports := by
  obtain ⟨out, hsay, -, hok⟩ := sayOk_frame [] (received s.dev)
  have hbaud : doBaud rate (received s.dev) =
      { received s.dev with out := out, adit := { (received s.dev).adit with baud := rate } } := by
    rw [doBaud, hsay]
  exact done_gives_framed rfl ((monitor_acts (t := .baud rate) hrun hraw hrate (Nat.zero_le _)).trans hbaud) fun o m a => ⟨rfl, hok, rfl⟩

end

/-- What a scan finds on a lane's second sampler, and the line that prints it (R355, R511). -/
def scannedLane (x : Lane) (v : Nat) : Lane := { x with eyeDone := true, eye := BitVec.ofNat 32 v, intStatus := x.intStatus ||| 2 }
def scanLine (k v : Nat) : String :=
  words ["LN" ++ toString k, toString (v % 256), toString (v / 256 % 256), toString (2 * (v / 65536 % 256)), toString (2 * (v / 2 ^ 24))]

/-- MRAM_LOG_READ of one record passes its checks (R453). -/
theorem mramLogRead_answers {c : Cmd} {first : Nat} (hheader : NoTarget c) (hparams : c.params = natLe 4 first ++ natLe 2 1 ++ [0, 0]) :
    ∀ d, ∃ r, mramLogRead c d = (d, some (ansOk r)) := by
  intro d
  have hlen : c.params.length = 8 := by rw [hparams]; rfl
  have h4 : u16 c.params 4 = 1 := by rw [hparams]; rfl
  have hzeros : zeros c.params 6 2 = true := by rw [hparams]; rfl
  rw [mramLogRead, checked_pass ?checks]
  case checks => simp [firstFail, failIf, hlen, headerZero_none hheader, h4, hzeros]
  · exact ⟨_, rfl⟩

section
variable {s : State} (hrun : s.dev.kme.running = true) (hraw : s.dev.adit.raw = false)
include hrun hraw

/-- R511: a scan is shown on its lane. -/
theorem eye_gives {k : Nat} (hk : k < 384) (hlevel : 2 ≤ s.dev.adit.level) : Gives (.eye k) s fun t => (t.lane k).eyeDone = true ∧
    (t.lane k).intStatus = (s.dev.lane k).intStatus ||| 2 ∧ (t.lane k).rate = (s.dev.lane k).rate ∧ Output.text "OK" ∈ t.out ∧
    t.ports = s.dev.ports := by
  have heye : doEye k (received s.dev) = sayOk [scanLine k (s.dev.fresh (2 ^ 32)).1]
    ((received s.dev).freed.setLane k (scannedLane (s.dev.lane k) (s.dev.fresh (2 ^ 32)).1)) := rfl
  refine text_gives hrun hraw rfl (decide_eq_true hk) hlevel heye fun out o m a _ hok => ?_
  have hlane := lane_setLane (received s.dev).freed k (scannedLane (s.dev.lane k) (s.dev.fresh (2 ^ 32)).1)
  exact ⟨(congrArg Lane.eyeDone hlane :), (congrArg Lane.intStatus hlane :), (congrArg Lane.rate hlane :), hok, rfl⟩

/-- R513: SYS_INFO, as `info` prints its answer. -/
theorem info_gives (hexecs : s.dev.kme.execs = []) (hadmit : mayAdmit 0x0101 (textPacket [] s.dev) s.dev = true)
    (hroom : holdingFull (textPacket [] s.dev).source s.dev = false) (hchecks : commandChecks 0x0101 (textPacket [] s.dev) s.dev = none) :
    Gives .info s fun t => t.adit.waiting = none ∧ t.adit.seq = s.dev.adit.seq + 1 ∧ t.kme.execs = [] ∧
      Output.text (words ["SERIAL", hex64 s.dev.glb.serial.toNat]) ∈ t.out ∧ Output.text "OK" ∈ t.out ∧ t.ports = s.dev.ports := by
  obtain ⟨k, k', v, x, hk, hissue⟩ := issueText_answered (w := .info) (f := sysInfo) (g := infoResult (textPacket [] s.dev).source)
    (d := received s.dev) (by decide) hexecs hadmit hroom hchecks fun e => sysInfo_eq ⟨rfl, rfl⟩ rfl e
  refine text_gives hrun hraw rfl rfl (Nat.zero_le _) hissue fun out o m a hlines hok => ⟨rfl, rfl, hk, ?_, hok, rfl⟩
  have hserial (src : Source) (e : Device) : u64 (infoResult src e) 0 = e.glb.serial.toNat := leNat_natLe_eight e.glb.serial.isLt
  have hfirst := hlines _ List.mem_cons_self
  rwa [hserial] at hfirst

theorem log_gives {first : Nat} (hfirst : (s.dev.can.nextSeq + 2 ^ 32 - 1) % 2 ^ 32 = first) (hlevel : 1 ≤ s.dev.adit.level)
    (hexecs : s.dev.kme.execs = []) (hadmit : mayAdmit 0x0B02 (textPacket (natLe 4 first ++ natLe 2 1 ++ [0, 0]) s.dev) s.dev = true)
    (hroom : holdingFull (textPacket (natLe 4 first ++ natLe 2 1 ++ [0, 0]) s.dev).source s.dev = false)
    (hchecks : commandChecks 0x0B02 (textPacket (natLe 4 first ++ natLe 2 1 ++ [0, 0]) s.dev) s.dev = none) :
    Gives (.log 1) s fun t => t.adit.waiting = none ∧ t.adit.seq = s.dev.adit.seq + 1 ∧ t.kme.execs = [] ∧ Output.text "OK" ∈ t.out ∧
      t.can = s.dev.can ∧ t.ports = s.dev.ports := by
  choose g hread using mramLogRead_answers (c := textPacket (natLe 4 first ++ natLe 2 1 ++ [0, 0]) s.dev) ⟨rfl, rfl⟩ rfl
  obtain ⟨k, k', v, x, hk, hissue⟩ := issueText_answered (w := .log) (f := mramLogRead) (d := received s.dev) (by decide) hexecs
    hadmit hroom hchecks hread
  subst hfirst
  exact text_gives hrun hraw rfl rfl hlevel hissue fun out o m a _ hok => ⟨rfl, rfl, hk, hok, rfl, rfl⟩

end

/-- Settles O48: the monitor takes each command by its arguments and level, and each acts on the device that has received it. -/
theorem aditMonitorCommands : Obligations.AditMonitorCommands := by
  refine ⟨fun s rate n resp line hrun hraw => ?session, fun s addr k v hrun hraw => ?read⟩
  case session =>
    have hlock : Becomes .lock s (doLock (received s.dev)) := text_acts hrun hraw rfl rfl (Nat.zero_le _)
    refine ⟨fun hlevel => ?help, baud_gives hrun hraw, fun hrate => ?rate, hlock, fun hfree => ?unlock, fun hbarred => ?barred,
      fun hlevel => ?raw, fun hlevel => text_barred hrun hraw rfl rfl hlevel, fun hparse hline => ?error,
      fun hparse => ?lock⟩
    case help =>
      have hhelp : doHelp (received s.dev) = sayOk ["help", "info", "baud", "unlock", "lock"] (received s.dev) := by
        have hlevel' : (received s.dev).adit.level = 0 := hlevel
        rw [doHelp, hlevel']
        rfl
      exact done_becomes rfl ((monitor_acts hrun hraw rfl (Nat.zero_le _)).trans hhelp)
    case rate => exact done_becomes rfl (monitor_malformed hrun hraw hrate)
    case unlock =>
      have hfree' : (received s.dev).adit.barredAt = none := hfree
      have hok (h2 : 2 ≤ n) (h3 : n ≤ 3) (hresp : resp < 2 ^ 32) : textOk (.unlock (some n) (some resp)) = true := by
        have hn : n = 2 ∨ n = 3 := by omega
        rcases hn with rfl | rfl <;> exact decide_eq_true hresp
      refine ⟨?challenge, ?level, fun h2 h3 hresp => ⟨fun h hchallenge hright => ?right, fun hwrong => ?wrong⟩⟩
      case challenge =>
        exact text_gives hrun hraw rfl rfl (Nat.zero_le _) (doUnlock_challenge hfree' none) fun _ _ _ _ _ _ => ⟨⟨_, rfl⟩, rfl, rfl⟩
      case level =>
        exact text_gives hrun hraw rfl rfl (Nat.zero_le _) (doUnlock_level hfree' 1) fun _ _ _ _ _ _ => rfl
      case right =>
        subst hright
        have hact := doUnlock_right (d := received s.dev) (n := n) hfree' hchallenge
        have hunlock := done_becomes (i := .unlock (some n) (some (unlockResponse h n s.dev))) (s := s) rfl
          ((monitor_acts hrun hraw (hok h2 h3 hresp) (Nat.zero_le _)).trans hact)
        exact hunlock
      case wrong =>
        have hact := doUnlock_wrong (d := received s.dev) (n := n) (r := resp) hfree' hwrong
        have hunlock := done_becomes (i := .unlock (some n) (some resp)) (s := s) rfl
          ((monitor_acts hrun hraw (hok h2 h3 hresp) (Nat.zero_le _)).trans hact)
        exact hunlock
    case barred =>
      have hbarred' : (received s.dev).adit.barredAt ≠ none := hbarred
      exact done_becomes rfl ((monitor_acts hrun hraw rfl (Nat.zero_le _)).trans (doUnlock_barred hbarred' (some 1) none))
    case raw =>
      have hraw' : Becomes .raw s (doRaw (received s.dev)) := text_acts hrun hraw rfl rfl hlevel
      exact hraw'
    case error => exact done_becomes rfl (textLine_error hrun hraw hparse hline)
    case lock => exact done_becomes rfl (textLine_lock hrun hraw hparse)
  case read =>
    have hpeek (h : inDbg addr = false) : textLevel (.peek addr 1) = 1 := by simp [textLevel, touchesDbg_one, h]
    have hpoke (h : inDbg addr = false) : textLevel (.poke addr v.toNat) = 2 := by simp [textLevel, h]
    have hvalue : textOk (.poke addr v.toNat) = true := decide_eq_true v.isLt
    have hlane (h : k < 384) : textOk (.lanes k 1) = true := by simp [textOk]; omega
    have heye (h : k < 384) : textOk (.eye k) = true := decide_eq_true h
    refine ⟨fun hlevel hdbg x e hdefined hread => ?peek, fun hlevel hdbg hundefined => ?unread, fun hlevel => ?peekBarred,
      fun hlevel hdbg => ⟨fun hdefined => ?poke, fun hundefined => ?unwritten⟩, fun hlevel => ⟨?pokeBarred, fun hk => ?eyeBarred⟩,
      fun hlevel hk => ?lanes, fun hlevel hk => ?eye, fun hlevel => ?tally, fun hlevel => ?canary, fun hlevel => ⟨?_, ?_, ?_⟩,
      fun hexecs hadmit hroom hchecks => ?info, fun hlevel hexecs hadmit hroom hchecks => ?log⟩
    case peek =>
      exact done_becomes rfl ((monitor_acts hrun hraw rfl ((hpeek hdbg).trans_le hlevel)).trans (doPeek_one hdefined hread))
    case unread =>
      exact done_becomes rfl ((monitor_acts hrun hraw rfl ((hpeek hdbg).trans_le hlevel)).trans (doPeek_undefined hundefined))
    case peekBarred =>
      have hneeded : s.dev.adit.level < textLevel (.peek addr 1) := by rw [hlevel, textLevel]; split <;> decide
      exact text_barred hrun hraw rfl rfl hneeded
    case poke =>
      exact done_becomes rfl ((monitor_acts hrun hraw hvalue ((hpoke hdbg).trans_le hlevel)).trans (if_pos hdefined))
    case unwritten =>
      exact done_becomes rfl ((monitor_acts hrun hraw hvalue ((hpoke hdbg).trans_le hlevel)).trans
        (if_neg (ne_true_of_eq_false hundefined)))
    case pokeBarred =>
      have hneeded : s.dev.adit.level < textLevel (.poke addr v.toNat) := by
        rw [textLevel]
        split <;> omega
      exact text_barred hrun hraw rfl hvalue hneeded
    case eyeBarred => exact text_barred hrun hraw rfl (heye hk) hlevel
    case lanes => exact done_becomes rfl ((monitor_acts hrun hraw (hlane hk) hlevel).trans (doLanes_one k _))
    case eye => exact eye_gives hrun hraw hk hlevel
    case tally =>
      exact text_gives hrun hraw rfl rfl hlevel rfl fun out o m a hlines hok =>
        ⟨hlines _ (List.mem_cons_of_mem _ (List.mem_cons_of_mem _ List.mem_cons_self)), hok, rfl⟩
    case canary =>
      exact text_gives hrun hraw rfl rfl hlevel rfl fun out o m a hlines hok =>
        ⟨hlines _ (List.mem_append_left _ List.mem_cons_self), hok, rfl⟩
    case info => exact info_gives hrun hraw hexecs hadmit hroom hchecks
    case log => exact log_gives hrun hraw rfl hlevel hexecs hadmit hroom hchecks
    all_goals exact text_barred hrun hraw rfl rfl (by rw [hlevel]; decide)

/-! ## How a session ends (R506, R509, R510, R514) -/

theorem rawFrame_raw {frame : List Byte} {d : Device} (hrun : d.kme.running = true) (hraw : d.adit.raw = true) : rawFrame frame d =
    match frame with
    | [] => prompt { received d with adit := { (received d).adit with raw := false } }
    | _ => frameArrival { transport := 5, inst := (received d).adit.level } frame (received d) := by
  have hraw' : ¬(received d).adit.raw = false := ne_false_of_eq_true hraw
  simp only [rawFrame, hrun, hraw', Bool.true_eq_false, if_false] <;> rfl

/-- Settles O49: what each of these rows does is what its condition says of the session. -/
theorem aditSessionEnds : Obligations.AditSessionEnds := by
  intro s t0 frame
  refine ⟨fun hrun => ⟨fun hraw => ?empty, fun hraw hframe hshort => ?short, fun hraw => ?text, ?breaks⟩, fun hdeaf => ⟨?_, ?_, ?_⟩,
    fun hdue => done_becomes rfl (if_pos hdue), fun hearly => done_becomes rfl (if_neg (Nat.not_le.mpr hearly)), fun hbar hdue => ?barEnds,
    fun hbar hearly => ?waits, fun hnone => ?unbarred⟩
  case empty => exact done_becomes rfl (rawFrame_raw hrun hraw)
  case short =>
    obtain ⟨b, l, rfl⟩ := List.exists_cons_of_ne_nil hframe
    exact done_becomes rfl ((rawFrame_raw hrun hraw).trans (frameArrival_short hshort))
  case text =>
    exact done_becomes rfl ((if_neg (ne_false_of_eq_true hrun)).trans (if_pos hraw))
  case breaks => exact done_becomes rfl (if_neg (ne_false_of_eq_true hrun))
  case barEnds => exact done_becomes rfl (by simp only [unlockBarExpiry, hbar]; exact if_pos hdue)
  case waits => exact done_becomes rfl (by simp only [unlockBarExpiry, hbar]; exact if_neg (Nat.not_le.mpr hearly))
  case unbarred => exact done_becomes rfl (by simp only [unlockBarExpiry, hnone])
  all_goals exact done_becomes rfl (if_pos hdeaf)

end Sys2Proof.Machine
end

section
/-! Clocks, boot, resets and snapshots (chapter 18), and what returns the adit level to 0 (R510). -/

namespace Sys2Proof.Machine

/-! ## A save that ends -/

/-- SYS_SNAPSHOT_SAVE of the manager's mailbox that has saved copy 0, recorded with the operand fault (log entry 63), which no
packet carries. -/
def faultedSave : Exec :=
  { op := 0x0104
    cmd := { source := { transport := 0, inst := 0 }, flags := 0, seq := 0, target := 0, param0 := 0, params := [], fault := 1 }
    since := 0, accepted := true, applied := false, reported := 0, begun := true }

def faultedSaveState : State :=
  { State.reset with dev := { State.reset.dev with kme := { State.reset.dev.kme with execs := [faultedSave] } } }

theorem snapshotSaved_faultedSave {d : Device} (h : d.kme.execs = [faultedSave]) :
    (snapshotSaved faultedSave d).kme.execs = [faultedSave] := by
  rw [snapshotSaved, if_neg (by decide), finishExec, finish_execs]
  exact (congrArg (List.filter _) h :)

/-- Refutes O9: its clause on COMPLETION_NOTICE is asked of every record, and one that holds more than its packet is not the
record that the answer removes. -/
theorem not_resetAndFirmwareCommands : ¬ Obligations.ResetAndFirmwareCommands := by
  intro h
  obtain ⟨-, -, -, -, hnotice, -⟩ := h faultedSaveState faultedSave.cmd
  obtain ⟨hsave, -⟩ := hnotice faultedSave _ 0 0 rfl rfl rfl rfl rfl
  obtain ⟨t, ht, -, -, hexecs, -⟩ := hsave rfl (by decide)
  have hrow : exec (.completionNotice faultedSave.cmd.source 0 0) faultedSaveState =
    done faultedSaveState (snapshotSaved faultedSave faultedSaveState.dev) := rfl
  obtain ⟨i, m, a, hn⟩ := notify_frame faultedSaveState.dev (snapshotSaved faultedSave faultedSaveState.dev)
  rw [hrow, done, hn] at ht
  cases ht
  rw [show _ = [faultedSave] from snapshotSaved_faultedSave rfl] at hexecs
  cases hexecs

/-! ## Cold reset (R494) -/

theorem foldl_gateOff_frame (l : Tbl Spw) (d : Device) :
    ∃ o, l.foldl (fun d e => if spwActive e.2.state then emit (.gate e.1 0) d else d) d = { d with out := o } := by
  refine List.foldlRecOn l _ (motive := fun f : Device => ∃ o, f = { d with out := o }) ⟨d.out, rfl⟩ ?_
  rintro _ ⟨o, rfl⟩ e -
  split
  · exact ⟨_, rfl⟩
  · exact ⟨o, rfl⟩

theorem blackBoxRecord_boots (k o c : Nat) (l : List Nat) (d : Device) : (blackBoxRecord k o c l d).can.boots = d.can.boots := by
  unfold blackBoxRecord
  simp only
  split <;> rfl

/-- What a cold reset leaves is the reset device, with what lies in MRAM and flash, what the pins show, and what was put out. -/
theorem coldReset_frame (cause : Nat) (d : Device) : ∃ o b c, c.boots = (d.can.boots + 1) % 2 ^ 32 ∧
    coldReset cause d = { Device.reset with
      now := d.now, freeCount := d.freeCount, out := o, glb := { Device.reset.glb with serial := d.glb.serial }
      clk := { Device.reset.clk with cause := cause }, snapshots := d.snapshots, bootRecord := d.bootRecord, blackBox := b
      eqRecords := d.eqRecords, feeds := d.feeds, can := c, jtag := d.jtag } := by
  unfold coldReset
  extract_lets d₁ d₂ _ d₃ _ _ kept
  obtain ⟨k, m, x, o, a, i, t, n, v, w, h₁⟩ : AnswersOnly d d₁ := abortAll_answers d
  obtain ⟨o₂, h₂⟩ : ∃ o, d₂ = { d₁ with out := o } := foldl_gateOff_frame d₁.spw d₁
  obtain ⟨y, b, h₃⟩ : ∃ y b, d₃ = { d₂ with can := y, blackBox := b } := blackBoxRecord_frame 10 0 cause [d₂.items.length] _
  have hboots : d₃.can.boots = (d.can.boots + 1) % 2 ^ 32 := by
    refine (blackBoxRecord_boots _ _ _ _ _).trans ?_
    rw [h₂, h₁]
    rfl
  refine ⟨o₂, b, kept, hboots, ?_⟩
  clear_value kept d₃ d₂ d₁
  subst h₃ h₂ h₁
  rfl

/-! ## Warm reset (R494 to R497) -/

theorem resetBridges_frame (p : Nat) (d : Device) : ∃ b x, resetBridges p d = { d with bridges := b, parts := x } := by
  unfold resetBridges
  extract_lets _ d₁
  obtain ⟨b, h⟩ : ∃ b, d₁ = { d with bridges := b } := by
    refine List.foldlRecOn d.bridges _ (motive := fun f : Device => ∃ b, f = { d with bridges := b }) ⟨d.bridges, rfl⟩ ?_
    rintro _ ⟨b, rfl⟩ e -
    split
    · exact ⟨_, rfl⟩
    · exact ⟨b, rfl⟩
  clear_value d₁
  subst h
  exact ⟨b, _, rfl⟩

/-- R497: a reset of PART0 concerns bridges, what its partition captured, and the management function with its vectors. -/
theorem managerReset_frame (d : Device) :
    ∃ b p f m, managerReset d = { d with bridges := b, parts := p, funcs := f, msix := m } := by
  obtain ⟨b, p, h⟩ := resetBridges_frame 0 d
  unfold managerReset
  extract_lets f _ d₁
  have h₁ : ∃ f, d₁ = { d with bridges := b, parts := p, funcs := f } := by
    unfold d₁
    rw [h]
    exact ⟨_, rfl⟩
  obtain ⟨f, h₁⟩ := h₁
  clear_value d₁
  subst h₁
  exact ⟨b, p, f, _, rfl⟩

/-- R502: the staged image changes what runs, and no other part of the clock's block. -/
theorem activateStaged_frame (d : Device) : ∃ i l f v k, activateStaged d =
    { d with clk := { d.clk with imageB := i, defaults := l, staged := f }, kme := { d.kme with imageB := k },
             glb := { d.glb with fwLevel := v } } := by
  unfold activateStaged
  split
  · split
    · exact ⟨_, _, _, _, _, rfl⟩
    · exact ⟨_, _, _, _, _, rfl⟩
  · exact ⟨_, _, _, _, _, rfl⟩

/-! ## The adit session through a reset (R510) -/

theorem kmeRestart_level (d : Device) : (kmeRestart d).adit.level = 0 := by
  obtain ⟨x, b, h⟩ := kmeRestart_eq d
  rw [h]

theorem blackBoxRecord_adit (k o c : Nat) (l : List Nat) (d : Device) : (blackBoxRecord k o c l d).adit = d.adit := by
  obtain ⟨x, b, h⟩ := blackBoxRecord_frame k o c l d
  rw [h]

theorem managerReset_adit (d : Device) : (managerReset d).adit = d.adit := by
  obtain ⟨b, p, f, m, h⟩ := managerReset_frame d
  rw [h]

theorem activateStaged_adit (d : Device) : (activateStaged d).adit = d.adit := by
  obtain ⟨i, l, f, v, k, h⟩ := activateStaged_frame d
  rw [h]

theorem electMaster_adit (d : Device) : (electMaster d).adit = d.adit := by
  obtain ⟨f, h, -⟩ := electMaster_frame d
  rw [h]

theorem warmRows_adit (d : Device) : (warmMailboxes (warmParts (warmPorts d))).adit = d.adit := rfl

/-! ## The level after the rows that end a session -/

theorem gives_level {i : Instr} {s : State} {d : Device} (hx : exec i s = done s d) (h : d.adit.level = 0) :
    Gives i s fun t => t.adit.level = 0 :=
  done_gives_framed hx rfl fun _ _ _ => h

/-- The device on which a warm reset has done its rows, and elected a master. -/
def warmRowsDone (cause : Nat) (d : Device) : Device :=
  electMaster (activateStaged (warmMailboxes (warmParts (warmPorts
    (managerReset (blackBoxRecord 10 0 cause [d.items.length] (kmeRestart d)))))))

theorem warmRowsDone_level (cause : Nat) (d : Device) : (warmRowsDone cause d).adit.level = 0 := by
  rw [warmRowsDone, electMaster_adit, activateStaged_adit, warmRows_adit, managerReset_adit, blackBoxRecord_adit, kmeRestart_level]

/-- R494 to R496: a warm reset is its rows, then the boot phase in which the configuration is replayed. -/
theorem warmReset_eq (cause : Nat) (d : Device) : warmReset cause d = { warmRowsDone cause d with clk := { (warmRowsDone cause d).clk with
    phase := .locked, cause := cause, warmCount := satAdd 0xFFFF (warmRowsDone cause d).clk.warmCount 1, resetPlan := none
    releasedAt := (warmRowsDone cause d).now } } := by
  unfold warmReset warmRowsDone
  rfl

/-- A warm reset restarts the KME, and nothing that follows in it touches the session. -/
theorem warmReset_level (cause : Nat) (d : Device) : (warmReset cause d).adit.level = 0 := by
  have hlevel := warmRowsDone_level cause d
  rw [warmReset_eq]
  generalize warmRowsDone cause d = e at hlevel ⊢
  exact hlevel

theorem coldReset_level (cause : Nat) (d : Device) : (coldReset cause d).adit.level = 0 := by
  obtain ⟨o, b, c, -, h⟩ := coldReset_frame cause d
  rw [h]
  rfl

/-- R497, R504: with the strap set, PERST_N_IN at the manager's USP of PART0 is a warm reset. -/
theorem perstNIn_warm {n : Nat} {d : Device} (husp : (d.port n).personality = .usp) (hpin : (pinOf n 2 d).isSome = true)
    (hin : (d.pci n).perstIn = false) (hn : n = d.glb.mgrPort) (hholder : (d.port n).holder = 0) (hstrap : d.clk.strapPerstWarm = true) :
    perstNIn n d = warmReset 4 (d.setPci n { d.pci n with perstIn := true }) := by
  have hbegins : ¬((d.port n).personality ≠ .usp ∨ (pinOf n 2 d).isNone ∨ (d.pci n).perstIn) := by
    simp [husp, hin, Option.isNone_iff_eq_none, Option.isSome_iff_ne_none.1 hpin]
  exact (if_neg hbegins).trans ((if_pos ⟨hn, hholder⟩).trans (if_pos hstrap))

/-- Settles O60: each of the five ends sets the level, and nothing that follows it in its row writes the level. -/
theorem aditLevelReturnsToZero : Obligations.AditLevelReturnsToZero := by
  intro s x n vdd
  refine ⟨fun hrun hraw => ?lock, fun hdue => gives_level (done_becomes rfl (if_pos hdue)) rfl, fun hrun => ?breaks, ?restart, fun hdue => ?warm,
    fun husp hpin hin hn hholder hstrap => ?perst, fun hdue => ?cold, fun hheld => ?porN⟩
  case lock =>
    exact text_gives hrun hraw rfl rfl (Nat.zero_le _) rfl fun _ _ _ _ _ _ => rfl
  case breaks => exact gives_level (done_becomes rfl (if_neg (ne_false_of_eq_true hrun))) rfl
  case restart => exact restart_gives rfl fun _ _ _ _ _ => rfl
  case warm => exact gives_level (done_becomes rfl (if_pos hdue)) (warmReset_level 3 s.dev)
  case perst => exact gives_level (done_becomes rfl (perstNIn_warm husp hpin hin hn hholder hstrap)) (warmReset_level 4 _)
  case cold =>
    have hlevel : (sampleStraps x (coldReset 2 s.dev)).adit.level = 0 := coldReset_level 2 s.dev
    exact gives_level (done_becomes rfl (if_pos hdue)) hlevel
  case porN => exact gives_level (done_becomes rfl (if_neg hheld)) (coldReset_level _ s.dev)

/-! ## Boot (R486, R487, R491) -/

theorem bootFrom_first {slot : Bool} {a b : List Byte} (starts : Bool) (d : Device) (h : imageValid (if slot then b else a) = true) :
    bootFrom slot a b starts d = runImage slot (if slot then b else a) starts d := if_pos h

theorem bootFrom_none {slot : Bool} {a b : List Byte} (starts : Bool) (d : Device) (ha : imageValid a = false) (hb : imageValid b = false) :
    ∃ (x : Can) (l : List BlackBox), bootFrom slot a b starts d = { d with
      clk := { d.clk with phase := .noImage, loadedAt := d.now }, can := { x with fault := true }, blackBox := l } := by
  obtain ⟨x, l, h⟩ := blackBoxRecord_frame 10 0 d.clk.cause [] { d with clk := { d.clk with phase := .noImage, loadedAt := d.now } }
  refine ⟨x, l, ?_⟩
  have hfirst : ¬imageValid (if slot then b else a) = true := by cases slot <;> simp [ha, hb]
  have hsecond : ¬imageValid (if slot then a else b) = true := by cases slot <;> simp [ha, hb]
  exact (if_neg hfirst).trans ((if_neg hsecond).trans (congrArg (fun e : Device => { e with can := { e.can with fault := true } }) h))

theorem imageLoad_rom {a b : List Byte} {starts : Bool} {d : Device} (h : d.clk.phase = .rom) :
    imageLoad a b starts d = bootFrom (preferredSlot d) a b starts d := if_pos h

/-- R491: a packet that a check refuses is skipped. -/
theorem replayOne_badOpcode {op : Nat} (c : Cmd) (d : Device) (h : op ∉ opcodes) : replayOne d (op, c) = replayRefused d := by
  have hchecks (c' : Cmd) : ∃ a, commandChecks op c' d = some a := by
    unfold commandChecks
    split
    · exact ⟨_, rfl⟩
    · rw [if_pos (by simpa using h)]
      exact ⟨_, rfl⟩
  obtain ⟨a, ha⟩ := hchecks { c with source := { transport := 7, inst := 0 } }
  simp only [replayOne, ha]

/-- The device on which the replay of its list begins, and ends (R491, R492). -/
def replayBegins (d : Device) : Device :=
  { d with clk := { d.clk with cfgSrc := configSource d }, xbr := { d.xbr with enabled := true, enabledAt := d.now } }

def replayEnds (d : Device) : Device :=
  { d with clk := { d.clk with phase := .ready, readyUs := min ((d.now - d.clk.releasedAt) / usNs) 0xFFFFF } }

theorem configurationReplay_eq {d : Device} (hphase : d.clk.phase = .locked) (hrun : d.kme.running = true) :
    configurationReplay d = replayEnds ((configList d).foldl replayOne (replayBegins d)) := if_pos ⟨hphase, hrun⟩

/-- Settles O6: each row of boot acts in its phase alone, and a list whose packets are refused leaves what they would have set. -/
theorem bootSequence : Obligations.BootSequence := by
  refine ⟨fun s x a b starts vdd => ?boot, fun s hphase hrun => ?replay⟩
  case boot =>
    refine ⟨fun hheld => done_becomes rfl (if_pos hheld), fun hheld => ?low, fun hheld => done_becomes rfl (if_pos hheld),
      fun himage => ⟨fun hrom => ?load, fun hphase hdue => ?retry⟩, fun hrom ha hb => ?noImage, fun hloaded hrun hdue himage => ?watchdog,
      fun hloaded hrun => done_becomes rfl (if_pos ⟨hloaded, hrun⟩),
      fun hloaded => ⟨done_becomes rfl (if_neg fun h => hloaded h.1), done_becomes rfl (if_neg fun h => hloaded h.1)⟩⟩
    case low =>
      obtain ⟨o, l, c, hboots, h⟩ := coldReset_frame (if vdd then 5 else 1) s.dev
      exact done_gives_framed rfl ((if_neg hheld).trans h) fun _ _ _ => ⟨rfl, rfl, rfl, rfl, rfl, rfl, rfl, rfl, rfl, hboots⟩
    case load => exact done_becomes rfl ((imageLoad_rom hrom).trans (bootFrom_first starts s.dev himage))
    case retry => exact done_becomes rfl ((if_pos ⟨hphase, hdue⟩).trans (bootFrom_first starts s.dev himage))
    case noImage =>
      obtain ⟨x, l, h⟩ := bootFrom_none (slot := preferredSlot s.dev) starts s.dev ha hb
      exact done_gives_framed rfl ((imageLoad_rom hrom).trans h) fun _ _ _ => ⟨rfl, rfl, rfl, rfl, rfl⟩
    case watchdog =>
      have hother : imageValid (if (!s.dev.clk.imageB) = true then b else a) = true := by
        cases hslot : s.dev.clk.imageB <;> simpa [hslot] using himage
      refine done_gives_framed rfl ((if_pos ⟨hloaded, hrun, hdue⟩).trans (bootFrom_first starts _ hother)) fun _ _ _ =>
        ⟨rfl, rfl, rfl, rfl, rfl, ?_⟩
      cases hslot : s.dev.clk.imageB <;> simp [runImage, clkRaise]
  case replay =>
    have hrow := configurationReplay_eq hphase hrun
    refine ⟨done_gives_framed rfl hrow fun _ _ _ => rfl, fun hlist => ?empty, fun op c hlist hop => ?refused⟩
    case empty =>
      rw [hlist] at hrow
      exact done_becomes rfl hrow
    case refused =>
      rw [hlist, List.foldl_cons, List.foldl_nil, replayOne_badOpcode c _ hop] at hrow
      exact done_gives_framed rfl hrow fun _ _ _ => ⟨rfl, rfl, rfl, rfl, rfl, rfl⟩

/-! ## The reference inputs (R477 to R479) -/

theorem refclkLoss_switch {d : Device} (hheld : d.clk.phase ≠ .held) (ha : d.clk.aValid = true) (hb : d.clk.bValid = true) :
    ∃ x b, refclkLoss d = { d with
      clk := { d.clk with activeB := !d.clk.activeB, aValid := d.clk.activeB, bValid := !d.clk.activeB
                          switches := satAdd 0xFFFF d.clk.switches 1, intStatus := d.clk.intStatus ||| 1 }
      can := x, blackBox := b } := by
  have hlost : refclkLoss d = refclkSwitch { d with
      clk := if d.clk.activeB then { d.clk with bValid := false } else { d.clk with aValid := false } } := by
    simp [refclkLoss, hheld, ha, hb]
  rw [hlost]
  cases hactive : d.clk.activeB with
  | false =>
    obtain ⟨x, b, h⟩ := refclkSwitch_valid (d := { d with clk := { d.clk with aValid := false } }) (by simpa [hactive] using hb)
    exact ⟨x, b, h.trans (by simp only [hactive, hb, Bool.not_false])⟩
  | true =>
    obtain ⟨x, b, h⟩ := refclkSwitch_valid (d := { d with clk := { d.clk with bValid := false } }) (by simpa [hactive] using ha)
    exact ⟨x, b, h.trans (by simp only [hactive, ha, Bool.not_true])⟩

theorem refclkLoss_inactive {d : Device} (hA : d.clk.activeB = true → d.clk.bValid = false) (hB : d.clk.activeB = false → d.clk.aValid = false) :
    refclkLoss d = d := by
  refine if_pos (.inr ?_)
  cases hactive : d.clk.activeB with
  | false => exact hB hactive
  | true => exact hA hactive

/-- R229, R479: what the loss of both inputs does at one port. -/
def portClockLost (d : Device) (n : Nat) : Device := if (d.port n).personality = .pfl then pflDown n 10 d else linkLoss n d

theorem portClockLost_off {n : Nat} {d : Device} (h : (d.port n).personality = .off) : portClockLost d n = d := by
  simp [portClockLost, linkLoss, pciePort, h]

theorem portClockLost_besideFall (d : Device) (n : Nat) : (portClockLost d n).besideFall = d.besideFall := by
  unfold portClockLost
  split
  · exact pflDown_besideFall n 10 d
  · unfold linkLoss
    split
    · rfl
    · split
      · split
        · exact pcieDown_besideFall n .detect d
        · exact lossItems_besideFall n d
      · split
        · exact lossItems_besideFall n d
        · rfl

/-- The device that has lost both inputs, before its ports lose their links. -/
def rootLost (d : Device) : Device :=
  { d with clk := { d.clk with aValid := false, bValid := false, holdover := true, intStatus := d.clk.intStatus ||| 2 } }

theorem bothLost_eq (d : Device) : bothLost d = (List.range 96).foldl portClockLost (rootLost d) := rfl

theorem bothLost_off {d : Device} (h : ∀ k < 96, (d.port k).personality = .off) : bothLost d = rootLost d := by
  rw [bothLost_eq]
  refine List.foldlRecOn (List.range 96) portClockLost (motive := fun e : Device => e = rootLost d) rfl fun e he n hn => ?_
  rw [he]
  exact portClockLost_off (h n (List.mem_range.1 hn))

/-- R479: an input is the root again. -/
def rootFound (inputB : Bool) (d : Device) : Device :=
  { d with clk := { d.clk with holdover := false, aValid := d.clk.aValid || !inputB, bValid := d.clk.bValid || inputB } }

theorem refclkRecovery_off {d : Device} (hholdover : d.clk.holdover = true) (h : ∀ k < 96, (d.port k).personality = .off) :
    refclkRecovery d.clk.activeB d = rootFound d.clk.activeB d := by
  simp only [refclkRecovery, hholdover, ne_eq, not_true_eq_false, decide_false, Bool.false_eq_true, if_true, if_false]
  refine List.foldlRecOn (List.range 96) _ (motive := fun e : Device => e = rootFound d.clk.activeB d) rfl fun e he n hn => ?_
  have hoff : (e.port n).personality = .off := by rw [he]; exact h n (List.mem_range.1 hn)
  rw [if_neg (by simp [hoff])]
  exact he

/-- Settles O8: the loss of both inputs takes every port, a port that is OFF has no link to lose, and the falls touch neither the
clock nor what the ports are. -/
theorem referenceInputs : Obligations.ReferenceInputs := by
  intro s v n
  refine ⟨done_becomes rfl rfl, fun hheld ha hb => ?switch, fun hA hB => done_becomes rfl (refclkLoss_inactive hA hB),
    fun hoff => ⟨fun hheld hholdover => done_becomes rfl ((if_neg ?_).trans (bothLost_off hoff)), fun hholdover hv => ?found⟩,
    fun hheld hholdover => ?lost, fun hholdover => ?steady, fun hn => done_becomes rfl (if_neg hn), done_becomes rfl rfl⟩
  case switch =>
    obtain ⟨x, b, h⟩ := refclkLoss_switch hheld ha hb
    exact done_gives_framed rfl h fun _ _ _ => ⟨rfl, rfl, rfl, rfl, rfl⟩
  case found =>
    subst hv
    exact done_becomes rfl (refclkRecovery_off hholdover hoff)
  case lost =>
    have hfalls : (bothLost s.dev).besideFall = (rootLost s.dev).besideFall := foldl_besideFall portClockLost_besideFall _ _
    have hrow : refclkBothLost s.dev = bothLost s.dev := if_neg (by simp [hheld, hholdover])
    generalize bothLost s.dev = e at hfalls hrow
    exact done_gives_framed rfl hrow fun _ _ _ => ⟨(congrArg Device.clk hfalls :), (congrArg Device.ports hfalls :)⟩
  case steady => exact done_becomes rfl (if_neg (by simp [hholdover]))
  all_goals simp [hheld, hholdover]

/-! ## PERST_N_IN that is released (R493), on a device whose table lists a port twice -/

/-- A tenant's USP whose PERST_N_IN is asserted, listed twice among the PCI Express ports. -/
def twiceListedState : State :=
  { State.reset with dev := { State.reset.dev with
      ports := [(0, { portReset with personality := .usp, holder := 1 })]
      pcie := [(0, { pcieReset with perstIn := true }), (0, { pcieReset with perstIn := true })] } }

/-- Two devices that one command becomes differ in nothing but what the interrupt outputs change. -/
theorem besideAnswer_of_becomes {i : Instr} {s : State} {d d' : Device} (hx : exec i s = done s d) (h : Becomes i s d') :
    d.besideAnswer = d'.besideAnswer := by
  have hnext : State.mk s.pending (notify s.dev d) = ⟨s.pending, notify s.dev d'⟩ := by
    injection hx.symm.trans h
  rw [← notify_besideAnswer s.dev d, ← notify_besideAnswer s.dev d']
  exact congrArg (fun t : State => t.dev.besideAnswer) hnext

theorem perstNInRelease_twiceListed :
    (perstNInRelease 0 twiceListedState.dev).pcie = [(0, { pcieReset with lstate := .detect })] := by rfl

/-- Refutes O7: its clause on PERST_N_IN_RELEASE names the ports as one write leaves them; the row writes twice, first the port at
reset values, which removes both entries. -/
theorem not_resetsReachTheirRows : ¬ Obligations.ResetsReachTheirRows := by
  intro h
  obtain ⟨-, -, -, -, -, -, -, hrelease, -⟩ := h twiceListedState ⟨⟨0, 0, 0, 0⟩, ⟨0, 0, 0, 0⟩, ⟨0, 0, 0, 0⟩, true, true⟩ 0
  have hsame := besideAnswer_of_becomes (d := perstNInRelease 0 twiceListedState.dev) rfl (hrelease rfl rfl rfl rfl (by decide))
  have hpcie : (perstNInRelease 0 twiceListedState.dev).pcie = _ := congrArg Device.pcie hsame
  rw [perstNInRelease_twiceListed] at hpcie
  exact absurd (congrArg List.length hpcie) (by decide)

end Sys2Proof.Machine
end

section
/-! What is left of the PCI Express ports, and of what is queued toward one, when items are dropped (R229, Table 8.3). -/

namespace Sys2Proof.Machine

/-- A PCI Express port beside the credit that it owes its partner, which the loss of items concerns (R55, R309). -/
def Pcie.besideCredit (x : Pcie) : Pcie := { x with owed := [], owedHdr := [], takeBack := [], takeBackHdr := [] }

/-- The numbers of the items queued toward a port. -/
def idsToward (n : Nat) (d : Device) : List Nat := (d.items.filter fun i => decide (i.egress = n)).map (·.id)

theorem mem_idsToward {n id : Nat} {d : Device} : id ∈ idsToward n d ↔ ∃ i ∈ d.items, i.egress = n ∧ i.id = id := by
  simp [idsToward, and_assoc]

theorem idsToward_of_mem {n : Nat} {d : Device} {i : Item} (hi : i ∈ d.items) (he : i.egress = n) : i.id ∈ idsToward n d :=
  mem_idsToward.2 ⟨i, hi, he, rfl⟩

/-- The ports stay, and every PCI Express port but for the credit that it owes; nothing is queued anew toward DSP `n` while
its link is down. -/
structure KeepsPort (n : Nat) (d d' : Device) : Prop where
  ports : d'.ports = d.ports
  pci : ∀ m, (d'.pci m).besideCredit = (d.pci m).besideCredit
  items : n < 96 → (d.port n).personality = .dsp → linkUp n d = false → ∀ i ∈ d'.items, i.egress = n → i.id ∈ idsToward n d

namespace KeepsPort

variable {n : Nat} {a b c d d' : Device}

theorem port (h : KeepsPort n d d') (m : Nat) : d'.port m = d.port m := by rw [Device.port, h.ports, Device.port]

theorem lstate (h : KeepsPort n d d') (m : Nat) : (d'.pci m).lstate = (d.pci m).lstate := (congrArg Pcie.lstate (h.pci m) :)

theorem of_items (hports : d'.ports = d.ports) (hpcie : d'.pcie = d.pcie)
    (h : n < 96 → (d.port n).personality = .dsp → linkUp n d = false → ∀ i ∈ d'.items, i.egress = n → i.id ∈ idsToward n d) : KeepsPort n d d' :=
  ⟨hports, fun m => by rw [Device.pci, hpcie, Device.pci], h⟩

theorem of_eq (hports : d'.ports = d.ports) (hpcie : d'.pcie = d.pcie) (hitems : d'.items = d.items) : KeepsPort n d d' :=
  of_items hports hpcie fun _ _ _ _ hi he => idsToward_of_mem (hitems ▸ hi) he

theorem refl (d : Device) : KeepsPort n d d := of_eq rfl rfl rfl

theorem trans (h : KeepsPort n a b) (g : KeepsPort n b c) : KeepsPort n a c := by
  refine ⟨g.ports.trans h.ports, fun m => (g.pci m).trans (h.pci m), fun hn hdsp hdown i hi he => ?_⟩
  have hdsp' : (b.port n).personality = .dsp := by rw [h.port, hdsp]
  have hdown' : linkUp n b = false := by
    rw [linkUp_dsp hdsp', h.lstate, ← linkUp_dsp hdsp, hdown]
  obtain ⟨j, hj, hjn, hid⟩ := mem_idsToward.1 (g.items hn hdsp' hdown' i hi he)
  exact hid ▸ h.items hn hdsp hdown j hj hjn

theorem foldl {β : Type} {f : Device → β → Device} (h : ∀ d x, KeepsPort n d (f d x)) (l : List β) (d : Device) :
    KeepsPort n d (l.foldl f d) :=
  List.foldlRecOn l f (motive := KeepsPort n d) (refl d) fun e he x _ => he.trans (h e x)

end KeepsPort

section
variable (n : Nat)

theorem CountsOnly.keepsPort {d d' : Device} (h : CountsOnly d d') : KeepsPort n d d' := by
  obtain ⟨f, k, c, rfl⟩ := h
  exact .of_eq rfl rfl rfl

theorem freeIngress_keepsPort (m cls q : Nat) (t : Tlp) (hdr data : Nat) (d : Device) :
    KeepsPort n d (freeIngress m cls q t hdr data d) := by
  unfold freeIngress
  split
  · exact .refl d
  · split
    · exact .of_eq rfl rfl rfl
    · refine ⟨rfl, fun k => ?_, fun _ _ _ _ hi he => idsToward_of_mem hi he⟩
      by_cases hk : k = m
      · rw [hk, pci_setPci]; rfl
      · rw [Device.pci, Device.setPci, tget_tset_other pcieReset d.pcie _ hk, Device.pci]

theorem removeItem_keepsPort (id : Nat) (d : Device) : KeepsPort n d (removeItem id d) := by
  unfold removeItem
  extract_lets d₁
  have h₁ : KeepsPort n d d₁ := by
    unfold d₁
    split
    · split
      · exact .refl d
      · exact freeIngress_keepsPort n _ _ _ _ _ _ d
    · exact .refl d
  exact h₁.trans (.of_items rfl rfl fun _ _ _ _ hi he => idsToward_of_mem (List.mem_of_mem_filter hi) he)

theorem sendVector_keepsPort (f : Fn) (v : Nat) (d : Device) : KeepsPort n d (sendVector f v d) := by
  obtain ⟨i, m, h⟩ := sendVector_frame f v d
  rw [h]; exact .of_eq rfl rfl rfl

theorem logSynth_keepsPort (r f p q : Nat) (d : Device) : KeepsPort n d (logSynth r f p q d) := by
  obtain ⟨x, k, c, h⟩ := logSynth_frame r f p q d
  rw [h]; exact .of_eq rfl rfl rfl

theorem journalWrite_keepsPort (p src : Nat) (e : JournalEntry) (d : Device) : KeepsPort n d (journalWrite p src e d) := by
  obtain ⟨j, f, o, i, m, k, c, h⟩ := journalWrite_frame p src e d
  rw [h]; exact .of_eq rfl rfl rfl

theorem emitAway_keepsPort (f : FabHdr) (c : Tlp) (d : Device) : KeepsPort n d (emitAway f c d) := by
  obtain ⟨o, h⟩ := emitAway_frame f c d
  rw [h]; exact .of_eq rfl rfl rfl

theorem lockFails_keepsPort (m : Nat) (k : Kind) (d : Device) : KeepsPort n d (lockFails m k d) := by
  obtain ⟨l, h⟩ := lockFails_frame m k d
  rw [h]; exact .of_eq rfl rfl rfl

/-- The device's own completion of a dropped request is queued toward an internal port alone. -/
theorem emitCpl_keepsPort (i : Item) (c : Tlp) (synth : Bool) (d : Device) : KeepsPort n d (emitCpl i c synth d) := by
  unfold emitCpl
  extract_lets near
  have hnear : KeepsPort n d (near d) := by
    unfold near
    split
    · next hinternal =>
      refine .of_items rfl rfl fun hn _ _ j hj he => ?_
      rcases List.mem_append.1 hj with hj | hj
      · exact idsToward_of_mem hj he
      · rw [List.mem_singleton.1 hj] at he
        have he' : i.ingress = n := he
        omega
    · exact .of_eq rfl rfl rfl
  split
  · split
    · exact hnear
    · exact emitAway_keepsPort n _ c d
  · exact hnear

theorem rmaDrop_keepsPort (h : RmaHdr) (d : Device) : KeepsPort n d (rmaDrop h d) := by
  unfold rmaDrop
  split
  · split
    · exact .refl d
    · split
      · exact .of_eq rfl rfl rfl
      · exact .refl d
  · exact .refl d

theorem toError_keepsPort (q status : Nat) (psn : Option Nat) (d : Device) : KeepsPort n d (toError q status psn d) := by
  unfold toError
  split
  · exact .refl d
  · split
    · exact .refl d
    · extract_lets g g' told q' d₁
      split <;> exact .of_eq rfl rfl rfl

theorem placementFails_keepsPort (f : Fn) (a : Nat) (d : Device) : KeepsPort n d (placementFails f a d) := by
  unfold placementFails
  extract_lets hit placing
  split
  · exact toError_keepsPort n _ 0 none d
  · split
    · exact toError_keepsPort n _ 7 _ d
    · exact .refl d

theorem windowDrop_keepsPort (i : Item) (reason : Nat) (d : Device) : KeepsPort n d (windowDrop i reason d) := by
  unfold windowDrop
  split
  · split
    · unfold windowFail
      extract_lets x x' x'' d₁
      split
      · exact .refl d
      · split
        · exact .of_eq rfl rfl rfl
        · refine KeepsPort.trans ?_ (sendVector_keepsPort n _ _ _)
          exact .of_eq rfl rfl rfl
    · exact .refl d
  · exact .refl d

end

/-! ## A completion toward a requester finds no way through a DSP whose link is down (R221) -/

theorem mem_of_pickWeighted {ws : List (Nat × Nat)} {k n : Nat} (h : pickWeighted ws k = some n) : ∃ w, (n, w) ∈ ws := by
  induction ws generalizing k with
  | nil => cases h
  | cons e ws ih =>
    obtain ⟨port, w⟩ := e
    rw [pickWeighted] at h
    split at h
    · cases h
      exact ⟨w, List.mem_cons_self⟩
    · obtain ⟨w', hw⟩ := ih h
      exact ⟨w', List.mem_cons_of_mem _ hw⟩

theorem pflLive_of_pathLive {x : FabPath} {d : Device} (h : pathLive x d = true) : pflLive x.port d = true :=
  (Bool.and_eq_true_iff.1 h).1

theorem pathLive_of_usable {r : FabRoute} {d : Device} {x : FabPath} (h : x ∈ usablePaths r d) : pathLive x d = true := by
  unfold usablePaths at h
  extract_lets live weighted at h
  have hlive : ∀ y ∈ live, pathLive y d = true := fun y hy => (List.mem_filter.1 hy).2
  split at h
  · exact hlive x h
  · exact hlive x (List.mem_of_mem_filter h)

theorem pflLive_of_dealt {r : FabRoute} {d : Device} {b n : Nat} (h : dealtPort (dealWeights r d) b = some n) : pflLive n d = true := by
  obtain ⟨w, hw⟩ := mem_of_pickWeighted h
  obtain ⟨x, hx, he⟩ := List.mem_map.1 hw
  cases he
  exact pflLive_of_pathLive (pathLive_of_usable hx)

theorem pflLive_of_bucketLive {r : FabRoute} {d : Device} {n : Nat} (h : bucketLive r n d = true) : pflLive n d = true := by
  unfold bucketLive at h
  split at h
  · next x hx =>
    have hport : x.port = n := by simpa using List.find?_some hx
    exact hport ▸ pflLive_of_pathLive h
  · exact (Bool.and_eq_true_iff.1 h).1

/-- R221: a bucket's path is a fabric link that carries items. -/
theorem pflLive_of_bucketPath {fid b n : Nat} {d : Device} (h : bucketPath fid b d = some n) : pflLive n d = true := by
  have hdealt {r : FabRoute} (h : dealtPath r b d = some n) : pflLive n d = true := by
    unfold dealtPath at h
    split at h
    · split at h
      · next hlive =>
        cases h
        exact pflLive_of_bucketLive hlive
      · exact pflLive_of_dealt h
    · exact pflLive_of_dealt h
  unfold bucketPath at h
  extract_lets r at h
  split at h
  · exact hdealt h
  · split at h
    · next hlive =>
      cases h
      exact pflLive_of_bucketLive (Bool.and_eq_true_iff.1 hlive).1
    · exact hdealt h

theorem pfl_of_bucketPath {fid b n : Nat} {d : Device} (h : bucketPath fid b d = some n) : (d.port n).personality = .pfl :=
  of_decide_eq_true (Bool.and_eq_true_iff.1 (pflLive_of_bucketPath h)).1

section
variable (n : Nat)

theorem spendPieces_keepsPort (t : Track) (d : Device) : KeepsPort n d (spendPieces t d) := by
  refine .of_items rfl rfl fun _ _ _ i hi he => ?_
  obtain ⟨j, hj, rfl⟩ := List.mem_map.1 hi
  have hid : j.egress = n → j.id ∈ idsToward n d := idsToward_of_mem hj
  split at he
  · rw [if_pos ‹_›]
    exact hid he
  · rw [if_neg ‹_›]
    exact hid he

/-- An item that enters a VOQ toward another port. -/
theorem enters_keepsPort {i : Item} {k : Nat} {d : Device} (h : n < 96 → (d.port n).personality = .dsp → linkUp n d = false → i.egress ≠ n) :
    KeepsPort n d { d with items := d.items ++ [i], nextId := k } := by
  refine .of_items rfl rfl fun hn hdsp hdown j hj he => ?_
  rcases List.mem_append.1 hj with hj | hj
  · exact idsToward_of_mem hj he
  · rw [List.mem_singleton.1 hj] at he
    exact absurd he (h hn hdsp hdown)

theorem endRequest_keepsPort (t : Track) (st : CplStatus) (synth : Bool) (d : Device) : KeepsPort n d (endRequest t st synth d) := by
  unfold endRequest
  extract_lets c e enter
  have he : KeepsPort n d e := spendPieces_keepsPort n t d
  split
  · extract_lets h
    split
    · next hpath =>
      refine he.trans (enters_keepsPort n fun _ hdsp _ hegress => ?_)
      have hport : (e.port n).personality = .pfl := hegress ▸ pfl_of_bucketPath hpath
      rw [hdsp] at hport
      cases hport
    · exact he
  · split
    · exact he
    · next hway =>
      refine he.trans (enters_keepsPort n fun hn _ hdown hegress => hway ?_)
      have hnear : t.nearPort = n := hegress
      exact hnear ▸ ⟨hn, hdown⟩

theorem failPiece_keepsPort (t : Track) (st : CplStatus) (synth : Bool) (d : Device) : KeepsPort n d (failPiece t st synth d) := by
  unfold failPiece
  extract_lets t₁ d₁
  have h₁ : KeepsPort n d d₁ := endRequest_keepsPort n t₁ st synth d
  split
  · split <;> exact .of_eq rfl rfl rfl
  · split
    · split
      · exact h₁.trans (.of_eq rfl rfl rfl)
      · exact h₁
    · unfold keepTrack
      split <;> exact .of_eq rfl rfl rfl

theorem answerItem_keepsPort (i : Item) (st : CplStatus) (synth : Bool) (d : Device) : KeepsPort n d (answerItem i st synth d) := by
  unfold answerItem
  split
  · split <;> exact failPiece_keepsPort n _ st synth d
  · exact emitCpl_keepsPort n i _ synth d

/-- Table 8.3: what is reported of an item, once it is taken out. -/
theorem dropItem_keepsPort (reason fid port : Nat) (i : Item) (d : Device) :
    KeepsPort n (removeItem i.id d) (dropItem reason fid port i d) := by
  unfold dropItem
  extract_lets d₁ d₂ d₃ d₄ c d₅ d₆
  have h₂ : KeepsPort n d₁ d₂ := by
    obtain ⟨c, o, m, h⟩ := traceEnd_frame i (if reason = 1 then 1 else if reason = 3 then 2 else if reason = 2 then 3 else 5) d₁
    rw [show d₂ = _ from h]
    exact .of_eq rfl rfl rfl
  have h₃ : KeepsPort n d₁ d₃ := h₂.trans (.of_eq rfl rfl rfl)
  have h₅ : KeepsPort n d₁ d₅ := h₂.trans (logSynth_keepsPort n _ fid port i.part d₂)
  have h₆ : KeepsPort n d₁ d₆ := h₂.trans (journalWrite_keepsPort n i.part _ _ d₂)
  have hout (o : Output) : KeepsPort n d₁ (emit o d₅) := h₅.trans (.of_eq rfl rfl rfl)
  split
  · exact h₂.trans (rmaDrop_keepsPort n _ d₂)
  · split
    case' h_4 =>
      split
      · split
        · exact h₃
        · split
          · exact h₂
          · exact h₃.trans <| (logSynth_keepsPort n _ fid port _ d₃).trans <| (lockFails_keepsPort n _ _ _).trans
              (answerItem_keepsPort n i .ca true _)
      · split
        · split
          · split
            · exact hout _
            · exact h₅.trans (emitAway_keepsPort n _ c d₅)
          · exact hout _
        · split
          · exact h₆.trans (placementFails_keepsPort n _ _ d₆)
          · exact h₆
    all_goals exact h₂

/-- One item of a link's loss, dropped (Table 8.3). -/
def loseItem (fid m : Nat) (d : Device) (i : Item) : Device := windowDrop i 4 (dropItem 1 fid m i d)

theorem loseItem_keepsPort (fid m : Nat) (d : Device) (i : Item) : KeepsPort n d (loseItem fid m d i) :=
  (removeItem_keepsPort n i.id d).trans ((dropItem_keepsPort n 1 fid m i d).trans (windowDrop_keepsPort n i 4 _))

theorem lossItems_eq (m : Nat) (d : Device) : ∃ k, lossItems m d =
    { (d.items.filter fun i => decide (i.egress = m)).foldl (loseItem (lossFidOf m d) m) d with plk := k } := ⟨_, rfl⟩

/-- R229: link loss leaves what the ports are, and the PCI Express ports but for credit. -/
theorem lossItems_keepsPort (m : Nat) (d : Device) : KeepsPort n d (lossItems m d) := by
  obtain ⟨k, h⟩ := lossItems_eq m d
  rw [h]
  exact (KeepsPort.foldl (loseItem_keepsPort n (lossFidOf m d) m) _ d).trans (.of_eq rfl rfl rfl)

theorem lanesDown_keepsPort (m : Nat) (d : Device) : KeepsPort n d (lanesDown m d) := by
  obtain ⟨f, l, c, h⟩ := lanesDown_lanesOnly m d
  rw [h]
  exact .of_eq rfl rfl rfl

end

/-- Nothing is queued toward a DSP whose link is down once all that was has been dropped. -/
theorem foldl_loseItem_none {n : Nat} (fid m : Nat) (hn : n < 96) (l : List Item) {d : Device} (hdsp : (d.port n).personality = .dsp)
    (hdown : linkUp n d = false) (h : ∀ id ∈ idsToward n d, ∃ i ∈ l, i.id = id) : idsToward n (l.foldl (loseItem fid m) d) = [] := by
  induction l generalizing d with
  | nil => exact List.eq_nil_iff_forall_not_mem.2 fun id hid => by simpa using h id hid
  | cons i l ih =>
    have hkeeps : KeepsPort n (removeItem i.id d) (loseItem fid m d i) :=
      (dropItem_keepsPort n 1 fid m i d).trans (windowDrop_keepsPort n i 4 _)
    have hremoves := removeItem_keepsPort n i.id d
    have hdsp' : ((removeItem i.id d).port n).personality = .dsp := by rw [hremoves.port, hdsp]
    have hdown' : linkUp n (removeItem i.id d) = false := by rw [linkUp_dsp hdsp', hremoves.lstate, ← linkUp_dsp hdsp, hdown]
    have hdsp'' : ((loseItem fid m d i).port n).personality = .dsp := by rw [hkeeps.port, hdsp']
    refine ih hdsp'' (by rw [linkUp_dsp hdsp'', hkeeps.lstate, ← linkUp_dsp hdsp', hdown']) fun id hid => ?_
    obtain ⟨j, hj, hjn, rfl⟩ := mem_idsToward.1 hid
    obtain ⟨j', hj', hjn', hid'⟩ := mem_idsToward.1 (hkeeps.items hn hdsp' hdown' j hj hjn)
    obtain ⟨k, p, hremove⟩ := removeItem_frame i.id d
    rw [hremove] at hj'
    obtain ⟨hmem, hne⟩ := List.mem_filter.1 hj'
    obtain ⟨x, hx, hxid⟩ := h _ (idsToward_of_mem hmem hjn')
    rcases List.mem_cons.1 hx with rfl | hx
    · exact absurd hxid.symm (of_decide_eq_true hne)
    · exact ⟨x, hx, hxid.trans hid'⟩

theorem lossItems_none {n : Nat} {d : Device} (hn : n < 96) (hdsp : (d.port n).personality = .dsp) (hdown : linkUp n d = false) :
    ∀ i ∈ (lossItems n d).items, i.egress ≠ n := by
  obtain ⟨k, h⟩ := lossItems_eq n d
  have hnone := foldl_loseItem_none (lossFidOf n d) n hn (d.items.filter fun i => decide (i.egress = n)) hdsp hdown fun id hid => by
    obtain ⟨i, hi, hin, hid⟩ := mem_idsToward.1 hid
    exact ⟨i, List.mem_filter.2 ⟨hi, decide_eq_true hin⟩, hid⟩
  rw [h]
  intro i hi hin
  have hid : i.id ∈ idsToward n (List.foldl (loseItem (lossFidOf n d) n) d (d.items.filter fun i => decide (i.egress = n))) :=
    idsToward_of_mem hi hin
  rw [hnone] at hid
  exact List.not_mem_nil hid

/-! ## A PCI Express link that goes down -/

/-- A PCI Express port beside what the fall of its link changes of it. -/
def Pcie.besideDown (x : Pcie) : Pcie :=
  { x.besideCredit with lstate := .detect, negWidth := 0, flit := false, curRate := 0, txHdr := [], txData := [], dlChanged := false
                        presenceChanged := false, downtrained := false, intStatus := 0 }

theorem Pcie.besideDown_of_credit {x y : Pcie} (h : x.besideCredit = y.besideCredit) : x.besideDown = y.besideDown :=
  congrArg (fun z : Pcie => { z with lstate := .detect, negWidth := 0, flit := false, curRate := 0, txHdr := [], txData := [], dlChanged := false
                                     presenceChanged := false, downtrained := false, intStatus := 0 }) h

theorem pci_managerReset (d : Device) (m : Nat) : (managerReset d).pci m = d.pci m := by
  rw [Device.pci, managerReset_pcie, Device.pci]

/-- The items, lanes and credit of a link that goes down, before the port itself is told. -/
def linkFallen (n : Nat) (st : LState) (d : Device) : Device := lanesDown n (lossItems n (d.setPci n { d.pci n with lstate := st }))

theorem linkFallen_keepsPort (k n : Nat) (st : LState) (d : Device) :
    KeepsPort k (d.setPci n { d.pci n with lstate := st }) (linkFallen n st d) :=
  (lossItems_keepsPort k n _).trans (lanesDown_keepsPort k n _)

/-- One port alone is told of its link's fall. -/
structure TellsPort (n : Nat) (d d' : Device) : Prop where
  other : ∀ m, m ≠ n → d'.pci m = d.pci m
  same : (d'.pci n).besideDown = (d.pci n).besideDown
  items : d'.items = d.items
  out : d'.out = d.out

namespace TellsPort

variable {n : Nat} {a b c d : Device}

theorem trans (h : TellsPort n a b) (g : TellsPort n b c) : TellsPort n a c :=
  ⟨fun m hm => (g.other m hm).trans (h.other m hm), g.same.trans h.same, g.items.trans h.items, g.out.trans h.out⟩

theorem setPci {x : Pcie} (h : x.besideDown = (d.pci n).besideDown) : TellsPort n d (d.setPci n x) :=
  ⟨fun _ hm => pci_setPci_other d x hm, by rw [pci_setPci, h], rfl, rfl⟩

theorem of_pci {d' : Device} (hpci : ∀ m, d'.pci m = d.pci m) (hitems : d'.items = d.items) (hout : d'.out = d.out) : TellsPort n d d' :=
  ⟨fun m _ => hpci m, by rw [hpci], hitems, hout⟩

end TellsPort

theorem pcieDown_tells (n : Nat) (st : LState) (d : Device) : TellsPort n (linkFallen n st d) (pcieDown n st d) := by
  unfold pcieDown
  extract_lets x up d₁ y z d₂ d₃
  rw [show linkFallen n st d = d₁ from rfl]
  clear_value d₁
  have h₂ : TellsPort n d₁ d₂ := (TellsPort.setPci (x := z) rfl).trans (.of_pci (fun _ => rfl) rfl rfl)
  clear_value d₂
  have h₃ : TellsPort n d₁ d₃ := by
    unfold d₃
    split
    · exact h₂.trans (.setPci rfl)
    · exact h₂
  clear_value d₃
  split
  · obtain ⟨b, p, f, m, h⟩ := managerReset_frame d₃
    exact h₃.trans (.of_pci (pci_managerReset d₃) (by rw [h]) (by rw [h]))
  · exact h₃

section
variable (n : Nat) (st : LState) (d : Device)

/-- The fall of one link changes no other port but for the credit that it owes. -/
theorem pcieDown_pci_other {m : Nat} (h : m ≠ n) : ((pcieDown n st d).pci m).besideCredit = (d.pci m).besideCredit := by
  rw [(pcieDown_tells n st d).other m h, (linkFallen_keepsPort n n st d).pci m, pci_setPci_other d _ h]

theorem pcieDown_pci_same : ((pcieDown n st d).pci n).besideDown = (d.pci n).besideDown := by
  rw [(pcieDown_tells n st d).same, Pcie.besideDown_of_credit ((linkFallen_keepsPort n n st d).pci n), pci_setPci]
  rfl

/-- What had been put out stays put out. -/
theorem pcieDown_out : d.out <:+ (pcieDown n st d).out := by
  rw [(pcieDown_tells n st d).out]
  exact (lanesDown_lossItems_keepsLinks n (d.setPci n { d.pci n with lstate := st })).out

theorem pcieDown_ports : (pcieDown n st d).ports = d.ports := ports_of_besideFall (pcieDown_besideFall n st d)

variable {n st d}

/-- R229: nothing stays queued toward a DSP whose link goes down. -/
theorem pcieDown_none (hn : n < 96) (hdsp : (d.port n).personality = .dsp) (hst : lstateUp st = false) :
    ∀ i ∈ (pcieDown n st d).items, i.egress ≠ n := by
  have hdown : linkUp n (d.setPci n { d.pci n with lstate := st }) = false := by
    have hdsp' : ((d.setPci n { d.pci n with lstate := st }).port n).personality = .dsp := hdsp
    rw [linkUp_dsp hdsp', pci_setPci]
    exact hst
  rw [(pcieDown_tells n st d).items]
  obtain ⟨f, l, c, h⟩ := lanesDown_lanesOnly n (lossItems n (d.setPci n { d.pci n with lstate := st }))
  rw [linkFallen, h]
  exact lossItems_none hn hdsp hdown

end

end Sys2Proof.Machine
end

section
/-! Time-outs, power management and DPC at a PCI Express port (chapter 11). -/

namespace Sys2Proof.Machine

/-! ## A completion time-out (R322) -/

/-- The device on which the time-out of a request at port `n` is counted. -/
def cplTimedOut (n : Nat) (d : Device) : Device :=
  d.setPci n { d.pci n with cplTimeouts := satAdd 0xFFFF (d.pci n).cplTimeouts 1, intStatus := (d.pci n).intStatus ||| 4 }

/-- R322: an ordinary request that goes through a DSP is answered with a synthetic completion, and counted. -/
theorem synthTrack_plain (fid port : Nat) {t : Track} {d : Device} (hfn : t.fn = none) (hwindow : t.window = none)
    (hfab : t.nearFab = none) : ∃ x k c l, x.cntSynth = satAdd 0xFFFFFFFF d.fab.cntSynth 1 ∧ synthTrack fid port t d =
      { d with fab := x, counters := k, cnt := c, locks := l, tracks := d.tracks.map (answeredTrack t.id)
               out := .item t.nearPort (synthTlp t) none :: d.out } := by
  obtain ⟨x, k, c, hlog⟩ := logSynth_frame t.nearRid fid port t.part d
  obtain ⟨l, hlock⟩ := lockFails_frame t.port t.kind (logSynth t.nearRid fid port t.part d)
  have hcount := logSynth_count t.nearRid fid port t.part d
  rw [hlog] at hlock hcount
  refine ⟨x, k, c, l, hcount, ?_⟩
  simp only [synthTrack, hfn, hwindow, hfab, Option.isSome_none, Bool.false_eq_true, if_false]
  rw [hlog, hlock]
  rfl

section
variable {t0 : Track} {n : Nat} {d : Device} (htracks : d.tracks = [t0]) (hopen : t0.answered = false) (hport : t0.port = n)
include htracks hopen hport

theorem cplTimeout_early (hearly : d.now < t0.sentAt + (d.pci n).cplTimeoutMs * msNs) : cplTimeout t0.id d = d := by
  simp [cplTimeout, htracks, hopen, hport, hearly]

theorem cplTimeout_due (hn : n < 96) (hdsp : (d.port n).personality = .dsp) (hdue : t0.sentAt + (d.pci n).cplTimeoutMs * msNs ≤ d.now) :
    cplTimeout t0.id d = synthTrack d.glb.fid n t0 (cplTimedOut n d) := by
  have hfind : d.tracks.find? (fun t => decide (t.id = t0.id) && !t.answered) = some t0 := by simp [htracks, hopen]
  simp only [cplTimeout, hfind]
  rw [hport]
  exact if_neg (by simp [dspTrack, hport, hdsp, Nat.not_le.2 hn, Nat.not_lt.2 hdue])

end

/-! ## PME_Turn_Off (R324) -/

/-- What PME_Turn_Off does at one port: the message `code`, and L2/L3 Ready. -/
def turnOff (code : Nat) (d : Device) (n : Nat) : Device :=
  let d := pcieDown n .l2 (emit (.pcieMessage n code) d)
  d.setPci n { d.pci n with pmeOff := true, pmeAck := true }

section
variable (code : Nat) (d : Device) (n : Nat)

theorem turnOff_pci : ((turnOff code d n).pci n).lstate = .l2 ∧ ((turnOff code d n).pci n).pmeAck = true := by
  unfold turnOff
  extract_lets e
  rw [pci_setPci]
  exact ⟨pcieDown_lstate n .l2 _, rfl⟩

theorem turnOff_lstate {m : Nat} (h : (d.pci m).lstate = .l2) : ((turnOff code d n).pci m).lstate = .l2 := by
  by_cases hm : m = n
  · rw [hm]
    exact (turnOff_pci code d n).1
  · unfold turnOff
    extract_lets e
    rw [pci_setPci_other e _ hm]
    exact (congrArg Pcie.lstate (pcieDown_pci_other n .l2 (emit (.pcieMessage n code) d) hm) :).trans h

theorem turnOff_out : .pcieMessage n code :: d.out <:+ (turnOff code d n).out := pcieDown_out n .l2 (emit (.pcieMessage n code) d)

theorem turnOff_ports : (turnOff code d n).ports = d.ports := pcieDown_ports n .l2 (emit (.pcieMessage n code) d)

end

/-- Every port of the list is in L2/L3 Ready and has been sent the message, and the ports stay. -/
theorem foldl_turnOff (code : Nat) (l : List Nat) (d : Device) :
    (∀ m, m ∈ l ∨ (d.pci m).lstate = .l2 → ((l.foldl (turnOff code) d).pci m).lstate = .l2) ∧
    (∀ o, o ∈ d.out ∨ (∃ m ∈ l, o = .pcieMessage m code) → o ∈ (l.foldl (turnOff code) d).out) ∧
    (l.foldl (turnOff code) d).ports = d.ports := by
  induction l generalizing d with
  | nil => simp
  | cons n l ih =>
    obtain ⟨hstate, hout, hports⟩ := ih (turnOff code d n)
    have hsent := turnOff_out code d n
    refine ⟨fun m hm => hstate m ?_, fun o ho => hout o ?_, hports.trans (turnOff_ports code d n)⟩
    · rcases hm with hm | hm
      · rcases List.mem_cons.1 hm with rfl | hm
        · exact .inr (turnOff_pci code d m).1
        · exact .inl hm
      · exact .inr (turnOff_lstate code d n hm)
    · rcases ho with ho | ⟨m, hm, rfl⟩
      · exact .inl (hsent.subset (List.mem_cons_of_mem _ ho))
      · rcases List.mem_cons.1 hm with rfl | hm
        · exact .inl (hsent.subset List.mem_cons_self)
        · exact .inr ⟨m, hm, rfl⟩

/-- R319: what wakes a host concerns WAKE_N_OUT of its port alone. -/
theorem updateWake_frame (p : Nat) (d : Device) : ∃ x, updateWake p d = { d with pcie := x } ∧
    ∀ m, ∃ w, (updateWake p d).pci m = { d.pci m with wakeOut := w } := by
  unfold updateWake
  split
  · exact ⟨d.pcie, rfl, fun m => ⟨(d.pci m).wakeOut, rfl⟩⟩
  · next u hu =>
    refine ⟨_, rfl, fun m => ?_⟩
    by_cases hm : m = u
    · rw [hm]
      exact ⟨_, pci_setPci d u _⟩
    · exact ⟨(d.pci m).wakeOut, pci_setPci_other d _ hm⟩

theorem pmeTurnOff_up {p u : Nat} {d : Device} (husp : uspOf p d = some u) (hup : linkUp u d = true) :
    pmeTurnOff p d = updateWake p (turnOff 0x1B ((broadcastPorts p d).foldl (turnOff 0x19) d) u) := by
  simp only [pmeTurnOff, husp, hup, if_true]
  rfl

/-! ## DPC (R321, R554) -/

/-- What a write left at a port, after the interrupt outputs. -/
theorem pci_setPci_told (d : Device) (n : Nat) (x : Pcie) (o m g) :
    ({ d.setPci n x with issued := o, msix := m, glb := g } : Device).pci n = x := pci_setPci d n x

theorem dpcTrigger_dsp {n : Nat} (reason : Nat) {d : Device} (hdsp : (d.port n).personality = .dsp) (hdpc : (d.pci n).dpc = false) :
    dpcTrigger n reason d = portRaise n 8 (pcieDown n .dpc (d.setPci n { d.pci n with dpc := true, dpcReason := reason })) :=
  if_pos ⟨hdsp, hdpc⟩

theorem pcieStart_lstate {n : Nat} {d : Device} (hdsp : (d.port n).personality = .dsp) (hdpc : (d.pci n).dpc = false)
    (hen : (d.port n).enabled = true) : pcieStart n d = d.setPci n { d.pci n with
      lstate := if bitOf (d.bridge (portKey n d)).linkControl 4 = true then .disabled else .detect } := by
  have hkey : bridgeKey (d.port n).holder (if (d.port n).holder = 0 then n else (d.port n).bridge.getD 0) = portKey n d := rfl
  simp [pcieStart, hdsp, hdpc, hen, hkey]

theorem endDpc_dpc {n : Nat} {d : Device} (hdpc : (d.pci n).dpc = true) :
    endDpc n d = pcieStart n (d.setPci n { d.pci n with dpc := false, dpcReason := 0 }) := if_pos hdpc

theorem endDpc_none {n : Nat} {d : Device} (hdpc : (d.pci n).dpc = false) : endDpc n d = d := if_neg (ne_true_of_eq_false hdpc)

/-- Settles O30: each row acts on its own port, and what the fall of a link changes of the others is credit. -/
theorem pcieErrorsAndPower : Obligations.PcieErrorsAndPower := by
  intro s n p reason off t0
  refine ⟨fun htracks hopen hport hn hdsp hfn hwindow hfab => ⟨fun hdue => ?timeout,
      fun hearly => done_becomes rfl (cplTimeout_early htracks hopen hport hearly)⟩, fun htracks => done_becomes rfl ?noTrack,
    fun husp hup => ?turnOff, fun husp hdown => done_becomes rfl ?down, fun husp => done_becomes rfl ?noUsp,
    fun husp hptm hup hdue => done_becomes rfl (if_pos ⟨husp, hptm, hup, hdue⟩), fun h => done_becomes rfl (if_neg ?noDialog),
    fun husp hl0 hlink hrest hitems hinside => done_becomes rfl (if_pos ⟨husp, hl0, hlink, ?rest, ?inside, hinside⟩),
    fun h => done_becomes rfl (if_neg ?noL1), fun hn hdsp hdpc => ?trigger, fun hdsp hdpc => done_becomes rfl ?already,
    fun hn hport => done_becomes rfl ?stray, fun hdsp hdpc hen => ?release, fun hdpc => done_becomes rfl ?noDpc⟩
  case timeout =>
    obtain ⟨x, k, c, l, hcount, hsynth⟩ := synthTrack_plain s.dev.glb.fid n (d := cplTimedOut n s.dev) hfn hwindow hfab
    have hrow := (cplTimeout_due htracks hopen hport hn hdsp hdue).trans hsynth
    refine done_gives_framed rfl hrow fun _ _ _ => ⟨?_, List.mem_cons_self, ?_, hcount, rfl, rfl⟩
    · show List.map _ s.dev.tracks = _
      rw [htracks, List.map_singleton, answeredTrack, if_pos rfl]
    · exact congrArg Pcie.cplTimeouts (pci_setPci s.dev n _)
  case turnOff =>
    obtain ⟨hstate, hout, hports⟩ := foldl_turnOff 0x19 (broadcastPorts p s.dev) s.dev
    have hrow := pmeTurnOff_up husp hup
    generalize (broadcastPorts p s.dev).foldl (turnOff 0x19) s.dev = e at hstate hout hports hrow
    have hself := turnOff_pci 0x1B e n
    have hkept (m : Nat) := turnOff_lstate 0x1B e n (m := m)
    have hsent := turnOff_out 0x1B e n
    have hports' := turnOff_ports 0x1B e n
    generalize turnOff 0x1B e n = f at hrow hself hkept hsent hports'
    obtain ⟨x, hwake, hpci⟩ := updateWake_frame p f
    have hlstate (m : Nat) : (tget pcieReset x m).lstate = (f.pci m).lstate ∧ (tget pcieReset x m).pmeAck = (f.pci m).pmeAck := by
      obtain ⟨w, hw⟩ := hpci m
      rw [hwake] at hw
      exact ⟨(congrArg Pcie.lstate hw :), (congrArg Pcie.pmeAck hw :)⟩
    refine done_gives_framed rfl (hrow.trans hwake) fun _ _ _ => ⟨(hlstate n).1.trans hself.1, (hlstate n).2.trans hself.2,
      hsent.subset List.mem_cons_self, hports'.trans hports, fun m hm => ⟨(hlstate m).1.trans (hkept m (hstate m (.inl hm))), ?_⟩⟩
    exact hsent.subset (List.mem_cons_of_mem _ (hout _ (.inr ⟨m, hm, rfl⟩)))
  case trigger =>
    have hrow := dpcTrigger_dsp reason hdsp hdpc
    have hsame := pcieDown_pci_same n .dpc (s.dev.setPci n { s.dev.pci n with dpc := true, dpcReason := reason })
    have hnone := pcieDown_none (d := s.dev.setPci n { s.dev.pci n with dpc := true, dpcReason := reason }) hn hdsp (st := .dpc) rfl
    have hstate := pcieDown_lstate n .dpc (s.dev.setPci n { s.dev.pci n with dpc := true, dpcReason := reason })
    have hports := pcieDown_ports n .dpc (s.dev.setPci n { s.dev.pci n with dpc := true, dpcReason := reason })
    rw [pci_setPci] at hsame
    generalize pcieDown n .dpc _ = e at hrow hsame hnone hstate hports
    refine done_gives_framed rfl ((if_pos hn).trans hrow) fun o m l => ?_
    rw [portRaise, pci_setPci_told]
    refine ⟨(congrArg Pcie.dpc hsame :), (congrArg Pcie.dpcReason hsame :), hstate, ?_, hnone, hports⟩
    exact (BitVec.getLsbD_or ..).trans (Bool.or_eq_true_iff.2 (.inr rfl))
  case release =>
    have hdpc' : ((s.dev.setPci n { s.dev.pci n with dpc := false, dpcReason := 0 }).pci n).dpc = false := by rw [pci_setPci]
    have hrow := (endDpc_dpc hdpc).trans (pcieStart_lstate (d := s.dev.setPci n { s.dev.pci n with dpc := false, dpcReason := 0 }) hdsp hdpc' hen)
    rw [pci_setPci] at hrow
    refine done_gives_framed rfl ((if_pos hdsp).trans hrow) fun o m l => ?_
    rw [pci_setPci_told]
    exact ⟨rfl, rfl, rfl, rfl, rfl⟩
  case noTrack => simp [cplTimeout, htracks]
  case down => simp [pmeTurnOff, husp, hdown]
  case noUsp => simp [pmeTurnOff, husp]
  case noDialog => 
    rintro ⟨-, hptm, -, hdue⟩
    rcases h with h | h
    · exact Bool.noConfusion (h.symm.trans hptm)
    · exact Bool.noConfusion (h.symm.trans hdue)
  case rest =>
    refine List.all_eq_true.2 fun m hm => ?_
    obtain ⟨hm, hdsp⟩ := List.mem_filter.1 hm
    exact hrest m hm (of_decide_eq_true hdsp)
  case inside => exact List.any_eq_false.2 fun i hi => by simpa using hitems i hi
  case noL1 =>
    rintro ⟨-, hl0, -, -, -, hinside⟩
    rcases h with h | h
    · exact h hl0
    · exact absurd hinside (Nat.not_le.2 h)
  case already =>
    split
    · exact (if_neg (by simp [hdpc])).trans (if_pos hdsp)
    · rfl
  case stray =>
    rw [if_pos hn]
    exact (if_neg fun h => hport h.1).trans ((if_neg hport).trans (if_pos hn))
  case noDpc =>
    split
    · exact endDpc_none hdpc
    · rfl

end Sys2Proof.Machine
end

section
/-! Faults, the canary and the throttle (chapter 16, R541, R542). -/

namespace Sys2Proof.Machine

/-! ## A descriptor whose item has the number of the next one -/

/-- R439: the read of an RMA slice is answered by an item of the slice's own, which takes the next number. -/
theorem descriptorEcc_sliceDspState : (descriptorEcc 0 true sliceDspState.dev).items.map (·.id) = [0] := by
  decide +kernel

/-- Refutes O34: its clause on an identified descriptor has no item of that number remain. It does not ask that the number be one
given before; where it is the next to be given, the synthetic completion takes it. -/
theorem not_faultsAreContained : ¬ Obligations.FaultsAreContained := by
  intro h
  obtain ⟨-, -, -, -, -, hdescriptor, -⟩ := h sliceDspState 0 0 0 0 0 0 0 false
  obtain ⟨t, ht, -, hgone, -⟩ := hdescriptor sliceRead rfl
  have hrow : exec (.descriptorEccError 0 true) sliceDspState = done sliceDspState (descriptorEcc 0 true sliceDspState.dev) := rfl
  obtain ⟨o, m, l, hn⟩ := notify_frame sliceDspState.dev (descriptorEcc 0 true sliceDspState.dev)
  rw [hrow, done, hn] at ht
  cases ht
  have hstays : 0 ∈ (descriptorEcc 0 true sliceDspState.dev).items.map (·.id) := by
    rw [descriptorEcc_sliceDspState]
    exact List.mem_singleton_self _
  obtain ⟨i, hi, hid⟩ := List.mem_map.1 hstays
  exact hgone i hi hid

/-! ## The canary (R447 to R449) -/

theorem maxOf_cons (a : Nat) (l : List Nat) : maxOf (a :: l) = max a (maxOf l) := by
  have h (l : List Nat) (b : Nat) : l.foldl max b = max b (maxOf l) := by
    unfold maxOf
    induction l generalizing b with
    | nil => simp
    | cons c l ih => rw [List.foldl_cons, List.foldl_cons, ih, ih (max 0 c)]; omega
  rw [maxOf, List.foldl_cons, h]
  omega

theorem le_maxOf {a : Nat} {l : List Nat} (h : a ∈ l) : a ≤ maxOf l := by
  induction l with
  | nil => cases h
  | cons b l ih =>
    rw [maxOf_cons]
    rcases List.mem_cons.1 h with rfl | h
    · exact Nat.le_max_left _ _
    · exact (ih h).trans (Nat.le_max_right _ _)

theorem maxOf_le {l : List Nat} {b : Nat} (h : ∀ a ∈ l, a ≤ b) : maxOf l ≤ b := by
  induction l with
  | nil => exact Nat.zero_le b
  | cons a l ih =>
    rw [maxOf_cons]
    exact Nat.max_le.2 ⟨h a List.mem_cons_self, ih fun x hx => h x (List.mem_cons_of_mem _ hx)⟩

/-- Table 16.6: an input's grade is 0 to 3. -/
theorem gradeSpares_le (d : Device) : gradeSpares d ≤ 3 := by
  refine maxOf_le fun a ha => ?_
  obtain ⟨m, -, rfl⟩ := List.mem_map.1 ha
  extract_lets x
  split_ifs <;> decide

theorem gradeShafts_le (d : Device) : gradeShafts d ≤ 3 := by
  refine maxOf_le fun a ha => ?_
  obtain ⟨m, -, rfl⟩ := List.mem_map.1 ha
  extract_lets x
  split_ifs <;> decide

theorem gradeEcc_le (log : List (Nat × Nat)) (now : Nat) (baseline : Bool) : gradeEcc log now baseline ≤ 3 := by
  unfold gradeEcc
  extract_lets within recent before
  split_ifs <;> decide

theorem maxOf_canaryGrades_le (x : CanarySample) (d : Device) : maxOf (canaryGrades x d) ≤ 3 := by
  unfold canaryGrades
  extract_lets b lastHour links restarts fatal absent
  refine maxOf_le ?_
  simp only [List.forall_mem_cons]
  refine ⟨gradeEcc_le _ _ _, gradeSpares_le d, gradeShafts_le d, Nat.le_succ_of_le (Nat.le_succ_of_le (by cases links <;> decide)), ?_⟩
  refine ⟨?_, ?_, ?_, ?_, ?_, ?_⟩ <;> split_ifs <;> decide

theorem wear_mem_canaryGrades {x : CanarySample} (d : Device) (h : 950 ≤ x.wear) : 3 ∈ canaryGrades x d := by
  simp [canaryGrades, h]

/-- A record concerns the ring, its numbers and the throttle of its kind. -/
theorem blackBoxRecord_ring (k o c : Nat) (l : List Nat) (d : Device) : ∃ n t u b, blackBoxRecord k o c l d =
    { d with can := { d.can with nextSeq := n, kindAt := t, suppressed := u }, blackBox := b } := by
  unfold blackBoxRecord
  simp only
  split
  · exact ⟨d.can.nextSeq, d.can.kindAt, _, d.blackBox, rfl⟩
  · exact ⟨_, _, _, _, rfl⟩

/-- R447: a change of grade is the grade, its interrupt, and its record. -/
theorem setGrade_can (g i : Nat) (d : Device) : ∃ n t u v b, setGrade g i d =
    { d with can := { d.can with grade := g, nextSeq := n, kindAt := t, suppressed := u, intStatus := v }, blackBox := b } := by
  unfold setGrade
  simp only
  split
  · next h =>
    subst h
    exact ⟨_, _, _, _, _, rfl⟩
  · obtain ⟨n, t, u, b, h⟩ := blackBoxRecord_ring 1 0 i [] { d with can := { d.can with grade := g } }
    rw [h]
    exact ⟨n, t, u, _, b, rfl⟩

section
variable (x : CanarySample) (d : Device)

/-- What the canary has logged of a sample, before it grades (R447, R448). -/
def canarySampled : Can :=
  { d.can with
    firstEval := some (d.can.firstEval.getD d.now), baseline := d.can.baseline || decide (d.can.firstEval = none)
    eccLog := ((d.now, x.corrected) :: d.can.eccLog).filter fun e => decide (e.2 ≠ 0) && decide (d.now < e.1 + 2 * hourNs)
    eccCorr := satAdd 0xFFFFFFFF d.can.eccCorr x.corrected, mramWear := x.wear, mramRetired := x.mramRetired, tjLast := x.tj
    linkEvents := d.can.linkEvents.filter fun e => decide (d.now < e.2 + hourNs) }

/-- The grades of the inputs at an evaluation. -/
def canaryGraded : List Nat := canaryGrades x { ranNow .canary d with can := canarySampled x d }

variable {x d}

theorem canaryEvaluation_idle (h : d.devTime.toNat % 100000000 ≠ 0 ∨ isDue .canary 1 d = false) : canaryEvaluation x d = d := by
  refine if_neg fun ⟨_, hwhole, hdue⟩ => ?_
  rcases h with h | h
  · exact h hwhole
  · exact Bool.noConfusion (h.symm.trans hdue)

theorem canaryGrades_counted (x : CanarySample) (d : Device) (k : Tbl Counter) (y : Cnt) :
    canaryGrades x { d with counters := k, cnt := y } = canaryGrades x d := rfl

/-- R447: an evaluation stores the grades of the inputs, and the grade that follows from the highest. -/
theorem canaryEvaluation_due (hlock : d.clk.mainLock = true) (hwhole : d.devTime.toNat % 100000000 = 0) (hdue : isDue .canary 1 d = true) :
    ∃ c k y b b₁ b₂, canaryEvaluation x d = { ranNow .canary d with can := c, counters := k, cnt := y, blackBox := b } ∧
      c.grades = canaryGraded x d ∧ c.grade = nextGrade d.can.grade (maxOf (canaryGraded x d)) d.now b₁ b₂ ∧
      c.eccCorr = satAdd 0xFFFFFFFF d.can.eccCorr x.corrected ∧ c.mramWear = x.wear ∧ c.repl = (d.can.repl || decide (c.grade = 3)) := by
  unfold canaryEvaluation
  rw [if_pos ⟨hlock, hwhole, hdue⟩]
  extract_lets d₁ c first log c' d₂ d₃ gs top b₁ b₂ _ d₄ d₅
  obtain ⟨k, y, h₃⟩ : ∃ k y, d₃ = { d₂ with counters := k, cnt := y } := by
    unfold d₃
    split
    · exact ⟨_, _, rfl⟩
    · exact countGlobal_frame _ _ _ _
  have hgs : gs = canaryGraded x d := by
    unfold gs
    rw [h₃, canaryGrades_counted]
    rfl
  obtain ⟨n, t, u, v, b, h₅⟩ : ∃ n t u v b, d₅ = _ := setGrade_can _ _ _
  refine ⟨{ d₅.can with repl := d₅.can.repl || decide (d₅.can.grade = 3) }, k, y, b, b₁, b₂, ?_⟩
  rw [← hgs, ← show top = maxOf gs from rfl]
  clear_value d₅ b₁ b₂ top gs
  subst h₅
  clear_value d₃
  subst h₃
  exact ⟨rfl, rfl, rfl, rfl, rfl, rfl⟩

end

/-- R447: a grade that is not below the highest follows it. -/
theorem nextGrade_rises {old highest : Nat} (now : Nat) (b₁ b₂ : Option Nat) (h : old ≤ highest) : nextGrade old highest now b₁ b₂ = highest :=
  if_pos h

theorem nextGrade_three {highest : Nat} (now : Nat) (b₁ b₂ : Option Nat) (h : highest ≤ 3) : nextGrade 3 highest now b₁ b₂ = 3 := by
  unfold nextGrade
  extract_lets expired
  split
  · omega
  · exact if_pos rfl

/-! ## Throttling (R541, R542) -/

section
variable {tj power hot now : Nat} {t : Throttle}

variable (tj power hot now t) in
/-- What an update has measured, before it changes N. -/
def throttleSampled : Throttle :=
  { t with temp := decide (112 ≤ tj), power := decide (2850 < power), pkgPower := min power 0xFFF, tjMax := min tj 0xFF
           hotDie := hot % 8, updatedAt := now }

theorem throttleUpdate_rise (h : t.emergency = false) (hrise : 112 ≤ tj ∨ 2850 < power) : throttleUpdate tj power hot t now =
    if t.level < 12 then { throttleSampled tj power hot now t with
      level := t.level + 1, entries := if t.level = 0 then satAdd 0xFFFF t.entries 1 else t.entries }
    else throttleSampled tj power hot now t := by
  have hrise' : (decide (112 ≤ tj) || decide (2850 < power)) = true := by simpa using hrise
  exact (if_neg (ne_true_of_eq_false h)).trans (if_pos hrise')

theorem throttleUpdate_calm (h : t.emergency = false) (hcalm : ¬(112 ≤ tj ∨ 2850 < power)) : throttleUpdate tj power hot t now =
    if tj ≤ 108 ∧ power ≤ 2750 then { throttleSampled tj power hot now t with level := t.level - 1 }
    else throttleSampled tj power hot now t := by
  have hcalm' : ¬(decide (112 ≤ tj) || decide (2850 < power)) = true := by simpa using hcalm
  refine (if_neg (ne_true_of_eq_false h)).trans ((if_neg hcalm').trans ?_)
  by_cases hfall : tj ≤ 108 ∧ power ≤ 2750
  · exact (if_pos (by simpa using hfall)).trans (if_pos hfall).symm
  · exact (if_neg (by simpa using hfall)).trans (if_neg hfall).symm

theorem throttleUpdate_sampled (h : t.emergency = false) : (throttleUpdate tj power hot t now).emergency = false ∧
    (throttleUpdate tj power hot t now).updatedAt = now ∧ (throttleUpdate tj power hot t now).tjMax = min tj 0xFF := by
  by_cases hrise : 112 ≤ tj ∨ 2850 < power
  · rw [throttleUpdate_rise h hrise]
    split <;> exact ⟨h, rfl, rfl⟩
  · rw [throttleUpdate_calm h hrise]
    split <;> exact ⟨h, rfl, rfl⟩

theorem throttleUpdate_emergency (h : t.emergency = true) : (throttleUpdate tj power hot t now).level = (if tj ≤ 115 then 12 else t.level) ∧
    (throttleUpdate tj power hot t now).emergency = decide (115 < tj) := by
  have hrow : throttleUpdate tj power hot t now = if tj ≤ 115 then { throttleSampled tj power hot now t with level := 12, emergency := false }
      else throttleSampled tj power hot now t := if_pos h
  rw [hrow]
  split
  · exact ⟨rfl, (decide_eq_false (by omega)).symm⟩
  · exact ⟨rfl, h.trans (decide_eq_true (by omega)).symm⟩

end

/-- Settles O33: no grade is above 3, so the highest input is the grade wherever it is not below it; the throttle's update is one of rise,
fall and stay. -/
theorem canaryAndThrottle : Obligations.CanaryAndThrottle := by
  intro s x tj power hot
  refine ⟨fun hlock hwhole hdue => ?evaluation, fun h => done_becomes rfl (canaryEvaluation_idle h),
    fun t0 hfirst => ⟨fun hpast => ?ends, fun hearly => ?lasts⟩,
    fun hnone => done_becomes rfl ?unopened, fun hdue hcalm => ?update, fun hdue hemergency => ?emergency,
    fun hearly => done_becomes rfl (if_neg (Nat.not_le.2 hearly)), fun hhot => ?thermal,
    fun hcool => done_becomes rfl (if_neg (Nat.not_le.2 hcool))⟩
  case evaluation =>
    obtain ⟨c, k, y, b, b₁, b₂, hrow, hgrades, hgrade, hcorr, hwear, hrepl⟩ := canaryEvaluation_due (x := x) hlock hwhole hdue
    have htop : maxOf (canaryGraded x s.dev) ≤ 3 := maxOf_canaryGrades_le x _
    refine done_gives_framed rfl hrow fun _ _ _ => ⟨congrArg List.length hgrades, fun hle => ?_, fun hthree => ?_, hcorr, hwear,
      fun hworn hle => ?_, rfl, rfl⟩
    · show c.grade = maxOf c.grades
      rw [hgrades] at hle ⊢
      rw [hgrade, nextGrade_rises _ _ _ hle]
    · show c.grade = 3
      rw [hgrade, hthree, nextGrade_three _ _ _ htop]
    · have hthree : maxOf (canaryGraded x s.dev) = 3 := Nat.le_antisymm htop (le_maxOf (wear_mem_canaryGrades _ hworn))
      have hgrade' : c.grade = 3 := by rw [hgrade, hthree, nextGrade_rises _ _ _ hle]
      exact ⟨hgrade', by rw [hrepl, hgrade']; exact Bool.or_true _⟩
  case ends => 
    have hpast' : decide (t0 + 10 * secNs ≤ s.dev.now) = true := decide_eq_true hpast
    exact done_becomes rfl (by rw [hfirst]; exact if_pos hpast')
  case lasts =>
    have hearly' : ¬decide (t0 + 10 * secNs ≤ s.dev.now) = true := ne_true_of_eq_false (decide_eq_false (Nat.not_le.2 hearly))
    exact done_becomes rfl (by rw [hfirst]; exact if_neg hearly')
  case unopened => rw [hnone]; rfl
  case update =>
    have hsampled := throttleUpdate_sampled (tj := tj) (power := power) (hot := hot) (now := s.dev.now) hcalm
    obtain ⟨hemergency, hat, htj⟩ := hsampled
    refine done_gives_framed rfl (if_pos hdue) fun _ _ _ =>
      ⟨fun hrise => ?_, fun htj hpower => ?_, fun hlow hhigh hpower => ?_, hemergency, hat, htj, rfl⟩
    · show (throttleUpdate _ _ _ _ _).level = _
      rw [throttleUpdate_rise hcalm hrise]
      split
      · show s.dev.throttle.level + 1 = _
        omega
      · show s.dev.throttle.level = _
        omega
    · show (throttleUpdate _ _ _ _ _).level = _
      rw [throttleUpdate_calm hcalm (by omega), if_pos ⟨htj, hpower⟩]
    · show (throttleUpdate _ _ _ _ _).level = _
      rw [throttleUpdate_calm hcalm (by omega), if_neg (by omega)]
      rfl
  case emergency => exact done_gives_framed rfl (if_pos hdue) fun _ _ _ => throttleUpdate_emergency hemergency
  case thermal => exact done_gives_framed rfl (if_pos hhot) fun _ _ _ => ⟨rfl, rfl, rfl, rfl⟩

end Sys2Proof.Machine
end

section
/-! LANE_TEST and CHAN_MEASURE (R350 to R355). -/

namespace Sys2Proof.Machine

/-! ## LANE_TEST -/

/-- What an operation of LANE_TEST does on lanes `ks` of port `n`, once its checks pass (R353, R355). -/
def laneOperation (n : Nat) (p : List Byte) (ks : List Nat) (d : Device) : Device × Option Ans :=
  let all := fun (f : Lane → Lane) => ks.foldl (fun d k => d.setLane k (f (d.lane k))) d
  if u8 p 0 = 0 then (ks.foldl (fun d k => laneStop k d) d, some (ansOk []))
  else if u8 p 0 = 1 then (ks.foldl (laneStart p) d, some (ansOk []))
  else if u8 p 0 = 2 then
    (d, some (ansOk (natLe 8 d.devTime.toNat ++ ((portLanes n d).map fun k => laneRead (d.lane k)).flatten)))
  else if u8 p 0 = 3 then (all laneCleared, some (ansOk []))
  else if u8 p 0 = 4 then (all (laneInject (u16 p 8)), some (ansOk []))
  else (all (fun x => { x with eyeBusy := true, eyeDone := false, eyeTarget := u8 p 8 }), some (ansOk []))

/-- The packet of an operation: OP, RATE, the lanes, PATTERN, LOOPBACK, PRESET, FLAGS, and ARG (Table 12.13). -/
def laneParams (op rate : Byte) (mask : Nat) (pattern loop preset flags : Byte) (arg : Nat) : List Byte :=
  [op, rate] ++ natLe 2 mask ++ [pattern, loop, preset, flags] ++ natLe 8 arg

section
variable {c : Cmd} {d : Device} {op rate pattern loop preset flags : Byte} {mask arg k : Nat}
  (hparams : c.params = laneParams op rate mask pattern loop preset flags arg)
include hparams

theorem laneParams_u8 : u8 c.params 0 = op.toNat ∧ u8 c.params 1 = rate.toNat ∧ u8 c.params 4 = pattern.toNat ∧ u8 c.params 5 = loop.toNat ∧
    u8 c.params 6 = preset.toNat ∧ u8 c.params 7 = flags.toNat := by
  rw [hparams]
  exact ⟨rfl, rfl, rfl, rfl, rfl, rfl⟩

theorem laneParams_mask (hmask : mask < 2 ^ 16) : u16 c.params 2 = mask := by
  rw [hparams]
  exact leNat_natLe_two hmask

theorem laneParams_arg (harg : arg < 2 ^ 64) : u64 c.params 8 = arg := by
  rw [hparams]
  exact leNat_natLe_eight harg

theorem laneTest_runs (hport : portExists c.target.toNat d = true) (hparam0 : c.param0 = 0)
    (hdiag : (d.port c.target.toNat).personality = .diag) (hmask : mask < 2 ^ (d.port c.target.toNat).width) (hmask' : mask < 2 ^ 16)
    (hk : namedLanes c.target.toNat mask d = [k]) 
    (hbytes : op.toNat ≤ 5 ∧ (rate.toNat ≤ 7 ∧ (op.toNat = 1 → rate.toNat ≠ 0)) ∧ pattern.toNat ≤ 4 ∧ loop.toNat ≤ 3 ∧
      (preset.toNat ≤ 10 ∨ preset.toNat = 16) ∧ flags.toNat < 8)
    (harg : argOk c.params = true) (hgen : op.toNat ≠ 4 ∨ (d.lane k).genOn = true) :
    laneTest c d = laneOperation c.target.toNat c.params [k] d := by
  obtain ⟨h0, h1, h4, h5, h6, h7⟩ := laneParams_u8 hparams
  have h2 := laneParams_mask hparams hmask'
  have hlen : c.params.length = 16 := by rw [hparams]; rfl
  have hheader : portHeader c d = none := portHeader_eq_none.2 ⟨hport, hparam0⟩
  have hks : namedLanes c.target.toNat (u16 c.params 2) d = [k] := by rw [h2, hk]
  obtain ⟨hop, hrate, hpattern, hloop, hpreset, hflags⟩ := hbytes
  have hranges : ¬8 < pattern.toNat ∧ ¬pattern.toNat = 5 ∧ ¬pattern.toNat = 6 ∧ ¬5 < op.toNat ∧ ¬7 < rate.toNat ∧ ¬3 < loop.toNat ∧
      ¬8 ≤ flags.toNat ∧ ¬2 ^ (d.port c.target.toNat).width ≤ mask := by omega
  obtain ⟨hp8, hp5, hp6, hop', hrate', hloop', hflags', hmask''⟩ := hranges
  have hpreset' : (decide (10 < preset.toNat) && !(decide (16 ≤ preset.toNat) && decide (preset.toNat ≤ 23))) = false := by
    rcases hpreset with h | h
    · simp [Nat.not_lt.2 h]
    · simp [h]
  have hrate1 : (decide (op.toNat = 1) && decide (rate.toNat = 0)) = false := by simpa using hrate.2
  have hgen' : (decide (op.toNat = 4) && [k].any fun j => !(d.lane j).genOn) = false := by
    rcases hgen with h | h <;> simp [h]
  dsimp only [laneTest]
  rw [checked_pass ?checks]
  case checks =>
    rw [hks]
    simp only [failIf, hlen, hheader, h0, h1, h2, h4, h5, h6, h7, hp8, hp5, hp6, hop', hrate', hloop', hflags', hmask'', hpreset', hrate1, hgen',
      harg, hdiag]
    simp [firstFail]
  · rw [hks]
    rfl

end

section
variable {k : Nat} {d : Device} (n : Nat) {p : List Byte}

theorem laneOperation_stop (h0 : u8 p 0 = 0) : laneOperation n p [k] d = (laneStop k d, some (ansOk [])) := if_pos h0

theorem laneOperation_start (h0 : u8 p 0 = 1) : laneOperation n p [k] d = (laneStart p d k, some (ansOk [])) := by
  simp [laneOperation, h0]

theorem laneOperation_read (h0 : u8 p 0 = 2) : laneOperation n p [k] d =
    (d, some (ansOk (natLe 8 d.devTime.toNat ++ ((portLanes n d).map fun j => laneRead (d.lane j)).flatten))) := by
  simp [laneOperation, h0]

theorem laneOperation_clear (h0 : u8 p 0 = 3) : laneOperation n p [k] d = (d.setLane k (laneCleared (d.lane k)), some (ansOk [])) := by
  simp [laneOperation, h0]

theorem laneOperation_inject (h0 : u8 p 0 = 4) :
    laneOperation n p [k] d = (d.setLane k (laneInject (u16 p 8) (d.lane k)), some (ansOk [])) := by
  simp [laneOperation, h0]

theorem laneOperation_eye (h0 : u8 p 0 = 5) : laneOperation n p [k] d =
    (d.setLane k { d.lane k with eyeBusy := true, eyeDone := false, eyeTarget := u8 p 8 }, some (ansOk [])) := by
  simp [laneOperation, h0]

end

/-- R355: a lane whose pattern comes back to it locked counts its own errors. -/
theorem laneInject_counts {count : Nat} {x : Lane} (hlocked : x.locked = true) (hloop : x.loopback = 1) :
    laneInject count x = { x with inject := count, errors := min (2 ^ 48 - 1) (x.errors + count) } := by
  have hcounted : (x.locked && (decide (x.loopback = 1) || decide (x.loopback = 2))) = true := by simp [hlocked, hloop]
  rw [laneInject, hcounted, if_pos rfl]

/-- A lane that is written as in test twice holds the second write (R353). -/
theorem setLane_setLane_inTest {k : Nat} {x y : Lane} (d : Device) (hx : x.inTest = true) (hy : y.inTest = true) :
    (d.setLane k x).setLane k y = d.setLane k y := by
  have hne {z : Lane} (hz : z.inTest = true) : z ≠ laneReset := fun h => by rw [h] at hz; cases hz
  simp only [Device.setLane, tset, hne hx, hne hy, if_false, tinsert_tinsert]

/-- R353, R355: START puts the pattern, the loopback and the preset in force, with the counters at 0. -/
theorem laneStart_prbs {p : List Byte} {k : Nat} (d : Device) (h1 : u8 p 1 = 5) (h4 : u8 p 4 = 2) (h5 : u8 p 5 = 0) (h6 : u8 p 6 = 16)
    (h7 : u8 p 7 = 0) (h8 : u64 p 8 = 0) : laneStart p d k = d.setLane k { d.lane k with
      rate := 5, pattern := 2, userPattern := 0, loopback := 0, genOn := true, chkOn := true, noGray := false, inTest := true
      locked := false, eyeBusy := false, inject := 0, txIdle := false, preset := 16, pre := 0, post := 0, bits := 0, errors := 0
      lockLosses := 0 } := by
  have hpreset (e : Device) : setPreset k 16 e = e.setLane k { e.lane k with preset := 16, pre := 0, post := 0 } := rfl
  have hbits : bitOf 0 0 = false ∧ bitOf 0 1 = false ∧ bitOf 0 2 = false := ⟨rfl, rfl, rfl⟩
  obtain ⟨hb0, hb1, hb2⟩ := hbits
  simp only [laneStart, h1, h4, h5, h6, h7, h8, hpreset, lane_setLane, hb0, hb1, hb2]
  exact setLane_setLane_inTest d rfl rfl

/-! ## CHAN_MEASURE -/

/-- What CHAN_MEASURE of lanes `ks` does once its checks pass, when it keeps no class and no record is to go (R351). -/
def chanRuns (c : Cmd) (cls : Nat) (ks : List Nat) (d : Device) : Device × Option Ans :=
  let sts := ks.map fun k => (k, chanStatus k d)
  let e := ks.foldl (chanLane cls false) d
  if ks.length ≤ 16 then (e, some (ansOk ((sts.map fun x => chanRow x.2 (e.lane x.1)).flatten)))
  else (setReported 0x0206 c (sts.filter fun x => x.2 = 0).length (acceptLong 0x0206 c e), none)

theorem chanMeasure_runs {c : Cmd} {k count : Nat} {cls : Byte} (hheader : NoTarget c)
    (hparams : c.params = natLe 2 k ++ natLe 2 count ++ [cls, 0, 0, 0]) (hk : k + count ≤ 384) (hcount : count ≠ 0) (hcls : cls.toNat ≤ 3)
    (d : Device) : chanMeasure c d = chanRuns c cls.toNat ((List.range count).map (k + ·)) d := by
  have hlen : c.params.length = 8 := by rw [hparams]; rfl
  have h0 : u16 c.params 0 = k := by rw [hparams]; exact leNat_natLe_two (by omega)
  have h2 : u16 c.params 2 = count := by rw [hparams]; exact leNat_natLe_two (by omega)
  have h4 : u8 c.params 4 = cls.toNat := by rw [hparams]; rfl
  have h5 : u8 c.params 5 = 0 := by rw [hparams]; rfl
  have hzeros : zeros c.params 6 2 = true := by rw [hparams]; rfl
  have hbits : bitOf 0 0 = false ∧ bitOf 0 1 = false := ⟨rfl, rfl⟩
  obtain ⟨hb0, hb1⟩ := hbits
  have hrange : ¬383 < k ∧ ¬384 < count ∧ ¬3 < cls.toNat ∧ ¬384 < k + count := by omega
  obtain ⟨hk', hcount', hcls', hsum⟩ := hrange
  dsimp only [chanMeasure]
  rw [checked_pass ?checks]
  case checks => simp [firstFail, failIf, hlen, headerZero_none hheader, h0, h2, h4, h5, hzeros, hk', hcount', hcls', hsum, hcount]
  · simp only [chanRuns, h0, h2, h4, h5, hb0, hb1, Bool.false_eq_true, if_false, List.length_map, List.length_range]

section
variable {cls k : Nat} {d : Device}

theorem chanLane_still (h : chanStatus k d ≠ 0) : chanLane cls false d k = d := by
  simp [chanLane, h]

theorem chanLane_measures (h : chanStatus k d = 0) : chanLane cls false d k = measureLane cls d k := by
  simp [chanLane, h]

theorem foldl_chanLane_still {ks : List Nat} (h : ∀ j ∈ ks, chanStatus j d ≠ 0) : ks.foldl (chanLane cls false) d = d := by
  refine List.foldlRecOn ks (chanLane cls false) (motive := fun e : Device => e = d) rfl fun e he j hj => ?_
  rw [he]
  exact chanLane_still (h j hj)

theorem chanRuns_one (c : Cmd) : chanRuns c cls [k] d =
    (chanLane cls false d k, some (ansOk (chanRow (chanStatus k d) ((chanLane cls false d k).lane k)))) := by
  simp [chanRuns]

/-- R351: above 16 lanes the command is LONG, and has measured none where no link carries. -/
theorem chanRuns_long {ks : List Nat} (c : Cmd) (hlong : 16 < ks.length) (h : ∀ j ∈ ks, chanStatus j d ≠ 0) :
    chanRuns c cls ks d = (setReported 0x0206 c 0 (acceptLong 0x0206 c d), none) := by
  have hnone : (ks.map fun j => (j, chanStatus j d)).filter (fun x => x.2 = 0) = [] := by
    refine List.filter_eq_nil_iff.2 fun x hx => ?_
    obtain ⟨j, hj, rfl⟩ := List.mem_map.1 hx
    simpa using h j hj
  simp only [chanRuns, Nat.not_le.2 hlong, if_false, foldl_chanLane_still h, hnone, List.length_nil]

end

/-- R351: CHAN_MEASURE of one lane answers its row, with its STATUS as it stood before. -/
theorem chanMeasure_one {c : Cmd} {k : Nat} (hheader : NoTarget c) (hparams : c.params = natLe 2 k ++ [1, 0, 1, 0, 0, 0]) (hk : k < 384)
    (d : Device) : chanMeasure c d = (chanLane 1 false d k, some (ansOk (chanRow (chanStatus k d) ((chanLane 1 false d k).lane k)))) := by
  have hparams' : c.params = natLe 2 k ++ natLe 2 1 ++ [1, 0, 0, 0] := hparams
  exact (chanMeasure_runs hheader hparams' (by omega) (by decide) (by decide) d).trans (chanRuns_one c)

/-- Settles O22: each operation of LANE_TEST is one change of the named lane, and a lane is measured anew where its link carries. -/
theorem laneCommands : Obligations.LaneCommands := by
  intro s c n k mask
  refine ⟨fun htarget hparam0 hport hdiag hmask hmask' hk hready => ?test,
    fun hheader hready hk hparams => ⟨fun hstill => ?still, fun hlive => ?measured⟩,
    fun hheader hready hparams hstill => ?long⟩
  case test =>
    subst htarget
    have hruns {op rate pattern loop preset flags : Byte} {arg : Nat} (hparams : c.params = laneParams op rate mask pattern loop preset flags arg) :=
      laneTest_runs (d := markBegun 0x0205 c s.dev) hparams hport hparam0 hdiag hmask hmask' hk
    refine ⟨fun hparams => ?stop, fun hparams => ?start, fun hparams => ?read, fun hparams => ?clear, fun hparams hgen hlocked hloop => ?inject,
      fun hparams => ?eye⟩
    case stop =>
      have hlane : c.params = laneParams 0 0 mask 0 0 0 0 0 := hparams
      have hact := hruns hlane (by decide) (by rw [hlane]; rfl) (.inl (by decide))
      exact packet_replies rfl hready (hact.trans (laneOperation_stop _ (laneParams_u8 hlane).1))
    case start =>
      have hlane : c.params = laneParams 1 5 mask 2 0 16 0 0 := hparams
      have hact := hruns hlane (by decide) (by rw [hlane]; rfl) (.inl (by decide))
      obtain ⟨h0, h1, h4, h5, h6, h7⟩ := laneParams_u8 hlane
      have hstart := laneStart_prbs (k := k) (markBegun 0x0205 c s.dev) h1 h4 h5 h6 h7 (laneParams_arg hlane (by decide))
      exact packet_replies rfl hready (hact.trans ((laneOperation_start _ h0).trans (congrArg (·, some (ansOk [])) hstart)))
    case read =>
      have hlane : c.params = laneParams 2 0 mask 0 0 0 0 0 := hparams
      have hact := hruns hlane (by decide) (by rw [hlane]; rfl) (.inl (by decide))
      have hreply := packet_replies (i := .laneTest c) (f := id) rfl hready (hact.trans (laneOperation_read _ (laneParams_u8 hlane).1))
      exact hreply
    case clear =>
      have hlane : c.params = laneParams 3 0 mask 0 0 0 0 0 := hparams
      have hact := hruns hlane (by decide) (by rw [hlane]; rfl) (.inl (by decide))
      exact packet_replies rfl hready (hact.trans (laneOperation_clear _ (laneParams_u8 hlane).1))
    case inject =>
      have hlane : c.params = laneParams 4 0 mask 0 0 0 0 9 := hparams
      have hact := hruns hlane (by decide) (by rw [hlane]; rfl) (.inr hgen)
      have hcount : u16 c.params 8 = 9 := by rw [hlane]; rfl
      have hinject := laneOperation_inject (k := k) (d := markBegun 0x0205 c s.dev) c.target.toNat (laneParams_u8 hlane).1
      rw [hcount, show (markBegun 0x0205 c s.dev).lane k = s.dev.lane k from rfl, laneInject_counts hlocked hloop] at hinject
      exact packet_replies rfl hready (hact.trans hinject)
    case eye =>
      have hlane : c.params = laneParams 5 0 mask 0 0 0 0 7 := hparams
      have hact := hruns hlane (by decide) (by rw [hlane]; rfl) (.inl (by decide))
      have htarget : u8 c.params 8 = 7 := by rw [hlane]; rfl
      have heye := laneOperation_eye (k := k) (d := markBegun 0x0205 c s.dev) c.target.toNat (laneParams_u8 hlane).1
      rw [htarget] at heye
      exact packet_replies rfl hready (hact.trans heye)
  case still =>
    have hruns := (chanMeasure_one hheader hparams hk (markBegun 0x0206 c s.dev)).trans
      (by rw [chanLane_still (d := markBegun 0x0206 c s.dev) hstill])
    have hreply := packet_replies (i := .chanMeasure c) (f := id) rfl hready hruns
    exact hreply
  case measured =>
    have hruns := (chanMeasure_one hheader hparams hk (markBegun 0x0206 c s.dev)).trans
      (by rw [chanLane_measures (d := markBegun 0x0206 c s.dev) hlive])
    refine packet_gives_answered rfl hready hruns fun t ht hstatus => ⟨hstatus, (congrArg Device.freeCount ht :), ?_⟩
    have hlane : t.lane k = (measureLane 1 (markBegun 0x0206 c s.dev) k).lane k := (congrArg (fun e : Device => e.lane k) ht :)
    exact hlane.trans (lane_setLane _ k _)
  case long =>
    have hparams' : c.params = natLe 2 0 ++ natLe 2 17 ++ [0, 0, 0, 0] := hparams
    have hruns := (chanMeasure_runs hheader hparams' (by decide) (by decide) (by decide) (markBegun 0x0206 c s.dev)).trans
      (chanRuns_long c (by simp) fun j hj => ?_)
    · exact packet_starts (f := fun t => setReported 0x0206 c 0 (acceptLong 0x0206 c t)) rfl hready hruns
    · obtain ⟨i, hi, rfl⟩ := List.mem_map.1 hj
      rw [Nat.zero_add]
      exact hstill i (List.mem_range.1 hi)

end Sys2Proof.Machine
end

section
/-! Function-level resets, translations and vectors (chapter 13). -/

namespace Sys2Proof.Machine

/-! ## A function that has sent its NAK already -/

/-- A queue pair of VF 0 in RTS, which has not sent NAK_FAULT. -/
def silencedQp : Qp := { newQp (.vf 0) [] State.reset.dev with state := .rts }

def silencedNak : RmaHdr := ackHdr 0 5 silencedQp.epsn silencedQp State.reset.dev

/-- The very item that the queue pair would send waits already. -/
def nakArrival : Arrival := { port := slicePort 0, tlp := rmaTlp silencedNak, fab := none, rma := some silencedNak, fn := some (.vf 0) }

def silencedState : State :=
  { State.reset with dev := { State.reset.dev with
    funcs := [(fnKey (.vf 0), { funcReset with flr := .silencing })], qps := [(0, silencedQp)], issued := [nakArrival] } }

theorem silence_silencedState : ((flrGroup (.vf 0) silencedState.dev).foldl silence silencedState.dev).issued = [nakArrival] := by
  decide +kernel

/-- Refutes O31: its clause on the silence has nothing of the function wait that waited before. It does not ask that what the queue
pairs send differ from what waited; here NAK_FAULT goes with the rest and is sent again, the same. -/
theorem not_functionLevelReset : ¬ Obligations.FunctionLevelReset := by
  intro h
  obtain ⟨-, -, -, hsilence, -⟩ := h silencedState 0
  obtain ⟨t, ht, -, hissued, -⟩ := hsilence rfl
  have hrow : exec (.flrSilence (.vf 0)) silencedState =
    done silencedState ((flrGroup (.vf 0) silencedState.dev).foldl silence silencedState.dev) := rfl
  obtain ⟨o, m, l, hn⟩ := notify_issues silencedState.dev ((flrGroup (.vf 0) silencedState.dev).foldl silence silencedState.dev)
  rw [hrow, done, hn, silence_silencedState] at ht
  cases ht
  exact hissued nakArrival List.mem_cons_self rfl List.mem_cons_self

/-! ## The translation cache (R366, R368, R369) -/

/-- The entries of a function that an invalidation removes. -/
def invalidated (f : Fn) (page pages : Nat) (d : Device) : List AtsEntry :=
  d.ats.filter fun e => decide (e.fn = f) && overlapsPages e.page e.pages page pages

section
variable {f : Fn} {page pages tag : Nat} {d : Device}

theorem mem_kept {e : AtsEntry} : e ∈ d.ats.filter (fun e => !(invalidated f page pages d).contains e) ↔
    e ∈ d.ats ∧ ¬(e.fn = f ∧ overlapsPages e.page e.pages page pages = true) := by
  simp only [List.mem_filter, Bool.not_eq_true', List.contains_eq_mem, decide_eq_false_iff_not, invalidated, Bool.and_eq_true,
    decide_eq_true_eq]
  exact ⟨fun h => ⟨h.1, fun hgone => h.2 ⟨h.1, hgone⟩⟩, fun h => ⟨h.1, fun hgone => h.2 hgone.2⟩⟩

variable (hf : f ≠ .mgr)
include hf

theorem invalidateRequest_waits (hfull : 32 ≤ d.invals.length) (hidle : (d.func f).flr = .idle) :
    invalidateRequest f page pages tag d = { d with invalWaits := d.invalWaits ++ [(f, page, pages, tag)] } :=
  (if_neg hf).trans (if_pos ⟨hfull, hidle⟩)

theorem invalidateRequest_idle (hroom : d.invals.length < 32) (hidle : (d.func f).flr = .idle) : ∃ waitFor,
    invalidateRequest f page pages tag d = { d with
      ats := d.ats.filter fun e => !(invalidated f page pages d).contains e
      invals := d.invals ++ [{ fn := f, page := page, pages := pages, tag := tag, waitFor := waitFor, gone := invalidated f page pages d }] } :=
  ⟨_, (if_neg hf).trans ((if_neg fun h => Nat.not_le.2 hroom h.1).trans (if_neg fun h => h hidle))⟩

/-- R368, Table 13.5: during an FLR the completion is sent at once. -/
theorem invalidateRequest_flr (hflr : (d.func f).flr ≠ .idle) : invalidateRequest f page pages tag d =
    { d with ats := d.ats.filter fun e => !(invalidated f page pages d).contains e, out := .ats f 1 page tag :: d.out } :=
  (if_neg hf).trans ((if_neg fun h => hflr h.2).trans (if_pos hflr))

end

section
variable {f : Fn} {tag : Nat} {w : Invalidation} {d : Device} (hinvals : d.invals = [w]) (hf : w.fn = f) (htag : w.tag = tag)
include hinvals hf htag

theorem invalidateCompletion_eq : invalidateCompletion f tag d =
    if w.waitFor.any (stillOut d) || !(underEntries f w.gone d).isEmpty then d
    else nextInvalidation (emit (.ats f 1 w.page tag) { d with invals := [] }) := by
  have hfind : d.invals.find? (fun v => decide (v.fn = f) && decide (v.tag = tag)) = some w := by simp [hinvals, hf, htag]
  have herase : d.invals.erase w = [] := by rw [hinvals, List.erase_cons_head]
  simp only [invalidateCompletion, hfind, herase]

theorem invalidateCompletion_done (hout : ∀ n ∈ w.waitFor, stillOut d n = false) (hunder : underEntries f w.gone d = [])
    (hwaits : d.invalWaits = []) : invalidateCompletion f tag d = { d with invals := [], out := .ats f 1 w.page tag :: d.out } := by
  rw [invalidateCompletion_eq hinvals hf htag, if_neg (by simpa [hunder] using hout), nextInvalidation]
  have hwaits' : (emit (.ats f 1 w.page tag) { d with invals := [] }).invalWaits = [] := hwaits
  rw [hwaits']
  rfl

theorem invalidateCompletion_waits (h : (∃ n ∈ w.waitFor, stillOut d n = true) ∨ underEntries f w.gone d ≠ []) :
    invalidateCompletion f tag d = d := by
  rw [invalidateCompletion_eq hinvals hf htag]
  refine if_pos ?_
  rcases h with ⟨n, hn, hout⟩ | h
  · rw [List.any_eq_true.2 ⟨n, hn, hout⟩, Bool.true_or]
  · rw [Bool.or_eq_true_iff, Bool.not_eq_true']
    exact .inr (by simpa using h)

end

/-! ## Errors that a function detects (R375, Table 13.6) -/

/-- An uncorrectable error is marked in the function's AER status. -/
def aerMarked (f : Fn) (bit : Nat) (d : Device) : Device := d.setFunc f { d.func f with aerUncor := (d.func f).aerUncor ||| 2 ^ bit }

theorem errorMessage_frame (f : Fn) (code : Nat) (d : Device) : ∃ o, errorMessage f code d = { d with out := o } := by
  unfold errorMessage
  split
  · split
    · exact ⟨_, rfl⟩
    · exact ⟨_, rfl⟩
  · exact ⟨_, rfl⟩

theorem errorMessage_sent {f : Fn} {code u : Nat} {d : Device} (husp : uspOf (fnPart f d) d = some u) (hup : linkUp u d = true) :
    errorMessage f code d = emit (.pcieMessage u code) d := by
  simp only [errorMessage, husp, hup, if_true]

theorem fnError_masked {f : Fn} {bit : Nat} {d : Device} (advisory : Bool) (h : bitOf (d.func f).aerUncorMask bit = true) :
    fnError f bit advisory d = aerMarked f bit d := if_pos h

/-- What a function's error changes, unless it is advisory: its status, and the outputs. -/
theorem fnError_frame (f : Fn) (bit : Nat) (d : Device) : ∃ o, fnError f bit false d = { aerMarked f bit d with out := o } := by
  unfold fnError
  extract_lets x on e
  split
  · exact ⟨_, rfl⟩
  · split
    · split
      · exact errorMessage_frame f 0x33 e
      · exact ⟨_, rfl⟩
    · rw [if_neg Bool.false_ne_true]
      split
      · exact errorMessage_frame f 0x31 e
      · exact ⟨_, rfl⟩

theorem severityOf_aerMarked (f : Fn) (bit : Nat) (d : Device) : severityOf f (aerMarked f bit d) = severityOf f d := by
  show (tget funcReset (tset funcReset d.funcs (fnKey f) _) (fnKey (function1 (fnPart f d)))).aerSeverity = (d.func _).aerSeverity
  by_cases h : fnKey (function1 (fnPart f d)) = fnKey f
  · rw [h, tget_tset_same, Device.func, Device.func, h]
  · rw [tget_tset_other funcReset d.funcs _ h, Device.func]

/-- R375: a non-fatal error that is neither masked nor silenced tells the host. -/
theorem fnError_nonFatal {f : Fn} {bit u : Nat} {d : Device} (hbit : bit ≠ 20) (husp : uspOf (fnPart f d) d = some u) (hup : linkUp u d = true)
    (hmask : bitOf (d.func f).aerUncorMask bit = false) (hseverity : bitOf (severityOf f d) bit = false)
    (hreport : bitOf (d.func f).devControl 1 = true) : fnError f bit false d = emit (.pcieMessage u 0x31) (aerMarked f bit d) := by
  have hon : (bitOf (d.func f).devControl 1 && (decide (bit ≠ 20) || bitOf (d.func f).devControl 3)) = true := by simp [hreport, hbit]
  have hseverity' : ¬bitOf (severityOf f (aerMarked f bit d)) bit = true := by rw [severityOf_aerMarked, hseverity]; decide
  refine (if_neg (by simp [hmask])).trans ((if_neg hseverity').trans ((if_neg Bool.false_ne_true).trans ((if_pos hon).trans ?_)))
  exact errorMessage_sent (d := aerMarked f bit d) husp hup

/-! ## A translation that arrives (R366 to R369) -/

theorem translationCompletion_off {f : Fn} {e : AtsEntry} {d : Device} (h : (d.func f).atsEnable = false) :
    translationCompletion f e d = d := if_pos (.inl h)

theorem translationCompletion_unasked {f : Fn} {e : AtsEntry} {d : Device} (hats : (d.func f).atsEnable = true)
    (hidle : (d.func f).flr = .idle) (hasks : d.atsAsks = []) : translationCompletion f e d = fnError f 16 false d := by
  simp [translationCompletion, hats, hidle, hasks]

/-- R366: the entry of an answer that a fetch waits for goes first in the cache. -/
theorem translationCompletion_asked {f : Fn} {e : AtsEntry} {a : AtsAsk} {d : Device} (hats : (d.func f).atsEnable = true)
    (hidle : (d.func f).flr = .idle) (hasks : d.atsAsks = [a]) (hfn : a.fn = f) (huse : a.use = 0) (hlo : e.page ≤ a.page)
    (hhi : a.page < e.page + e.pages) (hinvals : d.invals = []) : ∃ t rest, translationCompletion f e d =
      { d with tracks := t, ats := (e :: rest).take 65536, atsAsks := [] } := by
  have hmine : d.atsAsks.filter (fun a => decide (a.fn = f) && decide (e.page ≤ a.page) && decide (a.page < e.page + e.pages)) = [a] := by
    simp [hasks, hfn, hlo, hhi]
  have hresume (x : Device) : resumeAsk e.page e.pages x { a with page := 0 } = x := by simp [resumeAsk, huse]
  have honly : [({ a with page := 0 } : AtsAsk)].eraseDups = [{ a with page := 0 }] := by simp [List.eraseDups_cons]
  have hleft : d.atsAsks.filter (fun x => !([a].contains x)) = [] := by simp [hasks]
  have hbusy : ¬(d.invals.any fun v => decide (v.fn = f) && overlapsPages v.page v.pages e.page e.pages) = true := by simp [hinvals]
  have hopen : ¬((d.func f).atsEnable = false ∨ (d.func f).flr ≠ .idle) := by simp [hats, hidle]
  unfold translationCompletion
  extract_lets asks answered rest _ e'
  have hfound : asks = [a] := hmine
  rw [if_neg hopen, if_neg (by simp [hfound]), if_neg hbusy]
  rw [hfound, List.map_singleton, honly, List.foldl_cons, List.foldl_nil, hresume]
  rw [← hfound] at hleft
  exact ⟨(answered d).tracks, rest, congrArg (fun l : List AtsAsk => { answered d with ats := (e :: rest).take 65536, atsAsks := l }) hleft⟩

/-! ## A request that times out (R376) -/

theorem askFails_noQps {f : Fn} {page : Nat} {d : Device} (hqps : d.qps = []) : askFails f page d =
    { d with atsAsks := d.atsAsks.filter fun a => !(decide (a.fn = f) && decide (a.page = page)) } := by
  have hleft : d.atsAsks.filter (fun a => !(d.atsAsks.filter fun a => decide (a.fn = f) && decide (a.page = page)).contains a) =
      d.atsAsks.filter fun a => !(decide (a.fn = f) && decide (a.page = page)) :=
    List.filter_congr fun a ha => by simp [ha]
  unfold askFails
  extract_lets asks
  have hleft' : d.atsAsks.filter (fun a => !asks.contains a) = _ := hleft
  rw [hleft']
  refine List.foldlRecOn asks _ (motive := (· = _)) rfl fun x hx a _ => ?_
  have hnone : x.qp a.qpn = none := by rw [hx]; simp [Device.qp, hqps]
  simp only [hnone]
  exact hx

theorem localDma_noQps {f : Fn} {a : Nat} {d : Device} (hqps : d.qps = []) : localDma f a d = d := by
  simp [localDma, placementFails, hqps]

section
variable {k : Track} {f : Fn} {d : Device} (htracks : d.tracks = [k]) (hfn : k.fn = some f) (hopen : k.answered = false)
include htracks hfn hopen

theorem functionTimeout_early (hearly : d.now < k.sentAt + (d.func f).cplTimeoutNs) : functionTimeout k.id d = d := by
  have hfind : d.tracks.find? (fun t => decide (t.id = k.id) && t.fn.isSome && !t.answered) = some k := by simp [htracks, hfn, hopen]
  simp only [functionTimeout, hfind, hfn, hearly, if_true]

theorem functionTimeout_due (hqps : d.qps = []) (hdue : k.sentAt + (d.func f).cplTimeoutNs ≤ d.now) : functionTimeout k.id d =
    { fnError f 14 false { d with tracks := [{ k with answered := true }] } with
      atsAsks := if k.kind = Kind.transReq then
        d.atsAsks.filter (fun a => !(decide (a.fn = f) && decide (a.page = k.addr / 4096))) else d.atsAsks } := by
  have hfind : d.tracks.find? (fun t => decide (t.id = k.id) && t.fn.isSome && !t.answered) = some k := by simp [htracks, hfn, hopen]
  have hmark : d.tracks.map (fun x => if x.id = k.id then { x with answered := true } else x) = [{ k with answered := true }] := by
    simp [htracks]
  generalize [{ k with answered := true }] = answered at hmark ⊢
  obtain ⟨o, herror⟩ := fnError_frame f 14 { d with tracks := answered }
  simp only [functionTimeout, hfind, hfn, Nat.not_lt.2 hdue, if_false, hmark]
  rw [herror]
  split
  · exact askFails_noQps hqps
  · exact localDma_noQps hqps

end

/-! ## Vectors that a host unmasks (R364) -/

theorem unmaskVector_none {f : Fn} {v : Nat} {d : Device} (h : vectorCount f ≤ v) : unmaskVector f v d = d := if_pos h

theorem unmaskVector_sends {f : Fn} {v : Nat} {d : Device} (h : v < vectorCount f) : unmaskVector f v d =
    { d with
      msix := tset msixReset d.msix (fnKey f * 2048 + v) { tget msixReset d.msix (fnKey f * 2048 + v) with masked := false, pending := false }
      issued := if (tget msixReset d.msix (fnKey f * 2048 + v)).pending then d.issued ++
        [{ port := 100, tlp := requestTlp .memWrite f (tget msixReset d.msix (fnKey f * 2048 + v)).addr 4
              (natLe 4 (tget msixReset d.msix (fnKey f * 2048 + v)).data.toNat) d, fab := none, rma := none, fn := some f }]
        else d.issued } := by
  refine (if_neg (Nat.not_le.2 h)).trans ?_
  extract_lets k e e'
  split
  · have hentry : tget msixReset (tset msixReset d.msix k { e with masked := false, pending := false }) k =
        { e with masked := false, pending := false } := tget_tset_same ..
    have hsend : sendVector f v e' = issue 100 (some f) (requestTlp .memWrite f e.addr 4 (natLe 4 e.data.toNat) e') none e' := by
      unfold sendVector sendVectorAt
      rw [if_pos h]
      show (if (tget msixReset (tset msixReset d.msix k { e with masked := false, pending := false }) k).masked = true then _ else
        issue 100 (some f) (requestTlp .memWrite f (tget msixReset (tset msixReset d.msix k
          { e with masked := false, pending := false }) k).addr 4 (natLe 4 (tget msixReset (tset msixReset d.msix k
          { e with masked := false, pending := false }) k).data.toNat) e') none e') = _
      rw [hentry]
      rfl
    exact hsend
  · rfl

/-- Settles O32: an invalidation, an answer, a time-out and a vector each act on what they name. -/
theorem translationsAndVectors : Obligations.TranslationsAndVectors := by
  intro s f page pages tag target id v rd wr
  refine ⟨fun hats => ?off, fun hats => done_becomes rfl (if_neg (ne_true_of_eq_false hats)), fun hf hroom => ?invalidate,
    fun hf hfull hidle => done_becomes rfl (invalidateRequest_waits hf hfull hidle),
    fun w hinvals hwf hwtag => ⟨fun hout hunder hwaits => ?_, fun h => ?_⟩,
    fun hinvals => done_becomes rfl ?noInvalidation, fun hats => done_becomes rfl (translationCompletion_off hats),
    fun hats hidle hasks => ⟨done_becomes rfl (translationCompletion_unasked hats hidle hasks), ?unasked⟩,
    fun a hats hidle hasks hfn huse hlo hhi hinvals => ?asked,
    fun k htracks hid hfn hopen hqps => ⟨fun hdue => ?timeout, fun hearly => ?early⟩, fun htracks => done_becomes rfl ?noTrack,
    fun hv => done_becomes rfl (unmaskVector_sends hv), fun hv => done_becomes rfl (unmaskVector_none hv)⟩
  case off => exact done_gives_framed rfl (if_pos hats) fun _ _ _ => ⟨func_setFunc s.dev f _, rfl, rfl, rfl⟩
  case invalidate =>
    by_cases hidle : (s.dev.func f).flr = .idle
    · obtain ⟨waitFor, hrow⟩ := invalidateRequest_idle (page := page) (pages := pages) (tag := tag) hf (hroom.resolve_right (absurd hidle)) hidle
      exact done_gives_framed rfl hrow fun _ _ _ => ⟨fun _ => mem_kept, fun _ => ⟨_, rfl, rfl, rfl, rfl, rfl⟩, fun h => absurd hidle h, rfl⟩
    · exact done_gives_framed rfl (invalidateRequest_flr hf hidle) fun _ _ _ =>
        ⟨fun _ => mem_kept, fun h => absurd h hidle, fun _ => ⟨rfl, List.mem_cons_self⟩, rfl⟩
  case refine_1 => exact done_becomes rfl (invalidateCompletion_done hinvals hwf hwtag hout hunder hwaits)
  case refine_2 => exact done_becomes rfl (invalidateCompletion_waits hinvals hwf hwtag h)
  case noInvalidation => simp [invalidateCompletion, hinvals]
  case unasked =>
    obtain ⟨o, herror⟩ := fnError_frame f 16 s.dev
    have hrow := (translationCompletion_unasked (e := { fn := f, page := page, pages := pages, target := target, read := rd, write := wr })
      hats hidle hasks).trans herror
    refine done_gives_framed rfl hrow fun _ _ _ => ⟨congrArg Func.aerUncor (func_setFunc s.dev f _), rfl, rfl, fun hmask => ?_,
      fun u hu hup hmask hseverity hreport => ?_⟩
    · exact (congrArg Device.out (herror.symm.trans (fnError_masked false hmask)) :)
    · have hsent := herror.symm.trans (fnError_nonFatal (by decide) (Option.mem_toList.1 hu) hup hmask hseverity hreport)
      exact (congrArg Device.out hsent : o = _) ▸ List.mem_cons_self
  case asked =>
    obtain ⟨t, rest, hrow⟩ := translationCompletion_asked
      (e := { fn := f, page := page, pages := pages, target := target, read := rd, write := wr }) hats hidle hasks hfn huse hlo hhi hinvals
    exact done_gives_framed rfl hrow fun _ _ _ => ⟨rfl, rfl, rfl, rfl⟩
  case timeout =>
    subst hid
    exact done_becomes rfl (functionTimeout_due htracks hfn hopen hqps hdue)
  case early =>
    subst hid
    exact done_becomes rfl (functionTimeout_early htracks hfn hopen hearly)
  case noTrack => simp [functionTimeout, htracks]

end Sys2Proof.Machine
end

section
/-! Slot-power channels (chapter 15). -/

namespace Sys2Proof.Machine

/-! ## A channel's gang -/

theorem gangOf_setChannel {n c : Nat} {d : Device} {x : Spw} (h : x.fitted = (d.channel c).fitted) :
    gangOf n (d.setChannel c x) = gangOf n d := by
  refine List.filter_congr fun k _ => ?_
  by_cases hk : k = c
  · rw [hk, channel_setChannel, h]
  · exact congrArg Spw.fitted (tget_tset_other spwReset d.spw x hk)

theorem mem_gangOf {n c : Nat} {d : Device} (h : c ∈ gangOf n d) : c < 48 ∧ channelPort c d = n ∧ (d.channel c).fitted = true := by
  obtain ⟨hport, hfitted⟩ := List.mem_filter.1 h
  obtain ⟨hlt, hn⟩ := List.mem_filter.1 hport
  exact ⟨List.mem_range.1 hlt, of_decide_eq_true hn, hfitted⟩

/-! ## What switching a channel changes of it -/

theorem slotOff_besideFall (n : Nat) (d : Device) : (slotOff n d).spw = d.spw ∧ (slotOff n d).ports = d.ports := by
  unfold slotOff
  extract_lets x e
  split
  · split
    · exact ⟨spw_of_besideFall (pcieDown_besideFall n .detect e), ports_of_besideFall (pcieDown_besideFall n .detect e)⟩
    · exact ⟨rfl, rfl⟩
  · exact ⟨rfl, rfl⟩

theorem precharge_state (c : Nat) (d : Device) : ((precharge c d).channel c).state = .precharge :=
  congrArg Spw.state (channel_setChannel d c _)

theorem precharge_retriesLeft (c : Nat) (d : Device) : ((precharge c d).channel c).retriesLeft = (d.channel c).retriesLeft :=
  (congrArg Spw.retriesLeft (channel_setChannel d c _) :)

theorem precharge_onAfter (c : Nat) (d : Device) : ((precharge c d).channel c).onAfter = (d.channel c).onAfter :=
  (congrArg Spw.onAfter (channel_setChannel d c _) :)

theorem precharge_out (c : Nat) (d : Device) : (precharge c d).out = .gate c 1 :: d.out := rfl

/-! ## Trips (R413, R415, R420 to R423) -/

/-- What a trip with a cause changes of an active channel: UV and OV, which are causes 2 and 4, use no retry. -/
structure Tripped (cause ch : Nat) (d t : Device) : Prop where
  named : (t.channel ch).tripCause = cause
  valid : (t.channel ch).tripValid = true
  code : (t.channel ch).tripState = spwCode (d.channel ch).state
  trips : (t.channel ch).trips = satAdd 0xFFFF (d.channel ch).trips 1
  pg : (t.channel ch).pg = false
  gate : Output.gate ch 0 ∈ t.out
  ports : t.ports = d.ports
  input : cause = 2 ∨ cause = 4 → (t.channel ch).state = .wait ∧ (t.channel ch).retriesLeft = (d.channel ch).retriesLeft ∧
    (t.channel ch).waitUntil = none
  retry : cause ≠ 2 → cause ≠ 4 → 0 < (d.channel ch).retriesLeft → (t.channel ch).state = .wait ∧
    (t.channel ch).retriesLeft = (d.channel ch).retriesLeft - 1 ∧
    (t.channel ch).waitUntil = some (d.now + retryWait (d.channel ch) d.now)
  latch : cause ≠ 2 → cause ≠ 4 → (d.channel ch).retriesLeft = 0 → (t.channel ch).state = .latched ∧
    (t.channel ch).intStatus.getLsbD 4 = true

theorem tripOne_active {cause ch : Nat} {d : Device} (h : spwActive (d.channel ch).state = true) : Tripped cause ch d (tripOne cause ch d) := by
  have hrun : (d.channel ch).state ≠ .shutdown := fun hs => by rw [hs] at h; exact Bool.false_ne_true h
  unfold tripOne
  extract_lets x input st uses bits x' n e e₁ _ e₂
  rw [if_pos (.inl h)]
  obtain ⟨hspw, hports⟩ := slotOff_besideFall n (d.setChannel ch x')
  obtain ⟨can, box, hrecord⟩ := blackBoxRecord_frame 8 ch cause [] e₂
  have he₂ : e₂.spw = (d.setChannel ch x').spw ∧ e₂.ports = d.ports ∧ Output.gate ch 0 ∈ e₂.out := by
    unfold e₂
    split
    · exact ⟨hspw, hports, List.mem_cons_self⟩
    · exact ⟨hspw, hports, List.mem_cons_self⟩
  obtain ⟨hspw₂, hports₂, hgate⟩ := he₂
  rw [hrecord]
  have hch : ({ e₂ with can := can, blackBox := box } : Device).channel ch = x' :=
    (congrArg (fun l => tget spwReset l ch) hspw₂).trans (channel_setChannel d ch x')
  have hst : st = if input || decide (0 < x.retriesLeft) then .wait else .latched := if_neg hrun
  refine ⟨?_, ?_, ?_, ?_, ?_, hgate, hports₂, fun hc => ?_, fun h2 h4 hr => ?_, fun h2 h4 hr => ?_⟩ <;> rw [hch]
  · have hin : input = true := by simpa [input] using hc
    have hwait : st = .wait := by simp [hst, hin]
    have huses : uses = false := by simp [uses, hin]
    exact ⟨hwait, by simp [x', huses, x], by simp [x', huses]⟩
  · have hin : input = false := by simp [input, h2, h4]
    have hwait : st = .wait := by rw [hst, if_pos (by simpa [hin] using hr)]
    have huses : uses = true := by simp [uses, hin, hwait]
    exact ⟨hwait, by simp [x', huses, x], by simp [x', huses, x]⟩
  · have hin : input = false := by simp [input, h2, h4]
    have hlatched : st = .latched := by rw [hst, if_neg (by simp [hin, x, hr])]
    refine ⟨hlatched, ?_⟩
    simp [x', bits, hlatched]

section
variable {ch cause : Nat} {d : Device} (hgang : gangOf (channelPort ch d) d = [ch])
include hgang

/-- A channel that stands alone in its gang trips alone. -/
theorem tripChannel_alone (hfitted : (d.channel ch).fitted = true) (h : spwActive (d.channel ch).state = true) :
    tripChannel cause ch d = tripOne cause ch d := by
  have hrun : (d.channel ch).state ≠ .shutdown := fun hs => by rw [hs] at h; exact Bool.false_ne_true h
  unfold tripChannel
  extract_lets x others e
  have hothers : others = [] := by simp [others, hgang]
  rw [if_pos ⟨hfitted, .inl h⟩, if_neg hrun]
  show others.foldl _ _ = _
  rw [hothers, List.foldl_nil]

theorem tripChannel_trips (hfitted : (d.channel ch).fitted = true) (h : spwActive (d.channel ch).state = true) :
    Tripped cause ch d (tripChannel cause ch d) := by
  rw [tripChannel_alone hgang hfitted h]
  exact tripOne_active h

/-- R421: a channel that waits alone is switched on again once its wait is over. -/
theorem gangRetry_alone (hwait : (d.channel ch).state = .wait) {w : Nat} (huntil : (d.channel ch).waitUntil = some w) (hdue : w ≤ d.now) :
    gangRetry ch d = precharge ch d := by
  unfold gangRetry
  extract_lets waiting due
  have hwaiting : waiting = [ch] := by simp [waiting, hgang, hwait]
  have hall : waiting.all due = true := by simp [hwaiting, due, huntil, hdue]
  rw [if_pos hall, hwaiting]
  rfl

end

theorem tripChannel_off {ch cause : Nat} {d : Device} (h : (d.channel ch).state = .off) : tripChannel cause ch d = d :=
  if_neg fun hc => by rw [h] at hc; exact hc.2.elim Bool.false_ne_true SpwState.noConfusion

theorem inputRecovery_alone {ch : Nat} {d : Device} (hgang : gangOf (channelPort ch d) d = [ch]) (hwait : (d.channel ch).state = .wait)
    (huntil : (d.channel ch).waitUntil = none) (hlo : (d.channel ch).uvTh + 200 ≤ (d.channel ch).vin)
    (hhi : (d.channel ch).vin + 200 ≤ (d.channel ch).ovTh) (hlong : (d.channel ch).enteredAt + 100000000 ≤ d.now) :
    inputRecovery ch d = precharge ch (d.setChannel ch { d.channel ch with waitUntil := some d.now }) := by
  refine (if_pos ⟨hwait, huntil, hlo, hhi, hlong⟩).trans ?_
  have hset := channel_setChannel d ch { d.channel ch with waitUntil := some d.now }
  exact gangRetry_alone ((gangOf_setChannel (x := { d.channel ch with waitUntil := some d.now }) rfl).trans hgang)
    (by rw [hset]; exact hwait) (congrArg Spw.waitUntil hset) (Nat.le_refl d.now)

/-! ## The end of SHUTDOWN (R414, R431) -/

theorem answerGang_none {op c : Nat} {ok : Spw → Bool} {d : Device} (h : ∀ e ∈ d.kme.execs, e.op ≠ op) : answerGang op c ok d = d := by
  unfold answerGang
  extract_lets ready
  have hnone : findExec ready d = none :=
    List.find?_eq_none.2 fun e he => by simp [ready, h e he]
  rw [hnone]

theorem answerGang_keeps (op c : Nat) (ok : Spw → Bool) (d : Device) :
    (answerGang op c ok d).spw = d.spw ∧ d.out <:+ (answerGang op c ok d).out := by
  unfold answerGang
  extract_lets ready
  split
  next e _ => exact ⟨spw_of_besideAnswer (finishExec_answers e _ d).besideAnswer, finish_out e.op e.cmd _ d⟩
  next => exact ⟨rfl, List.suffix_rfl⟩

theorem channel_of_spw {d t : Device} (h : t.spw = d.spw) (c : Nat) : t.channel c = d.channel c := congrArg (fun l => tget spwReset l c) h

/-- A channel that was switched on during its SHUTDOWN enters PRECHARGE at its end. -/
theorem offReached_onAfter {c : Nat} {d : Device} (h : (d.channel c).onAfter = true) :
    ((offReached c d).channel c).state = .precharge ∧ ((offReached c d).channel c).onAfter = false ∧
      Output.gate c 1 ∈ (offReached c d).out := by
  unfold offReached
  extract_lets e x e'
  have hon : x.onAfter = true := (congrArg Spw.onAfter (channel_of_spw (answerGang_keeps 0x0903 c _ d).1 c)).trans h
  have he' : e' = precharge c (e.setChannel c { x with onAfter := false }) := if_pos hon
  obtain ⟨hspw, hout⟩ := answerGang_keeps 0x0902 c (fun x => !x.onAfter && decide (x.state ≠ .shutdown)) e'
  rw [channel_of_spw hspw c]
  have hgate : Output.gate c 1 ∈ e'.out := he' ▸ List.mem_cons_self
  refine ⟨?_, ?_, hout.subset hgate⟩
  · rw [he', precharge_state]
  · rw [he', precharge_onAfter, channel_setChannel]

theorem offReached_stays {c : Nat} {d : Device} (hon : (d.channel c).onAfter = false)
    (hnone : ∀ e ∈ d.kme.execs, e.op ≠ 0x0902 ∧ e.op ≠ 0x0903) :
    offReached c d = d := by
  unfold offReached
  rw [answerGang_none fun e he => (hnone e he).2]
  simp only [hon, Bool.false_eq_true, if_false]
  exact answerGang_none fun e he => (hnone e he).1

/-! ## Samples (R416, R424 to R426) -/

/-- A pass over the channels acts on each of them once. -/
theorem foldl_setChannel (f : Nat → Spw → Spw) {l : List Nat} (hl : l.Nodup) (d : Device) (c : Nat) :
    (l.foldl (fun d c => d.setChannel c (f d.now (d.channel c))) d).channel c = if c ∈ l then f d.now (d.channel c) else d.channel c := by
  induction l generalizing d with
  | nil => simp
  | cons k l ih =>
    obtain ⟨hk, hl⟩ := List.nodup_cons.1 hl
    rw [List.foldl_cons, ih hl]
    by_cases hc : c = k
    · subst hc
      rw [if_neg hk, channel_setChannel, if_pos List.mem_cons_self]
    · have hother : (d.setChannel k (f d.now (d.channel k))).channel c = d.channel c := tget_tset_other spwReset d.spw _ hc
      simp only [hother, List.mem_cons, hc, false_or]
      rfl

theorem foldl_setChannel_frame (f : Device → Nat → Spw) (l : List Nat) (d : Device) :
    ∃ w, l.foldl (fun d c => d.setChannel c (f d c)) d = { d with spw := w } :=
  List.foldlRecOn l _ (motive := fun e : Device => ∃ w, e = { d with spw := w }) ⟨d.spw, rfl⟩ fun e ⟨w, he⟩ c _ => by
    subst he; exact ⟨_, rfl⟩

theorem warnSample_low {a b now : Nat} {x : Spw} (hfitted : x.fitted = true) (hen : x.warnEn = true) (hwarn : x.warn = false)
    (hlow : x.lowFeed = 1) (hfeeds : ∀ y ∈ channelFeeds x a b, y < x.warnTh) : (warnSample a b now x).warn = true ∧
    (warnSample a b now x).intStatus = x.intStatus ||| 8 ∧ (warnSample a b now x).state = x.state := by
  unfold warnSample
  extract_lets low high count since release y
  have hcount : count = 2 := by
    have hall : low = true := List.all_eq_true.2 fun v hv => decide_eq_true (hfeeds v hv)
    simp [count, hall, hlow]
  rw [if_pos ⟨hfitted, hen⟩, if_pos ⟨hcount.ge, hwarn⟩]
  exact ⟨rfl, rfl, rfl⟩

theorem warnSample_first {a b now : Nat} {x : Spw} (hlow : x.lowFeed = 0) (hwarn : x.warn = false) : (warnSample a b now x).warn = false := by
  unfold warnSample
  extract_lets low high count since release y
  have hcount : ¬(2 ≤ count ∧ y.warn = false) := fun h => by
    have hle : count ≤ 1 := by
      unfold count
      split <;> omega
    omega
  by_cases h : x.fitted = true ∧ x.warnEn = true
  · rw [if_pos h, if_neg hcount]
    split
    · rfl
    · exact hwarn
  · rw [if_neg h]
    exact hwarn

theorem warnSample_unfitted {a b now : Nat} {x : Spw} (h : x.fitted = false) : warnSample a b now x = x :=
  if_neg fun hc => Bool.false_ne_true (h.symm.trans hc.1)

section
variable {v : Int} {vin vout vgs : Nat} {il : Bool} {x : Spw}

theorem channelSample_unfitted (h : x.fitted = false) : channelSample v vin vout vgs il x = x := if_neg (ne_true_of_eq_false h)

/-- A sample that does not end its millisecond. -/
theorem channelSample_early (hfitted : x.fitted = true) (hacc : x.accN = 0) : channelSample v vin vout vgs il x =
    let above := spwActive x.state && (decide ((x.vCb * 100 : Nat) ≤ v) || il)
    { x with iMa := roundDiv (v * 2500) x.rsense, vin := vin, vout := vout, sense := v, vgs := vgs, ilim := il && spwActive x.state,
             energy := x.energy + (vout : Int) * roundDiv (v * 2500) x.rsense, timerRun := above,
             timerUs := if above then x.timerUs + 10 else x.timerUs, acc := x.acc + (vout : Int) * roundDiv (v * 2500) x.rsense,
             accN := x.accN + 1 } := by
  refine (if_pos hfitted).trans ?_
  exact if_pos (by show x.accN + 1 < 100; omega)

end

section
variable {a b vg ch : Nat} {d : Device} (hdue : isDue .feedSample 10000 d = true)
include hdue

theorem feedSample_frame : ∃ w r, feedSample a b vg d = { d with spw := w, lastRun := r, feeds := { vinA := a, vinB := b, vgate := vg } } := by
  obtain ⟨w, hw⟩ := foldl_setChannel_frame (fun e c => warnSample a b e.now (e.channel c)) (List.range 48)
    (ranNow .feedSample { d with feeds := { vinA := a, vinB := b, vgate := vg } })
  exact ⟨w, _, (if_pos hdue).trans hw⟩

theorem feedSample_channel (hch : ch < 48) : (feedSample a b vg d).channel ch = warnSample a b d.now (d.channel ch) := by
  refine (congrArg (·.channel ch) (if_pos hdue : feedSample a b vg d = _)).trans ?_
  exact (foldl_setChannel (warnSample a b) List.nodup_range (ranNow .feedSample { d with feeds := { vinA := a, vinB := b, vgate := vg } }) ch).trans
    (if_pos (List.mem_range.2 hch))

end

/-! ## The statement on trips and samples -/

/-- What the statement asks of a trip that may be retried. -/
theorem Tripped.retries {cause ch : Nat} {d t : Device} (h : Tripped cause ch d t) (h2 : cause ≠ 2) (h4 : cause ≠ 4) :
    if 0 < (d.channel ch).retriesLeft then (t.channel ch).state = .wait ∧ (t.channel ch).retriesLeft = (d.channel ch).retriesLeft - 1 ∧
      (t.channel ch).waitUntil = some (d.now + retryWait (d.channel ch) d.now)
    else (t.channel ch).state = .latched ∧ (t.channel ch).intStatus.getLsbD 4 = true := by
  split
  next hr => exact h.retry h2 h4 hr
  next hr => exact h.latch h2 h4 (Nat.eq_zero_of_not_pos hr)

theorem Tripped.record {cause ch : Nat} {d t : Device} (h : Tripped cause ch d t) : (t.channel ch).tripCause = cause ∧
    (t.channel ch).tripValid = true ∧ (t.channel ch).tripState = spwCode (d.channel ch).state ∧
    (t.channel ch).trips = satAdd 0xFFFF (d.channel ch).trips 1 ∧ (t.channel ch).pg = false ∧ Output.gate ch 0 ∈ t.out ∧ t.ports = d.ports :=
  ⟨h.named, h.valid, h.code, h.trips, h.pg, h.gate, h.ports⟩

/-- A row that trips a channel which stands alone. -/
theorem trip_gives {i : Instr} {s : State} {ch cause : Nat} {d : Device} {P : Device → Prop} (hfitted : (s.dev.channel ch).fitted = true)
    (hgang : gangOf (channelPort ch s.dev) s.dev = [ch]) (hactive : spwActive (s.dev.channel ch).state = true)
    (hx : exec i s = done s d) (hd : d = tripChannel cause ch s.dev) (hP : ∀ t, Tripped cause ch s.dev t → P t) : Gives i s P :=
  have h := tripChannel_trips (cause := cause) hgang hfitted hactive
  done_gives_framed hx hd fun _ _ _ =>
    hP _ ⟨h.named, h.valid, h.code, h.trips, h.pg, h.gate, h.ports, h.input, h.retry, h.latch⟩

/-- Settles O47: a trip of a channel that stands alone, the order of its states, and its samples. -/
theorem slotPowerTripsAndSamples : Obligations.SlotPowerTripsAndSamples := by
  refine ⟨fun s ch => ⟨fun hfitted hgang => ⟨fun hactive => ⟨?fast, ?timer, ?ov, ?uv⟩, fun hon => ?gate, fun hpre hlong => ?precharge,
    fun hramp hlong => ?ramp, fun hwait ⟨w, huntil, hdue⟩ => ?retry, fun hwait huntil hlo hhi hlong => ?recovery⟩, fun hoff => ?off,
    fun hpre => done_becomes rfl (if_pos hpre), fun hramp => done_becomes rfl (if_pos hramp),
    fun hq htimer hrun hilim hlong hdsp => ?good, fun hon hlong => done_becomes rfl (if_pos ⟨hon, hlong⟩), fun hdown hafter hnone => ?down,
    fun hdown hafter => ?onAfter⟩, fun s ch a b vg vin vout vgs v il hch => ⟨fun hdue => ?feed, fun hdue => ?feedEarly,
    fun hdue hfitted hacc => ?sample, fun hdue hfitted => ?sampleUnfitted, fun hdue => ?sampleEarly, fun hrun => ?reset, fun hrun => ?running⟩⟩
  case fast => exact trip_gives hfitted hgang hactive rfl rfl fun t h => ⟨h.record, h.retries (by decide) (by decide)⟩
  case timer => exact trip_gives hfitted hgang hactive rfl (if_pos hactive) fun t h => ⟨h.record, h.retries (by decide) (by decide)⟩
  case ov => exact trip_gives hfitted hgang hactive rfl rfl fun t h => ⟨h.record, h.input (.inl rfl)⟩
  case uv => exact trip_gives hfitted hgang hactive rfl rfl fun t h => ⟨h.record, h.input (.inr rfl)⟩
  case gate =>
    exact trip_gives hfitted hgang (congrArg spwActive hon) rfl (if_pos hon) fun t h => ⟨h.record, h.retries (by decide) (by decide)⟩
  case precharge =>
    exact trip_gives hfitted hgang (congrArg spwActive hpre) rfl (if_pos ⟨hpre, hlong⟩) fun t h =>
      ⟨h.record, h.retries (by decide) (by decide)⟩
  case ramp =>
    exact trip_gives hfitted hgang (congrArg spwActive hramp) rfl (if_pos ⟨hramp, hlong⟩) fun t h =>
      ⟨h.record, h.retries (by decide) (by decide)⟩
  case retry =>
    exact done_gives_framed rfl ((if_pos hwait).trans (gangRetry_alone hgang hwait huntil hdue)) fun _ _ _ =>
      ⟨precharge_state ch s.dev, precharge_retriesLeft ch s.dev, List.mem_cons_self⟩
  case recovery =>
    exact done_gives_framed rfl (inputRecovery_alone hgang hwait huntil hlo hhi hlong) fun _ _ _ =>
      ⟨precharge_state ch _, List.mem_cons_self⟩
  case off =>
    have hnot {st : SpwState} (h : SpwState.off ≠ st) : (s.dev.channel ch).state ≠ st := hoff ▸ h
    have htrip (cause : Nat) : tripChannel cause ch s.dev = s.dev := tripChannel_off hoff
    exact ⟨done_becomes rfl (htrip 1), done_becomes rfl (htrip 2), done_becomes rfl (htrip 4),
      done_becomes rfl (if_neg (by rw [hoff]; decide)), done_becomes rfl (if_neg (hnot (by decide))),
      done_becomes rfl (if_neg (hnot (by decide))), done_becomes rfl (if_neg fun h => hnot (by decide) h.1),
      done_becomes rfl (if_neg (hnot (by decide))), done_becomes rfl (if_neg fun h => hnot (by decide) h.1),
      done_becomes rfl (if_neg fun h => hnot (by decide) h.1), done_becomes rfl (if_neg (hnot (by decide))),
      done_becomes rfl (if_neg fun h => hnot (by decide) h.1), done_becomes rfl (if_neg fun h => hnot (by decide) h.1),
      done_becomes rfl (if_neg (hnot (by decide)))⟩
  case good =>
    refine done_becomes rfl ((if_pos ⟨hq, htimer, hrun, hilim, hlong⟩).trans ?_)
    exact if_neg fun h => hdsp h.1
  case down =>
    refine done_becomes rfl ((if_pos hdown).trans (offReached_stays ?_ hnone))
    exact (congrArg Spw.onAfter (channel_setChannel s.dev ch _)).trans hafter
  case onAfter =>
    refine done_gives_framed rfl (if_pos hdown) fun _ _ _ => offReached_onAfter ?_
    exact (congrArg Spw.onAfter (channel_setChannel s.dev ch _)).trans hafter
  case feed =>
    have hsampled : (feedSample a b vg s.dev).channel ch = _ := feedSample_channel hdue hch
    obtain ⟨w, r, hrow⟩ := feedSample_frame (a := a) (b := b) (vg := vg) hdue
    rw [hrow] at hsampled
    refine done_gives_framed rfl hrow fun _ _ _ => ⟨rfl, rfl, rfl, fun hfitted hen hwarn hlow hfeeds => ?_, fun _ _ hlow hwarn => ?_,
      fun hfitted => ?_⟩
    · exact hsampled ▸ warnSample_low hfitted hen hwarn hlow hfeeds
    · exact (congrArg Spw.warn hsampled).trans (warnSample_first hlow hwarn)
    · exact hsampled.trans (warnSample_unfitted hfitted)
  case feedEarly => exact done_becomes rfl (if_neg (ne_true_of_eq_false hdue))
  case sample =>
    have hset := channel_setChannel s.dev ch (channelSample v vin vout vgs il (s.dev.channel ch))
    have hsample := channelSample_early (v := v) (vin := vin) (vout := vout) (vgs := vgs) (il := il) hfitted hacc
    refine done_gives_framed rfl (if_pos ⟨hch, hdue⟩) fun _ _ _ =>
      ⟨(congrArg Spw.iMa (hset.trans hsample) :), (congrArg Spw.vin (hset.trans hsample) :),
      (congrArg Spw.vout (hset.trans hsample) :), (congrArg Spw.energy (hset.trans hsample) :), (congrArg Spw.state (hset.trans hsample) :),
      fun hactive hil => ?_, fun hil hlow => ?_, rfl⟩
    · have habove : (spwActive (s.dev.channel ch).state && (decide (((s.dev.channel ch).vCb * 100 : Nat) ≤ v) || il)) = true := by
        simp [hactive, hil]
      exact ⟨(congrArg Spw.timerUs (hset.trans hsample)).trans (if_pos habove), (congrArg Spw.timerRun (hset.trans hsample)).trans habove⟩
    · have hbelow : (spwActive (s.dev.channel ch).state && (decide (((s.dev.channel ch).vCb * 100 : Nat) ≤ v) || il)) = false := by
        rw [hil, Bool.or_false, decide_eq_false (Int.not_le.2 hlow), Bool.and_false]
      exact ⟨(congrArg Spw.timerUs (hset.trans hsample)).trans (if_neg (ne_true_of_eq_false hbelow)),
        (congrArg Spw.timerRun (hset.trans hsample)).trans hbelow⟩
  case sampleUnfitted =>
    refine done_becomes rfl ((if_pos ⟨hch, hdue⟩).trans ?_)
    rw [channelSample_unfitted hfitted]
  case sampleEarly => exact done_becomes rfl (if_neg fun h => Bool.false_ne_true (hdue.symm.trans h.2))
  case reset => exact done_becomes rfl (if_neg (ne_true_of_eq_false hrun))
  case running => exact done_becomes rfl (if_pos hrun)

/-! ## The commands of a channel (R430 to R432) -/

theorem spwAnswer_setChannel (n : Nat) (d : Device) (x : Spw) : spwAnswer n (d.setChannel n x) = ansOk (natLe 4 (spwStateWord x)) :=
  congrArg (fun y => ansOk (natLe 4 (spwStateWord y))) (channel_setChannel d n x)

theorem switchOn_rests {n : Nat} {d : Device}
    (h : (d.channel n).state = .off ∨ (d.channel n).state = .wait ∨ (d.channel n).state = .latched) : switchOn n d =
    precharge n (d.setChannel n { d.channel n with retriesLeft := (d.channel n).retryCount, onAfter := false }) := by
  have hrests : ¬(spwActive (d.channel n).state = true ∨ (d.channel n).state = .shutdown) := by
    rcases h with h | h | h <;> rw [h] <;> decide
  have hafter : decide ((d.channel n).state = .shutdown) = false := decide_eq_false fun hs => hrests (.inr hs)
  unfold switchOn
  extract_lets x e
  rw [if_neg hrests]
  unfold e x
  rw [hafter]

theorem switchOn_shutdown {n : Nat} {d : Device} (h : (d.channel n).state = .shutdown) :
    switchOn n d = d.setChannel n { d.channel n with retriesLeft := (d.channel n).retryCount, onAfter := true } := by
  unfold switchOn
  extract_lets x e
  rw [if_pos (.inr h)]
  unfold e x
  rw [decide_eq_true h]

theorem shutChannel_latched {n : Nat} {d : Device} (h : (d.channel n).state = .latched) :
    shutChannel n d = d.setChannel n { d.channel n with state := .off, enteredAt := d.now, waitUntil := none } := by
  unfold shutChannel
  extract_lets x x'
  rw [if_neg (by rw [show x.state = _ from h]; decide), if_pos (.inr h)]

section
variable {c : Cmd} {n : Nat} {d : Device} (htarget : c.target.toNat = n) (hn : n < 48) (hparam0 : c.param0 = 0)
include htarget

/-- SPW_CONFIG that passes its checks. -/
theorem spwConfig_eq (hchecks : ∀ a ∈ spwConfigChecks c d, a = none) {z : Spw}
    (hz : z = if (spwSettings c.params (d.channel n)).fitted && !(d.channel n).fitted then
      { spwSettings c.params (d.channel n) with state := .off } else spwSettings c.params (d.channel n)) :
    spwConfig c d = (d.setChannel n z, some (ansOk (natLe 4 (spwStateWord z)))) := by
  unfold spwConfig checked
  rw [firstFail_eq_none.2 hchecks, htarget]
  simp only [← hz, spwAnswer_setChannel]

include hn hparam0

theorem spwHeader_none : spwHeader c = none := by
  have hbits : headerBits 6 c = none := by simp [headerBits, htarget, hparam0]; omega
  simp [spwHeader, orElse, failIf, hbits, htarget, hn]

variable (hparams : c.params = []) (hgang : gangWith n d = [n])
include hparams hgang

theorem spwOn_refused (hon : canSwitchOn [n] d = false) : spwOn c d = (d, some ansNo) := by
  simp [spwOn, checked, firstFail, failIf, htarget, hgang, hon, hparams, spwHeader_none htarget hn hparam0]

theorem spwOn_eq (hon : canSwitchOn [n] d = true) : spwOn c d =
    if spwActive ((switchOn n d).channel n).state then (switchOn n d, some (spwAnswer n (switchOn n d))) else (switchOn n d, none) := by
  simp [spwOn, checked, firstFail, failIf, htarget, hgang, hon, hparams, spwHeader_none htarget hn hparam0]

theorem spwOff_eq : spwOff c d =
    if ((shutChannel n d).channel n).state = .off then (shutChannel n d, some (spwAnswer n (shutChannel n d)))
    else (markApplied 0x0903 c (shutChannel n d), none) := by
  simp [spwOff, checked, firstFail, failIf, htarget, hgang, hparams, spwHeader_none htarget hn hparam0]

end

/-- SPW_READ (R432). -/
theorem spwRead_eq {c : Cmd} {n : Nat} {d : Device} {flags : Byte} (htarget : c.target.toNat = n) (hn : n < 48) (hparam0 : c.param0 = 0)
    (hflags : flags.toNat < 4) (hparams : c.params = [flags, 0, 0, 0]) : spwRead c d = (d.setChannel n
      { d.channel n with energy := if bitOf flags.toNat 0 then 0 else (d.channel n).energy,
                         tripValid := (d.channel n).tripValid && !bitOf flags.toNat 1 },
      some (ansOk (natLe 4 (spwStateWord (d.channel n)) ++ natLe 4 (spwCurrentWord (d.channel n)) ++ natLe 4 (spwVoltWord (d.channel n)) ++
        natLe 4 (spwSenseWord (d.channel n)) ++ natLe 4 (spwAvgWord (d.channel n)) ++ natLe 8 (spwEnergy (d.channel n)) ++
        natLe 4 (spwTripWord (d.channel n)) ++ natLe 4 (twos 32 (d.channel n).tripI) ++ natLe 4 (feedWord d) ++
        natLe 8 d.devTime.toNat))) := by
  have hflag : u8 c.params 0 = flags.toNat := by simp [u8, hparams]
  have hzeros : zeros c.params 1 3 = true := by rw [hparams]; rfl
  have hhigh : ¬4 ≤ flags.toNat := Nat.not_le.2 hflags
  simp only [spwRead, checked, failIf, hparams, List.length_cons, List.length_nil]
  rw [← hparams]
  simp [firstFail, hflag, hzeros, hhigh, htarget, spwHeader_none htarget hn hparam0]

/-- Settles O46: a channel that is its own gang is set, switched on and off, and read. -/
theorem slotPowerCommands : Obligations.SlotPowerCommands := by
  intro s c n htarget hn hparam0 d x
  have htarget : c.target.toNat = n := by rw [htarget, BitVec.toNat_ofNat]; omega
  refine ⟨fun hready hchecks => packet_replies rfl hready (spwConfig_eq (d := markBegun 0x0901 c d) htarget hchecks rfl),
    fun hready hparams hgang => ⟨fun hon => packet_replies rfl hready (spwOn_refused htarget hn hparam0 hparams hgang hon),
      fun hon hrests => ?on, fun hon hdown => ?after⟩, fun hrests => ?precharge,
    fun hready hparams hgang => ⟨fun hon => ?off, fun hlatched => ?latched⟩, fun flags hready hflags hparams => ?read⟩
  case on =>
    refine packet_replies rfl hready ((spwOn_eq (d := markBegun 0x0902 c d) htarget hn hparam0 hparams hgang hon).trans ?_)
    have hchannel : (switchOn n (markBegun 0x0902 c d)).channel n = (switchOn n d).channel n := by
      rw [switchOn_rests hrests, switchOn_rests (d := markBegun 0x0902 c d) hrests]
      rfl
    have hactive : spwActive ((switchOn n d).channel n).state = true := by
      rw [switchOn_rests hrests, precharge_state]
      rfl
    rw [hchannel, if_pos hactive, spwAnswer, hchannel]
  case after =>
    refine packet_starts rfl hready ((spwOn_eq (d := markBegun 0x0902 c d) htarget hn hparam0 hparams hgang hon).trans ?_)
    rw [switchOn_shutdown (d := markBegun 0x0902 c d) hdown]
    refine if_neg ?_
    rw [channel_setChannel]
    show ¬spwActive x.state = true
    rw [show x.state = .shutdown from hdown]
    decide
  case precharge =>
    rw [switchOn_rests hrests]
    refine ⟨precharge_state n _, (precharge_retriesLeft n _).trans ?_, (congrArg Spw.enteredAt (channel_setChannel _ n _) :)⟩
    rw [channel_setChannel]
  case off =>
    refine packet_starts rfl hready ((spwOff_eq (d := markBegun 0x0903 c d) htarget hn hparam0 hparams hgang).trans (if_neg ?_))
    rw [shutChannel_on (d := markBegun 0x0903 c d) hon]
    decide
  case latched =>
    refine packet_replies rfl hready ((spwOff_eq (d := markBegun 0x0903 c d) htarget hn hparam0 hparams hgang).trans ?_)
    rw [shutChannel_latched (d := markBegun 0x0903 c d) hlatched, channel_setChannel, if_pos rfl, spwAnswer_setChannel]
    rfl
  case read => exact packet_replies rfl hready (spwRead_eq (d := markBegun 0x0904 c d) htarget hn hparam0 hflags hparams)

end Sys2Proof.Machine
end

section
/-! Performance counters, their dump and the tagging (chapter 17). -/

namespace Sys2Proof.Machine

/-! ## CNT_PROGRAM (R470) -/

section
variable {c : Cmd} {n j sel period : Nat} {d : Device} (htarget : c.target.toNat = n) (hparam0 : c.param0 = 0) (hport : portExists n d = true)
  (hlo : 8 ≤ j) (hhi : j < 24) (hsel : sel < 2 ^ 32) (hperiod : period < 2 ^ 32)
  (hparams : c.params = natLe 1 j ++ [1, 0, 0] ++ natLe 4 sel ++ natLe 4 period ++ [0, 0, 0, 0])
  (hentry : firstFail (counterEntryChecks c.params false d 0) = none)
include htarget hparam0 hport hlo hhi hsel hperiod hparams hentry

theorem cntProgram_eq : cntProgram c d =
    ({ d.setCounter (counterKey n j) { value := if selOvf (BitVec.ofNat 32 sel) then 2 ^ 48 - period else 0, ovf := false,
                                       sel := BitVec.ofNat 32 sel, period := period, portSel := 0 } with
       cnt := { d.cnt with staleBlocks := d.cnt.staleBlocks ++ [n] } }, some (ansOk (natLe 8 d.devTime.toNat))) := by
  have hn : n < 96 := of_decide_eq_true (Bool.and_eq_true_iff.1 hport).1
  have hlen : c.params.length = 16 := by rw [hparams]; rfl
  have hfirst : u8 c.params 0 = j := by rw [hparams]; exact Nat.mod_eq_of_lt (by omega)
  have hcount : u8 c.params 1 = 1 := by rw [hparams]; rfl
  have hflags : u8 c.params 2 = 0 := by rw [hparams]; rfl
  have hreserved : zeros c.params 3 1 = true := by rw [hparams]; rfl
  have hselect : u32 c.params 4 = sel := by rw [hparams]; exact leNat_natLe_four hsel
  have hlength : u32 c.params 8 = period := by rw [hparams]; exact leNat_natLe_four hperiod
  have hportSel : u8 c.params 12 = 0 := by rw [hparams]; rfl
  have hexists : counterTarget n d = true := by simp [counterTarget, hport]
  have hlocal : decide (n = 0x7F) = false := decide_eq_false (by omega)
  have hglobal : n ≠ 0x7F := by omega
  have hheader : headerBits 7 c = none := by simp [headerBits, htarget, hparam0]; omega
  have hchecks : firstFail (cntProgramChecks c d) = none := by
    refine firstFail_append ?_ ?_
    · simp [firstFail, failIf, hlen, hcount, hheader, htarget, hexists, hlocal, hfirst, hflags, hreserved, Nat.not_lt.2 hlo,
        Nat.not_lt.2 (Nat.le_of_lt_succ hhi), Nat.not_le.2 hhi]
    · simpa [hcount, htarget, hlocal] using hentry
  have hbit : bitOf 0 0 = false := rfl
  simp [cntProgram, checked, hchecks, htarget, hcount, hflags, hbit, hglobal, programCounter, programKey, hselect, hlength, hportSel, hfirst,
    Device.setCounter]

end

/-! ## CNT_DUMP_SET and TAG_SET (R471, R472) -/

theorem maskOf_zeros {p a b : List Byte} {k : Nat} (hp : p = a ++ natLe 16 0 ++ b) (ha : a.length = k) : maskOf p k = 0 := by
  subst hp ha
  have hlow : u64 (a ++ natLe 16 0 ++ b) a.length = 0 := by
    rw [u64, List.append_assoc, List.drop_left]
    rfl
  have hhigh : u64 (a ++ natLe 16 0 ++ b) (a.length + 8) = 0 := by
    rw [u64, List.append_assoc, ← List.drop_drop, List.drop_left]
    rfl
  rw [maskOf, hlow, hhigh, Nat.mul_zero]

theorem selectedPorts_zero (d : Device) : selectedPorts 0 d = [] := by
  simp [selectedPorts, bitOf]

theorem cntDumpSet_eq {c : Cmd} {base cons us vec : Nat} {d : Device} (hnone : NoTarget c) (halign : base % 4096 = 0) (hbase : base < 2 ^ 64)
    (hword : cons % 4 = 0) (hcons : cons < 2 ^ 64) (hpos : 1 ≤ us) (hus : us ≤ 1000000) (hvec : vec < 64)
    (hparams : c.params = natLe 8 base ++ natLe 8 cons ++ natLe 4 256 ++ natLe 4 us ++ natLe 16 0 ++ [1] ++ natLe 2 vec ++ natLe 5 0) :
    cntDumpSet c d = ({ d with cnt := { d.cnt with
      dump := { on := true, base := base, consAddr := cons, entries := 256, intervalUs := us, vector := vec, index := 0,
                prod := 0, cons := 0, lost := d.cnt.dump.lost, first := true, lastMultiple := d.devTime.toNat / (us * 1000) },
      global := true, portMask := 0, seq := 0, skipped := false, lastWritten := none, lastBlocks := [], staleBlocks := [] } },
      some (ansOk (natLe 4 5))) := by
  obtain ⟨htarget, hparam0⟩ := hnone
  have hlen : c.params.length = 48 := by rw [hparams]; rfl
  have h0 : u64 c.params 0 = base := by rw [hparams]; exact leNat_natLe_eight hbase
  have h8 : u64 c.params 8 = cons := by rw [hparams]; exact leNat_natLe_eight hcons
  have h16 : u32 c.params 16 = 256 := by rw [hparams]; exact leNat_natLe_four (by decide)
  have h20 : u32 c.params 20 = us := by rw [hparams]; exact leNat_natLe_four (by omega)
  have h24 : maskOf c.params 24 = 0 := maskOf_zeros (by rw [hparams, List.append_assoc, List.append_assoc]) rfl
  have h40 : u8 c.params 40 = 1 := by rw [hparams]; rfl
  have h41 : u16 c.params 41 = vec := by rw [hparams]; exact leNat_natLe_two (by omega)
  have h43 : zeros c.params 43 5 = true := by rw [hparams]; rfl
  have hbit : bitOf 1 0 = true := rfl
  have hsize : ringSize 256 256 1048576 = true := by decide
  have hvector : mgrVector vec = true := by simp [mgrVector, hvec]
  have hroom : ¬16 * us < 5 := by omega
  have hblocks : dumpBlocks 0 true d = 5 := by rw [dumpBlocks, selectedPorts_zero]; rfl
  dsimp only [cntDumpSet]
  rw [checked_pass ?checks]
  case checks =>
    simp [firstFail, failIf, headerZero, htarget, hparam0, hlen, h0, h8, h16, h20, h24, h40, h41, h43, hbit, hsize, hvector, hblocks, halign,
      hword, Nat.not_lt.2 hus, Nat.ne_of_gt hpos, hroom]
  · rw [h0, h8, h16, h20, h24, h40, h41, hbit, hblocks]
    rfl

theorem tagSet_eq {c : Cmd} {base cons rate mask seed : Nat} {d : Device} (hnone : NoTarget c) (halign : base % 4096 = 0) (hbase : base < 2 ^ 64)
    (hword : cons % 4 = 0) (hcons : cons < 2 ^ 64) (hrate : rate ≤ 24) (hmask : mask < 8) (hpos : 1 ≤ seed) (hseed : seed < 2 ^ 32)
    (hparams : c.params = natLe 8 base ++ natLe 8 cons ++ natLe 4 256 ++ natLe 1 rate ++ natLe 1 mask ++ [0x3F, 0] ++ natLe 16 0 ++
      natLe 2 0xFFFF ++ natLe 4 seed ++ [0, 0]) :
    tagSet c d = ({ d with cnt := { d.cnt with
      tag := { on := true, base := base, consAddr := cons, entries := 256, intervalUs := 0, vector := 0xFFFF, index := 0,
               prod := 0, cons := 0, lost := d.cnt.tag.lost, first := true, lastMultiple := 0 },
      rateLog2 := rate, classMask := mask, part := 0x3F, tagOnOvf := false, randomOff := false, tagPortMask := 0, seed := seed,
      tagOwed := [] } }, some (ansOk (natLe 4 d.cnt.tags.length))) := by
  obtain ⟨htarget, hparam0⟩ := hnone
  have hlen : c.params.length = 48 := by rw [hparams]; rfl
  have h0 : u64 c.params 0 = base := by rw [hparams]; exact leNat_natLe_eight hbase
  have h8 : u64 c.params 8 = cons := by rw [hparams]; exact leNat_natLe_eight hcons
  have h16 : u32 c.params 16 = 256 := by rw [hparams]; exact leNat_natLe_four (by decide)
  have h20 : u8 c.params 20 = rate := by rw [hparams]; exact Nat.mod_eq_of_lt (by omega)
  have h21 : u8 c.params 21 = mask := by rw [hparams]; exact Nat.mod_eq_of_lt (by omega)
  have h22 : u8 c.params 22 = 0x3F := by rw [hparams]; rfl
  have h23 : u8 c.params 23 = 0 := by rw [hparams]; rfl
  have h24 : maskOf c.params 24 = 0 := maskOf_zeros (by rw [hparams, List.append_assoc, List.append_assoc]) rfl
  have h40 : u16 c.params 40 = 0xFFFF := by rw [hparams]; exact leNat_natLe_two (by decide)
  have h42 : u32 c.params 42 = seed := by rw [hparams]; exact leNat_natLe_four hseed
  have h46 : zeros c.params 46 2 = true := by rw [hparams]; rfl
  have hsize : ringSize 256 256 1048576 = true := by decide
  have hvector : mgrVector 0xFFFF = true := by decide
  dsimp only [tagSet]
  rw [checked_pass ?checks]
  case checks =>
    simp [firstFail, failIf, headerZero, htarget, hparam0, hlen, h0, h8, h16, h20, h21, h22, h23, h24, h40, h46, hsize, hvector, halign,
      hword, Nat.not_lt.2 hrate, Nat.not_le.2 hmask]
  · rw [h0, h8, h16, h20, h21, h22, h23, h24, h40, h42, if_neg (Nat.ne_of_gt hpos)]
    rfl

/-! ## Dumps and overflows (R463 to R466) -/

section
variable {d : Device}

theorem takeDump_skipped (h : ringRoom d.cnt.dump (dumpOrder d).length = false) : takeDump d = { d with cnt := { d.cnt with
    dump := { d.cnt.dump with lastMultiple := d.devTime.toNat / (d.cnt.dump.intervalUs * 1000), lost := satAdd 0xFFFFFFFF d.cnt.dump.lost 1 }
    seq := (d.cnt.seq + 1) % 2 ^ 32, skipped := true, intStatus := d.cnt.intStatus ||| 2 } } :=
  if_neg (ne_true_of_eq_false h)

/-- R466: a dump that finds room is written whole. -/
theorem takeDump_written (h : ringRoom d.cnt.dump (dumpOrder d).length = true) : ∃ (r : Ring) (blocks : List (List Byte)) (k : Cnt),
    takeDump d = { (ringWrite r 256 blocks d).2 with cnt := k } ∧ k.dump = (ringWrite r 256 blocks d).1 ∧ r.prod = d.cnt.dump.prod ∧
    blocks.length = (dumpOrder d).length ∧ k.seq = (d.cnt.seq + 1) % 2 ^ 32 ∧ k.skipped = false :=
  ⟨_, _, _, if_pos h, rfl, rfl, by rw [List.length_map, List.length_range], rfl, rfl⟩

variable {n j : Nat}

theorem counterOverflow_below (h : (d.counter (programKey n j)).value < 2 ^ 48) : counterOverflow n j d = d :=
  if_neg fun hc => Nat.not_le.2 h hc.2

/-- R463: a counter with RELOAD that passes 2^48. -/
theorem counterOverflow_reloads (hovf : selOvf (d.counter (programKey n j)).sel = true) (hpast : 2 ^ 48 ≤ (d.counter (programKey n j)).value)
    (hreload : selReload (d.counter (programKey n j)).sel = true) : ∃ (y : Counter) (k : Cnt),
    y = { d.counter (programKey n j) with
      value := 2 ^ 48 - (d.counter (programKey n j)).period + ((d.counter (programKey n j)).value - 2 ^ 48), ovf := true } ∧
    k.intStatus = d.cnt.intStatus ||| 1 ∧ (ovfPending d = false → k.ovfPort = n ∧ k.ovfCounter = j ∧ k.ovfTime = d.devTime) ∧
    counterOverflow n j d = { d.setCounter (programKey n j) y with cnt := k } := by
  unfold counterOverflow
  extract_lets _ key x past x' k k₁ k₂
  have hstatus : k₁.intStatus = k.intStatus := by
    unfold k₁
    split <;> rfl
  have hsame : k₂.intStatus = k₁.intStatus ∧ k₂.ovfPort = k₁.ovfPort ∧ k₂.ovfCounter = k₁.ovfCounter ∧ k₂.ovfTime = k₁.ovfTime := by
    unfold k₂
    split <;> exact ⟨rfl, rfl, rfl, rfl⟩
  obtain ⟨hstatus₂, hport, hcounter, htime⟩ := hsame
  have hvalue : x' = { x with value := 2 ^ 48 - x.period + past, ovf := true } := by
    unfold x'
    rw [if_pos hreload]
  refine ⟨x', { k₂ with intStatus := k₂.intStatus ||| 1 }, hvalue, congrArg (· ||| 1) (hstatus₂.trans hstatus), fun hnone => ?_,
    if_pos ⟨hovf, hpast⟩⟩
  have hfirst : k₁ = { k with ovfPort := n, ovfCounter := j, ovfTime := d.devTime } := if_neg (ne_true_of_eq_false hnone)
  exact ⟨hport.trans (congrArg Cnt.ovfPort hfirst), hcounter.trans (congrArg Cnt.ovfCounter hfirst),
    htime.trans (congrArg Cnt.ovfTime hfirst)⟩

end

/-- Settles O21: counters are programmed, dumped, tagged and reloaded. -/
theorem counterRows : Obligations.CounterRows := by
  intro s c n j d k
  refine ⟨fun sel period htarget hparam0 hready hport hlo hhi hsel hperiod hparams hentry => ?program,
    fun base cons us vec hnone hready halign hbase hword hcons hpos hus hvec hparams => ?dumpSet,
    fun base cons rate mask seed hnone hready halign hbase hword hcons hrate hmask hpos hseed hparams => ?tagSet,
    fun hon hpassed => ⟨fun hroom => ?skipped, fun hroom => ?written⟩, fun hoff => ?off, fun hovf =>
    ⟨fun hpast hreload => ?reload, fun hbelow => done_becomes rfl (counterOverflow_below hbelow)⟩⟩
  case program =>
    exact packet_replies rfl hready
      (cntProgram_eq (d := markBegun 0x0A01 c d) htarget hparam0 hport hlo hhi hsel hperiod hparams hentry)
  case dumpSet =>
    exact packet_replies rfl hready (cntDumpSet_eq (d := markBegun 0x0A02 c d) hnone halign hbase hword hcons hpos hus hvec hparams)
  case tagSet =>
    exact packet_replies rfl hready (tagSet_eq (d := markBegun 0x0A03 c d) hnone halign hbase hword hcons hrate hmask hpos hseed hparams)
  case skipped => exact done_becomes rfl ((if_pos ⟨hon, hpassed⟩).trans (takeDump_skipped hroom))
  case written =>
    obtain ⟨r, blocks, k', hrow, hdump, hprod, hlen, hseq, hskipped⟩ := takeDump_written hroom
    obtain ⟨i, m, hw⟩ := ringWrite_frame r 256 blocks d
    rw [hw] at hrow
    refine done_gives_framed rfl ((if_pos ⟨hon, hpassed⟩).trans hrow) fun _ _ _ => ⟨?_, hseq, hskipped, rfl, rfl⟩
    show k'.dump.prod = _
    rw [hdump, ← hlen, ← hprod]
    rfl
  case off => exact done_becomes rfl (if_neg fun h => Bool.false_ne_true (hoff.symm.trans h.1))
  case reload =>
    obtain ⟨y, k', hy, hstatus, hfirst, hrow⟩ := counterOverflow_reloads hovf hpast hreload
    exact done_gives_framed rfl hrow fun _ _ _ => ⟨(tget_tset_same ..).trans hy, hstatus, hfirst, rfl⟩

end Sys2Proof.Machine
end
